-- ==== Sys2Proof/Word.lean ====
section
/-!
DEFINITION. The word types of the model: a byte, and the 32-bit register word of the Ashlar bus (R35).
-/
namespace Sys2Proof

/-- One byte of a cell payload, a frame or a memory window. -/
abbrev Byte := BitVec 8

/-- One register word: the register bus is 32 bits wide (spec/02_ashlar_pages.md, before R35). -/
abbrev Word := BitVec 32

end Sys2Proof
end

