-- ==== Sys2Proof/Machine/Bits.lean ====
section
/-!
DEFINITION. Bit fields, byte orders and check codes: the field of a register word, big-endian fields on the ring (R113),
little-endian fields in hub memory (R7), CRC-32C (R115), and the descriptor of a register field.
-/
namespace Sys2Proof.Machine

/-- The `w` bits of `v` from bit `lo` up. -/
def bitsOf (v lo w : Nat) : Nat := v / 2 ^ lo % 2 ^ w

/-- `v` with the `w` bits from bit `lo` up replaced by `x`. -/
def setBits (v lo w x : Nat) : Nat := v - bitsOf v lo w * 2 ^ lo + x % 2 ^ w * 2 ^ lo

/-- Bit `b` of `v`. -/
def bitAt (v b : Nat) : Bool := v / 2 ^ b % 2 == 1

/-- 1 for true. -/
def b2n (b : Bool) : Nat := if b then 1 else 0

/-- `v` in `n` bytes, most significant first (R113). -/
def beBytes : Nat → Nat → List Byte
  | 0, _ => []
  | n + 1, v => BitVec.ofNat 8 (v / 256 ^ n) :: beBytes n v

/-- The number that bytes spell, most significant first (R113). -/
def beNat (l : List Byte) : Nat := l.foldl (fun a b => a * 256 + b.toNat) 0

/-- `v` in `n` bytes, least significant first (R7). -/
def leBytes : Nat → Nat → List Byte
  | 0, _ => []
  | n + 1, v => BitVec.ofNat 8 v :: leBytes n (v / 256)

/-- The number that bytes spell, least significant first (R7). -/
def leNat (l : List Byte) : Nat := l.foldr (fun b a => b.toNat + 256 * a) 0

/-- `n` bytes from offset `o`. -/
def slice (l : List Byte) (o n : Nat) : List Byte := (l.drop o).take n

/-- The big-endian field of `n` bytes at offset `o`. -/
def beAt (l : List Byte) (o n : Nat) : Nat := beNat (slice l o n)

/-- The little-endian field of `n` bytes at offset `o`. -/
def leAt (l : List Byte) (o n : Nat) : Nat := leNat (slice l o n)

/-- The 32-bit words that bytes spell in hub memory order, the last one filled with zeros. -/
def leWords : Nat → List Byte → List Nat
  | 0, _ => []
  | n + 1, l => leNat (l.take 4) :: leWords n (l.drop 4)

/-- The signed value of the low `w` bits. -/
def signed (w v : Nat) : Int :=
  let u := v % 2 ^ w
  if u < 2 ^ (w - 1) then (u : Int) else (u : Int) - 2 ^ w

/-- The two's complement of an integer in `w` bits. -/
def unsigned (w : Nat) (i : Int) : Nat := (i % 2 ^ w).toNat

/-- A value held within a signed field of `w` bits, stopping at its ends. -/
def satSigned (w : Nat) (i : Int) : Int :=
  if i < -(2 ^ (w - 1)) then -(2 ^ (w - 1)) else if i > 2 ^ (w - 1) - 1 then 2 ^ (w - 1) - 1 else i

/-- The 64-bit value nearest `ref` whose low `k` bits are `low`, the lower of two equally near, never below 0 (R722). -/
def nearest (k low ref : Nat) : Nat :=
  let l := low % 2 ^ k
  if ref < l then l
  else
    let v := ref - (ref - l) % 2 ^ k
    let h := v + 2 ^ k
    if ref - v ≤ h - ref ∨ 2 ^ 64 ≤ h then v else h

/-- `a + 1`, stopping at `lim`. -/
def satInc (lim a : Nat) : Nat := if a < lim then a + 1 else lim

/-- One step of the reflected CRC-32C over one bit (R115). -/
def crc32cBit (c : Nat) : Nat := if c % 2 = 1 then (c / 2) ^^^ 0x82F63B78 else c / 2

/-- One byte into the CRC-32C (R115). -/
def crc32cByte (c : Nat) (b : Byte) : Nat :=
  crc32cBit (crc32cBit (crc32cBit (crc32cBit (crc32cBit (crc32cBit (crc32cBit (crc32cBit (c ^^^ b.toNat))))))))

/-- The CRC-32C of R115: polynomial 0x1EDC6F41 reflected, initial value and final exclusive-OR all ones. -/
def crc32c (l : List Byte) : Nat := l.foldl crc32cByte 0xFFFFFFFF ^^^ 0xFFFFFFFF

/-- The access types of R56 (RL is the counter pair, which has its own operation). -/
inductive Access where
  | ro | rw | rws | w1c | w1s | wc
  deriving DecidableEq, Repr

/-- One named field of a register, or of each register of an array of `count` registers `stride` bytes apart. -/
structure Field where
  base : Nat
  lo : Nat
  width : Nat
  ty : Access
  stride : Nat := 4
  count : Nat := 1
  reset : Nat := 0
  resets : List Nat := []
  deriving DecidableEq, Repr

/-- The offset in its page of the word that holds element `i` of the field. -/
def Field.off (f : Field) (i : Nat) : Nat := f.base + f.stride * i

/-- The element of the field that the word at `off` holds. -/
def Field.idx? (f : Field) (off : Nat) : Option Nat :=
  if off < f.base then none
  else if (off - f.base) % f.stride = 0 ∧ (off - f.base) / f.stride < f.count then some ((off - f.base) / f.stride)
  else none

/-- The reset value of element `i`. -/
def Field.resetAt (f : Field) (i : Nat) : Nat := if f.resets.isEmpty then f.reset else f.resets.getD i 0

/-- The field's bits of a register word. -/
def Field.of (f : Field) (w : Word) : Nat := bitsOf w.toNat f.lo f.width

/-- A register word with the field's bits replaced. -/
def Field.into (f : Field) (w : Word) (x : Nat) : Word := BitVec.ofNat 32 (setBits w.toNat f.lo f.width x)

end Sys2Proof.Machine
end

