-- ==== Sys2Proof/Machine/Cells.lean ====
section
/-!
DEFINITION. Ring cells and the frames that carry them (R110 to R117, R723): header layout, CRC-32C, cell types, classes.
-/
namespace Sys2Proof.Machine

/-- A Korula cell: the header fields of R114 and the payload.  VER is 0b01 and LEN is the payload's length. -/
structure Cell where
  typ : Nat
  race : Nat := 0
  dkind : Nat := 0
  dest : Nat := 0
  mapgen : Nat := 0
  src : Nat := 0
  hops : Nat := 0
  seq : Nat := 0
  origin : Nat := 0
  payload : List Byte := []
  /-- The reserved header bits as received: byte 1 bits 4:3, and above them bit 0 of bytes 4 to 7; a source sends 0. -/
  rsv : Nat := 0
  deriving DecidableEq, Repr

/-- The SecTAG and ICV of a protected frame (R110, R112). -/
structure SecTag where
  an : Nat
  pn : Nat
  icv : BitVec 128
  deriving DecidableEq, Repr

/-- A received Ethernet frame as the port's MAC presents it: whether the FCS check passed, the destination address,
whether a VLAN tag stands in it, the first EtherType, its length in bytes, the SecTAG of a protected frame, the
bytes after the EtherType (after decryption they are the cell and its pad), and how far into its CLK_IO tick it arrives, in sixteenths
of a ns (R180). -/
structure Frame where
  fcsOk : Bool
  dest : BitVec 48
  vlan : Bool
  etherType : BitVec 16
  length : Nat
  sec : Option SecTag
  body : List Byte
  frac : Nat := 0
  deriving DecidableEq, Repr

/-- A departure: the ring port, and how far into its CLK_IO tick the frame leaves, in sixteenths of a ns (R180). -/
structure Departure where
  port : Nat
  frac : Nat
  deriving DecidableEq, Repr

def tHELLO : Nat := 0x01
def tPDELAY_REQ : Nat := 0x02
def tPDELAY_RESP : Nat := 0x03
def tPDELAY_RESP_FU : Nat := 0x04
def tJOURNAL : Nat := 0x05
def tTIME_SYNC : Nat := 0x08
def tTIME_ANNOUNCE : Nat := 0x09
def tCHANGE : Nat := 0x10
def tSEAL : Nat := 0x11
def tREFRESH : Nat := 0x12
def tREPAIR_REQ : Nat := 0x13
def tREPAIR_DATA : Nat := 0x14
def tCOURSE_SWITCH : Nat := 0x18
def tBRG_WRITE : Nat := 0x20
def tBRG_READ : Nat := 0x21
def tBRG_READ_RESP : Nat := 0x22
def tBRG_POSTED_ERR : Nat := 0x23
def tUPD_DATA : Nat := 0x28
def tTOPO : Nat := 0x30
def tID_CLAIM : Nat := 0x31
def tID_REFUSE : Nat := 0x32

/-- The cell types of link scope (R117). -/
def linkTypes : List Nat := [tHELLO, tPDELAY_REQ, tPDELAY_RESP, tPDELAY_RESP_FU, tJOURNAL]

/-- The cell types of ring scope (R117). -/
def ringTypes : List Nat :=
  [tTIME_SYNC, tTIME_ANNOUNCE, tCHANGE, tSEAL, tREFRESH, tREPAIR_REQ, tREPAIR_DATA, tCOURSE_SWITCH, tBRG_WRITE,
   tBRG_READ, tBRG_READ_RESP, tBRG_POSTED_ERR, tUPD_DATA, tTOPO, tID_CLAIM, tID_REFUSE]

/-- The types of R117; every other code is reserved. -/
def typeDefined (t : Nat) : Bool := linkTypes.contains t || ringTypes.contains t

/-- The fixed payload lengths of R723. -/
def fixedLen? (t : Nat) : Option Nat :=
  [(tHELLO, 16), (tPDELAY_REQ, 4), (tPDELAY_RESP, 12), (tPDELAY_RESP_FU, 28), (tTIME_SYNC, 12), (tTIME_ANNOUNCE, 40),
   (tSEAL, 24), (tREPAIR_REQ, 16), (tCOURSE_SWITCH, 32), (tBRG_READ, 16), (tBRG_POSTED_ERR, 24), (tTOPO, 20),
   (tID_CLAIM, 16), (tID_REFUSE, 24)].lookup t

/-- The class of a cell type (R144): 0 CONTROL, 1 IMAGE, 2 BRIDGE, 3 BULK. -/
def classOf (t : Nat) : Nat :=
  if (linkTypes ++ [tTIME_SYNC, tTIME_ANNOUNCE, tCOURSE_SWITCH, tTOPO, tID_CLAIM, tID_REFUSE]).contains t then 0
  else if 0x10 ≤ t ∧ t ≤ 0x14 then 1
  else if 0x20 ≤ t ∧ t ≤ 0x23 then 2
  else 3

/-- The consumer that serves a cell type (R151): 0 IMG, 1 TIME, 2 BRG, 3 TWIN, 4 HK; none for a reserved type. -/
def consumerOf? (t : Nat) : Option Nat :=
  if [tCHANGE, tSEAL, tREFRESH, tREPAIR_REQ, tREPAIR_DATA].contains t then some 0
  else if [tPDELAY_REQ, tPDELAY_RESP, tPDELAY_RESP_FU, tTIME_SYNC, tTIME_ANNOUNCE].contains t then some 1
  else if [tBRG_WRITE, tBRG_READ, tBRG_READ_RESP, tBRG_POSTED_ERR].contains t then some 2
  else if t = tJOURNAL then some 3
  else if [tHELLO, tTOPO, tID_CLAIM, tID_REFUSE, tCOURSE_SWITCH, tUPD_DATA].contains t then some 4
  else none

/-- The queue depth of each consumer (R151). -/
def consumerDepth (c : Nat) : Nat := [512, 32, 256, 256, 64].getD c 0

/-- The payload length. -/
def Cell.len (c : Cell) : Nat := c.payload.length

/-- The granules a cell occupies (R144): (20 + LEN) / 64 rounded up. -/
def Cell.granules (c : Cell) : Nat := (20 + c.len + 63) / 64

/-- The 16 header bytes of R114, with the given HOPS. -/
def Cell.header (c : Cell) (hops : Nat) : List Byte :=
  let b01 := (0x40 + c.typ % 64) * 256 + (c.race % 2) * 128 + (c.dkind % 4) * 32 + (c.rsv % 4) * 8 + c.dest % 2048 / 256
  beBytes 2 b01 ++ beBytes 1 (c.dest % 256) ++ beBytes 1 c.mapgen
    ++ beBytes 4 ((c.src % 2048) * 2 ^ 21 + (hops % 2048) * 2 ^ 10 + (c.len % 512) * 2 + c.rsv / 4 % 2)
    ++ beBytes 4 c.seq ++ beBytes 4 c.origin

/-- The CRC-32C of a cell: over the header with HOPS taken as 0, then the payload (R115). -/
def Cell.crc (c : Cell) : Nat := crc32c (c.header 0 ++ c.payload)

/-- The bytes of the cell on the link: header, payload, CRC-32C (R110, R113). -/
def Cell.bytes (c : Cell) : List Byte := c.header c.hops ++ c.payload ++ beBytes 4 c.crc

/-- VER of the header bytes (R114). -/
def hdrVer (l : List Byte) : Nat := beAt l 0 1 / 64

/-- LEN of the header bytes (R114). -/
def hdrLen (l : List Byte) : Nat := bitsOf (beAt l 4 4) 1 9

/-- The cell that frame bytes spell, without any check (R114). -/
def cellOf (l : List Byte) : Cell :=
  let w := beAt l 4 4
  { typ := beAt l 0 1 % 64, race := bitsOf (beAt l 1 1) 7 1, dkind := bitsOf (beAt l 1 1) 5 2,
    dest := beAt l 1 2 % 2048, mapgen := beAt l 3 1, src := bitsOf w 21 11, hops := bitsOf w 10 11,
    seq := beAt l 8 4, origin := beAt l 12 4, payload := slice l 16 (hdrLen l),
    rsv := bitsOf (beAt l 1 1) 3 2 + 4 * (w % 2) }

/-- The CRC-32C field that follows the payload (R115). -/
def crcOf (l : List Byte) : Nat := beAt l (16 + hdrLen l) 4

/-- Order 3 of R116: VER, LEN against 256 and the frame, scope of a defined type, fixed length (R723). -/
def headerOk (l : List Byte) : Bool :=
  let c := cellOf l
  hdrVer l == 1 && decide (hdrLen l ≤ 256) && decide (20 + hdrLen l ≤ l.length)
    && (!(linkTypes.contains c.typ) || c.dkind == 3) && (!(ringTypes.contains c.typ) || c.dkind != 3)
    && (match fixedLen? c.typ with | some n => hdrLen l == n | none => true)

/-- The destination address of every ring frame (R110). -/
def ringDest : BitVec 48 := 0x034B00000001

/-- The source address of a sender: 02-4B and the low 32 bits of its serial (R110). -/
def macOf (serial : Nat) : List Byte := [0x02, 0x4B] ++ beBytes 4 (serial % 2 ^ 32)

/-- One bit of the frame check sequence. -/
def fcsBit (c : Nat) : Nat := if c % 2 = 1 then (c / 2) ^^^ 0xEDB88320 else c / 2

/-- One byte of the frame check sequence. -/
def fcsByte (c : Nat) (b : Byte) : Nat := (List.range 8).foldl (fun c _ => fcsBit c) (c ^^^ b.toNat)

/-- The FCS of an Ethernet frame, least significant byte first (R110; the polynomial is IEEE 802.3's: PRESUMED, log entry 91). -/
def fcsOf (l : List Byte) : List Byte := leBytes 4 (l.foldl fcsByte 0xFFFFFFFF ^^^ 0xFFFFFFFF)

/-- The SecTAG as sent: EtherType 0x88E5, the flags of R112 with the AN, the short length of fewer than 48 secure bytes, PN
(R110, R112; SL PRESUMED from IEEE 802.1AE, log entry 20). -/
def secTagBytes (an pn len : Nat) : List Byte :=
  [0x88, 0xE5] ++ beBytes 1 (0x0C + an % 4) ++ beBytes 1 (if len < 48 then len else 0) ++ beBytes 4 pn

/-- The clear bytes that a frame carries after its addresses, or under its protection: EtherType 0x88B5, the cell, and the pad of
zero bytes up to the 64-byte minimum frame, beside which a protected frame has 40 bytes and an unprotected one 16 (R110).
DESIGN CHOICE, log entry 92: the pad of a protected frame lies inside the encrypted data. -/
def frameBody (c : Cell) (protect : Bool) : List Byte :=
  let b := [0x88, 0xB5] ++ c.bytes
  b ++ List.replicate ((if protect then 24 else 48) - b.length) 0

/-- A whole frame: destination, source, what follows them, FCS (R110). -/
def frameBytes (serial : Nat) (rest : List Byte) : List Byte :=
  let l := beBytes 6 ringDest.toNat ++ macOf serial ++ rest
  l ++ fcsOf l

end Sys2Proof.Machine
end

