-- ==== Sys2Proof/Config.lean ====
section
/-!
DEFINITION. What one implementation fixes and the spec leaves open: constants with no body, so that no proof can see a
value of them.  Each is named in the assumption log.
-/
namespace Sys2Proof.Config

/-- The value of a result the spec leaves open, by the count of free values drawn so far (log entry 3). -/
opaque freeValue : Nat → BitVec 64

/-- The 64-bit device serial, fused at manufacture (R139). -/
opaque serial : BitVec 64

/-- USB idVendor in bits 15:0 and idProduct in bits 31:16, fused (R538). -/
opaque usbId : BitVec 32

/-- The string index of iSerialNumber, less one (R527 names the string and no index; log entry 146). -/
opaque usbSerialIndex : BitVec 7

/-- The time-stamp path delays of DRS_TSDLY0 to DRS_TSDLY3, fused, in ps (R598). -/
opaque tsDelay : Nat → BitVec 16

/-- The rollback counter as fused when the hub leaves the factory (R630). -/
opaque fusedRollback : BitVec 6

/-- AES-CMAC of NIST SP 800-38B: key, message, tag.  The spec names the algorithm and does not restate it (R648). -/
opaque cmac : List Byte → List Byte → BitVec 128

/-- AES-128-GCM encryption: key, IV, additional data, plaintext; ciphertext and tag (R112, R652). -/
opaque gcmSeal : List Byte → List Byte → List Byte → List Byte → List Byte × BitVec 128

/-- AES-128-GCM decryption: key, IV, additional data, ciphertext, tag; the plaintext where the tag verifies (R112, R652). -/
opaque gcmOpen : List Byte → List Byte → List Byte → List Byte → BitVec 128 → Option (List Byte)

/-- The Keystone, fused at manufacture, unique to the device (R647). -/
opaque keystone : BitVec 128

/-- SHA-256 (R628, R629). -/
opaque sha256 : List Byte → BitVec 256

/-- ECDSA verification on P-256 with SHA-256 of FIPS 186-5: public key, message, signature (R629). -/
opaque ecdsaVerify : List Byte → List Byte → List Byte → Bool

end Sys2Proof.Config
end

