-- ==== Sys2Proof/Machine/FieldsA.lean ====
section
/-!
DEFINITION. The register fields of the pages, written from the register tables of the spec: one `Field` per named field
(reserved fields have none), its offset in the page, its stride and count where the register is an array, its bits, its
access type (R56) and its value after reset.  One list per kind of page follows its fields.
-/
namespace Sys2Proof.Machine


-- FLT_FORCE: R53 (spec/02_ashlar_pages.md).
def FLT_FORCE_W : Field := { base := 0x020, lo := 0, width := 32, ty := .wc }

-- SNAP_GEN: R54 (spec/02_ashlar_pages.md).
def SNAP_GEN_W : Field := { base := 0x028, lo := 0, width := 32, ty := .ro }

-- CFG_GEN: R55 (spec/02_ashlar_pages.md).
def CFG_GEN_W : Field := { base := 0x02C, lo := 0, width := 32, ty := .ro }

-- PAGE_ID: R43 (spec/02_ashlar_pages.md).
def PAGE_ID_TYPE : Field := { base := 0x000, lo := 20, width := 12, ty := .ro }
def PAGE_ID_INSTANCE : Field := { base := 0x000, lo := 12, width := 8, ty := .ro }
def PAGE_ID_MAJOR : Field := { base := 0x000, lo := 8, width := 4, ty := .ro, reset := 0x1 }
def PAGE_ID_MINOR : Field := { base := 0x000, lo := 0, width := 8, ty := .ro }

-- PAGE_CTRL: R46 (spec/02_ashlar_pages.md).
def PAGE_CTRL_EN : Field := { base := 0x008, lo := 0, width := 1, ty := .rw }
def PAGE_CTRL_SOFT_RESET : Field := { base := 0x008, lo := 1, width := 1, ty := .wc }
def PAGE_CTRL_APPLY : Field := { base := 0x008, lo := 2, width := 1, ty := .wc }
def PAGE_CTRL_APPLY_AT_COMMIT : Field := { base := 0x008, lo := 3, width := 1, ty := .wc }
def PAGE_CTRL_LOCK : Field := { base := 0x008, lo := 4, width := 1, ty := .w1s }

-- PAGE_STAT: R49 (spec/02_ashlar_pages.md).
def PAGE_STAT_READY : Field := { base := 0x00C, lo := 0, width := 1, ty := .ro }
def PAGE_STAT_BUSY : Field := { base := 0x00C, lo := 1, width := 1, ty := .ro }
def PAGE_STAT_HEALTH : Field := { base := 0x00C, lo := 2, width := 2, ty := .ro }

-- INT_RAW: R51 (spec/02_ashlar_pages.md).
def INT_RAW_W : Field := { base := 0x010, lo := 0, width := 32, ty := .w1c }

-- INT_EN: R51 (spec/02_ashlar_pages.md).
def INT_EN_W : Field := { base := 0x014, lo := 0, width := 32, ty := .rw }

-- INT_STAT: R51 (spec/02_ashlar_pages.md).
def INT_STAT_W : Field := { base := 0x018, lo := 0, width := 32, ty := .ro }

-- INT_FORCE: R51 (spec/02_ashlar_pages.md).
def INT_FORCE_W : Field := { base := 0x01C, lo := 0, width := 32, ty := .wc }

/-- The fields of a page of kind `hdr`. -/
def hdrFields : List Field :=
  [FLT_FORCE_W, SNAP_GEN_W, CFG_GEN_W, PAGE_ID_TYPE, PAGE_ID_INSTANCE, PAGE_ID_MAJOR, PAGE_ID_MINOR, PAGE_CTRL_EN, PAGE_CTRL_SOFT_RESET, PAGE_CTRL_APPLY, PAGE_CTRL_APPLY_AT_COMMIT, PAGE_CTRL_LOCK, PAGE_STAT_READY, PAGE_STAT_BUSY, PAGE_STAT_HEALTH, INT_RAW_W, INT_EN_W, INT_STAT_W, INT_FORCE_W]

-- SYS_FAMILY: R2 (spec/00_scope.md).
def SYS_FAMILY_FAMILY : Field := { base := 0x100, lo := 24, width := 8, ty := .ro, reset := 0x4B }
def SYS_FAMILY_MEMBER : Field := { base := 0x100, lo := 20, width := 4, ty := .ro, reset := 0x3 }
def SYS_FAMILY_STEPPING : Field := { base := 0x100, lo := 16, width := 4, ty := .ro, reset := 0x1 }

-- SYS_INT_PEND: R65 (spec/02_ashlar_pages.md).
def SYS_INT_PEND_PEND : Field := { base := 0x140, lo := 0, width := 32, ty := .ro, stride := 0x4, count := 6 }

-- SYS_RST_CAUSE: R81 (spec/03_clocks_reset_startup.md).
def SYS_RST_CAUSE_POR : Field := { base := 0x110, lo := 0, width := 1, ty := .w1c, reset := 0x1 }
def SYS_RST_CAUSE_PORST : Field := { base := 0x110, lo := 1, width := 1, ty := .w1c }
def SYS_RST_CAUSE_SUPPLY : Field := { base := 0x110, lo := 2, width := 1, ty := .w1c }
def SYS_RST_CAUSE_CLK_FAIL : Field := { base := 0x110, lo := 3, width := 1, ty := .w1c }
def SYS_RST_CAUSE_PLL_UNLOCK : Field := { base := 0x110, lo := 4, width := 1, ty := .w1c }
def SYS_RST_CAUSE_FATAL : Field := { base := 0x110, lo := 5, width := 1, ty := .w1c }
def SYS_RST_CAUSE_SW_RESET : Field := { base := 0x110, lo := 6, width := 1, ty := .w1c }
def SYS_RST_CAUSE_RECOVERY_REQ : Field := { base := 0x110, lo := 7, width := 1, ty := .w1c }
def SYS_RST_CAUSE_LAST : Field := { base := 0x110, lo := 8, width := 4, ty := .ro }

-- SYS_HK_RESTART: R83 (spec/03_clocks_reset_startup.md).
def SYS_HK_RESTART_COUNT : Field := { base := 0x114, lo := 0, width := 16, ty := .ro }
def SYS_HK_RESTART_LAST : Field := { base := 0x114, lo := 16, width := 2, ty := .ro }

-- SYS_INT_MAP: R66 (spec/02_ashlar_pages.md).
def SYS_INT_MAP_B0 : Field := { base := 0x400, lo := 0, width := 7, ty := .rw, stride := 0x4, count := 48 }
def SYS_INT_MAP_B1 : Field := { base := 0x400, lo := 8, width := 7, ty := .rw, stride := 0x4, count := 48 }
def SYS_INT_MAP_B2 : Field := { base := 0x400, lo := 16, width := 7, ty := .rw, stride := 0x4, count := 48 }
def SYS_INT_MAP_B3 : Field := { base := 0x400, lo := 24, width := 7, ty := .rw, stride := 0x4, count := 48 }

/-- The fields of a page of kind `sys`. -/
def sysFields : List Field :=
  [SYS_FAMILY_FAMILY, SYS_FAMILY_MEMBER, SYS_FAMILY_STEPPING, SYS_INT_PEND_PEND, SYS_RST_CAUSE_POR, SYS_RST_CAUSE_PORST, SYS_RST_CAUSE_SUPPLY, SYS_RST_CAUSE_CLK_FAIL, SYS_RST_CAUSE_PLL_UNLOCK, SYS_RST_CAUSE_FATAL, SYS_RST_CAUSE_SW_RESET, SYS_RST_CAUSE_RECOVERY_REQ, SYS_RST_CAUSE_LAST, SYS_HK_RESTART_COUNT, SYS_HK_RESTART_LAST, SYS_INT_MAP_B0, SYS_INT_MAP_B1, SYS_INT_MAP_B2, SYS_INT_MAP_B3]

-- CLK_STAT: R75 (spec/03_clocks_reset_startup.md).
def CLK_STAT_REF_OK : Field := { base := 0x100, lo := 0, width := 1, ty := .ro, reset := 0x1 }
def CLK_STAT_CORE_LOCK : Field := { base := 0x100, lo := 1, width := 1, ty := .ro, reset := 0x1 }
def CLK_STAT_LINKE_PLL_LOCK : Field := { base := 0x100, lo := 2, width := 1, ty := .ro }
def CLK_STAT_LINKW_PLL_LOCK : Field := { base := 0x100, lo := 3, width := 1, ty := .ro }
def CLK_STAT_PCIE_PLL_LOCK : Field := { base := 0x100, lo := 4, width := 1, ty := .ro }

-- CLK_REF_CNT: R76 (spec/03_clocks_reset_startup.md).
def CLK_REF_CNT_EDGES : Field := { base := 0x104, lo := 0, width := 10, ty := .ro }

/-- The fields of a page of kind `clk`. -/
def clkFields : List Field :=
  [CLK_STAT_REF_OK, CLK_STAT_CORE_LOCK, CLK_STAT_LINKE_PLL_LOCK, CLK_STAT_LINKW_PLL_LOCK, CLK_STAT_PCIE_PLL_LOCK, CLK_REF_CNT_EDGES]

-- PWRST_STATE: R94 (spec/03_clocks_reset_startup.md).
def PWRST_STATE_STATE : Field := { base := 0x100, lo := 0, width := 3, ty := .ro }
def PWRST_STATE_STEP : Field := { base := 0x100, lo := 4, width := 3, ty := .ro, reset := 0x1 }
def PWRST_STATE_DETAIL : Field := { base := 0x100, lo := 8, width := 4, ty := .ro }

-- PWRST_CMD: R95 (spec/03_clocks_reset_startup.md).
def PWRST_CMD_CMD : Field := { base := 0x104, lo := 0, width := 4, ty := .wc }
def PWRST_CMD_KEY : Field := { base := 0x104, lo := 24, width := 8, ty := .wc }

-- PWRST_BOOT_LATE: R97 (spec/03_clocks_reset_startup.md).
def PWRST_BOOT_LATE_HEADER : Field := { base := 0x108, lo := 0, width := 1, ty := .ro }
def PWRST_BOOT_LATE_FIRMWARE : Field := { base := 0x108, lo := 1, width := 1, ty := .ro }
def PWRST_BOOT_LATE_FOUNDATION : Field := { base := 0x108, lo := 2, width := 1, ty := .ro }
def PWRST_BOOT_LATE_LINKS : Field := { base := 0x108, lo := 3, width := 1, ty := .ro }
def PWRST_BOOT_LATE_LOCK : Field := { base := 0x108, lo := 4, width := 1, ty := .ro }
def PWRST_BOOT_LATE_FULL : Field := { base := 0x108, lo := 5, width := 1, ty := .ro }

-- PWRST_STEP_TIME: R98 (spec/03_clocks_reset_startup.md).
def PWRST_STEP_TIME_TIME_US : Field := { base := 0x110, lo := 0, width := 32, ty := .ro, stride := 0x4, count := 7, resets := [0, 0xFFFFFFFF, 0xFFFFFFFF, 0xFFFFFFFF, 0xFFFFFFFF, 0xFFFFFFFF, 0xFFFFFFFF] }

/-- The fields of a page of kind `pwrst`. -/
def pwrstFields : List Field :=
  [PWRST_STATE_STATE, PWRST_STATE_STEP, PWRST_STATE_DETAIL, PWRST_CMD_CMD, PWRST_CMD_KEY, PWRST_BOOT_LATE_HEADER, PWRST_BOOT_LATE_FIRMWARE, PWRST_BOOT_LATE_FOUNDATION, PWRST_BOOT_LATE_LINKS, PWRST_BOOT_LATE_LOCK, PWRST_BOOT_LATE_FULL, PWRST_STEP_TIME_TIME_US]

-- LINK_CFG: R129 (spec/04_races_and_links.md).
def LINK_CFG_MEDIUM : Field := { base := 0x100, lo := 0, width := 2, ty := .rws }
def LINK_CFG_PROTECT : Field := { base := 0x100, lo := 2, width := 1, ty := .rws }
def LINK_CFG_HELLO_MISS : Field := { base := 0x100, lo := 4, width := 4, ty := .rws, reset := 0x4 }

-- LINK_STAT: R130 (spec/04_races_and_links.md).
def LINK_STAT_STATE : Field := { base := 0x104, lo := 0, width := 3, ty := .ro }
def LINK_STAT_PCS_LOCK : Field := { base := 0x104, lo := 3, width := 1, ty := .ro }
def LINK_STAT_LOS : Field := { base := 0x104, lo := 4, width := 1, ty := .ro }
def LINK_STAT_SQI : Field := { base := 0x104, lo := 5, width := 3, ty := .ro }
def LINK_STAT_NEIGH_PORT : Field := { base := 0x104, lo := 8, width := 1, ty := .ro }
def LINK_STAT_NEIGH_ID : Field := { base := 0x104, lo := 16, width := 11, ty := .ro }

-- LINK_NEIGH_SER_LO: R131 (spec/04_races_and_links.md).
def LINK_NEIGH_SER_LO_SERIAL : Field := { base := 0x108, lo := 0, width := 32, ty := .ro }

-- LINK_NEIGH_SER_HI: R131 (spec/04_races_and_links.md).
def LINK_NEIGH_SER_HI_SERIAL : Field := { base := 0x10C, lo := 0, width := 32, ty := .ro }

-- LINK_CMD: R132 (spec/04_races_and_links.md).
def LINK_CMD_CMD : Field := { base := 0x110, lo := 0, width := 4, ty := .wc }

-- LINK_DIAG: R133 (spec/04_races_and_links.md).
def LINK_DIAG_RESULT : Field := { base := 0x114, lo := 0, width := 3, ty := .ro }
def LINK_DIAG_DIST : Field := { base := 0x114, lo := 8, width := 8, ty := .ro }
def LINK_DIAG_SQI_WORST : Field := { base := 0x114, lo := 16, width := 3, ty := .ro, reset := 0x7 }

-- LINK_CHG_TIME_LO: R134 (spec/04_races_and_links.md).
def LINK_CHG_TIME_LO_TIME : Field := { base := 0x118, lo := 0, width := 32, ty := .ro }

-- LINK_CHG_TIME_HI: R134 (spec/04_races_and_links.md).
def LINK_CHG_TIME_HI_TIME : Field := { base := 0x11C, lo := 0, width := 32, ty := .ro }

-- RING_ID: R135 (spec/04_races_and_links.md).
def RING_ID_ID : Field := { base := 0x200, lo := 0, width := 11, ty := .ro }
def RING_ID_MODE : Field := { base := 0x200, lo := 12, width := 2, ty := .ro }
def RING_ID_ANCHOR : Field := { base := 0x200, lo := 14, width := 1, ty := .ro }
def RING_ID_CLAIM : Field := { base := 0x200, lo := 16, width := 3, ty := .ro }

-- RING_ID_SET: R136 (spec/04_races_and_links.md).
def RING_ID_SET_NEW_ID : Field := { base := 0x204, lo := 0, width := 11, ty := .wc }
def RING_ID_SET_CMD : Field := { base := 0x204, lo := 12, width := 4, ty := .wc }
def RING_ID_SET_KEY : Field := { base := 0x204, lo := 24, width := 8, ty := .wc }

-- RING_HOP: R137 (spec/04_races_and_links.md).
def RING_HOP_LIMIT : Field := { base := 0x208, lo := 0, width := 11, ty := .rw }
def RING_HOP_EFFECTIVE : Field := { base := 0x208, lo := 16, width := 11, ty := .ro, reset := 0x7FF }

-- RING_STAT: R138 (spec/04_races_and_links.md).
def RING_STAT_NODES : Field := { base := 0x20C, lo := 0, width := 11, ty := .ro }
def RING_STAT_CLOSED : Field := { base := 0x20C, lo := 12, width := 1, ty := .ro }
def RING_STAT_SLOW_LINK : Field := { base := 0x20C, lo := 13, width := 1, ty := .ro }
def RING_STAT_TOPO_VALID : Field := { base := 0x20C, lo := 14, width := 1, ty := .ro }

-- RING_BREAK: R138 (spec/04_races_and_links.md).
def RING_BREAK_EAST_END : Field := { base := 0x210, lo := 0, width := 11, ty := .ro }
def RING_BREAK_WEST_END : Field := { base := 0x210, lo := 16, width := 11, ty := .ro }

-- RING_DUP: R139 (spec/04_races_and_links.md).
def RING_DUP_DUP_ID : Field := { base := 0x214, lo := 0, width := 11, ty := .ro }
def RING_DUP_ROLE : Field := { base := 0x214, lo := 12, width := 1, ty := .ro }

-- RING_DUP_SER_LO: R139 (spec/04_races_and_links.md).
def RING_DUP_SER_LO_SERIAL : Field := { base := 0x218, lo := 0, width := 32, ty := .ro }

-- RING_DUP_SER_HI: R139 (spec/04_races_and_links.md).
def RING_DUP_SER_HI_SERIAL : Field := { base := 0x21C, lo := 0, width := 32, ty := .ro }

-- RING_SELF_SER_LO: R139 (spec/04_races_and_links.md).
def RING_SELF_SER_LO_SERIAL : Field := { base := 0x220, lo := 0, width := 32, ty := .ro }

-- RING_SELF_SER_HI: R139 (spec/04_races_and_links.md).
def RING_SELF_SER_HI_SERIAL : Field := { base := 0x224, lo := 0, width := 32, ty := .ro }

-- RING_LINE: R139 (spec/04_races_and_links.md).
def RING_LINE_LINE_ID : Field := { base := 0x228, lo := 0, width := 16, ty := .ro }

/-- The fields of a page of kind `link`. -/
def linkFields : List Field :=
  [LINK_CFG_MEDIUM, LINK_CFG_PROTECT, LINK_CFG_HELLO_MISS, LINK_STAT_STATE, LINK_STAT_PCS_LOCK, LINK_STAT_LOS, LINK_STAT_SQI, LINK_STAT_NEIGH_PORT, LINK_STAT_NEIGH_ID, LINK_NEIGH_SER_LO_SERIAL, LINK_NEIGH_SER_HI_SERIAL, LINK_CMD_CMD, LINK_DIAG_RESULT, LINK_DIAG_DIST, LINK_DIAG_SQI_WORST, LINK_CHG_TIME_LO_TIME, LINK_CHG_TIME_HI_TIME, RING_ID_ID, RING_ID_MODE, RING_ID_ANCHOR, RING_ID_CLAIM, RING_ID_SET_NEW_ID, RING_ID_SET_CMD, RING_ID_SET_KEY] ++
  [RING_HOP_LIMIT, RING_HOP_EFFECTIVE, RING_STAT_NODES, RING_STAT_CLOSED, RING_STAT_SLOW_LINK, RING_STAT_TOPO_VALID, RING_BREAK_EAST_END, RING_BREAK_WEST_END, RING_DUP_DUP_ID, RING_DUP_ROLE, RING_DUP_SER_LO_SERIAL, RING_DUP_SER_HI_SERIAL, RING_SELF_SER_LO_SERIAL, RING_SELF_SER_HI_SERIAL, RING_LINE_LINE_ID]

-- SWC_AGE: R168 (spec/05_switch_core.md).
def SWC_AGE_LIMIT : Field := { base := 0x100, lo := 0, width := 5, ty := .rw, reset := 0x8 }

-- SWC_MAPGEN: R168 (spec/05_switch_core.md).
def SWC_MAPGEN_CURRENT : Field := { base := 0x104, lo := 0, width := 8, ty := .ro }
def SWC_MAPGEN_PREVIOUS : Field := { base := 0x104, lo := 8, width := 8, ty := .ro }
def SWC_MAPGEN_PREV_VALID : Field := { base := 0x104, lo := 16, width := 1, ty := .ro }

-- SWC_CAPn: R169 (spec/05_switch_core.md).
def SWC_CAPn_CAP : Field := { base := 0x110, lo := 0, width := 13, ty := .rw, stride := 0x4, count := 4, resets := [1024, 5120, 2560, 1024] }

-- SWC_USEn: R169 (spec/05_switch_core.md).
def SWC_USEn_RSV : Field := { base := 0x120, lo := 0, width := 16, ty := .ro, stride := 0x4, count := 4 }
def SWC_USEn_SHARED : Field := { base := 0x120, lo := 16, width := 13, ty := .ro, stride := 0x4, count := 4 }

-- SWC_REPLAY: R169 (spec/05_switch_core.md).
def SWC_REPLAY_EPOCHS : Field := { base := 0x130, lo := 0, width := 4, ty := .ro }
def SWC_REPLAY_GRANULES : Field := { base := 0x130, lo := 16, width := 14, ty := .ro }

-- SWC_MCAST_CUR_LO: R170 (spec/05_switch_core.md).
def SWC_MCAST_CUR_LO_MEMBER : Field := { base := 0x140, lo := 0, width := 32, ty := .ro }

-- SWC_MCAST_CUR_HI: R170 (spec/05_switch_core.md).
def SWC_MCAST_CUR_HI_MEMBER : Field := { base := 0x144, lo := 0, width := 32, ty := .ro }

-- SWC_MCAST_PREV_LO: R170 (spec/05_switch_core.md).
def SWC_MCAST_PREV_LO_MEMBER : Field := { base := 0x148, lo := 0, width := 32, ty := .ro }

-- SWC_MCAST_PREV_HI: R170 (spec/05_switch_core.md).
def SWC_MCAST_PREV_HI_MEMBER : Field := { base := 0x14C, lo := 0, width := 32, ty := .ro }

-- SWC_CONS: R170 (spec/05_switch_core.md).
def SWC_CONS_FULL : Field := { base := 0x160, lo := 0, width := 5, ty := .ro }
def SWC_CONS_RETRY_USED : Field := { base := 0x160, lo := 8, width := 5, ty := .ro }

/-- The fields of a page of kind `swc`. -/
def swcFields : List Field :=
  [SWC_AGE_LIMIT, SWC_MAPGEN_CURRENT, SWC_MAPGEN_PREVIOUS, SWC_MAPGEN_PREV_VALID, SWC_CAPn_CAP, SWC_USEn_RSV, SWC_USEn_SHARED, SWC_REPLAY_EPOCHS, SWC_REPLAY_GRANULES, SWC_MCAST_CUR_LO_MEMBER, SWC_MCAST_CUR_HI_MEMBER, SWC_MCAST_PREV_LO_MEMBER, SWC_MCAST_PREV_HI_MEMBER, SWC_CONS_FULL, SWC_CONS_RETRY_USED]

-- RSQ_HOLD: R172 (spec/05_switch_core.md).
def RSQ_HOLD_HOLD : Field := { base := 0x100, lo := 0, width := 7, ty := .rw, reset := 0x1E }

-- RSQ_CTX: R172 (spec/05_switch_core.md).
def RSQ_CTX_IN_USE : Field := { base := 0x104, lo := 0, width := 9, ty := .ro }
def RSQ_CTX_PEAK : Field := { base := 0x104, lo := 16, width := 9, ty := .ro }

-- RSQ_SRC_SEL: R173 (spec/05_switch_core.md).
def RSQ_SRC_SEL_SRC : Field := { base := 0x108, lo := 0, width := 11, ty := .rw }

-- RSQ_SRC_EXP: R173 (spec/05_switch_core.md).
def RSQ_SRC_EXP_EXP : Field := { base := 0x110, lo := 0, width := 32, ty := .ro }

-- RSQ_SRC_STAT: R173 (spec/05_switch_core.md).
def RSQ_SRC_STAT_VALID : Field := { base := 0x114, lo := 0, width := 1, ty := .ro }
def RSQ_SRC_STAT_CTX_OPEN : Field := { base := 0x114, lo := 1, width := 1, ty := .ro }
def RSQ_SRC_STAT_HELD : Field := { base := 0x114, lo := 2, width := 10, ty := .ro }

-- RSQ_LOSS_LAST_A: R173 (spec/05_switch_core.md).
def RSQ_LOSS_LAST_A_SRC : Field := { base := 0x118, lo := 0, width := 11, ty := .ro }
def RSQ_LOSS_LAST_A_COUNT : Field := { base := 0x118, lo := 11, width := 11, ty := .ro }

-- RSQ_LOSS_LAST_B: R173 (spec/05_switch_core.md).
def RSQ_LOSS_LAST_B_FIRST_SEQ : Field := { base := 0x11C, lo := 0, width := 32, ty := .ro }

/-- The fields of a page of kind `rsq`. -/
def rsqFields : List Field :=
  [RSQ_HOLD_HOLD, RSQ_CTX_IN_USE, RSQ_CTX_PEAK, RSQ_SRC_SEL_SRC, RSQ_SRC_EXP_EXP, RSQ_SRC_STAT_VALID, RSQ_SRC_STAT_CTX_OPEN, RSQ_SRC_STAT_HELD, RSQ_LOSS_LAST_A_SRC, RSQ_LOSS_LAST_A_COUNT, RSQ_LOSS_LAST_B_FIRST_SEQ]

-- MIR_CTRL: R175 (spec/05_switch_core.md).
def MIR_CTRL_ARM : Field := { base := 0x100, lo := 0, width := 1, ty := .rw }
def MIR_CTRL_MODE : Field := { base := 0x100, lo := 1, width := 1, ty := .rw }
def MIR_CTRL_CLEAR : Field := { base := 0x100, lo := 2, width := 1, ty := .wc }

-- MIR_WPTR: R175 (spec/05_switch_core.md).
def MIR_WPTR_WPTR : Field := { base := 0x104, lo := 0, width := 12, ty := .ro }
def MIR_WPTR_WRAPPED : Field := { base := 0x104, lo := 12, width := 1, ty := .ro }
def MIR_WPTR_STOPPED : Field := { base := 0x104, lo := 13, width := 1, ty := .ro }

-- MIR_FILTn_A: R176 (spec/05_switch_core.md).
def MIR_FILTn_A_TYPE : Field := { base := 0x110, lo := 0, width := 6, ty := .rw, stride := 0x8, count := 4 }
def MIR_FILTn_A_TYPE_ANY : Field := { base := 0x110, lo := 6, width := 1, ty := .rw, stride := 0x8, count := 4 }
def MIR_FILTn_A_SRC : Field := { base := 0x110, lo := 8, width := 11, ty := .rw, stride := 0x8, count := 4 }
def MIR_FILTn_A_SRC_ANY : Field := { base := 0x110, lo := 19, width := 1, ty := .rw, stride := 0x8, count := 4 }
def MIR_FILTn_A_PORTS : Field := { base := 0x110, lo := 20, width := 2, ty := .rw, stride := 0x8, count := 4 }
def MIR_FILTn_A_EN : Field := { base := 0x110, lo := 31, width := 1, ty := .rw, stride := 0x8, count := 4 }

-- MIR_FILTn_B: R176 (spec/05_switch_core.md).
def MIR_FILTn_B_EVENTS : Field := { base := 0x114, lo := 0, width := 11, ty := .rw, stride := 0x8, count := 4 }

/-- The fields of a page of kind `mir`. -/
def mirFields : List Field :=
  [MIR_CTRL_ARM, MIR_CTRL_MODE, MIR_CTRL_CLEAR, MIR_WPTR_WPTR, MIR_WPTR_WRAPPED, MIR_WPTR_STOPPED, MIR_FILTn_A_TYPE, MIR_FILTn_A_TYPE_ANY, MIR_FILTn_A_SRC, MIR_FILTn_A_SRC_ANY, MIR_FILTn_A_PORTS, MIR_FILTn_A_EN, MIR_FILTn_B_EVENTS]

-- TIME_NOW_LO: R199 (spec/06_ring_time.md).
def TIME_NOW_LO_NOW : Field := { base := 0x100, lo := 0, width := 32, ty := .ro }

-- TIME_NOW_HI: R199 (spec/06_ring_time.md).
def TIME_NOW_HI_NOW : Field := { base := 0x104, lo := 0, width := 32, ty := .ro }

-- TIME_STAT: R199 (spec/06_ring_time.md).
def TIME_STAT_STATE : Field := { base := 0x108, lo := 0, width := 3, ty := .ro }
def TIME_STAT_LOCKED : Field := { base := 0x108, lo := 3, width := 1, ty := .ro }
def TIME_STAT_PORT : Field := { base := 0x108, lo := 4, width := 1, ty := .ro }
def TIME_STAT_TOD_VALID : Field := { base := 0x108, lo := 5, width := 1, ty := .ro }
def TIME_STAT_PATH_HOPS : Field := { base := 0x108, lo := 8, width := 11, ty := .ro }

-- TIME_OFFSET: R200 (spec/06_ring_time.md).
def TIME_OFFSET_THETA : Field := { base := 0x10C, lo := 0, width := 32, ty := .ro }

-- TIME_FREQ: R200 (spec/06_ring_time.md).
def TIME_FREQ_F : Field := { base := 0x110, lo := 0, width := 32, ty := .ro }

-- TIME_GM: R200 (spec/06_ring_time.md).
def TIME_GM_GM_ID : Field := { base := 0x114, lo := 0, width := 11, ty := .ro }
def TIME_GM_CLASS : Field := { base := 0x114, lo := 16, width := 8, ty := .ro }
def TIME_GM_PRIO1 : Field := { base := 0x114, lo := 24, width := 8, ty := .ro }

-- TIME_PDELAY: R200 (spec/06_ring_time.md).
def TIME_PDELAY_D : Field := { base := 0x118, lo := 0, width := 31, ty := .ro, stride := 0x4, count := 2 }
def TIME_PDELAY_VALID : Field := { base := 0x118, lo := 31, width := 1, ty := .ro, stride := 0x4, count := 2 }

-- TIME_SERVO: R201 (spec/06_ring_time.md).
def TIME_SERVO_KP_SHIFT : Field := { base := 0x120, lo := 0, width := 4, ty := .rws, reset := 0x2 }
def TIME_SERVO_KI_SHIFT : Field := { base := 0x120, lo := 4, width := 4, ty := .rws, reset := 0x6 }
def TIME_SERVO_SYNC_INT : Field := { base := 0x120, lo := 8, width := 2, ty := .rws, reset := 0x2 }

-- TIME_LOCK: R201 (spec/06_ring_time.md).
def TIME_LOCK_LOCK_THR : Field := { base := 0x124, lo := 0, width := 8, ty := .rws, reset := 0xA }
def TIME_LOCK_LOCK_CNT : Field := { base := 0x124, lo := 8, width := 8, ty := .rws, reset := 0x40 }
def TIME_LOCK_UNLOCK_THR : Field := { base := 0x124, lo := 16, width := 8, ty := .rws, reset := 0xA }
def TIME_LOCK_HOLDOVER_MS : Field := { base := 0x124, lo := 24, width := 8, ty := .rws, reset := 0xA }

-- TIME_GM_CFG: R201 (spec/06_ring_time.md).
def TIME_GM_CFG_CAPABLE : Field := { base := 0x128, lo := 0, width := 1, ty := .rws, reset := 0x1 }
def TIME_GM_CFG_EXT_EN : Field := { base := 0x128, lo := 1, width := 1, ty := .rws }
def TIME_GM_CFG_PRIO1 : Field := { base := 0x128, lo := 8, width := 8, ty := .rws, reset := 0x80 }
def TIME_GM_CFG_PRIO2 : Field := { base := 0x128, lo := 16, width := 8, ty := .rws, reset := 0x80 }

-- TIME_ASYM: R202 (spec/06_ring_time.md).
def TIME_ASYM_ASYM : Field := { base := 0x12C, lo := 0, width := 32, ty := .rw, stride := 0x4, count := 2 }

-- TIME_PPS_OUT: R202 (spec/06_ring_time.md).
def TIME_PPS_OUT_MODE : Field := { base := 0x134, lo := 0, width := 2, ty := .rws }
def TIME_PPS_OUT_WIDTH : Field := { base := 0x134, lo := 8, width := 8, ty := .rws, reset := 0x64 }

-- TIME_TOD_OFFSET_LO: R203 (spec/06_ring_time.md).
def TIME_TOD_OFFSET_LO_W : Field := { base := 0x140, lo := 0, width := 32, ty := .ro }

-- TIME_TOD_OFFSET_HI: R203 (spec/06_ring_time.md).
def TIME_TOD_OFFSET_HI_W : Field := { base := 0x144, lo := 0, width := 32, ty := .ro }

-- TIME_TOD_NEXT_LO: R203 (spec/06_ring_time.md).
def TIME_TOD_NEXT_LO_W : Field := { base := 0x148, lo := 0, width := 32, ty := .rw }

-- TIME_TOD_NEXT_HI: R203 (spec/06_ring_time.md).
def TIME_TOD_NEXT_HI_W : Field := { base := 0x14C, lo := 0, width := 32, ty := .rw }

-- TIME_PPS_CAP_LO: R203 (spec/06_ring_time.md).
def TIME_PPS_CAP_LO_W : Field := { base := 0x150, lo := 0, width := 32, ty := .ro }

-- TIME_PPS_CAP_HI: R203 (spec/06_ring_time.md).
def TIME_PPS_CAP_HI_W : Field := { base := 0x154, lo := 0, width := 32, ty := .ro }

-- TIME_CAP_LO: R203 (spec/06_ring_time.md).
def TIME_CAP_LO_W : Field := { base := 0x158, lo := 0, width := 32, ty := .ro }

-- TIME_CAP_HI: R203 (spec/06_ring_time.md).
def TIME_CAP_HI_W : Field := { base := 0x15C, lo := 0, width := 32, ty := .ro }

-- TIME_EPOCH_LO: R203 (spec/06_ring_time.md).
def TIME_EPOCH_LO_W : Field := { base := 0x160, lo := 0, width := 32, ty := .ro, reset := 0xFFFFFFFF }

-- TIME_EPOCH_HI: R203 (spec/06_ring_time.md).
def TIME_EPOCH_HI_W : Field := { base := 0x164, lo := 0, width := 32, ty := .ro, reset := 0xFFFFFFFF }

-- TIME_BASE_T_LO: R203 (spec/06_ring_time.md).
def TIME_BASE_T_LO_W : Field := { base := 0x168, lo := 0, width := 32, ty := .ro }

-- TIME_BASE_T_HI: R203 (spec/06_ring_time.md).
def TIME_BASE_T_HI_W : Field := { base := 0x16C, lo := 0, width := 32, ty := .ro }

-- TIME_BASE_N_LO: R203 (spec/06_ring_time.md).
def TIME_BASE_N_LO_W : Field := { base := 0x170, lo := 0, width := 32, ty := .ro }

-- TIME_BASE_N_HI: R203 (spec/06_ring_time.md).
def TIME_BASE_N_HI_W : Field := { base := 0x174, lo := 0, width := 32, ty := .ro }

-- TIME_CAP_CMD: R203 (spec/06_ring_time.md).
def TIME_CAP_CMD_CAPTURE : Field := { base := 0x178, lo := 0, width := 1, ty := .wc }

/-- The fields of a page of kind `time`. -/
def timeFields : List Field :=
  [TIME_NOW_LO_NOW, TIME_NOW_HI_NOW, TIME_STAT_STATE, TIME_STAT_LOCKED, TIME_STAT_PORT, TIME_STAT_TOD_VALID, TIME_STAT_PATH_HOPS, TIME_OFFSET_THETA, TIME_FREQ_F, TIME_GM_GM_ID, TIME_GM_CLASS, TIME_GM_PRIO1, TIME_PDELAY_D, TIME_PDELAY_VALID, TIME_SERVO_KP_SHIFT, TIME_SERVO_KI_SHIFT, TIME_SERVO_SYNC_INT, TIME_LOCK_LOCK_THR, TIME_LOCK_LOCK_CNT, TIME_LOCK_UNLOCK_THR, TIME_LOCK_HOLDOVER_MS, TIME_GM_CFG_CAPABLE, TIME_GM_CFG_EXT_EN, TIME_GM_CFG_PRIO1] ++
  [TIME_GM_CFG_PRIO2, TIME_ASYM_ASYM, TIME_PPS_OUT_MODE, TIME_PPS_OUT_WIDTH, TIME_TOD_OFFSET_LO_W, TIME_TOD_OFFSET_HI_W, TIME_TOD_NEXT_LO_W, TIME_TOD_NEXT_HI_W, TIME_PPS_CAP_LO_W, TIME_PPS_CAP_HI_W, TIME_CAP_LO_W, TIME_CAP_HI_W, TIME_EPOCH_LO_W, TIME_EPOCH_HI_W, TIME_BASE_T_LO_W, TIME_BASE_T_HI_W, TIME_BASE_N_LO_W, TIME_BASE_N_HI_W, TIME_CAP_CMD_CAPTURE]

-- TXTS_HEADn: R205 (spec/06_ring_time.md).
def TXTS_HEADn_ENTRY : Field := { base := 0x100, lo := 0, width := 32, ty := .ro, stride := 0x4, count := 4 }

-- TXTS_POP: R205 (spec/06_ring_time.md).
def TXTS_POP_POP : Field := { base := 0x110, lo := 0, width := 1, ty := .wc }

-- TXTS_STAT: R205 (spec/06_ring_time.md).
def TXTS_STAT_FILL : Field := { base := 0x114, lo := 0, width := 7, ty := .ro }
def TXTS_STAT_OVF : Field := { base := 0x114, lo := 7, width := 1, ty := .w1c }
def TXTS_STAT_OVF_COUNT : Field := { base := 0x114, lo := 16, width := 16, ty := .ro }

-- TXTS_WEIR: R205 (spec/06_ring_time.md).
def TXTS_WEIR_LEVEL : Field := { base := 0x118, lo := 0, width := 7, ty := .rw, reset := 0x20 }

/-- The fields of a page of kind `txts`. -/
def txtsFields : List Field :=
  [TXTS_HEADn_ENTRY, TXTS_POP_POP, TXTS_STAT_FILL, TXTS_STAT_OVF, TXTS_STAT_OVF_COUNT, TXTS_WEIR_LEVEL]

-- IMG_CTRL: R245 (spec/07_image_epochs.md).
def IMG_CTRL_MAX_LAG : Field := { base := 0x100, lo := 0, width := 8, ty := .rw, reset := 0x40 }
def IMG_CTRL_PROXY_EN : Field := { base := 0x100, lo := 8, width := 1, ty := .rw, reset := 0x1 }

-- IMG_EPOCH: R245 (spec/07_image_epochs.md).
def IMG_EPOCH_EPOCH_LEN : Field := { base := 0x104, lo := 0, width := 3, ty := .ro, reset := 0x3 }
def IMG_EPOCH_SETTLE : Field := { base := 0x104, lo := 4, width := 2, ty := .ro, reset := 0x1 }
def IMG_EPOCH_SEAL_AT : Field := { base := 0x104, lo := 8, width := 3, ty := .ro, reset := 0x4 }

-- IMG_STAT: R246 (spec/07_image_epochs.md).
def IMG_STAT_FULL : Field := { base := 0x108, lo := 0, width := 1, ty := .ro }
def IMG_STAT_LAG : Field := { base := 0x108, lo := 1, width := 1, ty := .ro, reset := 0x1 }
def IMG_STAT_COLLECTING : Field := { base := 0x108, lo := 2, width := 1, ty := .ro }
def IMG_STAT_PUBLISHING : Field := { base := 0x108, lo := 3, width := 1, ty := .ro }
def IMG_STAT_CFG_BAD : Field := { base := 0x108, lo := 4, width := 1, ty := .ro }
def IMG_STAT_LAG_DEPTH : Field := { base := 0x108, lo := 8, width := 8, ty := .ro }
def IMG_STAT_PENDING : Field := { base := 0x108, lo := 16, width := 11, ty := .ro }

-- IMG_COMMIT_EPOCH_LO: R247 (spec/07_image_epochs.md).
def IMG_COMMIT_EPOCH_LO_W : Field := { base := 0x110, lo := 0, width := 32, ty := .ro, reset := 0xFFFFFFFF }

-- IMG_COMMIT_EPOCH_HI: R247 (spec/07_image_epochs.md).
def IMG_COMMIT_EPOCH_HI_W : Field := { base := 0x114, lo := 0, width := 32, ty := .ro, reset := 0xFFFFFFFF }

-- IMG_SEALED_EPOCH_LO: R247 (spec/07_image_epochs.md).
def IMG_SEALED_EPOCH_LO_W : Field := { base := 0x118, lo := 0, width := 32, ty := .ro, reset := 0xFFFFFFFF }

-- IMG_SEALED_EPOCH_HI: R247 (spec/07_image_epochs.md).
def IMG_SEALED_EPOCH_HI_W : Field := { base := 0x11C, lo := 0, width := 32, ty := .ro, reset := 0xFFFFFFFF }

-- IMG_SETTLE_MARGIN: R248 (spec/07_image_epochs.md).
def IMG_SETTLE_MARGIN_MIN1 : Field := { base := 0x120, lo := 0, width := 16, ty := .ro, reset := 0x7FFF }
def IMG_SETTLE_MARGIN_MIN2 : Field := { base := 0x120, lo := 16, width := 16, ty := .ro, reset := 0x7FFF }

-- IMG_MARGIN_WORST: R248 (spec/07_image_epochs.md).
def IMG_MARGIN_WORST_OWNER : Field := { base := 0x124, lo := 0, width := 11, ty := .ro }
def IMG_MARGIN_WORST_EPOCH : Field := { base := 0x124, lo := 16, width := 16, ty := .ro }

-- IMG_MARGIN_CFG: R248 (spec/07_image_epochs.md).
def IMG_MARGIN_CFG_WARN : Field := { base := 0x128, lo := 0, width := 16, ty := .rw, reset := 0xC8 }
def IMG_MARGIN_CFG_CLEAR : Field := { base := 0x128, lo := 16, width := 1, ty := .wc }

-- IMG_OWN: R249 (spec/07_image_epochs.md).
def IMG_OWN_OWNER : Field := { base := 0x12C, lo := 0, width := 11, ty := .ro }
def IMG_OWN_TENURE : Field := { base := 0x12C, lo := 16, width := 8, ty := .ro }

-- IMG_SHARDS: R249 (spec/07_image_epochs.md).
def IMG_SHARDS_LIVE : Field := { base := 0x130, lo := 0, width := 12, ty := .ro }
def IMG_SHARDS_STALE : Field := { base := 0x130, lo := 16, width := 12, ty := .ro }

-- IMG_REPAIR: R249 (spec/07_image_epochs.md).
def IMG_REPAIR_OUTSTANDING : Field := { base := 0x134, lo := 0, width := 6, ty := .ro }
def IMG_REPAIR_SERVING : Field := { base := 0x134, lo := 8, width := 5, ty := .ro }

-- IMG_PEEK_SEL: R282 (spec/08_image_access_outputs.md).
def IMG_PEEK_SEL_INDEX : Field := { base := 0x140, lo := 0, width := 17, ty := .rw }

-- IMG_PEEK_LO: R282 (spec/08_image_access_outputs.md).
def IMG_PEEK_LO_VALUE : Field := { base := 0x148, lo := 0, width := 32, ty := .ro }

-- IMG_PEEK_HI: R282 (spec/08_image_access_outputs.md).
def IMG_PEEK_HI_EPOCH : Field := { base := 0x14C, lo := 0, width := 30, ty := .ro, reset := 0x3FFFFFFF }
def IMG_PEEK_HI_STATUS : Field := { base := 0x14C, lo := 30, width := 2, ty := .ro, reset := 0x3 }

-- IMG_PIN_CMD: R283 (spec/08_image_access_outputs.md).
def IMG_PIN_CMD_CMD : Field := { base := 0x150, lo := 0, width := 4, ty := .wc }
def IMG_PIN_CMD_TAG : Field := { base := 0x150, lo := 8, width := 8, ty := .wc }

-- IMG_PIN_STAT: R283 (spec/08_image_access_outputs.md).
def IMG_PIN_STAT_STATE : Field := { base := 0x154, lo := 0, width := 1, ty := .ro }
def IMG_PIN_STAT_TAG : Field := { base := 0x154, lo := 8, width := 8, ty := .ro }

-- IMG_PIN_EPOCH_LO: R283 (spec/08_image_access_outputs.md).
def IMG_PIN_EPOCH_LO_EPOCH : Field := { base := 0x158, lo := 0, width := 32, ty := .ro, reset := 0xFFFFFFFF }

-- IMG_PIN_EPOCH_HI: R283 (spec/08_image_access_outputs.md).
def IMG_PIN_EPOCH_HI_EPOCH : Field := { base := 0x15C, lo := 0, width := 32, ty := .ro, reset := 0xFFFFFFFF }

-- IMG_PIN_CFG: R283 (spec/08_image_access_outputs.md).
def IMG_PIN_CFG_LEASE : Field := { base := 0x160, lo := 0, width := 8, ty := .rw, reset := 0x14 }

-- IMG_BANK: R284 (spec/08_image_access_outputs.md).
def IMG_BANK_VISIBLE : Field := { base := 0x164, lo := 0, width := 2, ty := .ro }
def IMG_BANK_SHADOW : Field := { base := 0x164, lo := 2, width := 2, ty := .ro, reset := 0x1 }
def IMG_BANK_THIRD : Field := { base := 0x164, lo := 4, width := 2, ty := .ro, reset := 0x2 }
def IMG_BANK_THIRD_ROLE : Field := { base := 0x164, lo := 8, width := 3, ty := .ro }
def IMG_BANK_SHADOW_CATCHUP : Field := { base := 0x164, lo := 11, width := 1, ty := .ro }

-- IMG_DEMAND_LO: R285 (spec/08_image_access_outputs.md).
def IMG_DEMAND_LO_VALUE : Field := { base := 0x180, lo := 0, width := 32, ty := .wc }

-- IMG_DEMAND_HI: R285 (spec/08_image_access_outputs.md).
def IMG_DEMAND_HI_INDEX : Field := { base := 0x184, lo := 0, width := 17, ty := .wc }

-- IMG_CONF_HEADn: R286 (spec/08_image_access_outputs.md).
def IMG_CONF_HEADn_ENTRY : Field := { base := 0x190, lo := 0, width := 32, ty := .ro, stride := 0x4, count := 4 }

-- IMG_CONF_POP: R286 (spec/08_image_access_outputs.md).
def IMG_CONF_POP_POP : Field := { base := 0x1A0, lo := 0, width := 1, ty := .wc }

-- IMG_CONF_STAT: R286 (spec/08_image_access_outputs.md).
def IMG_CONF_STAT_FILL : Field := { base := 0x1A4, lo := 0, width := 5, ty := .ro }
def IMG_CONF_STAT_OVF : Field := { base := 0x1A4, lo := 5, width := 1, ty := .w1c }
def IMG_CONF_STAT_OVF_COUNT : Field := { base := 0x1A4, lo := 16, width := 16, ty := .ro }

-- IMG_COPYn_A: R287 (spec/08_image_access_outputs.md).
def IMG_COPYn_A_FIRST : Field := { base := 0x1C0, lo := 0, width := 17, ty := .rw, stride := 0x8, count := 4 }
def IMG_COPYn_A_STATUS_EN : Field := { base := 0x1C0, lo := 17, width := 1, ty := .rw, stride := 0x8, count := 4 }
def IMG_COPYn_A_MOVER : Field := { base := 0x1C0, lo := 24, width := 6, ty := .rw, stride := 0x8, count := 4 }
def IMG_COPYn_A_EN : Field := { base := 0x1C0, lo := 31, width := 1, ty := .rw, stride := 0x8, count := 4 }

-- IMG_COPYn_B: R287 (spec/08_image_access_outputs.md).
def IMG_COPYn_B_COUNT : Field := { base := 0x1C4, lo := 0, width := 18, ty := .rw, stride := 0x8, count := 4 }

-- IMG_COPY_STAT: R287 (spec/08_image_access_outputs.md).
def IMG_COPY_STAT_BUSY : Field := { base := 0x1E0, lo := 0, width := 4, ty := .ro }
def IMG_COPY_STAT_BAD : Field := { base := 0x1E0, lo := 4, width := 4, ty := .ro }
def IMG_COPY_STAT_SKIPPED : Field := { base := 0x1E0, lo := 8, width := 4, ty := .w1c }

/-- The fields of a page of kind `img`. -/
def imgFields : List Field :=
  [IMG_CTRL_MAX_LAG, IMG_CTRL_PROXY_EN, IMG_EPOCH_EPOCH_LEN, IMG_EPOCH_SETTLE, IMG_EPOCH_SEAL_AT, IMG_STAT_FULL, IMG_STAT_LAG, IMG_STAT_COLLECTING, IMG_STAT_PUBLISHING, IMG_STAT_CFG_BAD, IMG_STAT_LAG_DEPTH, IMG_STAT_PENDING, IMG_COMMIT_EPOCH_LO_W, IMG_COMMIT_EPOCH_HI_W, IMG_SEALED_EPOCH_LO_W, IMG_SEALED_EPOCH_HI_W, IMG_SETTLE_MARGIN_MIN1, IMG_SETTLE_MARGIN_MIN2, IMG_MARGIN_WORST_OWNER, IMG_MARGIN_WORST_EPOCH, IMG_MARGIN_CFG_WARN, IMG_MARGIN_CFG_CLEAR, IMG_OWN_OWNER, IMG_OWN_TENURE] ++
  [IMG_SHARDS_LIVE, IMG_SHARDS_STALE, IMG_REPAIR_OUTSTANDING, IMG_REPAIR_SERVING, IMG_PEEK_SEL_INDEX, IMG_PEEK_LO_VALUE, IMG_PEEK_HI_EPOCH, IMG_PEEK_HI_STATUS, IMG_PIN_CMD_CMD, IMG_PIN_CMD_TAG, IMG_PIN_STAT_STATE, IMG_PIN_STAT_TAG, IMG_PIN_EPOCH_LO_EPOCH, IMG_PIN_EPOCH_HI_EPOCH, IMG_PIN_CFG_LEASE, IMG_BANK_VISIBLE, IMG_BANK_SHADOW, IMG_BANK_THIRD, IMG_BANK_THIRD_ROLE, IMG_BANK_SHADOW_CATCHUP, IMG_DEMAND_LO_VALUE, IMG_DEMAND_HI_INDEX, IMG_CONF_HEADn_ENTRY, IMG_CONF_POP_POP] ++
  [IMG_CONF_STAT_FILL, IMG_CONF_STAT_OVF, IMG_CONF_STAT_OVF_COUNT, IMG_COPYn_A_FIRST, IMG_COPYn_A_STATUS_EN, IMG_COPYn_A_MOVER, IMG_COPYn_A_EN, IMG_COPYn_B_COUNT, IMG_COPY_STAT_BUSY, IMG_COPY_STAT_BAD, IMG_COPY_STAT_SKIPPED]

-- PMAP_SEL: R251 (spec/07_image_epochs.md).
def PMAP_SEL_OWNER : Field := { base := 0x100, lo := 0, width := 11, ty := .rw }
def PMAP_SEL_SEG : Field := { base := 0x100, lo := 12, width := 3, ty := .rw }

-- PMAP_STAGE_LO: R251 (spec/07_image_epochs.md).
def PMAP_STAGE_LO_ENTRY : Field := { base := 0x108, lo := 0, width := 32, ty := .rw }

-- PMAP_STAGE_HI: R251 (spec/07_image_epochs.md).
def PMAP_STAGE_HI_ENTRY : Field := { base := 0x10C, lo := 0, width := 32, ty := .rw }

-- PMAP_MCAST_LO: R251 (spec/07_image_epochs.md).
def PMAP_MCAST_LO_MEMBER : Field := { base := 0x110, lo := 0, width := 32, ty := .rw }

-- PMAP_MCAST_HI: R251 (spec/07_image_epochs.md).
def PMAP_MCAST_HI_MEMBER : Field := { base := 0x114, lo := 0, width := 32, ty := .rw }

-- PMAP_AT_LO: R251 (spec/07_image_epochs.md).
def PMAP_AT_LO_EPOCH : Field := { base := 0x118, lo := 0, width := 32, ty := .rw }

-- PMAP_AT_HI: R251 (spec/07_image_epochs.md).
def PMAP_AT_HI_EPOCH : Field := { base := 0x11C, lo := 0, width := 32, ty := .rw }

-- PMAP_CMD: R253 (spec/07_image_epochs.md).
def PMAP_CMD_CMD : Field := { base := 0x120, lo := 0, width := 4, ty := .wc }
def PMAP_CMD_GEN : Field := { base := 0x120, lo := 8, width := 8, ty := .wc }

-- PMAP_STAT: R253 (spec/07_image_epochs.md).
def PMAP_STAT_STATE : Field := { base := 0x124, lo := 0, width := 2, ty := .ro }
def PMAP_STAT_ERROR : Field := { base := 0x124, lo := 4, width := 4, ty := .ro }
def PMAP_STAT_ERR_OWNER : Field := { base := 0x124, lo := 8, width := 11, ty := .ro }
def PMAP_STAT_ERR_SEG : Field := { base := 0x124, lo := 20, width := 3, ty := .ro }
def PMAP_STAT_NEXT_GEN : Field := { base := 0x124, lo := 24, width := 8, ty := .ro, reset := 0x1 }

/-- The fields of a page of kind `pmap`. -/
def pmapFields : List Field :=
  [PMAP_SEL_OWNER, PMAP_SEL_SEG, PMAP_STAGE_LO_ENTRY, PMAP_STAGE_HI_ENTRY, PMAP_MCAST_LO_MEMBER, PMAP_MCAST_HI_MEMBER, PMAP_AT_LO_EPOCH, PMAP_AT_HI_EPOCH, PMAP_CMD_CMD, PMAP_CMD_GEN, PMAP_STAT_STATE, PMAP_STAT_ERROR, PMAP_STAT_ERR_OWNER, PMAP_STAT_ERR_SEG, PMAP_STAT_NEXT_GEN]

-- BIND_SEL: R289 (spec/08_image_access_outputs.md).
def BIND_SEL_INDEX : Field := { base := 0x100, lo := 0, width := 12, ty := .rw }

-- BIND_ENTRY_LO: R289 (spec/08_image_access_outputs.md).
def BIND_ENTRY_LO_ENTRY : Field := { base := 0x108, lo := 0, width := 32, ty := .rws }

-- BIND_ENTRY_HI: R289 (spec/08_image_access_outputs.md).
def BIND_ENTRY_HI_ENTRY : Field := { base := 0x10C, lo := 0, width := 32, ty := .rws }

-- BIND_LIVE_LO: R289 (spec/08_image_access_outputs.md).
def BIND_LIVE_LO_ENTRY : Field := { base := 0x110, lo := 0, width := 32, ty := .ro }

-- BIND_LIVE_HI: R289 (spec/08_image_access_outputs.md).
def BIND_LIVE_HI_ENTRY : Field := { base := 0x114, lo := 0, width := 32, ty := .ro }

-- BIND_CMD: R290 (spec/08_image_access_outputs.md).
def BIND_CMD_CMD : Field := { base := 0x118, lo := 0, width := 4, ty := .wc }

-- BIND_STAT: R290 (spec/08_image_access_outputs.md).
def BIND_STAT_ACTIVE : Field := { base := 0x11C, lo := 0, width := 13, ty := .ro }
def BIND_STAT_ERROR : Field := { base := 0x11C, lo := 16, width := 4, ty := .ro }
def BIND_STAT_ERR_INDEX : Field := { base := 0x11C, lo := 20, width := 12, ty := .ro }

/-- The fields of a page of kind `bind`. -/
def bindFields : List Field :=
  [BIND_SEL_INDEX, BIND_ENTRY_LO_ENTRY, BIND_ENTRY_HI_ENTRY, BIND_LIVE_LO_ENTRY, BIND_LIVE_HI_ENTRY, BIND_CMD_CMD, BIND_STAT_ACTIVE, BIND_STAT_ERROR, BIND_STAT_ERR_INDEX]

-- AXISn_CFG: R319 (spec/09_tracking_launch.md).
def AXISn_CFG_SRC : Field := { base := 0x100, lo := 0, width := 2, ty := .rws, stride := 0x10, count := 16 }
def AXISn_CFG_DIR : Field := { base := 0x100, lo := 2, width := 1, ty := .rws, stride := 0x10, count := 16 }
def AXISn_CFG_GRAY : Field := { base := 0x100, lo := 3, width := 1, ty := .rws, stride := 0x10, count := 16 }
def AXISn_CFG_SSI_BITS : Field := { base := 0x100, lo := 4, width := 5, ty := .rws, stride := 0x10, count := 16, reset := 0x17 }
def AXISn_CFG_SRC_A : Field := { base := 0x100, lo := 16, width := 8, ty := .rws, stride := 0x10, count := 16 }
def AXISn_CFG_SRC_B : Field := { base := 0x100, lo := 24, width := 8, ty := .rws, stride := 0x10, count := 16 }

-- AXISn_TIMING: R319 (spec/09_tracking_launch.md).
def AXISn_TIMING_SSI_PERIOD : Field := { base := 0x104, lo := 0, width := 16, ty := .rws, stride := 0x10, count := 16, reset := 0xFA }
def AXISn_TIMING_VEL_WIN : Field := { base := 0x104, lo := 16, width := 3, ty := .rws, stride := 0x10, count := 16, reset := 0x3 }
def AXISn_TIMING_FAIL_LIM : Field := { base := 0x104, lo := 20, width := 4, ty := .rws, stride := 0x10, count := 16, reset := 0x3 }

-- AXISn_POS: R319 (spec/09_tracking_launch.md).
def AXISn_POS_POS : Field := { base := 0x108, lo := 0, width := 32, ty := .ro, stride := 0x10, count := 16 }

-- AXISn_STAT: R319 (spec/09_tracking_launch.md).
def AXISn_STAT_VALID : Field := { base := 0x10C, lo := 0, width := 1, ty := .ro, stride := 0x10, count := 16 }
def AXISn_STAT_QERR : Field := { base := 0x10C, lo := 1, width := 1, ty := .w1c, stride := 0x10, count := 16 }
def AXISn_STAT_SSI_ERR : Field := { base := 0x10C, lo := 2, width := 1, ty := .w1c, stride := 0x10, count := 16 }
def AXISn_STAT_PRESET_PEND : Field := { base := 0x10C, lo := 3, width := 1, ty := .ro, stride := 0x10, count := 16 }
def AXISn_STAT_FAILS : Field := { base := 0x10C, lo := 4, width := 4, ty := .ro, stride := 0x10, count := 16 }

-- AXIS_CMD: R320 (spec/09_tracking_launch.md).
def AXIS_CMD_AXIS : Field := { base := 0x200, lo := 0, width := 4, ty := .wc }
def AXIS_CMD_CMD : Field := { base := 0x200, lo := 4, width := 4, ty := .wc }

-- AXIS_PRESET: R320 (spec/09_tracking_launch.md).
def AXIS_PRESET_VALUE : Field := { base := 0x204, lo := 0, width := 32, ty := .rw }

-- AXIS_CFG: R320 (spec/09_tracking_launch.md).
def AXIS_CFG_EXTRAP_MAX : Field := { base := 0x208, lo := 0, width := 8, ty := .rw, reset := 0x20 }

-- AXIS_REFr_A: R321 (spec/09_tracking_launch.md).
def AXIS_REFr_A_POINT : Field := { base := 0x300, lo := 0, width := 17, ty := .rws, stride := 0x8, count := 32 }
def AXIS_REFr_A_SPAN : Field := { base := 0x300, lo := 17, width := 3, ty := .rws, stride := 0x8, count := 32, reset := 0x3 }
def AXIS_REFr_A_EN : Field := { base := 0x300, lo := 31, width := 1, ty := .rws, stride := 0x8, count := 32 }

-- AXIS_REFr_B: R321 (spec/09_tracking_launch.md).
def AXIS_REFr_B_VALID : Field := { base := 0x304, lo := 0, width := 1, ty := .ro, stride := 0x8, count := 32 }
def AXIS_REFr_B_HELD : Field := { base := 0x304, lo := 1, width := 4, ty := .ro, stride := 0x8, count := 32 }

/-- The fields of a page of kind `axis`. -/
def axisFields : List Field :=
  [AXISn_CFG_SRC, AXISn_CFG_DIR, AXISn_CFG_GRAY, AXISn_CFG_SSI_BITS, AXISn_CFG_SRC_A, AXISn_CFG_SRC_B, AXISn_TIMING_SSI_PERIOD, AXISn_TIMING_VEL_WIN, AXISn_TIMING_FAIL_LIM, AXISn_POS_POS, AXISn_STAT_VALID, AXISn_STAT_QERR, AXISn_STAT_SSI_ERR, AXISn_STAT_PRESET_PEND, AXISn_STAT_FAILS, AXIS_CMD_AXIS, AXIS_CMD_CMD, AXIS_PRESET_VALUE, AXIS_CFG_EXTRAP_MAX, AXIS_REFr_A_POINT, AXIS_REFr_A_SPAN, AXIS_REFr_A_EN, AXIS_REFr_B_VALID, AXIS_REFr_B_HELD]

-- TRK_CFG: R323 (spec/09_tracking_launch.md).
def TRK_CFG_LEAD : Field := { base := 0x100, lo := 0, width := 10, ty := .rw, reset := 0x32 }

-- TRK_SEL: R323 (spec/09_tracking_launch.md).
def TRK_SEL_WINDOW : Field := { base := 0x104, lo := 0, width := 10, ty := .rw }

-- TRK_WINn: R323 (spec/09_tracking_launch.md).
def TRK_WINn_DATA : Field := { base := 0x110, lo := 0, width := 32, ty := .rw, stride := 0x4, count := 8 }

-- TRK_WCMD: R324 (spec/09_tracking_launch.md).
def TRK_WCMD_CMD : Field := { base := 0x130, lo := 0, width := 4, ty := .wc }

-- TRK_WRES: R324 (spec/09_tracking_launch.md).
def TRK_WRES_RESULT : Field := { base := 0x134, lo := 0, width := 3, ty := .ro }

-- TRK_STAT: R325 (spec/09_tracking_launch.md).
def TRK_STAT_LISTEN : Field := { base := 0x138, lo := 0, width := 11, ty := .ro }
def TRK_STAT_ACTIVE : Field := { base := 0x138, lo := 16, width := 11, ty := .ro }

-- TRK_LOG_HEADn: R325 (spec/09_tracking_launch.md).
def TRK_LOG_HEADn_ENTRY : Field := { base := 0x140, lo := 0, width := 32, ty := .ro, stride := 0x4, count := 4 }

-- TRK_LOG_POP: R325 (spec/09_tracking_launch.md).
def TRK_LOG_POP_POP : Field := { base := 0x150, lo := 0, width := 1, ty := .wc }

-- TRK_LOG_STAT: R325 (spec/09_tracking_launch.md).
def TRK_LOG_STAT_FILL : Field := { base := 0x154, lo := 0, width := 7, ty := .ro }
def TRK_LOG_STAT_OVF : Field := { base := 0x154, lo := 7, width := 1, ty := .w1c }
def TRK_LOG_STAT_OVF_COUNT : Field := { base := 0x154, lo := 16, width := 16, ty := .ro }

-- TRK_TPLj_0 to TRK_TPLj_3: R326 (spec/09_tracking_launch.md), as 256 words.
def TRK_TPLj_WORD : Field := { base := 0x400, lo := 0, width := 32, ty := .rw, stride := 0x4, count := 256 }

/-- The fields of a page of kind `trk`. -/
def trkFields : List Field :=
  [TRK_TPLj_WORD, TRK_CFG_LEAD, TRK_SEL_WINDOW, TRK_WINn_DATA, TRK_WCMD_CMD, TRK_WRES_RESULT, TRK_STAT_LISTEN, TRK_STAT_ACTIVE, TRK_LOG_HEADn_ENTRY, TRK_LOG_POP_POP, TRK_LOG_STAT_FILL, TRK_LOG_STAT_OVF, TRK_LOG_STAT_OVF_COUNT]

-- LNCH_CFG: R328 (spec/09_tracking_launch.md).
def LNCH_CFG_LATE_POLICY : Field := { base := 0x100, lo := 0, width := 1, ty := .rw }

-- LNCH_INSn: R328 (spec/09_tracking_launch.md).
def LNCH_INSn_DATA : Field := { base := 0x110, lo := 0, width := 32, ty := .rw, stride := 0x4, count := 4 }

-- LNCH_CMD: R328 (spec/09_tracking_launch.md).
def LNCH_CMD_CMD : Field := { base := 0x120, lo := 0, width := 4, ty := .wc }
def LNCH_CMD_SLOT : Field := { base := 0x120, lo := 4, width := 12, ty := .wc }

-- LNCH_RES: R328 (spec/09_tracking_launch.md).
def LNCH_RES_SLOT : Field := { base := 0x124, lo := 0, width := 12, ty := .ro }
def LNCH_RES_RESULT : Field := { base := 0x124, lo := 12, width := 3, ty := .ro }
def LNCH_RES_COUNT : Field := { base := 0x124, lo := 16, width := 13, ty := .ro }

-- LNCH_STAT: R329 (spec/09_tracking_launch.md).
def LNCH_STAT_FILL : Field := { base := 0x128, lo := 0, width := 13, ty := .ro }
def LNCH_STAT_FULL : Field := { base := 0x128, lo := 13, width := 1, ty := .ro }

-- LNCH_NEXT_LO: R329 (spec/09_tracking_launch.md).
def LNCH_NEXT_LO_TIME : Field := { base := 0x130, lo := 0, width := 32, ty := .ro, reset := 0xFFFFFFFF }

-- LNCH_NEXT_HI: R329 (spec/09_tracking_launch.md).
def LNCH_NEXT_HI_TIME : Field := { base := 0x134, lo := 0, width := 32, ty := .ro, reset := 0xFFFFFFFF }

-- LNCH_EXC_HEADn: R329 (spec/09_tracking_launch.md).
def LNCH_EXC_HEADn_ENTRY : Field := { base := 0x140, lo := 0, width := 32, ty := .ro, stride := 0x4, count := 4 }

-- LNCH_EXC_POP: R329 (spec/09_tracking_launch.md).
def LNCH_EXC_POP_POP : Field := { base := 0x150, lo := 0, width := 1, ty := .wc }

-- LNCH_EXC_STAT: R329 (spec/09_tracking_launch.md).
def LNCH_EXC_STAT_FILL : Field := { base := 0x154, lo := 0, width := 6, ty := .ro }
def LNCH_EXC_STAT_OVF : Field := { base := 0x154, lo := 6, width := 1, ty := .w1c }
def LNCH_EXC_STAT_OVF_COUNT : Field := { base := 0x154, lo := 16, width := 16, ty := .ro }

/-- The fields of a page of kind `lnch`. -/
def lnchFields : List Field :=
  [LNCH_CFG_LATE_POLICY, LNCH_INSn_DATA, LNCH_CMD_CMD, LNCH_CMD_SLOT, LNCH_RES_SLOT, LNCH_RES_RESULT, LNCH_RES_COUNT, LNCH_STAT_FILL, LNCH_STAT_FULL, LNCH_NEXT_LO_TIME, LNCH_NEXT_HI_TIME, LNCH_EXC_HEADn_ENTRY, LNCH_EXC_POP_POP, LNCH_EXC_STAT_FILL, LNCH_EXC_STAT_OVF, LNCH_EXC_STAT_OVF_COUNT]

-- DIO_LINEj_CFG: R348 (spec/10_discrete_lines.md).
def DIO_LINEj_CFG_DIR : Field := { base := 0x100, lo := 0, width := 1, ty := .rws, stride := 0x4, count := 32 }
def DIO_LINEj_CFG_DRIVE : Field := { base := 0x100, lo := 1, width := 1, ty := .rws, stride := 0x4, count := 32 }
def DIO_LINEj_CFG_POL : Field := { base := 0x100, lo := 2, width := 1, ty := .rws, stride := 0x4, count := 32 }
def DIO_LINEj_CFG_OUT_MODE : Field := { base := 0x100, lo := 3, width := 2, ty := .rws, stride := 0x4, count := 32 }
def DIO_LINEj_CFG_SAFE : Field := { base := 0x100, lo := 5, width := 2, ty := .rws, stride := 0x4, count := 32 }
def DIO_LINEj_CFG_FILT : Field := { base := 0x100, lo := 8, width := 8, ty := .rws, stride := 0x4, count := 32, reset := 0x2 }
def DIO_LINEj_CFG_DEB : Field := { base := 0x100, lo := 16, width := 4, ty := .rws, stride := 0x4, count := 32 }
def DIO_LINEj_CFG_EVT : Field := { base := 0x100, lo := 20, width := 2, ty := .rws, stride := 0x4, count := 32 }
def DIO_LINEj_CFG_CNT_EDGE : Field := { base := 0x100, lo := 22, width := 2, ty := .rws, stride := 0x4, count := 32 }
def DIO_LINEj_CFG_STUCK_EN : Field := { base := 0x100, lo := 24, width := 1, ty := .rws, stride := 0x4, count := 32 }
def DIO_LINEj_CFG_CHAT_EN : Field := { base := 0x100, lo := 25, width := 1, ty := .rws, stride := 0x4, count := 32 }
def DIO_LINEj_CFG_RB_EN : Field := { base := 0x100, lo := 26, width := 1, ty := .rws, stride := 0x4, count := 32 }

-- DIO_TIMING: R349 (spec/10_discrete_lines.md).
def DIO_TIMING_STUCK_MAX : Field := { base := 0x180, lo := 0, width := 16, ty := .rws, reset := 0x2710 }
def DIO_TIMING_RB_DELAY : Field := { base := 0x180, lo := 16, width := 8, ty := .rws, reset := 0xA }

-- DIO_CHAT: R349 (spec/10_discrete_lines.md).
def DIO_CHAT_CHAT_LIM : Field := { base := 0x184, lo := 0, width := 8, ty := .rws, reset := 0x14 }
def DIO_CHAT_CHAT_WIN : Field := { base := 0x184, lo := 8, width := 8, ty := .rws, reset := 0xA }
def DIO_CHAT_CHAT_QUIET : Field := { base := 0x184, lo := 16, width := 8, ty := .rws, reset := 0xA }

-- DIO_IN: R350 (spec/10_discrete_lines.md).
def DIO_IN_W : Field := { base := 0x190, lo := 0, width := 32, ty := .ro }

-- DIO_RAW: R350 (spec/10_discrete_lines.md).
def DIO_RAW_W : Field := { base := 0x194, lo := 0, width := 32, ty := .ro }

-- DIO_OUT_HOST: R350 (spec/10_discrete_lines.md).
def DIO_OUT_HOST_W : Field := { base := 0x198, lo := 0, width := 32, ty := .rw }

-- DIO_OUT_SET: R350 (spec/10_discrete_lines.md).
def DIO_OUT_SET_W : Field := { base := 0x19C, lo := 0, width := 32, ty := .wc }

-- DIO_OUT_CLR: R350 (spec/10_discrete_lines.md).
def DIO_OUT_CLR_W : Field := { base := 0x1A0, lo := 0, width := 32, ty := .wc }

-- DIO_DRIVEN: R350 (spec/10_discrete_lines.md).
def DIO_DRIVEN_W : Field := { base := 0x1A4, lo := 0, width := 32, ty := .ro }

-- DIO_RB_FAIL: R350 (spec/10_discrete_lines.md).
def DIO_RB_FAIL_W : Field := { base := 0x1A8, lo := 0, width := 32, ty := .w1c }

-- DIO_STUCK: R350 (spec/10_discrete_lines.md).
def DIO_STUCK_W : Field := { base := 0x1AC, lo := 0, width := 32, ty := .ro }

-- DIO_CHATTER: R350 (spec/10_discrete_lines.md).
def DIO_CHATTER_W : Field := { base := 0x1B0, lo := 0, width := 32, ty := .ro }

-- DIO_CNT_CLR: R350 (spec/10_discrete_lines.md).
def DIO_CNT_CLR_W : Field := { base := 0x1E0, lo := 0, width := 32, ty := .wc }

-- DIO_VIO: R351 (spec/10_discrete_lines.md).
def DIO_VIO_LO_PRESENT : Field := { base := 0x1B4, lo := 0, width := 1, ty := .ro }
def DIO_VIO_LO_3V3 : Field := { base := 0x1B4, lo := 1, width := 1, ty := .ro }
def DIO_VIO_HI_PRESENT : Field := { base := 0x1B4, lo := 2, width := 1, ty := .ro }
def DIO_VIO_HI_3V3 : Field := { base := 0x1B4, lo := 3, width := 1, ty := .ro }

-- DIO_EVT_HEADn: R352 (spec/10_discrete_lines.md).
def DIO_EVT_HEADn_ENTRY : Field := { base := 0x1C0, lo := 0, width := 32, ty := .ro, stride := 0x4, count := 4 }

-- DIO_EVT_POP: R352 (spec/10_discrete_lines.md).
def DIO_EVT_POP_POP : Field := { base := 0x1D0, lo := 0, width := 1, ty := .wc }

-- DIO_EVT_STAT: R352 (spec/10_discrete_lines.md).
def DIO_EVT_STAT_FILL : Field := { base := 0x1D4, lo := 0, width := 7, ty := .ro }
def DIO_EVT_STAT_OVF : Field := { base := 0x1D4, lo := 7, width := 1, ty := .w1c }
def DIO_EVT_STAT_OVF_COUNT : Field := { base := 0x1D4, lo := 16, width := 16, ty := .ro }

-- DIO_EVT_WEIR: R352 (spec/10_discrete_lines.md).
def DIO_EVT_WEIR_LEVEL : Field := { base := 0x1D8, lo := 0, width := 7, ty := .rw, reset := 0x20 }

-- DIO_CNTj: R353 (spec/10_discrete_lines.md).
def DIO_CNTj_COUNT : Field := { base := 0x200, lo := 0, width := 32, ty := .ro, stride := 0x4, count := 32 }

/-- The fields of a page of kind `dio`. -/
def dioFields : List Field :=
  [DIO_LINEj_CFG_DIR, DIO_LINEj_CFG_DRIVE, DIO_LINEj_CFG_POL, DIO_LINEj_CFG_OUT_MODE, DIO_LINEj_CFG_SAFE, DIO_LINEj_CFG_FILT, DIO_LINEj_CFG_DEB, DIO_LINEj_CFG_EVT, DIO_LINEj_CFG_CNT_EDGE, DIO_LINEj_CFG_STUCK_EN, DIO_LINEj_CFG_CHAT_EN, DIO_LINEj_CFG_RB_EN, DIO_TIMING_STUCK_MAX, DIO_TIMING_RB_DELAY, DIO_CHAT_CHAT_LIM, DIO_CHAT_CHAT_WIN, DIO_CHAT_CHAT_QUIET, DIO_IN_W, DIO_RAW_W, DIO_OUT_HOST_W, DIO_OUT_SET_W, DIO_OUT_CLR_W, DIO_DRIVEN_W, DIO_RB_FAIL_W] ++
  [DIO_STUCK_W, DIO_CHATTER_W, DIO_CNT_CLR_W, DIO_VIO_LO_PRESENT, DIO_VIO_LO_3V3, DIO_VIO_HI_PRESENT, DIO_VIO_HI_3V3, DIO_EVT_HEADn_ENTRY, DIO_EVT_POP_POP, DIO_EVT_STAT_FILL, DIO_EVT_STAT_OVF, DIO_EVT_STAT_OVF_COUNT, DIO_EVT_WEIR_LEVEL, DIO_CNTj_COUNT]

end Sys2Proof.Machine
end

