-- ==== Sys2Proof/Machine/FieldsB.lean ====
section
/-!
DEFINITION. The register fields of the pages, written from the register tables of the spec: one `Field` per named field
(reserved fields have none), its offset in the page, its stride and count where the register is an array, its bits, its
access type (R56) and its value after reset.  One list per kind of page follows its fields.
-/
namespace Sys2Proof.Machine


-- LANE_MODE: R379 (spec/11_lanes_fifos.md).
def LANE_MODE_MODE : Field := { base := 0x100, lo := 0, width := 3, ty := .rws }
def LANE_MODE_TX_DESC : Field := { base := 0x100, lo := 4, width := 1, ty := .rws }
def LANE_MODE_TX_WHOLE : Field := { base := 0x100, lo := 5, width := 1, ty := .rws, reset := 0x1 }
def LANE_MODE_RX_EN : Field := { base := 0x100, lo := 6, width := 1, ty := .rws, reset := 0x1 }

-- LANE_CLK: R379 (spec/11_lanes_fifos.md).
def LANE_CLK_DIV : Field := { base := 0x104, lo := 0, width := 20, ty := .rws, reset := 0x87A2 }

-- LANE_FMT: R379 (spec/11_lanes_fifos.md).
def LANE_FMT_BITS : Field := { base := 0x108, lo := 0, width := 6, ty := .rws, reset := 0x8 }
def LANE_FMT_PARITY : Field := { base := 0x108, lo := 6, width := 2, ty := .rws }
def LANE_FMT_STOP2 : Field := { base := 0x108, lo := 8, width := 1, ty := .rws }
def LANE_FMT_MSB_FIRST : Field := { base := 0x108, lo := 9, width := 1, ty := .rws }
def LANE_FMT_SPI_MODE : Field := { base := 0x108, lo := 10, width := 2, ty := .rws }
def LANE_FMT_ZERO_CHK : Field := { base := 0x108, lo := 12, width := 1, ty := .rws }
def LANE_FMT_COM : Field := { base := 0x108, lo := 13, width := 2, ty := .rws, reset := 0x3 }
def LANE_FMT_ECHO : Field := { base := 0x108, lo := 15, width := 1, ty := .rws }

-- LANE_TIMING: R380 (spec/11_lanes_fifos.md).
def LANE_TIMING_GAP : Field := { base := 0x10C, lo := 0, width := 8, ty := .rws, reset := 0x3 }
def LANE_TIMING_DE_LEAD : Field := { base := 0x10C, lo := 8, width := 4, ty := .rws, reset := 0x1 }
def LANE_TIMING_DE_LAG : Field := { base := 0x10C, lo := 12, width := 4, ty := .rws, reset := 0x1 }
def LANE_TIMING_CS_GAP : Field := { base := 0x10C, lo := 16, width := 8, ty := .rws, reset := 0x2 }
def LANE_TIMING_MONO : Field := { base := 0x10C, lo := 24, width := 8, ty := .rws, reset := 0x14 }

-- LANE_RXPKT: R380 (spec/11_lanes_fifos.md).
def LANE_RXPKT_PKT_LEN : Field := { base := 0x110, lo := 0, width := 9, ty := .rws }

-- LANE_WEIR: R380 (spec/11_lanes_fifos.md).
def LANE_WEIR_RX_WEIR : Field := { base := 0x114, lo := 0, width := 9, ty := .rw, reset := 0x80 }
def LANE_WEIR_TX_WEIR : Field := { base := 0x114, lo := 16, width := 9, ty := .rw, reset := 0x80 }

-- LANE_MBX_CFG: R380 (spec/11_lanes_fifos.md).
def LANE_MBX_CFG_RX_SINK : Field := { base := 0x118, lo := 0, width := 2, ty := .rws }
def LANE_MBX_CFG_TX_MBX_MODE : Field := { base := 0x118, lo := 2, width := 2, ty := .rws }
def LANE_MBX_CFG_TX_MBX_LEN : Field := { base := 0x118, lo := 4, width := 2, ty := .rws }

-- LANE_MBX_DESC: R380 (spec/11_lanes_fifos.md).
def LANE_MBX_DESC_DESC : Field := { base := 0x11C, lo := 0, width := 32, ty := .rws }

-- LANE_CMD: R381 (spec/11_lanes_fifos.md).
def LANE_CMD_CMD : Field := { base := 0x120, lo := 0, width := 4, ty := .wc }

-- LANE_STAT: R381 (spec/11_lanes_fifos.md).
def LANE_STAT_TX_BUSY : Field := { base := 0x124, lo := 0, width := 1, ty := .ro }
def LANE_STAT_RX_BUSY : Field := { base := 0x124, lo := 1, width := 1, ty := .ro }
def LANE_STAT_HELD : Field := { base := 0x124, lo := 2, width := 1, ty := .ro }
def LANE_STAT_DROP_PEND : Field := { base := 0x124, lo := 3, width := 1, ty := .ro }
def LANE_STAT_CLAIMED : Field := { base := 0x124, lo := 4, width := 1, ty := .ro }
def LANE_STAT_CLAIM_ENG : Field := { base := 0x124, lo := 8, width := 5, ty := .ro }

-- LANE_RX_STAT: R381 (spec/11_lanes_fifos.md).
def LANE_RX_STAT_FILL : Field := { base := 0x128, lo := 0, width := 9, ty := .ro }
def LANE_RX_STAT_PKTS : Field := { base := 0x128, lo := 16, width := 9, ty := .ro }

-- LANE_TX_STAT: R381 (spec/11_lanes_fifos.md).
def LANE_TX_STAT_FILL : Field := { base := 0x12C, lo := 0, width := 9, ty := .ro }
def LANE_TX_STAT_FRAMES : Field := { base := 0x12C, lo := 16, width := 9, ty := .ro }

-- LANE_ERR: R382 (spec/11_lanes_fifos.md).
def LANE_ERR_RX_OVF : Field := { base := 0x130, lo := 0, width := 1, ty := .w1c }
def LANE_ERR_PARITY : Field := { base := 0x130, lo := 1, width := 1, ty := .w1c }
def LANE_ERR_FRAMING : Field := { base := 0x130, lo := 2, width := 1, ty := .w1c }
def LANE_ERR_NACK : Field := { base := 0x130, lo := 3, width := 1, ty := .w1c }
def LANE_ERR_TIMING : Field := { base := 0x130, lo := 4, width := 1, ty := .w1c }
def LANE_ERR_NO_RSP : Field := { base := 0x130, lo := 5, width := 1, ty := .w1c }
def LANE_ERR_SSI_FAIL : Field := { base := 0x130, lo := 6, width := 1, ty := .w1c }
def LANE_ERR_TX_UNDERRUN : Field := { base := 0x130, lo := 7, width := 1, ty := .w1c }
def LANE_ERR_LATE_START : Field := { base := 0x130, lo := 8, width := 1, ty := .w1c }
def LANE_ERR_FIFO_PERR : Field := { base := 0x130, lo := 9, width := 1, ty := .w1c }

-- LANE_RXMBXm: R383 (spec/11_lanes_fifos.md).
def LANE_RXMBXm_VALUE : Field := { base := 0x140, lo := 0, width := 32, ty := .ro, stride := 0x4, count := 8 }

-- LANE_TXMBXm: R383 (spec/11_lanes_fifos.md).
def LANE_TXMBXm_VALUE : Field := { base := 0x160, lo := 0, width := 32, ty := .ro, stride := 0x4, count := 4 }

-- LANE_RXW_LO: R383 (spec/11_lanes_fifos.md).
def LANE_RXW_LO_DATA : Field := { base := 0x200, lo := 0, width := 32, ty := .ro }

-- LANE_RXW_HI: R383 (spec/11_lanes_fifos.md).
def LANE_RXW_HI_VALID : Field := { base := 0x204, lo := 0, width := 1, ty := .ro }
def LANE_RXW_HI_END : Field := { base := 0x204, lo := 1, width := 1, ty := .ro }
def LANE_RXW_HI_PERR : Field := { base := 0x204, lo := 2, width := 1, ty := .ro }

-- LANE_TXD: R383 (spec/11_lanes_fifos.md).
def LANE_TXD_DATA : Field := { base := 0x210, lo := 0, width := 32, ty := .wc }

-- LANE_TXD_END: R383 (spec/11_lanes_fifos.md).
def LANE_TXD_END_DATA : Field := { base := 0x214, lo := 0, width := 32, ty := .wc }

/-- The fields of a page of kind `lane`. -/
def laneFields : List Field :=
  [LANE_MODE_MODE, LANE_MODE_TX_DESC, LANE_MODE_TX_WHOLE, LANE_MODE_RX_EN, LANE_CLK_DIV, LANE_FMT_BITS, LANE_FMT_PARITY, LANE_FMT_STOP2, LANE_FMT_MSB_FIRST, LANE_FMT_SPI_MODE, LANE_FMT_ZERO_CHK, LANE_FMT_COM, LANE_FMT_ECHO, LANE_TIMING_GAP, LANE_TIMING_DE_LEAD, LANE_TIMING_DE_LAG, LANE_TIMING_CS_GAP, LANE_TIMING_MONO, LANE_RXPKT_PKT_LEN, LANE_WEIR_RX_WEIR, LANE_WEIR_TX_WEIR, LANE_MBX_CFG_RX_SINK, LANE_MBX_CFG_TX_MBX_MODE, LANE_MBX_CFG_TX_MBX_LEN] ++
  [LANE_MBX_DESC_DESC, LANE_CMD_CMD, LANE_STAT_TX_BUSY, LANE_STAT_RX_BUSY, LANE_STAT_HELD, LANE_STAT_DROP_PEND, LANE_STAT_CLAIMED, LANE_STAT_CLAIM_ENG, LANE_RX_STAT_FILL, LANE_RX_STAT_PKTS, LANE_TX_STAT_FILL, LANE_TX_STAT_FRAMES, LANE_ERR_RX_OVF, LANE_ERR_PARITY, LANE_ERR_FRAMING, LANE_ERR_NACK, LANE_ERR_TIMING, LANE_ERR_NO_RSP, LANE_ERR_SSI_FAIL, LANE_ERR_TX_UNDERRUN, LANE_ERR_LATE_START, LANE_ERR_FIFO_PERR, LANE_RXMBXm_VALUE, LANE_TXMBXm_VALUE] ++
  [LANE_RXW_LO_DATA, LANE_RXW_HI_VALID, LANE_RXW_HI_END, LANE_RXW_HI_PERR, LANE_TXD_DATA, LANE_TXD_END_DATA]

-- MOVn_SRC_LO: R385 (spec/11_lanes_fifos.md).
def MOVn_SRC_LO_ADDR : Field := { base := 0x100, lo := 0, width := 32, ty := .rw, stride := 0x20, count := 48 }

-- MOVn_SRC_HI: R385 (spec/11_lanes_fifos.md).
def MOVn_SRC_HI_ADDR : Field := { base := 0x104, lo := 0, width := 32, ty := .rw, stride := 0x20, count := 48 }

-- MOVn_DST_LO: R385 (spec/11_lanes_fifos.md).
def MOVn_DST_LO_ADDR : Field := { base := 0x108, lo := 0, width := 32, ty := .rw, stride := 0x20, count := 48 }

-- MOVn_DST_HI: R385 (spec/11_lanes_fifos.md).
def MOVn_DST_HI_ADDR : Field := { base := 0x10C, lo := 0, width := 32, ty := .rw, stride := 0x20, count := 48 }

-- MOVn_CFG: R385 (spec/11_lanes_fifos.md).
def MOVn_CFG_SRC_KIND : Field := { base := 0x110, lo := 0, width := 3, ty := .rw, stride := 0x20, count := 48 }
def MOVn_CFG_DST_KIND : Field := { base := 0x110, lo := 3, width := 3, ty := .rw, stride := 0x20, count := 48 }
def MOVn_CFG_REQ_KIND : Field := { base := 0x110, lo := 6, width := 2, ty := .rw, stride := 0x20, count := 48 }
def MOVn_CFG_REQ_LANE : Field := { base := 0x110, lo := 8, width := 6, ty := .rw, stride := 0x20, count := 48 }
def MOVn_CFG_FMT : Field := { base := 0x110, lo := 14, width := 1, ty := .rw, stride := 0x20, count := 48 }
def MOVn_CFG_RING : Field := { base := 0x110, lo := 15, width := 1, ty := .rw, stride := 0x20, count := 48 }
def MOVn_CFG_END_LAST : Field := { base := 0x110, lo := 16, width := 1, ty := .rw, stride := 0x20, count := 48 }
def MOVn_CFG_BURST : Field := { base := 0x110, lo := 17, width := 7, ty := .rw, stride := 0x20, count := 48, reset := 0x10 }

-- MOVn_COUNT: R385 (spec/11_lanes_fifos.md).
def MOVn_COUNT_COUNT : Field := { base := 0x114, lo := 0, width := 24, ty := .rw, stride := 0x20, count := 48 }

-- MOVn_CMD: R385 (spec/11_lanes_fifos.md).
def MOVn_CMD_CMD : Field := { base := 0x118, lo := 0, width := 2, ty := .wc, stride := 0x20, count := 48 }

-- MOVn_STAT: R385 (spec/11_lanes_fifos.md).
def MOVn_STAT_STATE : Field := { base := 0x11C, lo := 0, width := 2, ty := .ro, stride := 0x20, count := 48 }
def MOVn_STAT_ERR : Field := { base := 0x11C, lo := 4, width := 4, ty := .ro, stride := 0x20, count := 48 }
def MOVn_STAT_MOVED : Field := { base := 0x11C, lo := 8, width := 24, ty := .ro, stride := 0x20, count := 48 }

-- MOV_DONE_LO: R386 (spec/11_lanes_fifos.md).
def MOV_DONE_LO_DONE : Field := { base := 0x700, lo := 0, width := 32, ty := .w1c }

-- MOV_DONE_HI: R386 (spec/11_lanes_fifos.md).
def MOV_DONE_HI_DONE : Field := { base := 0x704, lo := 0, width := 32, ty := .w1c }

-- MOV_ERR_LO: R386 (spec/11_lanes_fifos.md).
def MOV_ERR_LO_ERR : Field := { base := 0x708, lo := 0, width := 32, ty := .w1c }

-- MOV_ERR_HI: R386 (spec/11_lanes_fifos.md).
def MOV_ERR_HI_ERR : Field := { base := 0x70C, lo := 0, width := 32, ty := .w1c }

/-- The fields of a page of kind `mov`. -/
def movFields : List Field :=
  [MOVn_SRC_LO_ADDR, MOVn_SRC_HI_ADDR, MOVn_DST_LO_ADDR, MOVn_DST_HI_ADDR, MOVn_CFG_SRC_KIND, MOVn_CFG_DST_KIND, MOVn_CFG_REQ_KIND, MOVn_CFG_REQ_LANE, MOVn_CFG_FMT, MOVn_CFG_RING, MOVn_CFG_END_LAST, MOVn_CFG_BURST, MOVn_COUNT_COUNT, MOVn_CMD_CMD, MOVn_STAT_STATE, MOVn_STAT_ERR, MOVn_STAT_MOVED, MOV_DONE_LO_DONE, MOV_DONE_HI_DONE, MOV_ERR_LO_ERR, MOV_ERR_HI_ERR]

-- COG_CMD: R412 (spec/12_cog_engines.md).
def COG_CMD_ENG : Field := { base := 0x100, lo := 0, width := 4, ty := .wc }
def COG_CMD_CMD : Field := { base := 0x100, lo := 4, width := 4, ty := .wc }

-- COG_RES: R412 (spec/12_cog_engines.md).
def COG_RES_RESULT0 : Field := { base := 0x104, lo := 0, width := 4, ty := .ro }
def COG_RES_RESULT1 : Field := { base := 0x104, lo := 4, width := 4, ty := .ro }
def COG_RES_RESULT2 : Field := { base := 0x104, lo := 8, width := 4, ty := .ro }
def COG_RES_RESULT3 : Field := { base := 0x104, lo := 12, width := 4, ty := .ro }

-- COG_STORE_STAT: R412 (spec/12_cog_engines.md).
def COG_STORE_STAT_GEN : Field := { base := 0x108, lo := 0, width := 16, ty := .ro }
def COG_STORE_STAT_REF_ADDR : Field := { base := 0x108, lo := 16, width := 6, ty := .ro }
def COG_STORE_STAT_REFUSED : Field := { base := 0x108, lo := 22, width := 1, ty := .w1c }

-- COG_TOKENS: R413 (spec/12_cog_engines.md).
def COG_TOKENS_TOKENS : Field := { base := 0x10C, lo := 0, width := 16, ty := .ro }

-- COG_TOKEN_GIVE: R413 (spec/12_cog_engines.md).
def COG_TOKEN_GIVE_GIVE : Field := { base := 0x110, lo := 0, width := 16, ty := .wc }

-- COG_TOKEN_CLR: R413 (spec/12_cog_engines.md).
def COG_TOKEN_CLR_CLR : Field := { base := 0x114, lo := 0, width := 4, ty := .wc }

-- COGe_CFG: R414 (spec/12_cog_engines.md).
def COGe_CFG_DIV : Field := { base := 0x140, lo := 0, width := 16, ty := .rw, stride := 0x20, count := 4, reset := 0x1 }
def COGe_CFG_ENTRY : Field := { base := 0x140, lo := 16, width := 6, ty := .rw, stride := 0x20, count := 4 }
def COGe_CFG_MSB_FIRST : Field := { base := 0x140, lo := 22, width := 1, ty := .rw, stride := 0x20, count := 4 }
def COGe_CFG_CLK_PIN : Field := { base := 0x140, lo := 23, width := 2, ty := .rw, stride := 0x20, count := 4 }
def COGe_CFG_CLK_IDLE : Field := { base := 0x140, lo := 25, width := 1, ty := .rw, stride := 0x20, count := 4 }
def COGe_CFG_CLK_EN : Field := { base := 0x140, lo := 26, width := 1, ty := .rw, stride := 0x20, count := 4 }

-- COGe_CLAIM: R414 (spec/12_cog_engines.md).
def COGe_CLAIM_LANE : Field := { base := 0x144, lo := 0, width := 6, ty := .rw, stride := 0x20, count := 4 }
def COGe_CLAIM_EN : Field := { base := 0x144, lo := 7, width := 1, ty := .rw, stride := 0x20, count := 4 }
def COGe_CLAIM_SAFE : Field := { base := 0x144, lo := 8, width := 8, ty := .rw, stride := 0x20, count := 4, reset := 0xFF }

-- COGe_STAT: R414 (spec/12_cog_engines.md).
def COGe_STAT_STATE : Field := { base := 0x148, lo := 0, width := 3, ty := .ro, stride := 0x20, count := 4 }
def COGe_STAT_CLAIM_OK : Field := { base := 0x148, lo := 3, width := 1, ty := .ro, stride := 0x20, count := 4 }
def COGe_STAT_CLAIM_ERR : Field := { base := 0x148, lo := 4, width := 2, ty := .ro, stride := 0x20, count := 4 }
def COGe_STAT_PC : Field := { base := 0x148, lo := 6, width := 6, ty := .ro, stride := 0x20, count := 4 }
def COGe_STAT_END : Field := { base := 0x148, lo := 12, width := 1, ty := .ro, stride := 0x20, count := 4 }
def COGe_STAT_TIMEOUT : Field := { base := 0x148, lo := 13, width := 1, ty := .ro, stride := 0x20, count := 4 }
def COGe_STAT_MATCH : Field := { base := 0x148, lo := 14, width := 1, ty := .ro, stride := 0x20, count := 4 }
def COGe_STAT_RESUME_OK : Field := { base := 0x148, lo := 15, width := 1, ty := .ro, stride := 0x20, count := 4 }
def COGe_STAT_FAULT : Field := { base := 0x148, lo := 16, width := 2, ty := .ro, stride := 0x20, count := 4 }
def COGe_STAT_DELAY_LEFT : Field := { base := 0x148, lo := 18, width := 5, ty := .ro, stride := 0x20, count := 4 }

-- COGe_SR: R414 (spec/12_cog_engines.md).
def COGe_SR_SR : Field := { base := 0x14C, lo := 0, width := 32, ty := .ro, stride := 0x20, count := 4 }

-- COGe_G01: R414 (spec/12_cog_engines.md).
def COGe_G01_G0 : Field := { base := 0x150, lo := 0, width := 16, ty := .ro, stride := 0x20, count := 4 }
def COGe_G01_G1 : Field := { base := 0x150, lo := 16, width := 16, ty := .ro, stride := 0x20, count := 4 }

-- COGe_PINS: R414 (spec/12_cog_engines.md).
def COGe_PINS_LEVEL : Field := { base := 0x154, lo := 0, width := 4, ty := .ro, stride := 0x20, count := 4 }
def COGe_PINS_OUT : Field := { base := 0x154, lo := 4, width := 4, ty := .ro, stride := 0x20, count := 4 }
def COGe_PINS_DIR : Field := { base := 0x154, lo := 8, width := 4, ty := .ro, stride := 0x20, count := 4 }
def COGe_PINS_SC : Field := { base := 0x154, lo := 16, width := 6, ty := .ro, stride := 0x20, count := 4 }

-- COGe_G23: R414 (spec/12_cog_engines.md).
def COGe_G23_G2 : Field := { base := 0x158, lo := 0, width := 16, ty := .ro, stride := 0x20, count := 4 }
def COGe_G23_G3 : Field := { base := 0x158, lo := 16, width := 16, ty := .ro, stride := 0x20, count := 4 }

-- COGe_LOOPk: R415 (spec/12_cog_engines.md).
def COGe_LOOPk_START : Field := { base := 0x1C0, lo := 0, width := 6, ty := .ro, stride := 0x4, count := 8 }
def COGe_LOOPk_END : Field := { base := 0x1C0, lo := 6, width := 6, ty := .ro, stride := 0x4, count := 8 }
def COGe_LOOPk_REMAIN : Field := { base := 0x1C0, lo := 12, width := 10, ty := .ro, stride := 0x4, count := 8 }
def COGe_LOOPk_VALID : Field := { base := 0x1C0, lo := 31, width := 1, ty := .ro, stride := 0x4, count := 8 }

-- COG_RXMBXe_m: R415 (spec/12_cog_engines.md).
def COG_RXMBXe_m_VALUE : Field := { base := 0x200, lo := 0, width := 32, ty := .ro, stride := 0x4, count := 16 }

-- COG_TXMBXe_m: R415 (spec/12_cog_engines.md).
def COG_TXMBXe_m_VALUE : Field := { base := 0x240, lo := 0, width := 32, ty := .ro, stride := 0x4, count := 16 }

-- COG_STOREa: R415 (spec/12_cog_engines.md).
def COG_STOREa_WORD : Field := { base := 0x400, lo := 0, width := 24, ty := .rw, stride := 0x4, count := 64 }

/-- The fields of a page of kind `cog`. -/
def cogFields : List Field :=
  [COG_CMD_ENG, COG_CMD_CMD, COG_RES_RESULT0, COG_RES_RESULT1, COG_RES_RESULT2, COG_RES_RESULT3, COG_STORE_STAT_GEN, COG_STORE_STAT_REF_ADDR, COG_STORE_STAT_REFUSED, COG_TOKENS_TOKENS, COG_TOKEN_GIVE_GIVE, COG_TOKEN_CLR_CLR, COGe_CFG_DIV, COGe_CFG_ENTRY, COGe_CFG_MSB_FIRST, COGe_CFG_CLK_PIN, COGe_CFG_CLK_IDLE, COGe_CFG_CLK_EN, COGe_CLAIM_LANE, COGe_CLAIM_EN, COGe_CLAIM_SAFE, COGe_STAT_STATE, COGe_STAT_CLAIM_OK, COGe_STAT_CLAIM_ERR] ++
  [COGe_STAT_PC, COGe_STAT_END, COGe_STAT_TIMEOUT, COGe_STAT_MATCH, COGe_STAT_RESUME_OK, COGe_STAT_FAULT, COGe_STAT_DELAY_LEFT, COGe_SR_SR, COGe_G01_G0, COGe_G01_G1, COGe_PINS_LEVEL, COGe_PINS_OUT, COGe_PINS_DIR, COGe_PINS_SC, COGe_G23_G2, COGe_G23_G3, COGe_LOOPk_START, COGe_LOOPk_END, COGe_LOOPk_REMAIN, COGe_LOOPk_VALID, COG_RXMBXe_m_VALUE, COG_TXMBXe_m_VALUE, COG_STOREa_WORD]

-- CAN_CTRL: R449 (spec/13_can_and_zone_sleep.md).
def CAN_CTRL_MODE : Field := { base := 0x100, lo := 0, width := 3, ty := .rws }
def CAN_CTRL_FD_EN : Field := { base := 0x100, lo := 3, width := 1, ty := .rws, reset := 0x1 }
def CAN_CTRL_PEX_EN : Field := { base := 0x100, lo := 4, width := 1, ty := .rws, reset := 0x1 }
def CAN_CTRL_TDC_EN : Field := { base := 0x100, lo := 5, width := 1, ty := .rws }
def CAN_CTRL_SELF_RX : Field := { base := 0x100, lo := 6, width := 1, ty := .rws }
def CAN_CTRL_RX_RING_EN : Field := { base := 0x100, lo := 7, width := 1, ty := .rws, reset := 0x1 }
def CAN_CTRL_SAFE_STB : Field := { base := 0x100, lo := 8, width := 1, ty := .rws, reset := 0x1 }
def CAN_CTRL_ID_CLASH_LIM : Field := { base := 0x100, lo := 12, width := 4, ty := .rws, reset := 0x3 }

-- CAN_NBT: R449 (spec/13_can_and_zone_sleep.md).
def CAN_NBT_NBRP : Field := { base := 0x104, lo := 0, width := 5, ty := .rws, reset := 0x1 }
def CAN_NBT_NTSEG1 : Field := { base := 0x104, lo := 5, width := 7, ty := .rws, reset := 0x3E }
def CAN_NBT_NTSEG2 : Field := { base := 0x104, lo := 12, width := 5, ty := .rws, reset := 0xF }
def CAN_NBT_NSJW : Field := { base := 0x104, lo := 17, width := 5, ty := .rws, reset := 0xF }

-- CAN_DBT: R449 (spec/13_can_and_zone_sleep.md).
def CAN_DBT_DBRP : Field := { base := 0x108, lo := 0, width := 5, ty := .rws }
def CAN_DBT_DTSEG1 : Field := { base := 0x108, lo := 5, width := 5, ty := .rws, reset := 0x1C }
def CAN_DBT_DTSEG2 : Field := { base := 0x108, lo := 10, width := 4, ty := .rws, reset := 0x9 }
def CAN_DBT_DSJW : Field := { base := 0x108, lo := 14, width := 4, ty := .rws, reset := 0x9 }
def CAN_DBT_TDCO : Field := { base := 0x108, lo := 18, width := 7, ty := .rws, reset := 0x1E }

-- CAN_SCHED: R450 (spec/13_can_and_zone_sleep.md).
def CAN_SCHED_EN : Field := { base := 0x10C, lo := 0, width := 1, ty := .rws }
def CAN_SCHED_FALLBACK : Field := { base := 0x10C, lo := 1, width := 1, ty := .rws }
def CAN_SCHED_CYCLE : Field := { base := 0x10C, lo := 2, width := 4, ty := .rws, reset := 0x3 }
def CAN_SCHED_MATRIX : Field := { base := 0x10C, lo := 6, width := 3, ty := .rws }
def CAN_SCHED_PHASE : Field := { base := 0x10C, lo := 16, width := 16, ty := .rws }

-- CAN_ERR: R450 (spec/13_can_and_zone_sleep.md).
def CAN_ERR_TEC : Field := { base := 0x110, lo := 0, width := 8, ty := .ro }
def CAN_ERR_REC : Field := { base := 0x110, lo := 8, width := 8, ty := .ro }
def CAN_ERR_STATE : Field := { base := 0x110, lo := 16, width := 2, ty := .ro, reset := 0x3 }
def CAN_ERR_LEC : Field := { base := 0x110, lo := 18, width := 3, ty := .ro }
def CAN_ERR_FROZEN : Field := { base := 0x110, lo := 21, width := 1, ty := .ro }
def CAN_ERR_RECOV : Field := { base := 0x110, lo := 24, width := 8, ty := .ro }

-- CAN_STAT: R450 (spec/13_can_and_zone_sleep.md).
def CAN_STAT_TX_ACTIVE : Field := { base := 0x114, lo := 0, width := 1, ty := .ro }
def CAN_STAT_RX_ACTIVE : Field := { base := 0x114, lo := 1, width := 1, ty := .ro }
def CAN_STAT_STANDBY : Field := { base := 0x114, lo := 2, width := 1, ty := .ro }
def CAN_STAT_PARTIAL : Field := { base := 0x114, lo := 3, width := 1, ty := .ro }

-- CAN_CLASH_ID: R450 (spec/13_can_and_zone_sleep.md).
def CAN_CLASH_ID_ID : Field := { base := 0x118, lo := 0, width := 29, ty := .ro }
def CAN_CLASH_ID_IDE : Field := { base := 0x118, lo := 29, width := 1, ty := .ro }

-- CAN_CLASH_BUF: R450 (spec/13_can_and_zone_sleep.md).
def CAN_CLASH_BUF_BUF : Field := { base := 0x11C, lo := 0, width := 5, ty := .ro }

-- CAN_SCHED_STAT: R450 (spec/13_can_and_zone_sleep.md).
def CAN_SCHED_STAT_RUNNING : Field := { base := 0x120, lo := 0, width := 1, ty := .ro }
def CAN_SCHED_STAT_CYCLE_CNT : Field := { base := 0x120, lo := 1, width := 6, ty := .ro }
def CAN_SCHED_STAT_ERR_INDEX : Field := { base := 0x120, lo := 8, width := 6, ty := .ro }
def CAN_SCHED_STAT_ERR : Field := { base := 0x120, lo := 14, width := 1, ty := .ro }

-- CAN_DET_CTRL: R451 (spec/13_can_and_zone_sleep.md).
def CAN_DET_CTRL_START : Field := { base := 0x124, lo := 0, width := 1, ty := .wc }
def CAN_DET_CTRL_AUTO : Field := { base := 0x124, lo := 1, width := 1, ty := .rw }
def CAN_DET_CTRL_CANDS : Field := { base := 0x124, lo := 4, width := 3, ty := .rw, reset := 0x7 }
def CAN_DET_CTRL_DWELL : Field := { base := 0x124, lo := 8, width := 8, ty := .rw, reset := 0x64 }
def CAN_DET_CTRL_FRAMES : Field := { base := 0x124, lo := 16, width := 4, ty := .rw, reset := 0x2 }

-- CAN_DET_STAT: R451 (spec/13_can_and_zone_sleep.md).
def CAN_DET_STAT_RUNNING : Field := { base := 0x128, lo := 0, width := 1, ty := .ro }
def CAN_DET_STAT_DONE : Field := { base := 0x128, lo := 1, width := 1, ty := .ro }
def CAN_DET_STAT_FOUND : Field := { base := 0x128, lo := 2, width := 1, ty := .ro }
def CAN_DET_STAT_CAND : Field := { base := 0x128, lo := 3, width := 3, ty := .ro }
def CAN_DET_STAT_MIN_PULSE : Field := { base := 0x128, lo := 8, width := 16, ty := .ro, reset := 0xFFFF }

-- CAN_DETCANDk: R451 (spec/13_can_and_zone_sleep.md).
def CAN_DETCANDk_TIMING : Field := { base := 0x130, lo := 0, width := 32, ty := .rw, stride := 0x4, count := 8 }

-- CAN_TX_PEND: R452 (spec/13_can_and_zone_sleep.md).
def CAN_TX_PEND_PEND : Field := { base := 0x150, lo := 0, width := 32, ty := .ro }

-- CAN_TX_DONE: R452 (spec/13_can_and_zone_sleep.md).
def CAN_TX_DONE_DONE : Field := { base := 0x154, lo := 0, width := 32, ty := .w1c }

-- CAN_TXB_SEL: R452 (spec/13_can_and_zone_sleep.md).
def CAN_TXB_SEL_BUF : Field := { base := 0x158, lo := 0, width := 5, ty := .rw }

-- CAN_TXB_CMD: R452 (spec/13_can_and_zone_sleep.md).
def CAN_TXB_CMD_CMD : Field := { base := 0x15C, lo := 0, width := 4, ty := .wc }
def CAN_TXB_CMD_BUF : Field := { base := 0x15C, lo := 8, width := 5, ty := .wc }

-- CAN_TXB_RES: R452 (spec/13_can_and_zone_sleep.md).
def CAN_TXB_RES_RESULT : Field := { base := 0x160, lo := 0, width := 3, ty := .ro }

-- CAN_TXB_STATE: R452 (spec/13_can_and_zone_sleep.md).
def CAN_TXB_STATE_STATE : Field := { base := 0x164, lo := 0, width := 3, ty := .ro }
def CAN_TXB_STATE_LAST : Field := { base := 0x164, lo := 4, width := 3, ty := .ro }
def CAN_TXB_STATE_REQ_LATCHED : Field := { base := 0x164, lo := 7, width := 1, ty := .ro }
def CAN_TXB_STATE_MISSES : Field := { base := 0x164, lo := 8, width := 8, ty := .ro }
def CAN_TXB_STATE_CLASH_CNT : Field := { base := 0x164, lo := 16, width := 4, ty := .ro }

-- CAN_TXB_ID: R452 (spec/13_can_and_zone_sleep.md).
def CAN_TXB_ID_ID : Field := { base := 0x170, lo := 0, width := 29, ty := .rw }
def CAN_TXB_ID_IDE : Field := { base := 0x170, lo := 29, width := 1, ty := .rw }
def CAN_TXB_ID_RTR : Field := { base := 0x170, lo := 30, width := 1, ty := .rw }
def CAN_TXB_ID_FDF : Field := { base := 0x170, lo := 31, width := 1, ty := .rw }

-- CAN_TXB_CTL: R452 (spec/13_can_and_zone_sleep.md).
def CAN_TXB_CTL_DLC : Field := { base := 0x174, lo := 0, width := 4, ty := .rw }
def CAN_TXB_CTL_BRS : Field := { base := 0x174, lo := 4, width := 1, ty := .rw }
def CAN_TXB_CTL_ONE_SHOT : Field := { base := 0x174, lo := 5, width := 1, ty := .rw }
def CAN_TXB_CTL_STAMP : Field := { base := 0x174, lo := 6, width := 1, ty := .rw }
def CAN_TXB_CTL_AUTO : Field := { base := 0x174, lo := 7, width := 1, ty := .rw }
def CAN_TXB_CTL_TAG : Field := { base := 0x174, lo := 16, width := 16, ty := .rw }

-- CAN_TXB_DATAj: R452 (spec/13_can_and_zone_sleep.md).
def CAN_TXB_DATAj_DATA : Field := { base := 0x180, lo := 0, width := 32, ty := .rw, stride := 0x4, count := 16 }

-- CAN_RX_STAT: R453 (spec/13_can_and_zone_sleep.md).
def CAN_RX_STAT_FILL : Field := { base := 0x1C0, lo := 0, width := 9, ty := .ro }
def CAN_RX_STAT_OVF : Field := { base := 0x1C0, lo := 9, width := 1, ty := .w1c }
def CAN_RX_STAT_OVF_COUNT : Field := { base := 0x1C0, lo := 16, width := 16, ty := .ro }

-- CAN_RX_WEIR: R453 (spec/13_can_and_zone_sleep.md).
def CAN_RX_WEIR_LEVEL : Field := { base := 0x1C4, lo := 0, width := 9, ty := .rw, reset := 0x80 }

-- CAN_RXEk: R453 (spec/13_can_and_zone_sleep.md).
def CAN_RXEk_ENTRY : Field := { base := 0x200, lo := 0, width := 32, ty := .ro, stride := 0x4, count := 20 }

-- CAN_RMBXk_ID: R453 (spec/13_can_and_zone_sleep.md).
def CAN_RMBXk_ID_ID : Field := { base := 0x300, lo := 0, width := 29, ty := .rws, stride := 0x10, count := 16 }
def CAN_RMBXk_ID_IDE : Field := { base := 0x300, lo := 29, width := 1, ty := .rws, stride := 0x10, count := 16 }
def CAN_RMBXk_ID_EN : Field := { base := 0x300, lo := 31, width := 1, ty := .rws, stride := 0x10, count := 16 }

-- CAN_RMBXk_MASK: R453 (spec/13_can_and_zone_sleep.md).
def CAN_RMBXk_MASK_MASK : Field := { base := 0x304, lo := 0, width := 29, ty := .rws, stride := 0x10, count := 16, reset := 0x1FFFFFFF }

-- CAN_RMBXk_EXT: R453 (spec/13_can_and_zone_sleep.md).
def CAN_RMBXk_EXT_BYTE : Field := { base := 0x308, lo := 0, width := 6, ty := .rws, stride := 0x10, count := 16 }
def CAN_RMBXk_EXT_BE : Field := { base := 0x308, lo := 6, width := 1, ty := .rws, stride := 0x10, count := 16 }
def CAN_RMBXk_EXT_SHIFT : Field := { base := 0x308, lo := 8, width := 5, ty := .rws, stride := 0x10, count := 16 }

-- CAN_RMBXk_VAL: R453 (spec/13_can_and_zone_sleep.md).
def CAN_RMBXk_VAL_VALUE : Field := { base := 0x30C, lo := 0, width := 32, ty := .ro, stride := 0x10, count := 16 }

-- CAN_TMBXk_CFG: R453 (spec/13_can_and_zone_sleep.md).
def CAN_TMBXk_CFG_BUF : Field := { base := 0x400, lo := 0, width := 5, ty := .rws, stride := 0x8, count := 8 }
def CAN_TMBXk_CFG_BYTE : Field := { base := 0x400, lo := 5, width := 6, ty := .rws, stride := 0x8, count := 8 }
def CAN_TMBXk_CFG_NBYTES : Field := { base := 0x400, lo := 11, width := 2, ty := .rws, stride := 0x8, count := 8, reset := 0x3 }
def CAN_TMBXk_CFG_BE : Field := { base := 0x400, lo := 13, width := 1, ty := .rws, stride := 0x8, count := 8 }
def CAN_TMBXk_CFG_MODE : Field := { base := 0x400, lo := 14, width := 2, ty := .rws, stride := 0x8, count := 8 }

-- CAN_TMBXk_VAL: R453 (spec/13_can_and_zone_sleep.md).
def CAN_TMBXk_VAL_VALUE : Field := { base := 0x404, lo := 0, width := 32, ty := .ro, stride := 0x8, count := 8 }

-- CAN_SLOTk_A: R454 (spec/13_can_and_zone_sleep.md).
def CAN_SLOTk_A_START : Field := { base := 0x800, lo := 0, width := 16, ty := .rws, stride := 0x8, count := 64 }
def CAN_SLOTk_A_BUF : Field := { base := 0x800, lo := 16, width := 5, ty := .rws, stride := 0x8, count := 64 }
def CAN_SLOTk_A_KIND : Field := { base := 0x800, lo := 22, width := 2, ty := .rws, stride := 0x8, count := 64 }
def CAN_SLOTk_A_WIN : Field := { base := 0x800, lo := 24, width := 8, ty := .rws, stride := 0x8, count := 64 }

-- CAN_SLOTk_B: R454 (spec/13_can_and_zone_sleep.md).
def CAN_SLOTk_B_BASE : Field := { base := 0x804, lo := 0, width := 6, ty := .rws, stride := 0x8, count := 64 }
def CAN_SLOTk_B_REPEAT : Field := { base := 0x804, lo := 6, width := 3, ty := .rws, stride := 0x8, count := 64 }

/-- The fields of a page of kind `can`. -/
def canFields : List Field :=
  [CAN_CTRL_MODE, CAN_CTRL_FD_EN, CAN_CTRL_PEX_EN, CAN_CTRL_TDC_EN, CAN_CTRL_SELF_RX, CAN_CTRL_RX_RING_EN, CAN_CTRL_SAFE_STB, CAN_CTRL_ID_CLASH_LIM, CAN_NBT_NBRP, CAN_NBT_NTSEG1, CAN_NBT_NTSEG2, CAN_NBT_NSJW, CAN_DBT_DBRP, CAN_DBT_DTSEG1, CAN_DBT_DTSEG2, CAN_DBT_DSJW, CAN_DBT_TDCO, CAN_SCHED_EN, CAN_SCHED_FALLBACK, CAN_SCHED_CYCLE, CAN_SCHED_MATRIX, CAN_SCHED_PHASE, CAN_ERR_TEC, CAN_ERR_REC] ++
  [CAN_ERR_STATE, CAN_ERR_LEC, CAN_ERR_FROZEN, CAN_ERR_RECOV, CAN_STAT_TX_ACTIVE, CAN_STAT_RX_ACTIVE, CAN_STAT_STANDBY, CAN_STAT_PARTIAL, CAN_CLASH_ID_ID, CAN_CLASH_ID_IDE, CAN_CLASH_BUF_BUF, CAN_SCHED_STAT_RUNNING, CAN_SCHED_STAT_CYCLE_CNT, CAN_SCHED_STAT_ERR_INDEX, CAN_SCHED_STAT_ERR, CAN_DET_CTRL_START, CAN_DET_CTRL_AUTO, CAN_DET_CTRL_CANDS, CAN_DET_CTRL_DWELL, CAN_DET_CTRL_FRAMES, CAN_DET_STAT_RUNNING, CAN_DET_STAT_DONE, CAN_DET_STAT_FOUND, CAN_DET_STAT_CAND] ++
  [CAN_DET_STAT_MIN_PULSE, CAN_DETCANDk_TIMING, CAN_TX_PEND_PEND, CAN_TX_DONE_DONE, CAN_TXB_SEL_BUF, CAN_TXB_CMD_CMD, CAN_TXB_CMD_BUF, CAN_TXB_RES_RESULT, CAN_TXB_STATE_STATE, CAN_TXB_STATE_LAST, CAN_TXB_STATE_REQ_LATCHED, CAN_TXB_STATE_MISSES, CAN_TXB_STATE_CLASH_CNT, CAN_TXB_ID_ID, CAN_TXB_ID_IDE, CAN_TXB_ID_RTR, CAN_TXB_ID_FDF, CAN_TXB_CTL_DLC, CAN_TXB_CTL_BRS, CAN_TXB_CTL_ONE_SHOT, CAN_TXB_CTL_STAMP, CAN_TXB_CTL_AUTO, CAN_TXB_CTL_TAG, CAN_TXB_DATAj_DATA] ++
  [CAN_RX_STAT_FILL, CAN_RX_STAT_OVF, CAN_RX_STAT_OVF_COUNT, CAN_RX_WEIR_LEVEL, CAN_RXEk_ENTRY, CAN_RMBXk_ID_ID, CAN_RMBXk_ID_IDE, CAN_RMBXk_ID_EN, CAN_RMBXk_MASK_MASK, CAN_RMBXk_EXT_BYTE, CAN_RMBXk_EXT_BE, CAN_RMBXk_EXT_SHIFT, CAN_RMBXk_VAL_VALUE, CAN_TMBXk_CFG_BUF, CAN_TMBXk_CFG_BYTE, CAN_TMBXk_CFG_NBYTES, CAN_TMBXk_CFG_BE, CAN_TMBXk_CFG_MODE, CAN_TMBXk_VAL_VALUE, CAN_SLOTk_A_START, CAN_SLOTk_A_BUF, CAN_SLOTk_A_KIND, CAN_SLOTk_A_WIN, CAN_SLOTk_B_BASE] ++
  [CAN_SLOTk_B_REPEAT]

-- ZONEz_CFG: R456 (spec/13_can_and_zone_sleep.md).
def ZONEz_CFG_EN : Field := { base := 0x100, lo := 0, width := 1, ty := .rws, stride := 0x20, count := 8 }
def ZONEz_CFG_KIND : Field := { base := 0x100, lo := 1, width := 1, ty := .rws, stride := 0x20, count := 8 }
def ZONEz_CFG_WAKE_ON_TX : Field := { base := 0x100, lo := 2, width := 1, ty := .rws, stride := 0x20, count := 8, reset := 0x1 }
def ZONEz_CFG_ENTER : Field := { base := 0x100, lo := 4, width := 8, ty := .rws, stride := 0x20, count := 8, reset := 0xA }
def ZONEz_CFG_WAKE_PULSE : Field := { base := 0x100, lo := 12, width := 8, ty := .rws, stride := 0x20, count := 8, reset := 0xA }
def ZONEz_CFG_WAKE_TRIES : Field := { base := 0x100, lo := 20, width := 4, ty := .rws, stride := 0x20, count := 8, reset := 0x3 }

-- ZONEz_IDS_A: R456 (spec/13_can_and_zone_sleep.md).
def ZONEz_IDS_A_REQ_ID : Field := { base := 0x104, lo := 0, width := 11, ty := .rws, stride := 0x20, count := 8 }
def ZONEz_IDS_A_CMD_ID : Field := { base := 0x104, lo := 16, width := 11, ty := .rws, stride := 0x20, count := 8 }

-- ZONEz_IDS_B: R456 (spec/13_can_and_zone_sleep.md).
def ZONEz_IDS_B_REPLY_BASE : Field := { base := 0x108, lo := 0, width := 11, ty := .rws, stride := 0x20, count := 8 }
def ZONEz_IDS_B_WAKE_ID : Field := { base := 0x108, lo := 16, width := 11, ty := .rws, stride := 0x20, count := 8 }

-- ZONEz_MEMBERS: R456 (spec/13_can_and_zone_sleep.md).
def ZONEz_MEMBERS_MEMBERS : Field := { base := 0x10C, lo := 0, width := 32, ty := .rws, stride := 0x20, count := 8 }

-- ZONEz_TIMING: R456 (spec/13_can_and_zone_sleep.md).
def ZONEz_TIMING_AGREE_WIN : Field := { base := 0x110, lo := 0, width := 8, ty := .rws, stride := 0x20, count := 8, reset := 0x14 }
def ZONEz_TIMING_WAKE_RSP : Field := { base := 0x110, lo := 8, width := 8, ty := .rws, stride := 0x20, count := 8, reset := 0x14 }

-- ZONEz_STAT: R456 (spec/13_can_and_zone_sleep.md).
def ZONEz_STAT_STATE : Field := { base := 0x114, lo := 0, width := 3, ty := .ro, stride := 0x20, count := 8 }
def ZONEz_STAT_WAKE_LATCHED : Field := { base := 0x114, lo := 3, width := 1, ty := .ro, stride := 0x20, count := 8 }
def ZONEz_STAT_RESULT : Field := { base := 0x114, lo := 4, width := 3, ty := .ro, stride := 0x20, count := 8 }
def ZONEz_STAT_SEQ : Field := { base := 0x114, lo := 8, width := 8, ty := .ro, stride := 0x20, count := 8 }
def ZONEz_STAT_TRIES : Field := { base := 0x114, lo := 16, width := 4, ty := .ro, stride := 0x20, count := 8 }
def ZONEz_STAT_WAKE_SRC : Field := { base := 0x114, lo := 20, width := 5, ty := .ro, stride := 0x20, count := 8 }

-- ZONEz_REPLIED: R456 (spec/13_can_and_zone_sleep.md).
def ZONEz_REPLIED_REPLIED : Field := { base := 0x118, lo := 0, width := 32, ty := .ro, stride := 0x20, count := 8 }

-- ZONE_CMD: R457 (spec/13_can_and_zone_sleep.md).
def ZONE_CMD_ZONE : Field := { base := 0x200, lo := 0, width := 3, ty := .wc }
def ZONE_CMD_CMD : Field := { base := 0x200, lo := 4, width := 4, ty := .wc }

-- ZONE_RES: R457 (spec/13_can_and_zone_sleep.md).
def ZONE_RES_RESULT : Field := { base := 0x204, lo := 0, width := 2, ty := .ro }

/-- The fields of a page of kind `zone`. -/
def zoneFields : List Field :=
  [ZONEz_CFG_EN, ZONEz_CFG_KIND, ZONEz_CFG_WAKE_ON_TX, ZONEz_CFG_ENTER, ZONEz_CFG_WAKE_PULSE, ZONEz_CFG_WAKE_TRIES, ZONEz_IDS_A_REQ_ID, ZONEz_IDS_A_CMD_ID, ZONEz_IDS_B_REPLY_BASE, ZONEz_IDS_B_WAKE_ID, ZONEz_MEMBERS_MEMBERS, ZONEz_TIMING_AGREE_WIN, ZONEz_TIMING_WAKE_RSP, ZONEz_STAT_STATE, ZONEz_STAT_WAKE_LATCHED, ZONEz_STAT_RESULT, ZONEz_STAT_SEQ, ZONEz_STAT_TRIES, ZONEz_STAT_WAKE_SRC, ZONEz_REPLIED_REPLIED, ZONE_CMD_ZONE, ZONE_CMD_CMD, ZONE_RES_RESULT]

-- PWD_STAT: R479 (spec/14_sluices_power.md).
def PWD_STAT_VIN_OK : Field := { base := 0x100, lo := 0, width := 1, ty := .ro }
def PWD_STAT_OV : Field := { base := 0x100, lo := 1, width := 1, ty := .ro }
def PWD_STAT_PFW0 : Field := { base := 0x100, lo := 2, width := 1, ty := .ro, reset := 0x1 }
def PWD_STAT_PFW1 : Field := { base := 0x100, lo := 3, width := 1, ty := .ro, reset := 0x1 }
def PWD_STAT_TAMPER : Field := { base := 0x100, lo := 4, width := 1, ty := .ro }
def PWD_STAT_THERMAL : Field := { base := 0x100, lo := 5, width := 1, ty := .ro }

-- PWD_VIN: R479 (spec/14_sluices_power.md).
def PWD_VIN_VIN : Field := { base := 0x104, lo := 0, width := 16, ty := .ro }
def PWD_VIN_VIN_MIN : Field := { base := 0x104, lo := 16, width := 16, ty := .ro, reset := 0xFFFF }

-- PWD_PFW: R479 (spec/14_sluices_power.md).
def PWD_PFW_PFW0_THR : Field := { base := 0x108, lo := 0, width := 8, ty := .rws, reset := 0x14 }
def PWD_PFW_PFW1_THR : Field := { base := 0x108, lo := 8, width := 8, ty := .rws, reset := 0xA }

-- PWD_CMD: R479 (spec/14_sluices_power.md).
def PWD_CMD_CMD : Field := { base := 0x10C, lo := 0, width := 4, ty := .wc }
def PWD_CMD_OFF_TIME : Field := { base := 0x10C, lo := 8, width := 8, ty := .wc }
def PWD_CMD_KEY : Field := { base := 0x10C, lo := 24, width := 8, ty := .wc }

-- PWD_TEMP: R479 (spec/14_sluices_power.md).
def PWD_TEMP_TEMP : Field := { base := 0x110, lo := 0, width := 16, ty := .ro }

/-- The fields of a page of kind `pwd`. -/
def pwdFields : List Field :=
  [PWD_STAT_VIN_OK, PWD_STAT_OV, PWD_STAT_PFW0, PWD_STAT_PFW1, PWD_STAT_TAMPER, PWD_STAT_THERMAL, PWD_VIN_VIN, PWD_VIN_VIN_MIN, PWD_PFW_PFW0_THR, PWD_PFW_PFW1_THR, PWD_CMD_CMD, PWD_CMD_OFF_TIME, PWD_CMD_KEY, PWD_TEMP_TEMP]

-- SLU_CFG: R481 (spec/14_sluices_power.md).
def SLU_CFG_ILIM : Field := { base := 0x100, lo := 0, width := 7, ty := .rws, reset := 0x32 }
def SLU_CFG_TIMER : Field := { base := 0x100, lo := 8, width := 8, ty := .rws, reset := 0x32 }
def SLU_CFG_RAMP : Field := { base := 0x100, lo := 16, width := 8, ty := .rws, reset := 0x14 }
def SLU_CFG_PG_MODE : Field := { base := 0x100, lo := 24, width := 1, ty := .rws }
def SLU_CFG_SRC : Field := { base := 0x100, lo := 25, width := 1, ty := .rws }
def SLU_CFG_SAFE : Field := { base := 0x100, lo := 26, width := 2, ty := .rws, reset := 0x2 }
def SLU_CFG_OV_OFF : Field := { base := 0x100, lo := 28, width := 1, ty := .rws, reset := 0x1 }

-- SLU_CFG2: R481 (spec/14_sluices_power.md).
def SLU_CFG2_PG_DROP : Field := { base := 0x104, lo := 0, width := 8, ty := .rws, reset := 0xA }
def SLU_CFG2_PG_FLOOR : Field := { base := 0x104, lo := 8, width := 8, ty := .rws, reset := 0xB4 }
def SLU_CFG2_PG_QUAL : Field := { base := 0x104, lo := 16, width := 8, ty := .rws, reset := 0xA }

-- SLU_RETRY: R481 (spec/14_sluices_power.md).
def SLU_RETRY_RETRY_MAX : Field := { base := 0x108, lo := 0, width := 4, ty := .rws, reset := 0x3 }
def SLU_RETRY_RETRY_DELAY : Field := { base := 0x108, lo := 8, width := 8, ty := .rws, reset := 0xA }

-- SLU_CMD: R482 (spec/14_sluices_power.md).
def SLU_CMD_CMD : Field := { base := 0x10C, lo := 0, width := 4, ty := .wc }

-- SLU_STAT: R482 (spec/14_sluices_power.md).
def SLU_STAT_STATE : Field := { base := 0x110, lo := 0, width := 3, ty := .ro }
def SLU_STAT_LEVEL : Field := { base := 0x110, lo := 3, width := 1, ty := .ro }
def SLU_STAT_PG : Field := { base := 0x110, lo := 4, width := 1, ty := .ro }
def SLU_STAT_LIMIT : Field := { base := 0x110, lo := 5, width := 1, ty := .ro }
def SLU_STAT_CAUSE : Field := { base := 0x110, lo := 6, width := 3, ty := .ro }
def SLU_STAT_RETRIES : Field := { base := 0x110, lo := 9, width := 4, ty := .ro }
def SLU_STAT_LATCHED : Field := { base := 0x110, lo := 13, width := 1, ty := .ro }

-- SLU_MEAS: R482 (spec/14_sluices_power.md).
def SLU_MEAS_VOUT : Field := { base := 0x114, lo := 0, width := 16, ty := .ro }
def SLU_MEAS_CURRENT : Field := { base := 0x114, lo := 16, width := 16, ty := .ro }

-- SLU_FTIMER: R482 (spec/14_sluices_power.md).
def SLU_FTIMER_COUNT : Field := { base := 0x118, lo := 0, width := 16, ty := .ro }

-- SLU_SENSE: R482 (spec/14_sluices_power.md).
def SLU_SENSE_RSENSE : Field := { base := 0x11C, lo := 0, width := 16, ty := .rw, reset := 0x1F4 }
def SLU_SENSE_TRIM : Field := { base := 0x11C, lo := 16, width := 16, ty := .ro }

/-- The fields of a page of kind `slu`. -/
def sluFields : List Field :=
  [SLU_CFG_ILIM, SLU_CFG_TIMER, SLU_CFG_RAMP, SLU_CFG_PG_MODE, SLU_CFG_SRC, SLU_CFG_SAFE, SLU_CFG_OV_OFF, SLU_CFG2_PG_DROP, SLU_CFG2_PG_FLOOR, SLU_CFG2_PG_QUAL, SLU_RETRY_RETRY_MAX, SLU_RETRY_RETRY_DELAY, SLU_CMD_CMD, SLU_STAT_STATE, SLU_STAT_LEVEL, SLU_STAT_PG, SLU_STAT_LIMIT, SLU_STAT_CAUSE, SLU_STAT_RETRIES, SLU_STAT_LATCHED, SLU_MEAS_VOUT, SLU_MEAS_CURRENT, SLU_FTIMER_COUNT, SLU_SENSE_RSENSE] ++
  [SLU_SENSE_TRIM]

-- BRG_CFG: R503 (spec/15_bridge.md).
def BRG_CFG_MODE : Field := { base := 0x100, lo := 0, width := 1, ty := .rw }
def BRG_CFG_REMOTE_WR : Field := { base := 0x100, lo := 1, width := 1, ty := .rw, reset := 0x1 }
def BRG_CFG_READ_TMO : Field := { base := 0x100, lo := 8, width := 8, ty := .rw, reset := 0xA }
def BRG_CFG_BRG_WAIT : Field := { base := 0x100, lo := 16, width := 8, ty := .rw, reset := 0xA }
def BRG_CFG_COLLECT_TMO : Field := { base := 0x100, lo := 24, width := 8, ty := .rw, reset := 0xA }

-- BRG_CFG2: R503 (spec/15_bridge.md).
def BRG_CFG2_BACKOFF : Field := { base := 0x104, lo := 0, width := 8, ty := .rw, reset := 0x2 }
def BRG_CFG2_PF_LIFE : Field := { base := 0x104, lo := 8, width := 8, ty := .rw, reset := 0x32 }

-- BRG_STAT: R503 (spec/15_bridge.md).
def BRG_STAT_COLLECT : Field := { base := 0x108, lo := 0, width := 1, ty := .ro, reset := 0x1 }
def BRG_STAT_READS : Field := { base := 0x108, lo := 8, width := 4, ty := .ro }
def BRG_STAT_SLOTS : Field := { base := 0x108, lo := 16, width := 5, ty := .ro }

-- BRG_TAG: R503 (spec/15_bridge.md).
def BRG_TAG_TAG : Field := { base := 0x10C, lo := 0, width := 16, ty := .rw }

-- BRG_PFRANGEk_A: R504 (spec/15_bridge.md).
def BRG_PFRANGEk_A_BASE : Field := { base := 0x110, lo := 0, width := 29, ty := .rw, stride := 0x8, count := 8 }
def BRG_PFRANGEk_A_EN : Field := { base := 0x110, lo := 31, width := 1, ty := .rw, stride := 0x8, count := 8 }

-- BRG_PFRANGEk_B: R504 (spec/15_bridge.md).
def BRG_PFRANGEk_B_LIMIT : Field := { base := 0x114, lo := 0, width := 29, ty := .rw, stride := 0x8, count := 8 }

-- BRG_MCW_CFG: R505 (spec/15_bridge.md).
def BRG_MCW_CFG_GROUP : Field := { base := 0x150, lo := 0, width := 6, ty := .rw }
def BRG_MCW_CFG_BCAST : Field := { base := 0x150, lo := 6, width := 1, ty := .rw }
def BRG_MCW_CFG_SIZE8 : Field := { base := 0x150, lo := 7, width := 1, ty := .rw }

-- BRG_MCW_ADDR: R505 (spec/15_bridge.md).
def BRG_MCW_ADDR_ADDR : Field := { base := 0x154, lo := 0, width := 29, ty := .rw }

-- BRG_MCW_DATA_LO: R505 (spec/15_bridge.md).
def BRG_MCW_DATA_LO_DATA : Field := { base := 0x158, lo := 0, width := 32, ty := .rw }

-- BRG_MCW_DATA_HI: R505 (spec/15_bridge.md).
def BRG_MCW_DATA_HI_DATA : Field := { base := 0x15C, lo := 0, width := 32, ty := .rw }

-- BRG_MCW_CMD: R505 (spec/15_bridge.md).
def BRG_MCW_CMD_SEND : Field := { base := 0x160, lo := 0, width := 1, ty := .wc }

-- BRG_CREQ_ADDR_LO: R505 (spec/15_bridge.md).
def BRG_CREQ_ADDR_LO_ADDR : Field := { base := 0x170, lo := 0, width := 32, ty := .rw }

-- BRG_CREQ_ADDR_HI: R505 (spec/15_bridge.md).
def BRG_CREQ_ADDR_HI_ADDR : Field := { base := 0x174, lo := 0, width := 32, ty := .rw }

-- BRG_CREQ_CMD: R505 (spec/15_bridge.md).
def BRG_CREQ_CMD_LEN : Field := { base := 0x178, lo := 0, width := 9, ty := .wc }
def BRG_CREQ_CMD_GO : Field := { base := 0x178, lo := 9, width := 1, ty := .wc }

-- BRG_CREQ_RES: R505 (spec/15_bridge.md).
def BRG_CREQ_RES_SLOT : Field := { base := 0x17C, lo := 0, width := 4, ty := .ro }
def BRG_CREQ_RES_RESULT : Field := { base := 0x17C, lo := 4, width := 3, ty := .ro }
def BRG_CREQ_RES_GEN : Field := { base := 0x17C, lo := 8, width := 8, ty := .ro }

-- BRG_PERR_HEADn: R506 (spec/15_bridge.md).
def BRG_PERR_HEADn_ENTRY : Field := { base := 0x180, lo := 0, width := 32, ty := .ro, stride := 0x4, count := 8 }

-- BRG_PERR_POP: R506 (spec/15_bridge.md).
def BRG_PERR_POP_POP : Field := { base := 0x1A0, lo := 0, width := 1, ty := .wc }

-- BRG_PERR_STAT: R506 (spec/15_bridge.md).
def BRG_PERR_STAT_FILL : Field := { base := 0x1A4, lo := 0, width := 5, ty := .ro }
def BRG_PERR_STAT_OVF : Field := { base := 0x1A4, lo := 5, width := 1, ty := .w1c }
def BRG_PERR_STAT_OVF_COUNT : Field := { base := 0x1A4, lo := 16, width := 16, ty := .ro }

-- BRG_SLOTn_STAT: R506 (spec/15_bridge.md).
def BRG_SLOTn_STAT_STATE : Field := { base := 0x200, lo := 0, width := 2, ty := .ro, stride := 0x4, count := 16 }
def BRG_SLOTn_STAT_STATUS : Field := { base := 0x200, lo := 4, width := 4, ty := .ro, stride := 0x4, count := 16 }
def BRG_SLOTn_STAT_LEN : Field := { base := 0x200, lo := 8, width := 9, ty := .ro, stride := 0x4, count := 16 }
def BRG_SLOTn_STAT_GEN : Field := { base := 0x200, lo := 24, width := 8, ty := .ro, stride := 0x4, count := 16 }

-- BRG_SLOT_SEL: R506 (spec/15_bridge.md).
def BRG_SLOT_SEL_SLOT : Field := { base := 0x240, lo := 0, width := 4, ty := .rw }

-- BRG_SLOT_CMD: R506 (spec/15_bridge.md).
def BRG_SLOT_CMD_SLOT : Field := { base := 0x244, lo := 0, width := 4, ty := .wc }
def BRG_SLOT_CMD_COLLECT : Field := { base := 0x244, lo := 4, width := 1, ty := .wc }

-- BRG_SLOT_DATAw: R506 (spec/15_bridge.md).
def BRG_SLOT_DATAw_DATA : Field := { base := 0x300, lo := 0, width := 32, ty := .ro, stride := 0x4, count := 64 }

/-- The fields of a page of kind `brg`. -/
def brgFields : List Field :=
  [BRG_CFG_MODE, BRG_CFG_REMOTE_WR, BRG_CFG_READ_TMO, BRG_CFG_BRG_WAIT, BRG_CFG_COLLECT_TMO, BRG_CFG2_BACKOFF, BRG_CFG2_PF_LIFE, BRG_STAT_COLLECT, BRG_STAT_READS, BRG_STAT_SLOTS, BRG_TAG_TAG, BRG_PFRANGEk_A_BASE, BRG_PFRANGEk_A_EN, BRG_PFRANGEk_B_LIMIT, BRG_MCW_CFG_GROUP, BRG_MCW_CFG_BCAST, BRG_MCW_CFG_SIZE8, BRG_MCW_ADDR_ADDR, BRG_MCW_DATA_LO_DATA, BRG_MCW_DATA_HI_DATA, BRG_MCW_CMD_SEND, BRG_CREQ_ADDR_LO_ADDR, BRG_CREQ_ADDR_HI_ADDR, BRG_CREQ_CMD_LEN] ++
  [BRG_CREQ_CMD_GO, BRG_CREQ_RES_SLOT, BRG_CREQ_RES_RESULT, BRG_CREQ_RES_GEN, BRG_PERR_HEADn_ENTRY, BRG_PERR_POP_POP, BRG_PERR_STAT_FILL, BRG_PERR_STAT_OVF, BRG_PERR_STAT_OVF_COUNT, BRG_SLOTn_STAT_STATE, BRG_SLOTn_STAT_STATUS, BRG_SLOTn_STAT_LEN, BRG_SLOTn_STAT_GEN, BRG_SLOT_SEL_SLOT, BRG_SLOT_CMD_SLOT, BRG_SLOT_CMD_COLLECT, BRG_SLOT_DATAw_DATA]

-- PCIE_STAT: R517 (spec/16_host_service_ports.md).
def PCIE_STAT_LINK_UP : Field := { base := 0x100, lo := 0, width := 1, ty := .ro }
def PCIE_STAT_SPEED : Field := { base := 0x100, lo := 1, width := 2, ty := .ro }
def PCIE_STAT_WIDTH : Field := { base := 0x100, lo := 3, width := 3, ty := .ro }
def PCIE_STAT_BME : Field := { base := 0x100, lo := 6, width := 1, ty := .ro }
def PCIE_STAT_MSIX_EN : Field := { base := 0x100, lo := 7, width := 1, ty := .ro }
def PCIE_STAT_FMASK : Field := { base := 0x100, lo := 8, width := 1, ty := .ro }
def PCIE_STAT_D3 : Field := { base := 0x100, lo := 9, width := 1, ty := .ro }

-- PCIE_ERR_ADDR_LO: R517 (spec/16_host_service_ports.md).
def PCIE_ERR_ADDR_LO_ADDR : Field := { base := 0x108, lo := 0, width := 32, ty := .ro }

-- PCIE_ERR_ADDR_HI: R517 (spec/16_host_service_ports.md).
def PCIE_ERR_ADDR_HI_ADDR : Field := { base := 0x10C, lo := 0, width := 32, ty := .ro }

-- PCIE_ERR_STAT: R517 (spec/16_host_service_ports.md).
def PCIE_ERR_STAT_STATUS : Field := { base := 0x110, lo := 0, width := 4, ty := .ro }
def PCIE_ERR_STAT_BAR2 : Field := { base := 0x110, lo := 4, width := 1, ty := .ro }
def PCIE_ERR_STAT_WRITE : Field := { base := 0x110, lo := 5, width := 1, ty := .ro }
def PCIE_ERR_STAT_VALID : Field := { base := 0x110, lo := 7, width := 1, ty := .w1c }
def PCIE_ERR_STAT_COUNT : Field := { base := 0x110, lo := 16, width := 16, ty := .ro }

-- PCIE_WINk: R517 (spec/16_host_service_ports.md).
def PCIE_WINk_NODE : Field := { base := 0x200, lo := 0, width := 11, ty := .rw, stride := 0x4, count := 64 }
def PCIE_WINk_BASE : Field := { base := 0x200, lo := 16, width := 5, ty := .rw, stride := 0x4, count := 64 }
def PCIE_WINk_EN : Field := { base := 0x200, lo := 31, width := 1, ty := .rw, stride := 0x4, count := 64 }

/-- The fields of a page of kind `pcie`. -/
def pcieFields : List Field :=
  [PCIE_STAT_LINK_UP, PCIE_STAT_SPEED, PCIE_STAT_WIDTH, PCIE_STAT_BME, PCIE_STAT_MSIX_EN, PCIE_STAT_FMASK, PCIE_STAT_D3, PCIE_ERR_ADDR_LO_ADDR, PCIE_ERR_ADDR_HI_ADDR, PCIE_ERR_STAT_STATUS, PCIE_ERR_STAT_BAR2, PCIE_ERR_STAT_WRITE, PCIE_ERR_STAT_VALID, PCIE_ERR_STAT_COUNT, PCIE_WINk_NODE, PCIE_WINk_BASE, PCIE_WINk_EN]

-- QSH_STAT: R525 (spec/16_host_service_ports.md).
def QSH_STAT_BUSY : Field := { base := 0x100, lo := 0, width := 1, ty := .ro }
def QSH_STAT_LAST_QUAD : Field := { base := 0x100, lo := 1, width := 1, ty := .ro }
def QSH_STAT_LAST_STATUS : Field := { base := 0x100, lo := 8, width := 8, ty := .ro }
def QSH_STAT_LAST_OP : Field := { base := 0x100, lo := 16, width := 4, ty := .ro }

-- QSH_ERR: R525 (spec/16_host_service_ports.md).
def QSH_ERR_HCRC : Field := { base := 0x104, lo := 0, width := 1, ty := .w1c }
def QSH_ERR_DCRC : Field := { base := 0x104, lo := 1, width := 1, ty := .w1c }
def QSH_ERR_ABORT : Field := { base := 0x104, lo := 2, width := 1, ty := .w1c }
def QSH_ERR_BAD_OP : Field := { base := 0x104, lo := 3, width := 1, ty := .w1c }
def QSH_ERR_WAIT_EXPIRED : Field := { base := 0x104, lo := 4, width := 1, ty := .w1c }

/-- The fields of a page of kind `qsh`. -/
def qshFields : List Field :=
  [QSH_STAT_BUSY, QSH_STAT_LAST_QUAD, QSH_STAT_LAST_STATUS, QSH_STAT_LAST_OP, QSH_ERR_HCRC, QSH_ERR_DCRC, QSH_ERR_ABORT, QSH_ERR_BAD_OP, QSH_ERR_WAIT_EXPIRED]

-- USB_STAT: R538 (spec/16_host_service_ports.md).
def USB_STAT_STATE : Field := { base := 0x100, lo := 0, width := 3, ty := .ro }
def USB_STAT_HIGH_SPEED : Field := { base := 0x100, lo := 3, width := 1, ty := .ro }
def USB_STAT_AUTH : Field := { base := 0x100, lo := 4, width := 1, ty := .ro }
def USB_STAT_RWAKE_EN : Field := { base := 0x100, lo := 5, width := 1, ty := .ro }
def USB_STAT_LOCKOUT : Field := { base := 0x100, lo := 6, width := 1, ty := .ro }
def USB_STAT_VBUS : Field := { base := 0x100, lo := 7, width := 1, ty := .ro }
def USB_STAT_ADDRESS : Field := { base := 0x100, lo := 8, width := 7, ty := .ro }

-- USB_ID: R538 (spec/16_host_service_ports.md).
def USB_ID_VID : Field := { base := 0x104, lo := 0, width := 16, ty := .ro }
def USB_ID_PID : Field := { base := 0x104, lo := 16, width := 16, ty := .ro }

-- USB_WAKE_EN: R538 (spec/16_host_service_ports.md).
def USB_WAKE_EN_FAULT : Field := { base := 0x108, lo := 0, width := 1, ty := .rw }
def USB_WAKE_EN_STATE : Field := { base := 0x108, lo := 1, width := 1, ty := .rw }
def USB_WAKE_EN_PERR : Field := { base := 0x108, lo := 2, width := 1, ty := .rw }
def USB_WAKE_EN_TAMPER : Field := { base := 0x108, lo := 3, width := 1, ty := .rw }

-- USB_WAKE_REASON: R538 (spec/16_host_service_ports.md).
def USB_WAKE_REASON_REASON : Field := { base := 0x10C, lo := 0, width := 4, ty := .ro }
def USB_WAKE_REASON_SIGNALLED : Field := { base := 0x10C, lo := 8, width := 1, ty := .ro }
def USB_WAKE_REASON_AS_RESUME : Field := { base := 0x10C, lo := 9, width := 1, ty := .ro }

/-- The fields of a page of kind `usb`. -/
def usbFields : List Field :=
  [USB_STAT_STATE, USB_STAT_HIGH_SPEED, USB_STAT_AUTH, USB_STAT_RWAKE_EN, USB_STAT_LOCKOUT, USB_STAT_VBUS, USB_STAT_ADDRESS, USB_ID_VID, USB_ID_PID, USB_WAKE_EN_FAULT, USB_WAKE_EN_STATE, USB_WAKE_EN_PERR, USB_WAKE_EN_TAMPER, USB_WAKE_REASON_REASON, USB_WAKE_REASON_SIGNALLED, USB_WAKE_REASON_AS_RESUME]

-- FLT_CFG: R557 (spec/17_faults_integrity.md).
def FLT_CFG_FORCE_ACT : Field := { base := 0x100, lo := 0, width := 1, ty := .rw }
def FLT_CFG_CE_LOG : Field := { base := 0x100, lo := 1, width := 1, ty := .rw, reset := 0x1 }

-- FLT_STAT: R557 (spec/17_faults_integrity.md).
def FLT_STAT_OPEN : Field := { base := 0x104, lo := 0, width := 8, ty := .ro }
def FLT_STAT_FATAL_SEEN : Field := { base := 0x104, lo := 8, width := 1, ty := .ro }

-- FLT_CLACK: R557 (spec/17_faults_integrity.md).
def FLT_CLACK_RUN : Field := { base := 0x108, lo := 0, width := 1, ty := .ro }
def FLT_CLACK_STOP_CAUSE : Field := { base := 0x108, lo := 1, width := 3, ty := .ro, reset := 0x1 }
def FLT_CLACK_GRACE : Field := { base := 0x108, lo := 4, width := 1, ty := .ro }
def FLT_CLACK_GRACE_LEFT : Field := { base := 0x108, lo := 8, width := 8, ty := .ro }

-- FLT_LOG_HEADn: R558 (spec/17_faults_integrity.md).
def FLT_LOG_HEADn_ENTRY : Field := { base := 0x110, lo := 0, width := 32, ty := .ro, stride := 0x4, count := 8 }

-- FLT_LOG_POP: R558 (spec/17_faults_integrity.md).
def FLT_LOG_POP_POP : Field := { base := 0x130, lo := 0, width := 1, ty := .wc }

-- FLT_LOG_STAT: R558 (spec/17_faults_integrity.md).
def FLT_LOG_STAT_FILL : Field := { base := 0x134, lo := 0, width := 7, ty := .ro }
def FLT_LOG_STAT_OVF : Field := { base := 0x134, lo := 7, width := 1, ty := .w1c }
def FLT_LOG_STAT_OVF_COUNT : Field := { base := 0x134, lo := 16, width := 16, ty := .ro }

-- FLT_LASTFATALn: R559 (spec/17_faults_integrity.md).
def FLT_LASTFATALn_ENTRY : Field := { base := 0x140, lo := 0, width := 32, ty := .ro, stride := 0x4, count := 8 }

-- FLT_LASTFATAL_CLR: R559 (spec/17_faults_integrity.md).
def FLT_LASTFATAL_CLR_CLEAR : Field := { base := 0x160, lo := 0, width := 1, ty := .wc }

/-- The fields of a page of kind `flt`. -/
def fltFields : List Field :=
  [FLT_CFG_FORCE_ACT, FLT_CFG_CE_LOG, FLT_STAT_OPEN, FLT_STAT_FATAL_SEEN, FLT_CLACK_RUN, FLT_CLACK_STOP_CAUSE, FLT_CLACK_GRACE, FLT_CLACK_GRACE_LEFT, FLT_LOG_HEADn_ENTRY, FLT_LOG_POP_POP, FLT_LOG_STAT_FILL, FLT_LOG_STAT_OVF, FLT_LOG_STAT_OVF_COUNT, FLT_LASTFATALn_ENTRY, FLT_LASTFATAL_CLR_CLEAR]

-- TWIN_CFG: R580 (spec/18_twin_hub.md).
def TWIN_CFG_ROLE_PREF : Field := { base := 0x100, lo := 0, width := 1, ty := .rws }
def TWIN_CFG_PEER_PORT : Field := { base := 0x100, lo := 1, width := 1, ty := .rws }
def TWIN_CFG_CMP_EN : Field := { base := 0x100, lo := 2, width := 1, ty := .rws, reset := 0x1 }
def TWIN_CFG_SEAL_EN : Field := { base := 0x100, lo := 3, width := 1, ty := .rws, reset := 0x1 }
def TWIN_CFG_CMP_DELAY : Field := { base := 0x100, lo := 8, width := 8, ty := .rws, reset := 0x32 }
def TWIN_CFG_SEAL_WAIT : Field := { base := 0x100, lo := 16, width := 8, ty := .rws, reset := 0x14 }

-- TWIN_SHARD: R580 (spec/18_twin_hub.md).
def TWIN_SHARD_OWNER : Field := { base := 0x104, lo := 0, width := 11, ty := .rws }

-- TWIN_CMPn: R580 (spec/18_twin_hub.md).
def TWIN_CMPn_LINES : Field := { base := 0x110, lo := 0, width := 32, ty := .rws, stride := 0x4, count := 8 }

-- TWIN_STAT: R581 (spec/18_twin_hub.md).
def TWIN_STAT_ROLE : Field := { base := 0x140, lo := 0, width := 2, ty := .ro }
def TWIN_STAT_SYNC : Field := { base := 0x140, lo := 2, width := 2, ty := .ro }
def TWIN_STAT_PEER_ACT : Field := { base := 0x140, lo := 4, width := 1, ty := .ro }
def TWIN_STAT_ACT : Field := { base := 0x140, lo := 5, width := 1, ty := .ro }
def TWIN_STAT_DEGRADED : Field := { base := 0x140, lo := 6, width := 1, ty := .ro }
def TWIN_STAT_LAST_CAUSE : Field := { base := 0x140, lo := 8, width := 3, ty := .ro }
def TWIN_STAT_PEER_ID : Field := { base := 0x140, lo := 16, width := 11, ty := .ro }

-- TWIN_JSTAT: R581 (spec/18_twin_hub.md).
def TWIN_JSTAT_JSEQ : Field := { base := 0x144, lo := 0, width := 16, ty := .ro }
def TWIN_JSTAT_CKPT_EPOCH : Field := { base := 0x144, lo := 16, width := 16, ty := .ro }

-- TWIN_TO_TIME_LO: R582 (spec/18_twin_hub.md).
def TWIN_TO_TIME_LO_TIME : Field := { base := 0x148, lo := 0, width := 32, ty := .ro }

-- TWIN_TO_TIME_HI: R582 (spec/18_twin_hub.md).
def TWIN_TO_TIME_HI_TIME : Field := { base := 0x14C, lo := 0, width := 32, ty := .ro }

-- TWIN_TO_INFO: R582 (spec/18_twin_hub.md).
def TWIN_TO_INFO_LINE : Field := { base := 0x150, lo := 0, width := 8, ty := .ro, reset := 0xFF }
def TWIN_TO_INFO_DRIVE_US : Field := { base := 0x150, lo := 8, width := 8, ty := .ro }
def TWIN_TO_INFO_DONE_US : Field := { base := 0x150, lo := 16, width := 8, ty := .ro }
def TWIN_TO_INFO_TENURE : Field := { base := 0x150, lo := 24, width := 8, ty := .ro }

-- TWIN_TO_EPOCH_LO: R582 (spec/18_twin_hub.md).
def TWIN_TO_EPOCH_LO_EPOCH : Field := { base := 0x158, lo := 0, width := 32, ty := .ro, reset := 0xFFFFFFFF }

-- TWIN_TO_EPOCH_HI: R582 (spec/18_twin_hub.md).
def TWIN_TO_EPOCH_HI_EPOCH : Field := { base := 0x15C, lo := 0, width := 32, ty := .ro, reset := 0xFFFFFFFF }

-- TWIN_CMD: R583 (spec/18_twin_hub.md).
def TWIN_CMD_CMD : Field := { base := 0x160, lo := 0, width := 4, ty := .wc }
def TWIN_CMD_KEY : Field := { base := 0x160, lo := 24, width := 8, ty := .wc }

/-- The fields of a page of kind `twin`. -/
def twinFields : List Field :=
  [TWIN_CFG_ROLE_PREF, TWIN_CFG_PEER_PORT, TWIN_CFG_CMP_EN, TWIN_CFG_SEAL_EN, TWIN_CFG_CMP_DELAY, TWIN_CFG_SEAL_WAIT, TWIN_SHARD_OWNER, TWIN_CMPn_LINES, TWIN_STAT_ROLE, TWIN_STAT_SYNC, TWIN_STAT_PEER_ACT, TWIN_STAT_ACT, TWIN_STAT_DEGRADED, TWIN_STAT_LAST_CAUSE, TWIN_STAT_PEER_ID, TWIN_JSTAT_JSEQ, TWIN_JSTAT_CKPT_EPOCH, TWIN_TO_TIME_LO_TIME, TWIN_TO_TIME_HI_TIME, TWIN_TO_INFO_LINE, TWIN_TO_INFO_DRIVE_US, TWIN_TO_INFO_DONE_US, TWIN_TO_INFO_TENURE, TWIN_TO_EPOCH_LO_EPOCH] ++
  [TWIN_TO_EPOCH_HI_EPOCH, TWIN_CMD_CMD, TWIN_CMD_KEY]

-- DRS_SCRUBm: R597 (spec/19_dressing.md).
def DRS_SCRUBm_PERIOD : Field := { base := 0x100, lo := 0, width := 2, ty := .rw, stride := 0x4, count := 12, resets := [2, 2, 1, 2, 3, 3, 3, 1, 1, 3, 2, 1] }
def DRS_SCRUBm_EN : Field := { base := 0x100, lo := 2, width := 1, ty := .rw, stride := 0x4, count := 12, reset := 0x1 }
def DRS_SCRUBm_LATE : Field := { base := 0x100, lo := 3, width := 1, ty := .w1c, stride := 0x4, count := 12 }
def DRS_SCRUBm_PASSES : Field := { base := 0x100, lo := 16, width := 16, ty := .ro, stride := 0x4, count := 12 }

-- DRS_CAL_CMD: R598 (spec/19_dressing.md).
def DRS_CAL_CMD_RUN_NOW : Field := { base := 0x140, lo := 0, width := 1, ty := .wc }

-- DRS_CAL_STAT: R598 (spec/19_dressing.md).
def DRS_CAL_STAT_TS_FAIL : Field := { base := 0x144, lo := 0, width := 1, ty := .w1c }
def DRS_CAL_STAT_ASYM_FAIL : Field := { base := 0x144, lo := 1, width := 1, ty := .w1c }
def DRS_CAL_STAT_SENSE_FAIL : Field := { base := 0x144, lo := 2, width := 1, ty := .w1c }
def DRS_CAL_STAT_MON_FAIL : Field := { base := 0x144, lo := 3, width := 1, ty := .w1c }
def DRS_CAL_STAT_BUSY : Field := { base := 0x144, lo := 4, width := 1, ty := .ro }

-- DRS_TSDLYp: R598 (spec/19_dressing.md).
def DRS_TSDLYp_DELAY : Field := { base := 0x150, lo := 0, width := 16, ty := .ro, stride := 0x4, count := 4 }

-- DRS_ASYM: R598 (spec/19_dressing.md).
def DRS_ASYM_ASYM : Field := { base := 0x160, lo := 0, width := 32, ty := .ro, stride := 0x4, count := 2 }

-- DRS_WEARr_A: R599 (spec/19_dressing.md).
def DRS_WEARr_A_IN_SERVICE : Field := { base := 0x180, lo := 0, width := 11, ty := .ro, stride := 0x8, count := 3, resets := [1024, 128, 16] }
def DRS_WEARr_A_RESERVE : Field := { base := 0x180, lo := 16, width := 7, ty := .ro, stride := 0x8, count := 3, resets := [64, 32, 8] }
def DRS_WEARr_A_EXHAUSTED : Field := { base := 0x180, lo := 24, width := 1, ty := .ro, stride := 0x8, count := 3 }

-- DRS_WEARr_B: R599 (spec/19_dressing.md).
def DRS_WEARr_B_MAX_ERASE : Field := { base := 0x184, lo := 0, width := 32, ty := .ro, stride := 0x8, count := 3 }

-- DRS_WEAR_CFG: R599 (spec/19_dressing.md).
def DRS_WEAR_CFG_LIMIT : Field := { base := 0x1A0, lo := 0, width := 8, ty := .rw, reset := 0x64 }

-- DRS_LEDGER_RAM: R599 (spec/19_dressing.md).
def DRS_LEDGER_RAM_HELD : Field := { base := 0x1A4, lo := 0, width := 9, ty := .ro }

/-- The fields of a page of kind `drs`. -/
def drsFields : List Field :=
  [DRS_SCRUBm_PERIOD, DRS_SCRUBm_EN, DRS_SCRUBm_LATE, DRS_SCRUBm_PASSES, DRS_CAL_CMD_RUN_NOW, DRS_CAL_STAT_TS_FAIL, DRS_CAL_STAT_ASYM_FAIL, DRS_CAL_STAT_SENSE_FAIL, DRS_CAL_STAT_MON_FAIL, DRS_CAL_STAT_BUSY, DRS_TSDLYp_DELAY, DRS_ASYM_ASYM, DRS_WEARr_A_IN_SERVICE, DRS_WEARr_A_RESERVE, DRS_WEARr_A_EXHAUSTED, DRS_WEARr_B_MAX_ERASE, DRS_WEAR_CFG_LIMIT, DRS_LEDGER_RAM_HELD]

-- FLASH_ID: R603 (spec/19_dressing.md).
def FLASH_ID_MANUFACTURER : Field := { base := 0x100, lo := 0, width := 8, ty := .ro }
def FLASH_ID_TYPE : Field := { base := 0x100, lo := 8, width := 8, ty := .ro }
def FLASH_ID_CAPACITY : Field := { base := 0x100, lo := 16, width := 8, ty := .ro }

-- FLASH_GEOM: R603 (spec/19_dressing.md).
def FLASH_GEOM_SIZE : Field := { base := 0x104, lo := 0, width := 10, ty := .ro }
def FLASH_GEOM_QUAD : Field := { base := 0x104, lo := 10, width := 1, ty := .ro }
def FLASH_GEOM_RATE : Field := { base := 0x104, lo := 16, width := 7, ty := .ro }

-- FLASH_STAT: R603 (spec/19_dressing.md).
def FLASH_STAT_SFDP_OK : Field := { base := 0x108, lo := 0, width := 1, ty := .ro }
def FLASH_STAT_BUSY : Field := { base := 0x108, lo := 1, width := 1, ty := .ro }
def FLASH_STAT_OP : Field := { base := 0x108, lo := 2, width := 2, ty := .ro }
def FLASH_STAT_REGION : Field := { base := 0x108, lo := 4, width := 3, ty := .ro }

-- FLASH_REGIONr: R604 (spec/19_dressing.md).
def FLASH_REGIONr_FIRST : Field := { base := 0x110, lo := 0, width := 16, ty := .ro, stride := 0x4, count := 5, resets := [0, 128, 256, 416, 448] }
def FLASH_REGIONr_SECTORS : Field := { base := 0x110, lo := 16, width := 16, ty := .ro, stride := 0x4, count := 5, resets := [128, 128, 160, 24, 1088] }

/-- The fields of a page of kind `flash`. -/
def flashFields : List Field :=
  [FLASH_ID_MANUFACTURER, FLASH_ID_TYPE, FLASH_ID_CAPACITY, FLASH_GEOM_SIZE, FLASH_GEOM_QUAD, FLASH_GEOM_RATE, FLASH_STAT_SFDP_OK, FLASH_STAT_BUSY, FLASH_STAT_OP, FLASH_STAT_REGION, FLASH_REGIONr_FIRST, FLASH_REGIONr_SECTORS]

-- CRS_STAT: R623 (spec/20_courses.md).
def CRS_STAT_COURSE : Field := { base := 0x100, lo := 0, width := 4, ty := .ro }
def CRS_STAT_ARMED : Field := { base := 0x100, lo := 4, width := 1, ty := .ro }
def CRS_STAT_ARMED_COURSE : Field := { base := 0x100, lo := 8, width := 4, ty := .ro }
def CRS_STAT_MISMATCH : Field := { base := 0x100, lo := 12, width := 1, ty := .w1c }
def CRS_STAT_FND_OLDER : Field := { base := 0x100, lo := 13, width := 1, ty := .ro }
def CRS_STAT_PRESENT : Field := { base := 0x100, lo := 16, width := 9, ty := .ro }

-- CRS_SINCE_LO: R624 (spec/20_courses.md).
def CRS_SINCE_LO_W : Field := { base := 0x108, lo := 0, width := 32, ty := .ro, reset := 0xFFFFFFFF }

-- CRS_SINCE_HI: R624 (spec/20_courses.md).
def CRS_SINCE_HI_W : Field := { base := 0x10C, lo := 0, width := 32, ty := .ro, reset := 0xFFFFFFFF }

-- CRS_ARMED_LO: R624 (spec/20_courses.md).
def CRS_ARMED_LO_W : Field := { base := 0x110, lo := 0, width := 32, ty := .ro, reset := 0xFFFFFFFF }

-- CRS_ARMED_HI: R624 (spec/20_courses.md).
def CRS_ARMED_HI_W : Field := { base := 0x114, lo := 0, width := 32, ty := .ro, reset := 0xFFFFFFFF }

-- CRS_TARGET_LO: R624 (spec/20_courses.md).
def CRS_TARGET_LO_W : Field := { base := 0x118, lo := 0, width := 32, ty := .rw }

-- CRS_TARGET_HI: R624 (spec/20_courses.md).
def CRS_TARGET_HI_W : Field := { base := 0x11C, lo := 0, width := 32, ty := .rw }

-- CRS_CMD: R625 (spec/20_courses.md).
def CRS_CMD_CMD : Field := { base := 0x120, lo := 0, width := 4, ty := .wc }
def CRS_CMD_COURSE : Field := { base := 0x120, lo := 4, width := 4, ty := .wc }
def CRS_CMD_KEY : Field := { base := 0x120, lo := 24, width := 8, ty := .wc }

-- CRS_RES: R625 (spec/20_courses.md).
def CRS_RES_RESULT : Field := { base := 0x124, lo := 0, width := 3, ty := .ro }

-- CRS_STORE_CMD: R626 (spec/20_courses.md).
def CRS_STORE_CMD_CMD : Field := { base := 0x130, lo := 0, width := 4, ty := .wc }
def CRS_STORE_CMD_IMAGE : Field := { base := 0x130, lo := 4, width := 4, ty := .wc }
def CRS_STORE_CMD_KEY : Field := { base := 0x130, lo := 24, width := 8, ty := .wc }

-- CRS_STORE_DATA: R626 (spec/20_courses.md).
def CRS_STORE_DATA_DATA : Field := { base := 0x134, lo := 0, width := 32, ty := .wc }

-- CRS_STORE_STAT: R626 (spec/20_courses.md).
def CRS_STORE_STAT_STATE : Field := { base := 0x138, lo := 0, width := 2, ty := .ro }
def CRS_STORE_STAT_OWNER : Field := { base := 0x138, lo := 2, width := 4, ty := .ro }
def CRS_STORE_STAT_ERROR : Field := { base := 0x138, lo := 8, width := 4, ty := .ro }
def CRS_STORE_STAT_WORDS : Field := { base := 0x138, lo := 16, width := 16, ty := .ro }

-- CRS_SUMk: R626 (spec/20_courses.md).
def CRS_SUMk_SUM : Field := { base := 0x140, lo := 0, width := 32, ty := .ro, stride := 0x4, count := 9 }

/-- The fields of a page of kind `crs`. -/
def crsFields : List Field :=
  [CRS_STAT_COURSE, CRS_STAT_ARMED, CRS_STAT_ARMED_COURSE, CRS_STAT_MISMATCH, CRS_STAT_FND_OLDER, CRS_STAT_PRESENT, CRS_SINCE_LO_W, CRS_SINCE_HI_W, CRS_ARMED_LO_W, CRS_ARMED_HI_W, CRS_TARGET_LO_W, CRS_TARGET_HI_W, CRS_CMD_CMD, CRS_CMD_COURSE, CRS_CMD_KEY, CRS_RES_RESULT, CRS_STORE_CMD_CMD, CRS_STORE_CMD_IMAGE, CRS_STORE_CMD_KEY, CRS_STORE_DATA_DATA, CRS_STORE_STAT_STATE, CRS_STORE_STAT_OWNER, CRS_STORE_STAT_ERROR, CRS_STORE_STAT_WORDS] ++
  [CRS_SUMk_SUM]

-- UPD_CFG: R643 (spec/21_update_recovery.md).
def UPD_CFG_AUTO_CONFIRM : Field := { base := 0x100, lo := 0, width := 1, ty := .rw, reset := 0x1 }
def UPD_CFG_CONFIRM_TMO : Field := { base := 0x100, lo := 8, width := 8, ty := .rw, reset := 0x3C }
def UPD_CFG_DIST_GAP : Field := { base := 0x100, lo := 16, width := 16, ty := .rw, reset := 0x190 }

-- UPD_CMD: R643 (spec/21_update_recovery.md).
def UPD_CMD_CMD : Field := { base := 0x104, lo := 0, width := 4, ty := .wc }
def UPD_CMD_SLOT : Field := { base := 0x104, lo := 4, width := 1, ty := .wc }
def UPD_CMD_KEY : Field := { base := 0x104, lo := 24, width := 8, ty := .wc }

-- UPD_RES: R643 (spec/21_update_recovery.md).
def UPD_RES_RESULT : Field := { base := 0x108, lo := 0, width := 4, ty := .ro }
def UPD_RES_OWNER : Field := { base := 0x108, lo := 4, width := 4, ty := .ro }
def UPD_RES_OWNER_NODE : Field := { base := 0x108, lo := 8, width := 11, ty := .ro }

-- UPD_RES_VER: R643 (spec/21_update_recovery.md).
def UPD_RES_VER_VERSION : Field := { base := 0x10C, lo := 0, width := 32, ty := .ro }

-- UPD_DATA: R643 (spec/21_update_recovery.md).
def UPD_DATA_DATA : Field := { base := 0x110, lo := 0, width := 32, ty := .wc }

-- UPD_SESS: R644 (spec/21_update_recovery.md).
def UPD_SESS_STATE : Field := { base := 0x114, lo := 0, width := 3, ty := .ro }
def UPD_SESS_SOURCE : Field := { base := 0x114, lo := 4, width := 4, ty := .ro }
def UPD_SESS_SRC_NODE : Field := { base := 0x114, lo := 8, width := 11, ty := .ro }
def UPD_SESS_FREE : Field := { base := 0x114, lo := 20, width := 11, ty := .ro, reset := 0x400 }

-- UPD_SESS_BYTES: R644 (spec/21_update_recovery.md).
def UPD_SESS_BYTES_BYTES : Field := { base := 0x118, lo := 0, width := 32, ty := .ro }

-- UPD_LAST_REFUSED: R644 (spec/21_update_recovery.md).
def UPD_LAST_REFUSED_RESULT : Field := { base := 0x11C, lo := 0, width := 4, ty := .ro }
def UPD_LAST_REFUSED_SOURCE : Field := { base := 0x11C, lo := 4, width := 4, ty := .ro }
def UPD_LAST_REFUSED_NODE : Field := { base := 0x11C, lo := 8, width := 11, ty := .ro }

-- UPD_SLOTx: R645 (spec/21_update_recovery.md).
def UPD_SLOTx_STATE : Field := { base := 0x120, lo := 0, width := 3, ty := .ro, stride := 0x4, count := 2 }
def UPD_SLOTx_RUNNING : Field := { base := 0x120, lo := 3, width := 1, ty := .ro, stride := 0x4, count := 2 }
def UPD_SLOTx_ROLLBACK : Field := { base := 0x120, lo := 4, width := 6, ty := .ro, stride := 0x4, count := 2 }

-- UPD_SLOTx_VER: R645 (spec/21_update_recovery.md).
def UPD_SLOTx_VER_VERSION : Field := { base := 0x128, lo := 0, width := 32, ty := .ro, stride := 0x4, count := 2 }

-- UPD_ROLLBACK: R645 (spec/21_update_recovery.md).
def UPD_ROLLBACK_COUNTER : Field := { base := 0x130, lo := 0, width := 6, ty := .ro }

-- UPD_TRIAL: R645 (spec/21_update_recovery.md).
def UPD_TRIAL_LEFT : Field := { base := 0x134, lo := 0, width := 8, ty := .ro }

-- UPD_DIST: R645 (spec/21_update_recovery.md).
def UPD_DIST_GROUP : Field := { base := 0x138, lo := 0, width := 6, ty := .rw }
def UPD_DIST_BCAST : Field := { base := 0x138, lo := 6, width := 1, ty := .rw }
def UPD_DIST_SLOT : Field := { base := 0x138, lo := 7, width := 1, ty := .rw }
def UPD_DIST_ROUNDS : Field := { base := 0x138, lo := 8, width := 4, ty := .rw, reset := 0x3 }
def UPD_DIST_ROUND : Field := { base := 0x138, lo := 12, width := 4, ty := .ro }
def UPD_DIST_BUSY : Field := { base := 0x138, lo := 16, width := 1, ty := .ro }

/-- The fields of a page of kind `upd`. -/
def updFields : List Field :=
  [UPD_CFG_AUTO_CONFIRM, UPD_CFG_CONFIRM_TMO, UPD_CFG_DIST_GAP, UPD_CMD_CMD, UPD_CMD_SLOT, UPD_CMD_KEY, UPD_RES_RESULT, UPD_RES_OWNER, UPD_RES_OWNER_NODE, UPD_RES_VER_VERSION, UPD_DATA_DATA, UPD_SESS_STATE, UPD_SESS_SOURCE, UPD_SESS_SRC_NODE, UPD_SESS_FREE, UPD_SESS_BYTES_BYTES, UPD_LAST_REFUSED_RESULT, UPD_LAST_REFUSED_SOURCE, UPD_LAST_REFUSED_NODE, UPD_SLOTx_STATE, UPD_SLOTx_RUNNING, UPD_SLOTx_ROLLBACK, UPD_SLOTx_VER_VERSION, UPD_ROLLBACK_COUNTER] ++
  [UPD_TRIAL_LEFT, UPD_DIST_GROUP, UPD_DIST_BCAST, UPD_DIST_SLOT, UPD_DIST_ROUNDS, UPD_DIST_ROUND, UPD_DIST_BUSY]

-- KEY_CMD: R669 (spec/22_keys_protection.md).
def KEY_CMD_CMD : Field := { base := 0x100, lo := 0, width := 4, ty := .wc }
def KEY_CMD_FORCE : Field := { base := 0x100, lo := 4, width := 1, ty := .wc }
def KEY_CMD_SLOT : Field := { base := 0x100, lo := 8, width := 5, ty := .wc }
def KEY_CMD_PARENT : Field := { base := 0x100, lo := 16, width := 8, ty := .wc }
def KEY_CMD_KEY : Field := { base := 0x100, lo := 24, width := 8, ty := .wc }

-- KEY_ARG: R669 (spec/22_keys_protection.md).
def KEY_ARG_USAGE : Field := { base := 0x104, lo := 0, width := 4, ty := .rw }
def KEY_ARG_WRAP_SLOT : Field := { base := 0x104, lo := 8, width := 5, ty := .rw }

-- KEY_RES: R669 (spec/22_keys_protection.md).
def KEY_RES_RESULT : Field := { base := 0x108, lo := 0, width := 4, ty := .ro }

-- KEY_STAT: R670 (spec/22_keys_protection.md).
def KEY_STAT_BUSY : Field := { base := 0x10C, lo := 0, width := 1, ty := .ro }
def KEY_STAT_LOADED : Field := { base := 0x10C, lo := 1, width := 1, ty := .ro }
def KEY_STAT_ZEROISED : Field := { base := 0x10C, lo := 2, width := 1, ty := .ro }
def KEY_STAT_ARMED : Field := { base := 0x10C, lo := 3, width := 1, ty := .ro }
def KEY_STAT_LINK_SLOT : Field := { base := 0x10C, lo := 8, width := 5, ty := .ro }
def KEY_STAT_LINK_VALID : Field := { base := 0x10C, lo := 13, width := 1, ty := .ro }
def KEY_STAT_NEXT_SLOT : Field := { base := 0x10C, lo := 16, width := 5, ty := .rw }

-- KEY_SEL: R670 (spec/22_keys_protection.md).
def KEY_SEL_SLOT : Field := { base := 0x110, lo := 0, width := 5, ty := .rw }

-- KEY_SLOT_INFO: R670 (spec/22_keys_protection.md).
def KEY_SLOT_INFO_STATE : Field := { base := 0x114, lo := 0, width := 3, ty := .ro }
def KEY_SLOT_INFO_USAGE : Field := { base := 0x114, lo := 4, width := 4, ty := .ro }
def KEY_SLOT_INFO_PARENT : Field := { base := 0x114, lo := 8, width := 8, ty := .ro }
def KEY_SLOT_INFO_CHILDREN : Field := { base := 0x114, lo := 16, width := 5, ty := .ro }

-- KEY_SLOT_GEN: R670 (spec/22_keys_protection.md).
def KEY_SLOT_GEN_GEN : Field := { base := 0x118, lo := 0, width := 32, ty := .ro }

-- KEY_LINK_AT_LO: R670 (spec/22_keys_protection.md).
def KEY_LINK_AT_LO_EPOCH : Field := { base := 0x120, lo := 0, width := 32, ty := .rw }

-- KEY_LINK_AT_HI: R670 (spec/22_keys_protection.md).
def KEY_LINK_AT_HI_EPOCH : Field := { base := 0x124, lo := 0, width := 32, ty := .rw }

-- KEY_PORTp_STAT: R671 (spec/22_keys_protection.md).
def KEY_PORTp_STAT_TX_AN : Field := { base := 0x130, lo := 0, width := 2, ty := .ro, stride := 0x4, count := 2 }
def KEY_PORTp_STAT_RX_AN : Field := { base := 0x130, lo := 2, width := 2, ty := .ro, stride := 0x4, count := 2 }
def KEY_PORTp_STAT_SEARCH : Field := { base := 0x130, lo := 4, width := 1, ty := .ro, stride := 0x4, count := 2 }
def KEY_PORTp_STAT_REASON : Field := { base := 0x130, lo := 5, width := 3, ty := .ro, stride := 0x4, count := 2 }
def KEY_PORTp_STAT_PAIRS : Field := { base := 0x130, lo := 8, width := 5, ty := .ro, stride := 0x4, count := 2 }

-- KEY_DATAn: R671 (spec/22_keys_protection.md).
def KEY_DATAn_DATA : Field := { base := 0x200, lo := 0, width := 32, ty := .wc, stride := 0x4, count := 32 }

/-- The fields of a page of kind `key`. -/
def keyFields : List Field :=
  [KEY_CMD_CMD, KEY_CMD_FORCE, KEY_CMD_SLOT, KEY_CMD_PARENT, KEY_CMD_KEY, KEY_ARG_USAGE, KEY_ARG_WRAP_SLOT, KEY_RES_RESULT, KEY_STAT_BUSY, KEY_STAT_LOADED, KEY_STAT_ZEROISED, KEY_STAT_ARMED, KEY_STAT_LINK_SLOT, KEY_STAT_LINK_VALID, KEY_STAT_NEXT_SLOT, KEY_SEL_SLOT, KEY_SLOT_INFO_STATE, KEY_SLOT_INFO_USAGE, KEY_SLOT_INFO_PARENT, KEY_SLOT_INFO_CHILDREN, KEY_SLOT_GEN_GEN, KEY_LINK_AT_LO_EPOCH, KEY_LINK_AT_HI_EPOCH, KEY_PORTp_STAT_TX_AN] ++
  [KEY_PORTp_STAT_RX_AN, KEY_PORTp_STAT_SEARCH, KEY_PORTp_STAT_REASON, KEY_PORTp_STAT_PAIRS, KEY_DATAn_DATA]

-- PLUMB_CMD: R693 (spec/23_plumb_observation.md).
def PLUMB_CMD_CMD : Field := { base := 0x100, lo := 0, width := 4, ty := .wc }
def PLUMB_CMD_MODE : Field := { base := 0x100, lo := 4, width := 1, ty := .wc }
def PLUMB_CMD_PIN : Field := { base := 0x100, lo := 5, width := 1, ty := .wc }
def PLUMB_CMD_SCOPE : Field := { base := 0x100, lo := 8, width := 4, ty := .wc }
def PLUMB_CMD_TAG : Field := { base := 0x100, lo := 16, width := 8, ty := .wc }

-- PLUMB_RANGE: R693 (spec/23_plumb_observation.md).
def PLUMB_RANGE_FIRST : Field := { base := 0x104, lo := 0, width := 12, ty := .rw }
def PLUMB_RANGE_LAST : Field := { base := 0x104, lo := 16, width := 12, ty := .rw, reset := 0xBF }

-- PLUMB_CFG: R693 (spec/23_plumb_observation.md).
def PLUMB_CFG_HOLD : Field := { base := 0x108, lo := 0, width := 8, ty := .rw, reset := 0xA }

-- PLUMB_STAT: R694 (spec/23_plumb_observation.md).
def PLUMB_STAT_STATE : Field := { base := 0x10C, lo := 0, width := 3, ty := .ro }
def PLUMB_STAT_PINNED : Field := { base := 0x10C, lo := 3, width := 1, ty := .ro }
def PLUMB_STAT_TAG : Field := { base := 0x10C, lo := 8, width := 8, ty := .ro }
def PLUMB_STAT_PARTS : Field := { base := 0x10C, lo := 16, width := 8, ty := .ro }
def PLUMB_STAT_PART : Field := { base := 0x10C, lo := 24, width := 8, ty := .ro }

-- PLUMB_PART: R694 (spec/23_plumb_observation.md).
def PLUMB_PART_PART : Field := { base := 0x110, lo := 0, width := 8, ty := .wc }
def PLUMB_PART_TAG : Field := { base := 0x110, lo := 8, width := 8, ty := .wc }

-- PLUMB_RES: R694 (spec/23_plumb_observation.md).
def PLUMB_RES_RESULT : Field := { base := 0x114, lo := 0, width := 3, ty := .ro }

-- PLUMB_SEQ: R694 (spec/23_plumb_observation.md).
def PLUMB_SEQ_SUM_SEQ : Field := { base := 0x118, lo := 0, width := 32, ty := .ro }

-- PLUMB_BYTES: R694 (spec/23_plumb_observation.md).
def PLUMB_BYTES_BYTES : Field := { base := 0x11C, lo := 0, width := 32, ty := .ro }

-- PLUMB_TIME_LO: R694 (spec/23_plumb_observation.md).
def PLUMB_TIME_LO_TIME : Field := { base := 0x120, lo := 0, width := 32, ty := .ro }

-- PLUMB_TIME_HI: R694 (spec/23_plumb_observation.md).
def PLUMB_TIME_HI_TIME : Field := { base := 0x124, lo := 0, width := 32, ty := .ro }

/-- The fields of a page of kind `plumb`. -/
def plumbFields : List Field :=
  [PLUMB_CMD_CMD, PLUMB_CMD_MODE, PLUMB_CMD_PIN, PLUMB_CMD_SCOPE, PLUMB_CMD_TAG, PLUMB_RANGE_FIRST, PLUMB_RANGE_LAST, PLUMB_CFG_HOLD, PLUMB_STAT_STATE, PLUMB_STAT_PINNED, PLUMB_STAT_TAG, PLUMB_STAT_PARTS, PLUMB_STAT_PART, PLUMB_PART_PART, PLUMB_PART_TAG, PLUMB_RES_RESULT, PLUMB_SEQ_SUM_SEQ, PLUMB_BYTES_BYTES, PLUMB_TIME_LO_TIME, PLUMB_TIME_HI_TIME]

-- OBS_TRC_CTRL: R696 (spec/23_plumb_observation.md).
def OBS_TRC_CTRL_ARM : Field := { base := 0x100, lo := 0, width := 1, ty := .rw }
def OBS_TRC_CTRL_MODE : Field := { base := 0x100, lo := 1, width := 1, ty := .rw }
def OBS_TRC_CTRL_CLEAR : Field := { base := 0x100, lo := 2, width := 1, ty := .wc }
def OBS_TRC_CTRL_PINS_EN : Field := { base := 0x100, lo := 3, width := 1, ty := .rw }
def OBS_TRC_CTRL_USB_EN : Field := { base := 0x100, lo := 4, width := 1, ty := .rw }
def OBS_TRC_CTRL_PIN_DIV : Field := { base := 0x100, lo := 8, width := 8, ty := .rw, reset := 0x4 }

-- OBS_TRC_KINDS: R696 (spec/23_plumb_observation.md).
def OBS_TRC_KINDS_KINDS : Field := { base := 0x104, lo := 0, width := 16, ty := .rw }

-- OBS_TRC_PAGESn: R696 (spec/23_plumb_observation.md).
def OBS_TRC_PAGESn_PAGES : Field := { base := 0x110, lo := 0, width := 32, ty := .rw, stride := 0x4, count := 6 }

-- OBS_TRC_WPTR: R697 (spec/23_plumb_observation.md).
def OBS_TRC_WPTR_WPTR : Field := { base := 0x130, lo := 0, width := 14, ty := .ro }
def OBS_TRC_WPTR_WRAPPED : Field := { base := 0x130, lo := 14, width := 1, ty := .ro }
def OBS_TRC_WPTR_STOPPED : Field := { base := 0x130, lo := 15, width := 1, ty := .ro }

-- OBS_TRC_STAT: R697 (spec/23_plumb_observation.md).
def OBS_TRC_STAT_PIN_FILL : Field := { base := 0x134, lo := 0, width := 7, ty := .ro }
def OBS_TRC_STAT_USB_FILL : Field := { base := 0x134, lo := 16, width := 9, ty := .ro }

-- OBS_MARK: R697 (spec/23_plumb_observation.md).
def OBS_MARK_DATA : Field := { base := 0x138, lo := 0, width := 32, ty := .wc }

/-- The fields of a page of kind `obs`. -/
def obsFields : List Field :=
  [OBS_TRC_CTRL_ARM, OBS_TRC_CTRL_MODE, OBS_TRC_CTRL_CLEAR, OBS_TRC_CTRL_PINS_EN, OBS_TRC_CTRL_USB_EN, OBS_TRC_CTRL_PIN_DIV, OBS_TRC_KINDS_KINDS, OBS_TRC_PAGESn_PAGES, OBS_TRC_WPTR_WPTR, OBS_TRC_WPTR_WRAPPED, OBS_TRC_WPTR_STOPPED, OBS_TRC_STAT_PIN_FILL, OBS_TRC_STAT_USB_FILL, OBS_MARK_DATA]

end Sys2Proof.Machine
end

