-- ==== Sys2Proof/Machine/Pages.lean ====
section
/-!
DEFINITION. The page map (R41): the kinds of page, the page indices, their type codes, instances and PAGE_CAPS, and the
value that each register word of a page holds after reset.
-/
namespace Sys2Proof.Machine

/-- The kinds of page of R41, each with one register layout. -/
inductive Kind where
  | sys | clk | pwrst | link | swc | rsq | mir | timeP | txts | img | pmap | bind | axis | trk | lnch | dio | lane | mov | cog | can | zone | pwd | slu | brg | pcie | qsh | usb | flt | twin | drs | flash | crs | upd | key | plumb | obs
  deriving DecidableEq, Repr

/-- One row of the page map: the first page index, how many instances follow, the type code and PAGE_CAPS (R41, R45). -/
structure PageRow where
  first : Nat
  count : Nat
  kind : Kind
  code : Nat
  caps : Nat
  deriving DecidableEq, Repr

/-- Page index of SYS (R41). -/
def pgSYS : Nat := 0x000
/-- Page index of CLK (R41). -/
def pgCLK : Nat := 0x001
/-- Page index of PWRST (R41). -/
def pgPWRST : Nat := 0x002
/-- Page index of FLT (R41). -/
def pgFLT : Nat := 0x004
/-- Page index of PLUMB (R41). -/
def pgPLUMB : Nat := 0x005
/-- Page index of OBS (R41). -/
def pgOBS : Nat := 0x006
/-- Page index of DRS (R41). -/
def pgDRS : Nat := 0x007
/-- Page index of CRS (R41). -/
def pgCRS : Nat := 0x008
/-- Page index of UPD (R41). -/
def pgUPD : Nat := 0x009
/-- Page index of KEY (R41). -/
def pgKEY : Nat := 0x00A
/-- Page index of TWIN (R41). -/
def pgTWIN : Nat := 0x00B
/-- Page index of LINK0, the first of 2 (R41). -/
def pgLINK : Nat := 0x010
/-- Page index of SWC (R41). -/
def pgSWC : Nat := 0x012
/-- Page index of RSQ (R41). -/
def pgRSQ : Nat := 0x013
/-- Page index of MIR (R41). -/
def pgMIR : Nat := 0x014
/-- Page index of TIME (R41). -/
def pgTIME : Nat := 0x018
/-- Page index of IMG (R41). -/
def pgIMG : Nat := 0x019
/-- Page index of PMAP (R41). -/
def pgPMAP : Nat := 0x01A
/-- Page index of BIND (R41). -/
def pgBIND : Nat := 0x01B
/-- Page index of AXIS (R41). -/
def pgAXIS : Nat := 0x01C
/-- Page index of TRK (R41). -/
def pgTRK : Nat := 0x01D
/-- Page index of LNCH (R41). -/
def pgLNCH : Nat := 0x01E
/-- Page index of TXTS (R41). -/
def pgTXTS : Nat := 0x01F
/-- Page index of BRG (R41). -/
def pgBRG : Nat := 0x020
/-- Page index of PCIE (R41). -/
def pgPCIE : Nat := 0x021
/-- Page index of QSH (R41). -/
def pgQSH : Nat := 0x022
/-- Page index of USB (R41). -/
def pgUSB : Nat := 0x023
/-- Page index of FLASH (R41). -/
def pgFLASH : Nat := 0x024
/-- Page index of DIO0, the first of 8 (R41). -/
def pgDIO : Nat := 0x030
/-- Page index of LANE0, the first of 64 (R41). -/
def pgLANE : Nat := 0x040
/-- Page index of MOV (R41). -/
def pgMOV : Nat := 0x080
/-- Page index of COG0, the first of 8 (R41). -/
def pgCOG : Nat := 0x088
/-- Page index of CAN0, the first of 8 (R41). -/
def pgCAN : Nat := 0x090
/-- Page index of ZONE (R41). -/
def pgZONE : Nat := 0x098
/-- Page index of PWD (R41). -/
def pgPWD : Nat := 0x0A0
/-- Page index of SLU0, the first of 8 (R41). -/
def pgSLU : Nat := 0x0A1

/-- The page map of R41. -/
def pageRows : List PageRow :=
  [⟨0x000, 1, .sys, 0x001, 0x08444440⟩,
   ⟨0x001, 1, .clk, 0x002, 0x00000000⟩,
   ⟨0x002, 1, .pwrst, 0x003, 0x00000000⟩,
   ⟨0x004, 1, .flt, 0x004, 0x000014C0⟩,
   ⟨0x005, 1, .plumb, 0x005, 0x00030040⟩,
   ⟨0x006, 1, .obs, 0x006, 0x00000340⟩,
   ⟨0x007, 1, .drs, 0x007, 0x0000030C⟩,
   ⟨0x008, 1, .crs, 0x008, 0x00000008⟩,
   ⟨0x009, 1, .upd, 0x009, 0x00000082⟩,
   ⟨0x00A, 1, .key, 0x00A, 0x00000420⟩,
   ⟨0x00B, 1, .twin, 0x00B, 0x00000001⟩,
   ⟨0x010, 2, .link, 0x010, 0x00000000⟩,
   ⟨0x012, 1, .swc, 0x012, 0x00000440⟩,
   ⟨0x013, 1, .rsq, 0x013, 0x04000100⟩,
   ⟨0x014, 1, .mir, 0x014, 0x00001004⟩,
   ⟨0x018, 1, .timeP, 0x018, 0x00000000⟩,
   ⟨0x019, 1, .img, 0x019, 0x00001D91⟩,
   ⟨0x01A, 1, .pmap, 0x01A, 0x000007FF⟩] ++
  [⟨0x01B, 1, .bind, 0x01B, 0x00001000⟩,
   ⟨0x01C, 1, .axis, 0x01C, 0x00000410⟩,
   ⟨0x01D, 1, .trk, 0x01D, 0x003E0400⟩,
   ⟨0x01E, 1, .lnch, 0x01E, 0x00041000⟩,
   ⟨0x01F, 1, .txts, 0x01F, 0x00000040⟩,
   ⟨0x020, 1, .brg, 0x020, 0x00410088⟩,
   ⟨0x021, 1, .pcie, 0x021, 0x00001040⟩,
   ⟨0x022, 1, .qsh, 0x022, 0x00000001⟩,
   ⟨0x023, 1, .usb, 0x023, 0x00000004⟩,
   ⟨0x024, 1, .flash, 0x024, 0x00000503⟩,
   ⟨0x030, 8, .dio, 0x030, 0x00001020⟩,
   ⟨0x040, 64, .lane, 0x040, 0x00010100⟩,
   ⟨0x080, 1, .mov, 0x080, 0x00000030⟩,
   ⟨0x088, 8, .cog, 0x088, 0x00000204⟩,
   ⟨0x090, 8, .can, 0x090, 0x40884020⟩,
   ⟨0x098, 1, .zone, 0x098, 0x00000208⟩,
   ⟨0x0A0, 1, .pwd, 0x0A0, 0x00000008⟩,
   ⟨0x0A1, 8, .slu, 0x0A1, 0x00000000⟩]

/-- The row of the page map that holds page index `p`. -/
def pageRow? (p : Nat) : Option PageRow := pageRows.find? (fun r => decide (r.first ≤ p ∧ p < r.first + r.count))

/-- The kind of page `p`, where the hub implements it. -/
def pageKind? (p : Nat) : Option Kind := (pageRow? p).map (·.kind)

/-- Every implemented page index, ascending. -/
def allPages : List Nat :=
  (List.range 0xC0).filter (fun p => (pageRow? p).isSome)

/-- The block registers of a kind of page. -/
def Kind.fields : Kind → List Field
  | .sys => sysFields
  | .clk => clkFields
  | .pwrst => pwrstFields
  | .link => linkFields
  | .swc => swcFields
  | .rsq => rsqFields
  | .mir => mirFields
  | .timeP => timeFields
  | .txts => txtsFields
  | .img => imgFields
  | .pmap => pmapFields
  | .bind => bindFields
  | .axis => axisFields
  | .trk => trkFields
  | .lnch => lnchFields
  | .dio => dioFields
  | .lane => laneFields
  | .mov => movFields
  | .cog => cogFields
  | .can => canFields
  | .zone => zoneFields
  | .pwd => pwdFields
  | .slu => sluFields
  | .brg => brgFields
  | .pcie => pcieFields
  | .qsh => qshFields
  | .usb => usbFields
  | .flt => fltFields
  | .twin => twinFields
  | .drs => drsFields
  | .flash => flashFields
  | .crs => crsFields
  | .upd => updFields
  | .key => keyFields
  | .plumb => plumbFields
  | .obs => obsFields

/-- The pages on which PAGE_CTRL.EN is fixed at 1 and a soft reset has no effect (R47). -/
def Kind.fixedOn : Kind → Bool
  | .sys | .clk | .pwrst | .flt | .plumb | .obs | .key | .swc | .rsq | .timeP | .img | .brg | .flash | .pwd => true
  | _ => false

/-- The highest interrupt bit that the chapter of a kind of page defines; every bit up to it is defined (R51, R77, R99, R140, R171,
R174, R177, R204, R206, R250, R256, R288, R291, R322, R327, R330, R354, R384, R387, R416, R455, R458, R480, R483, R507, R518, R526,
R539, R560, R584, R600, R605, R627, R646, R672, R695, R698). -/
def Kind.lastInt : Kind → Nat
  | .sys => 1
  | .qsh => 2
  | .clk | .rsq | .mir | .mov => 3
  | .pwrst | .link | .bind | .lnch | .txts | .pcie | .flash | .obs => 4
  | .swc | .pmap | .axis | .plumb => 5
  | .timeP | .trk | .brg | .usb | .flt | .crs => 6
  | .dio | .lane | .zone | .pwd | .slu | .twin | .key => 7
  | .cog => 8
  | .drs | .upd => 9
  | .can => 10
  | .img => 15

/-- The interrupt bits of page `p`: those of its kind, and on LINKE DUP_ID, RING_CHG and CLAIM_DONE (R140); the others are
reserved (R51). -/
def intMask (p : Nat) : Nat :=
  match pageKind? p with
  | some k => 2 ^ (k.lastInt + 1) - 1 + (if p = pgLINK then 0x700 else 0)
  | none => 0

/-- The word that the fields of one register word hold after reset. -/
def fieldsReset (fs : List Field) (off : Nat) : Nat :=
  fs.foldl (fun a f => match f.idx? off with
    | some i => a + f.resetAt i % 2 ^ f.width * 2 ^ f.lo
    | none => a) 0

/-- The word at byte offset `off` of page `p` after reset (R43 to R46, R51, and each block's register tables).
The ring-wide registers of the link pages exist in LINKE only (spec/04_races_and_links.md, before R129).
The values fused at manufacture are configuration constants. -/
def resetWordAt (p off : Nat) : Nat :=
  match pageRow? p with
  | none => 0
  | some r =>
    if off = 0x000 then r.code * 2 ^ 20 + (p - r.first) * 2 ^ 12 + 0x100
    else if off = 0x004 then (if r.kind = .slu then (if p = r.first then 1 else 0) else r.caps)
    else if off = 0x008 then b2n r.kind.fixedOn
    else if off < 0x100 then 0
    else if r.kind = .link ∧ p ≠ r.first ∧ 0x120 ≤ off then 0
    else if p = pgLINK ∧ off = 0x220 then Config.serial.toNat % 2 ^ 32
    else if p = pgLINK ∧ off = 0x224 then Config.serial.toNat / 2 ^ 32
    else if p = pgUSB ∧ off = 0x104 then Config.usbId.toNat
    else if p = pgDRS ∧ 0x150 ≤ off ∧ off < 0x160 then (Config.tsDelay ((off - 0x150) / 4)).toNat
    else if p = pgUPD ∧ off = 0x130 then Config.fusedRollback.toNat
    else if p = pgSLU ∧ off = 0x100 then fieldsReset r.kind.fields off - 2 ^ SLU_CFG_OV_OFF.lo
    else if p = pgSLU ∧ off = 0x110 then fieldsReset r.kind.fields off + 2 ^ SLU_STAT_LEVEL.lo
    else fieldsReset r.kind.fields off

/-- The five initiators of R58, each with its own high-word latches and its own copy of the per-initiator registers. -/
inductive Initiator where
  | hk | pcie | qsh | usb | bridge
  deriving DecidableEq, Repr

/-- A sample of a line's pin: its level, and whether the pin has held it for FILT ticks (R333). -/
structure LineSample where
  level : Bool
  held : Bool
  deriving DecidableEq, Repr

/-- The number of an initiator, in the order of R58. -/
def Initiator.num : Initiator → Nat
  | .hk => 0 | .pcie => 1 | .qsh => 2 | .usb => 3 | .bridge => 4

/-- The key of a register word in the register maps: 2^24 times the initiator's number for a register held separately
for each initiator, and the local address within page space (R33). -/
def regKey (ini p off : Nat) : Nat := ini * 2 ^ 24 + p * 0x1000 + off

/-- What an unlisted register word reads as: its value after reset. -/
def regDefault (k : Nat) : Word := BitVec.ofNat 32 (resetWordAt (k % 2 ^ 24 / 0x1000) (k % 0x1000))

end Sys2Proof.Machine
end

