-- ==== Sys2Proof/Machine/Store.lean ====
section
/-!
DEFINITION. What the external flash holds beyond power (R591, R602, R607, R631, R651): the two firmware slots, the copies of
the Foundation and of the Courses, key and pair records, the ledger, and the erase counts of wear-managed sectors.
-/
namespace Sys2Proof.Machine

/-- A firmware slot: its STATE as UPD_SLOTx codes it, the 512 header bytes, the encrypted body, the sequence numbers of its
TRIAL and GOOD marks, and the TRIED mark (R628, R631, R645). -/
structure FwSlot where
  st : Nat := 0
  header : List Byte := []
  body : List Byte := []
  seq : Nat := 0
  tried : Bool := false
  deriving DecidableEq, Repr

/-- A written copy of an image: 0 Foundation, 1 to 8 Course (R607, R608). -/
structure CrsCopy where
  kind : Nat
  bytes : List Byte
  deriving DecidableEq, Repr

/-- A slot record of R651: a SLOT, or a TOMBSTONE. -/
structure KeyRec where
  tomb : Bool
  slot : Nat
  parent : Nat
  usage : Nat
  gen : Nat
  nonce : List Byte
  wrapped : List Byte
  tag : List Byte
  dead : Nat := 0xFFFFFFFF
  deriving DecidableEq, Repr

/-- A PAIR record of R664. -/
structure PairRec where
  port : Nat
  serial : Nat
  gen : Nat
  txRes : Nat
  rxMark : Nat
  tag : List Byte
  deriving DecidableEq, Repr

/-- The flash: slots A and B, image copies (newest first), key records and pair records (oldest first), ledger records
(oldest first, each the eight words of a fault record), and erase counts and retired sectors
by 4096 × region + sector. -/
structure Flash where
  slotA : FwSlot := {}
  slotB : FwSlot := {}
  images : List CrsCopy := []
  keys : List KeyRec := []
  pairs : List PairRec := []
  ledger : List (List Nat) := []
  erase : List (Nat × Nat) := []
  retired : List Nat := []
  deriving DecidableEq, Repr

end Sys2Proof.Machine
end

