-- ==== Sys2Proof/Syntax.lean ====
section
/-!
DEFINITION. The commands of the hub: one constructor per row of the opcode table.  What a port or another hub sends, what a pin or
a medium does, and what a timer or an engine of the hub completes.  An operand `ini` is the initiator of R58 that a register write
comes from; `page`, `port`, `lane`, `e`, `zone`, `sluice`, `mover`, `axis` and `line` number the instance that the command concerns.
The commands with operands come first, in the order of the table, then those without.
-/
namespace Sys2Proof
open Machine

/-- A command. -/
inductive Instr where
  /-- REGISTER_WRITE (R56): A write to a register field that has no row of its own, executed under the access-type
  semantics. -/
  | registerWrite (ini : Initiator) (page off value : Nat)
  /-- PAGE_ENABLE_WRITE (R46): A write to PAGE_CTRL.EN starts or stops the block's function. -/
  | pageEnableWrite (page : Nat) (en : Bool)
  /-- SOFT_RESET (R48): A write of 1 to PAGE_CTRL.SOFT_RESET starts a block reset, cancels pending applies and makes the
  page BUSY. -/
  | softReset (page : Nat)
  /-- SOFT_RESET_DONE (R48): The soft reset completes within 10 µs; READY returns and CFG_GEN increments. -/
  | softResetDone (page : Nat)
  /-- APPLY (R59): A write of 1 to PAGE_CTRL.APPLY makes the apply pending and blocks RWS writes. -/
  | apply (page : Nat)
  /-- APPLY_COPY (R59): The pending apply copies every shadow into effect, at once or at the block's boundary, then
  increments CFG_GEN and sets APPLIED. -/
  | applyCopy (page : Nat)
  /-- APPLY_AT_COMMIT (R60): A write of 1 to PAGE_CTRL.APPLY_AT_COMMIT arms the shadow copy for the next commit instant. -/
  | applyAtCommit (page : Nat)
  /-- LOCK (R63): A write of 1 to PAGE_CTRL.LOCK locks the page's RW and RWS fields until hub reset. -/
  | lock (page : Nat)
  /-- INT_RAW_CLEAR (R51): A write to INT_RAW clears the bits written as 1 and may trigger a further MSI-X message. -/
  | intRawClear (page value : Nat)
  /-- INT_EN_WRITE (R68): A write to INT_EN changes enabled sources and may trigger a further MSI-X message. -/
  | intEnWrite (page value : Nat)
  /-- INT_FORCE (R51): A write to INT_FORCE sets INT_RAW bits exactly as their events would. -/
  | intForce (page value : Nat)
  /-- FLT_FORCE (R53): A write to FLT_FORCE injects one forced fault message per bit written. -/
  | fltForce (page value : Nat)
  /-- COUNTER_LOW_READ (R58): A read of a counter's low word returns it and latches the high word for that initiator. -/
  | counterLowRead (ini : Initiator) (page k : Nat)
  /-- QUEUE_POP (R198): A write to a queue's POP register removes its head entry. -/
  | queuePop (page : Nat)
  /-- QUEUE_OVF_CLEAR (R205): A write of 1 to a queue's OVF bit clears OVF and OVF_COUNT. -/
  | queueOvfClear (page : Nat)
  /-- REF_MONITOR_WINDOW (R72): A 16 µs reference-monitor window ends and its edge count is judged. -/
  | refMonitorWindow (edges : Nat)
  /-- PHY_PLL_UNLOCK (R74): A PHY PLL loses lock and takes its link down. -/
  | phyPllUnlock (port : Nat)
  /-- PHY_PLL_LOCK (R74): A PHY PLL regains lock by itself. -/
  | phyPllLock (port : Nat)
  /-- PORST_ASSERT (R79): PORST_N is driven low and the logic die enters hub reset. -/
  | porstAssert (ns : Nat) (testEn : Bool)
  /-- PORST_RELEASE (R84): The release of PORST_N, or the end of an internal hub reset, starts start-up at t_0. -/
  | porstRelease (testEn : Bool)
  /-- SUPPLY_LOW (R702): A logic-die rail stays below its falling threshold for 2 µs and causes hub reset with cause SUPPLY. -/
  | supplyLow (rail : Nat)
  /-- SUPPLY_OK (R702): A logic-die rail stays above its rising threshold for 1 ms and the supply reset ends. -/
  | supplyOk (rail : Nat)
  /-- FLASH_HEADER_CHECK (R601): Step 2 completes: the ROM reads the flash identification and SFDP and checks the slot
  headers. -/
  | flashHeaderCheck (fitted : Option Flash) (answers sfdp : Bool) (jedec size : Nat) (quad : Bool) (rate : Nat)
  /-- BOOT_STEP_LATE (R86): A start-up step exceeds its bound and PWRST_BOOT_LATE records it. -/
  | bootStepLate (step : Nat)
  /-- PWRST_HUB_RESET (R96): PWRST_CMD command HUB_RESET schedules a hub reset 10 µs later. -/
  | pwrstHubReset (key : Nat)
  /-- PWRST_ENTER_QUIET (R96): PWRST_CMD command ENTER_QUIET requests QUIET at the next commit. -/
  | pwrstEnterQuiet (key : Nat)
  /-- PWRST_LEAVE_QUIET (R96): PWRST_CMD command LEAVE_QUIET requests SERVICE at the next commit. -/
  | pwrstLeaveQuiet (key : Nat)
  /-- PWRST_RECOVERY (R96): PWRST_CMD command RECOVERY schedules a hub reset into RECOVERY 10 µs later. -/
  | pwrstRecovery (key : Nat)
  /-- PCS_LOCK_GAINED (R106): A port's PCS gains lock; the link enters PCS_UP and sends its first HELLO. -/
  | pcsLockGained (port txDelay rxDelay asym : Nat)
  /-- PCS_LOCK_LOST (R106): A port's PCS loses lock and the link enters DOWN within 10 µs. -/
  | pcsLockLost (port : Nat)
  /-- SD_LOS_RISE (R103): SD_LOS goes high and the SerDes link is treated as having lost PCS lock. -/
  | sdLosRise (port : Nat)
  /-- SD_LOS_FALL (R106): SD_LOS goes low and a DOWN SerDes port enters TRAINING. -/
  | sdLosFall (port : Nat)
  /-- HELLO_TX (R107): Every 64 µs a port sends a HELLO cell. -/
  | helloTx (port : Nat)
  /-- HELLO_TIMEOUT (R106): HELLO_MISS periods pass without a good HELLO; the link goes DOWN and retrains. -/
  | helloTimeout (port : Nat)
  /-- FRAME_RX (R116): A received frame is checked in order, delivered, resequenced and forwarded. -/
  | frameRx (port : Nat) (f : Frame)
  /-- FRAME_TX (R147): A port takes the next cell from its class queues, ages it, and sends it. -/
  | frameTx (d : Departure)
  /-- CELL_ADMIT_RESUME (R146): An originated cell that waited for granules is admitted and takes its SEQ and ORIGIN. -/
  | cellAdmitResume (cls : Nat)
  /-- LINK_RETRAIN (R108): LINK_CMD command RETRAIN forces the link to retrain. -/
  | linkRetrain (port : Nat)
  /-- CABLE_TEST (R109): LINK_CMD command CABLE_TEST starts a reflection test or completes at once with REJECTED. -/
  | cableTest (port : Nat)
  /-- CABLE_TEST_DONE (R109): The cable test completes and LINK_DIAG.RESULT holds the outcome. -/
  | cableTestDone (port result dist : Nat)
  /-- CLEAR_WORST (R109): LINK_CMD command CLEAR_WORST sets SQI_WORST to 7. -/
  | clearWorst (port : Nat)
  /-- SQI_UPDATE (R109): Every 1 ms the SQI grade of a locked 2.5GBASE-T1 port is updated. -/
  | sqiUpdate (port grade : Nat)
  /-- RING_ID_SET (R126): RING_ID_SET command CLAIM with key 0x5A starts a FIXED claim of a new ID. -/
  | ringIdSet (ini : Initiator) (data : Nat)
  /-- PDELAY_REQ_TX (R182): A port sends a PDELAY_REQ on entry to UP and every 8 ms. -/
  | pdelayReqTx (port : Nat)
  /-- PDELAY_TIMEOUT (R182): A peer-delay exchange gets no response within 1 ms. -/
  | pdelayTimeout (port : Nat)
  /-- SYNC_RECORD_TX (R183): Within 20 µs of a TIME_SYNC departure, a sync record is sent on that port. -/
  | syncRecordTx (port : Nat)
  /-- SYNC_RECORD_TIMEOUT (R183): 200 µs pass without the sync record and the copy yields no sample. -/
  | syncRecordTimeout (port seq : Nat)
  /-- SYNC_DECISION (R183): The Governor decides a TIME_SYNC, picks a copy and applies the offset sample. -/
  | syncDecision (seq : Nat)
  /-- SHARD_VERIFY (R222): Within 40 µs of holding a seal and its cells, the shard's digest is verified. -/
  | shardVerify (owner epoch : Nat)
  /-- REPAIR_REQ_RETRY (R234): A repair request without a complete response is repeated or escalated. -/
  | repairReqRetry (tag : Nat)
  /-- PROXY_SHARD_REQUEST (R237): After SETTLE + 1 epochs without a seal of a PENDING shard, PROXY_SHARD is requested. -/
  | proxyShardRequest (owner : Nat)
  /-- COMMIT_INSTANT (R224): At t_c(N) the hub commits N or lags, and applies every armed apply and switch. -/
  | commitInstant (upset : List Nat)
  /-- PMAP_ADOPT (R244): PMAP_CMD ADOPT makes the staged map current and restarts collection. -/
  | pmapAdopt (gen : Nat)
  /-- PMAP_STAGE_WRITE (R252): A write to PMAP_STAGE or PMAP_MCAST edits staging or is refused while ARMED. -/
  | pmapStageWrite (which value : Nat)
  /-- PIN (R263): IMG_PIN_CMD PIN pins the visible epoch or is refused. -/
  | pin (tag : Nat)
  /-- RENEW (R264): IMG_PIN_CMD RENEW with the holder's tag restarts the lease. -/
  | renew (tag : Nat)
  /-- UNPIN (R264): IMG_PIN_CMD UNPIN with the holder's tag releases the pin. -/
  | unpin (tag : Nat)
  /-- DEMAND_WRITE (R272): An aligned 8-byte write to IMG_DEMAND is accepted, forwarded or refused. -/
  | demandWrite (ini : Initiator) (index value : Nat)
  /-- IMAGE_COPY_START (R279): An idle copy channel starts copying the committed epoch within 2 µs of a commit. -/
  | imageCopyStart (ch : Nat)
  /-- IMAGE_COPY_DONE (R280): An image copy writes its trailer and final header and completes. -/
  | imageCopyDone (ch : Nat)
  /-- AXIS_QUAD_COUNT (R293): A change of a quadrature line counts the axis position up or down. -/
  | axisQuadCount (axis : Nat)
  /-- AXIS_SSI_START (R294): At each SSI_PERIOD boundary the axis starts an SSI read. -/
  | axisSsiStart (axis : Nat)
  /-- SSI_READ_DONE (R358): An SSI read completes, good or failed. -/
  | ssiReadDone (lane : Nat) (high : Bool) (value : Nat) (par zero : Bool)
  /-- AXIS_PRESET (R320): AXIS_CMD PRESET arms a preset for the next t_s. -/
  | axisPreset (axis : Nat)
  /-- TRK_READ (R324): TRK_WCMD READ copies a window into TRK_WIN0–7. -/
  | trkRead (ini : Initiator)
  /-- TRK_WRITE (R324): TRK_WCMD WRITE writes a window in one step or is refused. -/
  | trkWrite (ini : Initiator)
  /-- TRK_DISARM (R324): TRK_WCMD DISARM returns a window to IDLE. -/
  | trkDisarm (ini : Initiator)
  /-- ARM_SOFT (R324): TRK_WCMD ARM_SOFT arms a LISTEN window by software. -/
  | armSoft (ini : Initiator)
  /-- LNCH_INSERT (R317): LNCH_CMD INSERT places an entry in the launch queue or refuses it. -/
  | lnchInsert (ini : Initiator)
  /-- LNCH_CANCEL (R317): LNCH_CMD CANCEL removes a pending entry. -/
  | lnchCancel (ini : Initiator) (slot : Nat)
  /-- FLUSH_TARGET (R317): LNCH_CMD FLUSH_TARGET removes unstaged entries of one OP and TARGET. -/
  | flushTarget (ini : Initiator)
  /-- PULSE_END (R313): The line of a DO_PULSE returns inactive at TIME + width. -/
  | pulseEnd (line : Nat)
  /-- DIO_FILTERED_CHANGE (R333): The glitch filter accepts a new level after FILT ticks. -/
  | dioFilteredChange (line : Nat) (x : LineSample)
  /-- DIO_EDGE (R335): The debounce accepts a level change; the edge is stamped and offered to the FIFO and tracking. -/
  | dioEdge (line : Nat)
  /-- CHATTER_WINDOW (R340): A chatter-counting window ends and the next begins. -/
  | chatterWindow (page : Nat)
  /-- CHATTER_END (R342): CHAT_QUIET passes without an edge and the line leaves CHATTER. -/
  | chatterEnd (line : Nat)
  /-- DIO_STUCK (R339): An input stays active for STUCK_MAX and becomes STUCK. -/
  | dioStuck (line : Nat)
  /-- RB_FAIL (R347): A read-back difference outlasts RB_DELAY and is reported. -/
  | rbFail (line : Nat)
  /-- DIO_OUT_SET (R350): DIO_OUT_SET sets bits of DIO_OUT_HOST. -/
  | dioOutSet (page value : Nat)
  /-- DIO_OUT_CLR (R350): DIO_OUT_CLR clears bits of DIO_OUT_HOST. -/
  | dioOutClr (page value : Nat)
  /-- DIO_OUT_HOST_WRITE (R345): A write to DIO_OUT_HOST drives HOST-mode lines on the next CLK_IO edge. -/
  | dioOutHostWrite (page value : Nat)
  /-- DIO_CNT_CLR (R338): DIO_CNT_CLR clears the selected edge counters. -/
  | dioCntClr (page value : Nat)
  /-- LANE_TXD (R365): A write to LANE_TXD pushes a word without end mark. -/
  | laneTxd (ini : Initiator) (lane data : Nat)
  /-- LANE_TXD_END (R365): A write to LANE_TXD_END pushes a word with end mark. -/
  | laneTxdEnd (ini : Initiator) (lane data : Nat)
  /-- TX_FIFO_ROOM (R365): A write waiting on a full transmit FIFO completes when a word leaves. -/
  | txFifoRoom (lane : Nat)
  /-- LOCAL_WRITE_EXPIRED (R508): A local write waits 100 µs and is abandoned with WAIT_EXPIRED. -/
  | localWriteExpired (lane : Nat)
  /-- LANE_RX_POP (R368): A read of LANE_RXW_LO pops the head receive word. -/
  | laneRxPop (ini : Initiator) (lane : Nat) (wide perr : Bool)
  /-- RX_FLUSH (R369): LANE_CMD RX_FLUSH empties the receive FIFO. -/
  | rxFlush (lane : Nat)
  /-- TX_FLUSH (R369): LANE_CMD TX_FLUSH empties the transmit FIFO. -/
  | txFlush (lane : Nat)
  /-- RX_DROP_REST (R369): LANE_CMD RX_DROP_REST discards through the next end mark. -/
  | rxDropRest (lane : Nat)
  /-- TX_DROP_HEAD (R369): LANE_CMD TX_DROP_HEAD removes an unstarted head frame. -/
  | txDropHead (lane : Nat)
  /-- SSI_READ (R358): LANE_CMD SSI_READ starts an SSI read. -/
  | ssiRead (lane : Nat)
  /-- IOL_WURQ (R359): LANE_CMD IOL_WURQ drives WURQ high for 80 µs. -/
  | iolWurq (lane : Nat)
  /-- IOL_WURQ_END (R359): The 80 µs WURQ pulse ends. -/
  | iolWurqEnd (lane : Nat)
  /-- LANE_FRAME_START (R364): A complete, released head frame starts transmission. -/
  | laneFrameStart (lane : Nat)
  /-- LANE_FRAME_DONE (R364): A frame finishes; DE is released and a stamp may be written. -/
  | laneFrameDone (lane : Nat) (nack : Bool)
  /-- LANE_RX_CHAR (R361): A received character or word is written to the receive FIFO. -/
  | laneRxChar (lane data : Nat) (perr ferr brk late : Bool)
  /-- LANE_PACKET_END (R362): A packet ends by gap, length, break or transaction end and gets its end mark. -/
  | lanePacketEnd (lane : Nat)
  /-- I2C_STRETCH_TIMEOUT (R360): A target holds SCL low for 25 ms and the transaction ends. -/
  | i2cStretchTimeout (lane : Nat)
  /-- IOL_NO_RESPONSE (R359): No IO-Link response octet begins in time. -/
  | iolNoResponse (lane : Nat)
  /-- MOVER_START (R378): MOVn_CMD START starts a mover. -/
  | moverStart (mover : Nat)
  /-- MOVER_STOP (R378): MOVn_CMD STOP stops a mover after the word in progress. -/
  | moverStop (mover : Nat)
  /-- MOVER_BURST (R375): A mover is granted and moves one burst. -/
  | moverBurst (mover : Nat) (host : List (Nat × Nat)) (contend : Bool)
  /-- MOVER_BACKOFF_END (R499): BACKOFF passes and the mover retries its burst. -/
  | moverBackoffEnd (mover : Nat)
  /-- COG_CMD_START (R406): COG_CMD START starts engines from ENTRY. -/
  | cogCmdStart (page mask : Nat)
  /-- COG_CMD_STOP (R407): COG_CMD STOP stops engines at once, keeping their state. -/
  | cogCmdStop (page mask : Nat)
  /-- COG_CMD_RESUME (R408): COG_CMD RESUME continues stopped engines. -/
  | cogCmdResume (page mask : Nat)
  /-- COG_DRIVE (R395): An engine executes DRIVE on its pins. -/
  | cogDrive (e : Nat) (perr : Bool) (levels : Nat)
  /-- COG_SAMPLE (R396): An engine executes SAMPLE into SR. -/
  | cogSample (e : Nat) (perr : Bool) (levels : Nat)
  /-- COG_EMIT (R396): An engine executes EMIT from SR onto pins. -/
  | cogEmit (e : Nat) (perr : Bool) (levels : Nat)
  /-- COG_TAKE (R395): An engine executes TAKE from the transmit FIFO. -/
  | cogTake (e : Nat) (perr : Bool) (levels : Nat) (ferr : Bool)
  /-- COG_GIVE (R395): An engine executes GIVE to the receive FIFO or a mailbox. -/
  | cogGive (e : Nat) (perr : Bool) (levels : Nat)
  /-- COG_AWAIT (R397): An engine executes AWAIT on a pattern, arrival or token. -/
  | cogAwait (e : Nat) (perr : Bool) (levels : Nat)
  /-- COG_LOOP (R400): An engine executes LOOP and opens a hardware loop. -/
  | cogLoop (e : Nat) (perr : Bool) (levels : Nat)
  /-- COG_BRANCH (R398): An engine executes BRANCH. -/
  | cogBranch (e : Nat) (perr : Bool) (levels : Nat)
  /-- COG_LOAD (R399): An engine executes LOAD. -/
  | cogLoad (e : Nat) (perr : Bool) (levels : Nat)
  /-- COG_MARK (R402): An engine executes MARK to capture time or wait for a launch match. -/
  | cogMark (e : Nat) (perr : Bool) (levels : Nat)
  /-- COG_SIGNAL (R403): An engine executes SIGNAL, raising a COG_SIG event and maybe giving a token. -/
  | cogSignal (e : Nat) (perr : Bool) (levels : Nat)
  /-- COG_WAIT_DONE (R392): A waiting AWAIT, TAKE, GIVE or MARK completes when its condition holds. -/
  | cogWaitDone (e levels : Nat) (ferr : Bool)
  /-- AWAIT_TIMEOUT (R397): An AWAIT's TIMEOUT expires and it completes with the TIMEOUT flag. -/
  | awaitTimeout (e : Nat)
  /-- COG_STORE_WRITE (R409): A write to COG_STOREa replaces a program word or is refused. -/
  | cogStoreWrite (page addr value : Nat)
  /-- COG_TOKEN_GIVE (R413): COG_TOKEN_GIVE adds to group tokens. -/
  | cogTokenGive (page value : Nat)
  /-- COG_TOKEN_CLR (R413): COG_TOKEN_CLR empties group tokens. -/
  | cogTokenClr (page value : Nat)
  /-- COG_CLAIM_WRITE (R389): A write to COGe_CLAIM establishes or releases a lane claim. -/
  | cogClaimWrite (e value : Nat)
  /-- COG_CFG_WRITE (R390): A write to COGe_CFG takes effect only while the engine is IDLE, STOPPED or FAULT. -/
  | cogCfgWrite (e value : Nat)
  /-- CAN_FRAME_RX (R423): A valid CAN frame is written to the ring and updates matching mailboxes. -/
  | canFrameRx (port idw dlc : Nat) (brs esi : Bool) (data : List Byte) (age : Nat) (res : Bool) (pulse : Nat)
  /-- CAN_RX_POP (R424): A read of CAN_RXE19 removes the head ring entry. -/
  | canRxPop (ini : Initiator) (port : Nat)
  /-- CAN_REQUEST (R429): CAN_TXB_CMD REQUEST makes a buffer PENDING or latches it. -/
  | canRequest (ini : Initiator) (port buf : Nat)
  /-- CAN_CANCEL (R429): CAN_TXB_CMD CANCEL cancels a PENDING buffer. -/
  | canCancel (ini : Initiator) (port buf : Nat)
  /-- CAN_RELEASE (R429): CAN_TXB_CMD RELEASE returns a CLASH buffer to IDLE. -/
  | canRelease (ini : Initiator) (port buf : Nat)
  /-- CAN_ATTEMPT_START (R430): The chosen buffer's start of frame is driven and it becomes ACTIVE. -/
  | canAttemptStart (port : Nat)
  /-- CAN_ATTEMPT_END (R430): A transmission attempt succeeds, loses arbitration or ends in error. -/
  | canAttemptEnd (port outcome lec : Nat) (clash exempt : Bool)
  /-- CAN_BUSOFF_RECOVERED (R438): 128 recovery sequences return the port to ERROR_ACTIVE. -/
  | canBusoffRecovered (port : Nat)
  /-- CAN_INTEGRATED (R422): 11 recessive bits complete integration. -/
  | canIntegrated (port : Nat)
  /-- CAN_CYCLE_START (R433): A schedule basic cycle begins. -/
  | canCycleStart (port : Nat)
  /-- CAN_WINDOW_START (R435): A slot window begins and its frame may start. -/
  | canWindowStart (port slot : Nat)
  /-- CAN_WINDOW_END (R436): A slot window ends with its frame unsent and the slot is missed. -/
  | canWindowEnd (port : Nat)
  /-- CAN_DETECT_START (R441): CAN_DET_CTRL.START begins bus-rate detection. -/
  | canDetectStart (port : Nat)
  /-- CAN_DETECT_DWELL (R441): A candidate's DWELL passes and the next is tried or detection ends. -/
  | canDetectDwell (port pulse : Nat)
  /-- ZONE_SLEEP (R443): ZONE_CMD SLEEP starts sleep agreement by queuing SLEEP_REQ. -/
  | zoneSleep (ini : Initiator) (zone : Nat)
  /-- ZONE_WAKE (R457): ZONE_CMD WAKE is a SOFT wake. -/
  | zoneWake (ini : Initiator) (zone : Nat)
  /-- ZONE_AGREE_TIMEOUT (R443): AGREE_WIN passes without full agreement. -/
  | zoneAgreeTimeout (zone : Nat)
  /-- ZONE_ENTER_DONE (R446): ENTER expires and the zone becomes ASLEEP. -/
  | zoneEnterDone (zone : Nat)
  /-- ZONE_LINE_WAKE (R445): WAKEn_N is held low for 5 µs by another device. -/
  | zoneLineWake (zone : Nat)
  /-- ZONE_BUS_WAKE (R445): CAN_RXn is held low for 5 µs in STANDBY. -/
  | zoneBusWake (zone : Nat)
  /-- ZONE_WAKE_PULSE_END (R447): The WAKE_PULSE ends and WAKE_RSP starts. -/
  | zoneWakePulseEnd (zone : Nat)
  /-- ZONE_WAKE_RSP_TIMEOUT (R447): WAKE_RSP passes; the pulse repeats or the zone falls back. -/
  | zoneWakeRspTimeout (zone : Nat)
  /-- SLU_LIMIT_ENTRY (R464): The current limit begins to regulate. -/
  | sluLimitEntry (sluice : Nat)
  /-- SLU_SHORT_TRIP (R465): The fast comparator trips at twice ILIM. -/
  | sluShortTrip (sluice : Nat)
  /-- SLU_TIMER_TRIP (R466): The fault timer reaches TIMER and the sluice enters FAULT. -/
  | sluTimerTrip (sluice : Nat)
  /-- SLU_RAMP_DONE (R467): VOUT reaches VIN − PG_DROP and the sluice enters ON. -/
  | sluRampDone (sluice : Nat)
  /-- SLU_RAMP_TIMEOUT (R467): The ramp does not end within 4 × RAMP. -/
  | sluRampTimeout (sluice : Nat)
  /-- SLU_PG_QUALIFY (R468): PG_QUAL consecutive good ticks assert power-good. -/
  | sluPgQualify (sluice : Nat)
  /-- SLU_RETRY (R472): RETRY_DELAY passes and a faulted sluice ramps again. -/
  | sluRetry (sluice : Nat)
  /-- SLU_RETRY_COUNT_CLEAR (R472): PG held for 1 s clears the retry count. -/
  | sluRetryCountClear (sluice : Nat)
  /-- SLU_ON (R470): SLU_CMD ON sets LEVEL 1. -/
  | sluOn (sluice : Nat)
  /-- SLU_OFF (R470): SLU_CMD OFF sets LEVEL 0. -/
  | sluOff (sluice : Nat)
  /-- SLU_CLEAR (R470): SLU_CMD CLEAR ends a FAULT. -/
  | sluClear (sluice : Nat)
  /-- POWER_CYCLE (R473): PWD_CMD POWER_CYCLE turns SLU0 off for OFF_TIME. -/
  | powerCycle (offTime key : Nat)
  /-- SLU_FET_SHORT_DETECT (R474): VOUT above 2 V for 10 ms with the gate off enters FET_SHORT. -/
  | sluFetShortDetect (sluice : Nat)
  /-- SLU_FET_SHORT_CLEAR (R474): VOUT below 2 V for 10 ms returns the sluice to OFF. -/
  | sluFetShortClear (sluice : Nat)
  /-- PFW_ASSERT (R476): VIN falls below a PFW threshold for 2 µs. -/
  | pfwAssert (pin : Nat)
  /-- PFW_DEASSERT (R476): VIN stays 0.5 V above the threshold for 1 ms. -/
  | pfwDeassert (pin : Nat)
  /-- PWD_TELEMETRY_SAMPLE (R478): Every 100 µs the power die measures VIN, VOUT and sense voltages. -/
  | pwdTelemetrySample (vin temp : Nat) (vout sense : List Nat)
  /-- BRG_WRITE_ISSUE (R487): A remote write is admitted as a posted BRG_WRITE. -/
  | brgWriteIssue (ini : Initiator) (node addr : Nat) (words : List Nat)
  /-- BRG_READ_ISSUE (R494): A remote read takes a context and sends BRG_READ, or is served from prefetch. -/
  | brgReadIssue (ini : Initiator) (node addr len : Nat)
  /-- BRG_READ_TIMEOUT (R497): READ_TMO passes and the read completes with TIMEOUT. -/
  | brgReadTimeout (rid : Nat)
  /-- COLLECT_REQUEST (R501): BRG_CREQ_CMD GO takes a collection slot and sends the read. -/
  | collectRequest (ini : Initiator) (len : Nat)
  /-- SLOT_COLLECT (R501): BRG_SLOT_CMD COLLECT frees a READY slot. -/
  | slotCollect (slot : Nat)
  /-- SLOT_DISCARD (R501): COLLECT_TMO passes and a READY slot is discarded. -/
  | slotDiscard (slot : Nat)
  /-- MULTICAST_SEND (R502): BRG_MCW_CMD SEND sends a multicast or broadcast write. -/
  | multicastSend (ini : Initiator)
  /-- PCIE_REQUEST (R512): A PCIe memory request to BAR0 or BAR2 becomes local or bridge accesses. -/
  | pcieRequest (bar : Nat) (write whole : Bool) (off len : Nat) (data : List Nat)
  /-- PCIE_CONFIG_WRITE (R510): A configuration write changes PCIe function state such as D3hot or MSI-X enable. -/
  | pcieConfigWrite (mem bme msixEn fmask d3 : Bool)
  /-- MSIX_UNMASK (R515): Unmasking a vector with its PBA bit set sends the message. -/
  | msixUnmask (vector addr data : Nat) (masked : Bool)
  /-- QSH_READ (R521): A QSPI READ frame reads local words. -/
  | qshRead (hdr : List Byte)
  /-- QSH_WRITE (R521): A QSPI WRITE frame writes words after its DCRC passes. -/
  | qshWrite (hdr data : List Byte) (dcrc : Nat)
  /-- QSH_TICKET (R521): A QSPI TICKET frame takes a collection slot for a remote read. -/
  | qshTicket (hdr : List Byte)
  /-- QSH_COLLECT (R521): A QSPI COLLECT frame returns a collection slot's data. -/
  | qshCollect (hdr : List Byte)
  /-- QSH_CS_RISE (R524): QSH_CS_N rises, ending or cutting off a frame. -/
  | qshCsRise (cut : Bool)
  /-- USB_STANDARD_REQUEST (R529): A USB 2.0 standard request is answered or stalled. -/
  | usbStandardRequest (recipient request value index length : Nat)
  /-- USB_ENDPOINT_HALT (R529): Halting endpoint 0x01 stops tunnel execution. -/
  | usbEndpointHalt (ep : Nat)
  /-- USB_HALT_CLEAR (R529): Clearing a halt resumes execution and resets the toggle. -/
  | usbHaltClear (ep : Nat)
  /-- GET_INFO (R530): Vendor request GET_INFO returns identity and state. -/
  | getInfo (length : Nat)
  /-- AUTH_CHALLENGE (R533): Vendor request AUTH_CHALLENGE returns a new nonce. -/
  | authChallenge (length : Nat)
  /-- AUTH_RESPONSE (R533): Vendor request AUTH_RESPONSE delivers the CMAC tag. -/
  | authResponse (tag : List Byte)
  /-- USB_REG_READ (R530): Vendor request REG_READ reads a local address. -/
  | usbRegRead (addr length : Nat)
  /-- USB_REG_WRITE (R530): Vendor request REG_WRITE writes a local address after the status stage. -/
  | usbRegWrite (addr : Nat) (words : List Nat)
  /-- GET_LAST_STATUS (R530): Vendor request GET_LAST_STATUS returns the last EP0 access status. -/
  | getLastStatus (length : Nat)
  /-- GET_WAKE_REASON (R530): Vendor request GET_WAKE_REASON returns and clears USB_WAKE_REASON. -/
  | getWakeReason (length : Nat)
  /-- DEAUTH (R530): Vendor request DEAUTH ends authentication. -/
  | deauth (length : Nat)
  /-- TUNNEL_READ (R531): A tunnel READ request is executed and answered. -/
  | tunnelRead (hdr : List Byte) (ecc : Bool)
  /-- TUNNEL_WRITE (R531): A tunnel WRITE request is executed and answered. -/
  | tunnelWrite (hdr data : List Byte) (ecc : Bool)
  /-- USB_BUS_RESET (R535): A USB bus reset aborts control transfers and ends authentication. -/
  | usbBusReset (highSpeed control : Bool)
  /-- USB_REMOTE_WAKE (R537): The port samples the bus and signals remote wake or resolves it as a resume. -/
  | usbRemoteWake (seen : Nat)
  /-- FAULT_MESSAGE (R540): A fault message is turned into a record or merged, and its action taken. -/
  | faultMessage (source kind : Nat) (uc : Bool) (addr word : Nat) (replay : Bool) (victim : Nat)
  /-- FAULT_RECORD_CLOSE (R547): A record closes on containment complete or after 1 s. -/
  | faultRecordClose (seq : Nat)
  /-- HEALTH_CE_EXPIRY (R50): 1 s after the last CE, HEALTH returns from 0b01. -/
  | healthCeExpiry (page : Nat)
  /-- HK_RESTART (R21): The housekeeping core restarts on watchdog or fault while data paths continue. -/
  | hkRestart (kind : Nat)
  /-- TWIN_PEER_RISE (R566): TWIN_PEER rises. -/
  | twinPeerRise (level : Bool)
  /-- COMPARE_MISMATCH (R571): A line differs from its expected level for CMP_DELAY. -/
  | compareMismatch (line : Nat)
  /-- TWIN_SWITCH (R579): TWIN_CMD SWITCH exchanges roles or is refused. -/
  | twinSwitch (key : Nat)
  /-- TWIN_RESYNC (R583): TWIN_CMD RESYNC makes a Bedstone send CKPT_REQ. -/
  | twinResync (key : Nat)
  /-- TWIN_REJOIN (R583): TWIN_CMD REJOIN takes a DEPOSED hub back to role entry. -/
  | twinRejoin (key : Nat)
  /-- SCRUB_STEP (R587): A scrubber reads a word, correcting or reporting errors. -/
  | scrubStep (m word found : Nat) (replay : Bool) (victim : Nat)
  /-- CALIBRATION (R589): A periodic calibration runs and applies its result. -/
  | calibration (quantity i : Nat) (training ok : Bool) (value : Int)
  /-- FLASH_OP_DONE (R592): A flash erase or program completes and is verified. -/
  | flashOpDone (region sector op : Nat) (ok : Bool)
  /-- LOGIC_TELEMETRY_SAMPLE (R596): Every 1 ms the logic-die monitors are sampled. -/
  | logicTelemetrySample (temp : Int) (core phy08 phy18 : Nat) (vddio : List Nat)
  /-- CRS_SWITCH (R614): CRS_CMD SWITCH arms a Course switch and sends COURSE_SWITCH. -/
  | crsSwitch (ini : Initiator) (course key : Nat)
  /-- CRS_STORE_OPEN (R622): CRS_STORE_CMD OPEN opens a store session. -/
  | crsStoreOpen (ini : Initiator) (image key : Nat)
  /-- CRS_STORE_DATA (R622): A write to CRS_STORE_DATA appends an image word. -/
  | crsStoreData (ini : Initiator) (data : Nat)
  /-- CRS_STORE_COMMIT (R622): CRS_STORE_CMD COMMIT validates the image and starts its write. -/
  | crsStoreCommit (ini : Initiator) (key : Nat)
  /-- CRS_STORE_ABORT (R622): CRS_STORE_CMD ABORT ends the session. -/
  | crsStoreAbort (ini : Initiator) (key : Nat)
  /-- UPD_OPEN (R633): UPD_CMD OPEN opens an update session for a port. -/
  | updOpen (ini : Initiator)
  /-- UPD_ABORT (R635): UPD_CMD ABORT ends the session with ABORTED. -/
  | updAbort (ini : Initiator)
  /-- UPD_PREPARE (R632): UPD_CMD PREPARE erases the non-running slot. -/
  | updPrepare (ini : Initiator)
  /-- UPD_ACTIVATE (R637): UPD_CMD ACTIVATE marks the slot TRIAL and restarts the housekeeping core. -/
  | updActivate (ini : Initiator) (slot key : Nat)
  /-- UPD_CONFIRM (R639): UPD_CMD CONFIRM marks the trial slot GOOD. -/
  | updConfirm (ini : Initiator)
  /-- UPD_DISTRIBUTE (R636): UPD_CMD DISTRIBUTE starts sending a slot's image over the ring. -/
  | updDistribute (ini : Initiator)
  /-- UPD_DATA_WRITE (R635): A write to UPD_DATA appends header or body bytes. -/
  | updDataWrite (ini : Initiator) (data : Nat)
  /-- UPD_USB_DATA (R633): Data on endpoint 0x03 feeds a USB update session. -/
  | updUsbData (data : List Byte) (bad : Bool)
  /-- UPD_SESSION_TIMEOUT (R635): 10 s without data ends a session with TIMEOUT. -/
  | updSessionTimeout (src : Nat)
  /-- INSTALL_CLEAR (R657): KEY_CMD INSTALL_CLEAR installs a key from KEY_DATA. -/
  | installClear (ini : Initiator) (slot parent key : Nat)
  /-- INSTALL_WRAPPED (R657): KEY_CMD INSTALL_WRAPPED unwraps and installs a key. -/
  | installWrapped (ini : Initiator) (slot parent key : Nat)
  /-- GENERATE (R657): KEY_CMD GENERATE creates a WRAP key from the DRBG. -/
  | generate (ini : Initiator) (slot parent key : Nat)
  /-- DESTROY (R660): KEY_CMD DESTROY zeroises and destroys a slot. -/
  | destroy (ini : Initiator) (slot key : Nat) (force : Bool)
  /-- LINK_ARM (R668): KEY_CMD LINK_ARM arms a link-master switch. -/
  | linkArm (ini : Initiator) (key : Nat)
  /-- LINK_DISARM (R669): KEY_CMD LINK_DISARM cancels an armed switch. -/
  | linkDisarm (ini : Initiator) (key : Nat)
  /-- SA_REKEY (R664): PN reaches 0xC000_0000 and a new transmit SA starts. -/
  | saRekey (port : Nat)
  /-- PAIR_RECORD_WRITE (R664): A PAIR record write completes and reserves key numbers. -/
  | pairRecordWrite (port : Nat)
  /-- KEY_SEARCH (R665): A receive search tries one key-number candidate per µs. -/
  | keySearch (port : Nat)
  /-- NO_VERIFY_TIMEOUT (R666): 10 ms without a verified frame puts the port in NO_KEY. -/
  | noVerifyTimeout (port : Nat)
  /-- PLUMB_SNAP (R676): PLUMB_CMD SNAP requests a snapshot or is refused. -/
  | plumbSnap (ini : Initiator) (atCommit pin : Bool) (scope tag : Nat)
  /-- PLUMB_RELEASE (R676): PLUMB_CMD RELEASE releases the summary. -/
  | plumbRelease (ini : Initiator) (tag : Nat)
  /-- PLUMB_PART_SELECT (R678): A write to PLUMB_PART selects a part to build. -/
  | plumbPartSelect (ini : Initiator) (part tag : Nat)
  /-- PLUMB_LATCH_TIMEOUT (R675): A page's latch does not complete within 100 µs. -/
  | plumbLatchTimeout (page : Nat)
  /-- OBS_MARK (R697): A write to OBS_MARK writes a MARKER trace record. -/
  | obsMark (data : Nat)
  /-- EXTEST (R717): The TAP instruction EXTEST drives the boundary register. -/
  | extest (pins bits : List Bool)
  /-- SAMPLE_PRELOAD (R717): The TAP instruction SAMPLE/PRELOAD captures the boundary register. -/
  | samplePreload (pins bits : List Bool)
  /-- BYPASS (R717): The TAP instruction BYPASS selects the bypass register. -/
  | bypass (code : Nat) (bits : List Bool)
  /-- PCIE_LINK_UP (R518): The PCIe link trains and comes up, setting PCIE_STAT.LINK_UP and INT_RAW.LINK_CHG. -/
  | pcieLinkUp (speed width : Nat)
  /-- CAN_ERROR_DETECTED (R438): A CAN port detects a bus error or error flag during reception, raising REC and possibly
  entering ERROR_PASSIVE. -/
  | canErrorDetected (port lec : Nat) (eight : Bool)
  /-- VDDIO_BANK_CHANGE (R704): A VDDIO bank is powered or unpowered while the hub runs; its pins go high impedance or
  return and DIO_VIO reflects it. -/
  | vddioBankChange (bank : Nat) (present at3v3 : Bool)
  /-- SLU_LIMIT_EXIT (R468): The sluice current falls below ILIM, LIMIT returns to 0, the fault timer begins counting down
  and power-good qualification restarts. -/
  | sluLimitExit (sluice : Nat)
  /-- VOUT_BELOW_PG_FLOOR (R468): In HOLD mode VOUT falls below PG_FLOOR and power-good drops. -/
  | voutBelowPgFloor (sluice : Nat)
  /-- EXTRAP_MAX_EXPIRY (R299): Ring time passes T2 plus EXTRAP_MAX, an axis reference becomes invalid and
  INT_RAW.INVALID_CHG is set. -/
  | extrapMaxExpiry (ref : Nat)
  /-- CORE_PLL_UNLOCK (R73): The core PLL loses lock for more than 1 µs and the hub enters hub reset. -/
  | corePllUnlock
  /-- PCIE_PLL_UNLOCK (R74): The PCIe PLL loses lock and takes the PCIe link down. -/
  | pciePllUnlock
  /-- PCIE_PLL_LOCK (R74): The PCIe PLL regains lock by itself. -/
  | pciePllLock
  /-- POWER_ON_RESET (R78): VIN rising through the undervoltage threshold, or loss of VDD_AON, resets both dies. -/
  | powerOnReset
  /-- HK_FIRMWARE_RUNNING (R637): Housekeeping firmware reports running, at start-up step 3 or at the end of an activation
  pause. -/
  | hkFirmwareRunning
  /-- FOUNDATION_APPLY (R611): At step 4 the Foundation and initial Course are validated and applied, and the node enters
  JOIN. -/
  | foundationApply
  /-- PWRST_RESET_TAKE_EFFECT (R96): 10 µs after a HUB_RESET or RECOVERY command, the hub reset takes effect. -/
  | pwrstResetTakeEffect
  /-- HELLO_RX (R106): A HELLO cell is received and judged against port, line, protection and serial. -/
  | helloRx
  /-- CLAIM_START (R123): Once the Foundation is applied and a link is UP, the hub starts claiming its node ID. -/
  | claimStart
  /-- ID_CLAIM_REPEAT (R123): An ID_CLAIM is sent again 1 ms after the previous one, up to 4 times. -/
  | idClaimRepeat
  /-- CLAIM_HELD (R123): 10 ms pass without a refusal and the claim becomes HELD. -/
  | claimHeld
  /-- ID_CLAIM_RX (R124): An ID_CLAIM is received; resequencer entry x is invalidated and duplicates are resolved. -/
  | idClaimRx
  /-- ID_REFUSE_RX (R124): An ID_REFUSE naming this hub as claimant makes its claim REFUSED. -/
  | idRefuseRx
  /-- ID_REFUSE_REPEAT (R124): An ID_REFUSE is sent again 1 ms after the previous one, up to 3 times. -/
  | idRefuseRepeat
  /-- TOPO_TX (R127): Every 64 ms a HELD hub sends a TOPO cell on both races. -/
  | topoTx
  /-- TOPO_EVENT_TX (R127): Within 1 ms of a link, claim or node state change, a TOPO cell is sent. -/
  | topoEventTx
  /-- TOPO_RX (R128): A TOPO cell updates the ring view and may set the POSITION-mode ID. -/
  | topoRx
  /-- TOPO_EXPIRE (R128): TOPO information older than 192 ms ages out of the ring view. -/
  | topoExpire
  /-- POSITION_TIMEOUT (R122): 130 ms pass without a West anchor TOPO and the ID is taken from the East copy. -/
  | positionTimeout
  /-- RSQ_HOLD_EXPIRY (R163): The periodic check finds a context whose hold has expired and skips its gap. -/
  | rsqHoldExpiry
  /-- RETRY_EXPIRY (R152): An IMG retry-list entry is not filled within the hold time and is removed with a loss notice. -/
  | retryExpiry
  /-- MIR_CLEAR (R175): MIR_CTRL.CLEAR resets the capture-ring write pointer and flags. -/
  | mirClear
  /-- PDELAY_REQ_RX (R182): A PDELAY_REQ is answered with PDELAY_RESP and PDELAY_RESP_FU. -/
  | pdelayReqRx
  /-- PDELAY_RESP_RX (R182): A PDELAY_RESP is received and its arrival stamped. -/
  | pdelayRespRx
  /-- PDELAY_RESP_FU_RX (R183): A PDELAY_RESP_FU completes a delay sample and may carry a sync record. -/
  | pdelayRespFuRx
  /-- TIME_SYNC_TX (R185): The grandmaster sends TIME_SYNC on both races every SYNC_INT. -/
  | timeSyncTx
  /-- TIME_SYNC_RX (R183): A TIME_SYNC copy arrives, is stamped and forwarded with its residence time. -/
  | timeSyncRx
  /-- TIME_ANNOUNCE_TX (R185): A candidate or grandmaster sends TIME_ANNOUNCE every 64 ms. -/
  | timeAnnounceTx
  /-- TIME_ANNOUNCE_RX (R185): A TIME_ANNOUNCE updates the candidate table and the grandmaster choice. -/
  | timeAnnounceRx
  /-- GM_DROP (R185): A grandmaster silent for 8 × SYNC_INT and 192 ms is dropped from the table. -/
  | gmDrop
  /-- HOLDOVER_ENTRY (R188): No sample is applied for 4 × SYNC_INT and the Governor enters HOLDOVER. -/
  | holdoverEntry
  /-- HOLDOVER_EXPIRY (R188): HOLDOVER_MS passes without a sample and lock is lost. -/
  | holdoverExpiry
  /-- PPS_IN_EDGE (R191): A PPS_IN rising edge is captured, accepted or rejected, and updates TOD_OFFSET. -/
  | ppsInEdge
  /-- PPS_MISS (R191): 1.1 s pass without an accepted PPS_IN edge. -/
  | ppsMiss
  /-- PPS_HOLDOVER (R191): 2 s without an accepted edge change the class to EXT_HOLDOVER. -/
  | ppsHoldover
  /-- PPS_OUT_RISE (R193): PPS_OUT rises at its second or epoch boundary. -/
  | ppsOutRise
  /-- PPS_OUT_FALL (R193): PPS_OUT falls after WIDTH microseconds. -/
  | ppsOutFall
  /-- TIME_CAPTURE (R203): TIME_CAP_CMD.CAPTURE latches ring time into TIME_CAP. -/
  | timeCapture
  /-- EPOCH_START (R215): At t_s(N) TIME_EPOCH advances, the owner captures inputs and REPLAY is freed. -/
  | epochStart
  /-- CHANGE_PUBLISH (R217): The owner admits the CHANGE cells of epoch N in CELL_NO order. -/
  | changePublish
  /-- SEAL_TX (R219): At SEAL_AT, or after the last CHANGE cell, the owner admits the seal of N. -/
  | sealTx
  /-- CHANGE_RX (R218): A CHANGE cell is reconstructed to its epoch, checked and held. -/
  | changeRx
  /-- SEAL_RX (R222): A seal is received, checked for configuration and tenure, and held. -/
  | sealRx
  /-- REFRESH_RX (R220): A REFRESH cell is checked and applied to shards being collected. -/
  | refreshRx
  /-- REPAIR_REQ_RX (R232): A REPAIR_REQ is received and queued or answered BUSY. -/
  | repairReqRx
  /-- REPAIR_SERVE (R232): A responder begins sending the response to a repair request. -/
  | repairServe
  /-- REPAIR_DATA_RX (R233): A REPAIR_DATA cell delivers repair content to the requester. -/
  | repairDataRx
  /-- LATE_COMMIT (R226): A lagging hub commits the next epoch as soon as its condition holds. -/
  | lateCommit
  /-- BANK_CATCHUP_DONE (R260): A bank being brought into step finishes. -/
  | bankCatchupDone
  /-- PMAP_COPY (R254): PMAP_CMD COPY takes the current map into staging. -/
  | pmapCopy
  /-- PMAP_VALIDATE (R254): PMAP_CMD VALIDATE starts validation of the staged map. -/
  | pmapValidate
  /-- PMAP_VALIDATE_DONE (R254): Validation completes within 1 ms with VALID or INVALID. -/
  | pmapValidateDone
  /-- PMAP_ARM (R241): PMAP_CMD ARM arms the staged map for epoch E. -/
  | pmapArm
  /-- PMAP_DISARM (R254): PMAP_CMD DISARM returns ARMED to VALID. -/
  | pmapDisarm
  /-- MARGIN_CLEAR (R248): IMG_MARGIN_CFG.CLEAR resets the settle margins. -/
  | marginClear
  /-- PIN_LEASE_EXPIRY (R264): The pin lease expires and the pin is released. -/
  | pinLeaseExpiry
  /-- BIND_VALIDATE (R290): BIND_CMD VALIDATE checks the shadow binding table. -/
  | bindValidate
  /-- BIND_VALIDATE_DONE (R290): Binding validation completes within 1 ms. -/
  | bindValidateDone
  /-- CLEAR_SHADOW (R290): BIND_CMD CLEAR_SHADOW writes 0 to every shadow entry. -/
  | clearShadow
  /-- WINDOW_EVALUATE (R307): The tracking engine evaluates active windows at least every 2 µs. -/
  | windowEvaluate
  /-- LAUNCH_STAGE (R314): The launch engine stages an entry 2 µs before its TIME. -/
  | launchStage
  /-- DO_SET (R313): At TIME a DO_SET launch drives its line active. -/
  | doSet
  /-- DO_CLEAR (R313): At TIME a DO_CLEAR launch drives its line inactive. -/
  | doClear
  /-- DO_PULSE (R313): At TIME a DO_PULSE launch drives its line active and schedules the end. -/
  | doPulse
  /-- LANE_START (R313): At TIME a LANE_START launch releases the held head frame. -/
  | laneStart
  /-- COG_START (R402): At TIME a COG_START launch delivers a launch match to its engine. -/
  | cogStart
  /-- POINT_WRITE (R313): At TIME a POINT_WRITE launch issues a demand with τ = TIME. -/
  | pointWrite
  /-- CAN_INJECT (R431): At TIME a CAN_INJECT launch makes a buffer PENDING with an injection claim. -/
  | canInject
  /-- VIN_UNDERVOLT (R461): VIN below 15.5 V for 10 µs turns off every sluice gate. -/
  | vinUndervolt
  /-- VIN_OVERVOLT (R461): VIN above 40 V for 2 µs suspends sluices with OV_OFF. -/
  | vinOvervolt
  /-- VIN_OV_RECOVER (R461): VIN below 38 V for 1 ms lets suspended sluices ramp again. -/
  | vinOvRecover
  /-- PWD_THERMAL (R461): The power die exceeds 135 °C and every sluice enters FAULT. -/
  | pwdThermal
  /-- PWD_THERMAL_CLEAR (R472): The power die falls below 115 °C. -/
  | pwdThermalClear
  /-- SLU0_STARTUP_RAMP (R473): After VIN stays above 16.5 V for 50 ms, SLU0 ramps. -/
  | slu0StartupRamp
  /-- POWER_CYCLE_RAMP (R473): OFF_TIME passes and SLU0 ramps again. -/
  | powerCycleRamp
  /-- CLEAR_MIN (R479): PWD_CMD CLEAR_MIN resets VIN_MIN. -/
  | clearMin
  /-- DIE_LINK_SILENCE (R475): No die-link frame for 100 µs; the power die treats the logic die as silent. -/
  | dieLinkSilence
  /-- DIE_LINK_RESUMED (R475): Die-link frames resume and the logic die reads sluice states. -/
  | dieLinkResumed
  /-- TAMPER_ALARM (R662): TAMPER_N low for 10 µs raises the tamper alarm and the hub zeroises keys. -/
  | tamperAlarm
  /-- BRG_WRITE_RX (R489): A target executes a BRG_WRITE under WSEQ checking. -/
  | brgWriteRx
  /-- READ_CONTEXT_GRANT (R494): A waiting read is granted a freed context. -/
  | readContextGrant
  /-- BRG_READ_RX (R495): A target executes a BRG_READ and answers with BRG_READ_RESP cells. -/
  | brgReadRx
  /-- BRG_READ_RESP_RX (R495): A read response completes a context or slot, or is discarded. -/
  | brgReadRespRx
  /-- BRG_WAIT_EXPIRED (R498): A delayed remote write exceeds BRG_WAIT and is abandoned. -/
  | brgWaitExpired
  /-- BRG_POSTED_ERR_RX (R493): A posted-error report writes entries to the posted-error log. -/
  | brgPostedErrRx
  /-- PREFETCH_EXPIRY (R496): A prefetch entry becomes invalid after PF_LIFE. -/
  | prefetchExpiry
  /-- PCIE_LINK_DOWN (R516): Link down resets configuration space and clears the windows. -/
  | pcieLinkDown
  /-- PCIE_HOT_RESET (R516): A hot reset resets configuration space and clears the windows. -/
  | pcieHotReset
  /-- USB_SUSPEND (R536): 3 ms of bus idle suspends the port. -/
  | usbSuspend
  /-- USB_RESUME (R536): Host resume returns the port to its previous state. -/
  | usbResume
  /-- USB_VBUS_RISE (R527): USB_VBUS goes high and the port may attach. -/
  | usbVbusRise
  /-- USB_VBUS_FALL (R527): USB_VBUS goes low and the port detaches. -/
  | usbVbusFall
  /-- USB_LOCKOUT_END (R533): The 60 s authentication lockout ends. -/
  | usbLockoutEnd
  /-- FATAL_HUB_RESET (R544): At least 10 µs after the record, a HUB_RESET action resets the hub. -/
  | fatalHubReset
  /-- HK_HEARTBEAT (R550): The housekeeping core sends its heartbeat to the collector. -/
  | hkHeartbeat
  /-- HEARTBEAT_LOSS (R551): No heartbeat for 2 ms and no grace: CLACK stops. -/
  | heartbeatLoss
  /-- CLACK_TOGGLE (R550): At each 1 ms boundary a running CLACK toggles. -/
  | clackToggle
  /-- CLACK_GRACE_EXPIRY (R552): The 64 ms activation grace ends with no heartbeat. -/
  | clackGraceExpiry
  /-- FLT_LASTFATAL_CLR (R559): FLT_LASTFATAL_CLR.CLEAR sets FLT_LASTFATAL to 0. -/
  | fltLastfatalClr
  /-- TWIN_LATE_RUNNER (R564): 64 epochs without a peer seal make a Bedstone the Runner. -/
  | twinLateRunner
  /-- JOURNAL_RX (R570): A JOURNAL cell's records are applied by the Bedstone. -/
  | journalRx
  /-- FULL_CHECKPOINT_TX (R569): The Runner sends a full checkpoint within 4 epochs of a request. -/
  | fullCheckpointTx
  /-- SEAL_CHECK (R572): At t_s + SEAL_AT + SEAL_WAIT the Bedstone checks for the Runner's seal. -/
  | sealCheck
  /-- TWIN_TAKEOVER (R573): On detection the Bedstone raises TWIN_ACT and replays its copy. -/
  | twinTakeover
  /-- TWIN_FIRST_DRIVE (R573): After replay, shared outputs are driven and tenure T + 1 is taken. -/
  | twinFirstDrive
  /-- TWIN_TAKEOVER_DONE (R573): The takeover completes with ROLE RUNNER. -/
  | twinTakeoverDone
  /-- TWIN_STANDOFF (R574): TWIN_PEER still high 20 µs after first drive; the Bedstone is DEPOSED. -/
  | twinStandoff
  /-- CAL_RUN_NOW (R598): DRS_CAL_CMD.RUN_NOW starts every periodic calibration. -/
  | calRunNow
  /-- CAL_DONE (R598): A RUN_NOW calibration finishes. -/
  | calDone
  /-- LEDGER_WRITE (R595): A waiting ledger record is written to flash. -/
  | ledgerWrite
  /-- COURSE_SWITCH_REPEAT (R614): COURSE_SWITCH is sent again 1 ms later, up to 4 times. -/
  | courseSwitchRepeat
  /-- COURSE_SWITCH_RX (R616): A COURSE_SWITCH SWITCH, QUERY or STATE is received and handled. -/
  | courseSwitchRx
  /-- COURSE_QUERY_TX (R621): A joining hub sends QUERY every 64 ms until it gets a STATE. -/
  | courseQueryTx
  /-- CRS_STORE_DONE (R622): The committed image is written within 500 ms. -/
  | crsStoreDone
  /-- CRS_STORE_TIMEOUT (R622): 10 s without a data write ends the session. -/
  | crsStoreTimeout
  /-- UPD_DATA_RX (R636): A UPD_DATA cell feeds a ring session. -/
  | updDataRx
  /-- UPD_DIST_CELL_TX (R636): Every DIST_GAP the distributor sends the next chunk. -/
  | updDistCellTx
  /-- UPD_ERASE_DONE (R632): A slot erase completes and ERASED is set. -/
  | updEraseDone
  /-- UPD_AUTO_CONFIRM (R639): CONFIRM_TMO passes cleanly and the trial is confirmed. -/
  | updAutoConfirm
  /-- UPD_RUN_TIMEOUT (R640): New firmware does not report running within 40 ms. -/
  | updRunTimeout
  /-- KEY_OP_DONE (R659): A key operation completes and the key register is cleared. -/
  | keyOpDone
  /-- KEY_LOAD (R654): At start-up or RECOVERY the key slots are loaded. -/
  | keyLoad
  /-- PLUMB_SNAPSHOT (R674): On the snapshot edge every page in range latches its state. -/
  | plumbSnapshot
  /-- PLUMB_READY (R678): The summary is sized and part 0 is built. -/
  | plumbReady
  /-- PLUMB_PART_READY (R678): A selected part is built. -/
  | plumbPartReady
  /-- PLUMB_HOLD_EXPIRY (R676): PLUMB_CFG.HOLD passes and the summary is released. -/
  | plumbHoldExpiry
  /-- TRACE_CLEAR (R688): OBS_TRC_CTRL.CLEAR resets the trace write pointer. -/
  | traceClear
  /-- ENTROPY_HEALTH_FAIL (R649): The on-die entropy source fails its health test, after which commands that need random
  values are refused with STATE and AUTH_CHALLENGE is stalled. -/
  | entropyHealthFail
  deriving DecidableEq, Repr

end Sys2Proof
end

