-- ==== Sys2Proof/Decode.lean ====
section
/-!
DEFINITION. The hub has no instruction encoding: spec/opcode_table.json gives none of its commands any bits, so no word spells a
command.
-/
namespace Sys2Proof

/-- The command that the low `nbits` bits of a word spell by the table: none, since no row of the table gives bits. -/
def decodeTableWord (_nbits _w : Nat) : Option Instr := none

end Sys2Proof
end

