-- ==== Sys2Proof/Machine/State.lean ====
section
/-!
DEFINITION. The state of the hub as plain data: the register words in effect and in shadow, and for each block what the
spec gives it beside its registers.  `State.reset` is the hub right after a power-on reset, at t_0 of start-up (R81, R84).
-/
namespace Sys2Proof.Machine

/-- Why the machine faults.  No command of the table ends in a fault: an access the spec gives no address completes with
a status (R38), so this type has one reason that no meaning raises. -/
inductive Fault where
  /-- Raised by no meaning; kept so that the type names a reason.  Safe. -/
  | unreachable
  deriving DecidableEq, Repr

/-- Why the machine refuses a command. -/
inductive Refusal where
  /-- Raised by an arm of `exec` whose command has no meaning yet.  Safe. -/
  | notModelled (mnemonic : String)
  deriving DecidableEq, Repr

/-- Where a page stands between writes: an apply that is pending (R59), one armed for a commit (R60) with the time of its
write, and a soft reset in progress (R48). -/
structure PageSt where
  applyPend : Bool := false
  armed : Bool := false
  armedAt : Nat := 0
  softBusy : Bool := false
  deriving DecidableEq, Repr

/-- What leaves the hub, oldest first: frames, MSI-X messages, the completion of a host access, bytes of a service port,
a TAP output, the clock pulses with a stop condition that an I2C lane sends after a stretch timeout (R360); of a CAN frame the ID word, then
DLC with BRS in bit 4 and ESI in bit 5, and the data words. -/
inductive Out where
  | frame (port : Nat) (bytes : List Byte)
  | msix (vector addr data : Nat)
  | rsp (ini : Initiator) (status : Nat) (data : List Nat)
  | qsh (bytes : List Byte)
  | usb (ep : Nat) (bytes : List Byte)
  | usbStall
  | usbWake
  | trace (record : Nat)
  | tdo (bits : List Bool)
  | lane (lane : Nat) (words : List Nat)
  | laneClocks (lane pulses : Nat)
  | can (port id ctl : Nat) (words : List Nat)
  | pcieWrite (addr : Nat) (words : List Nat)
  | flash (first : Nat) (bytes : List Byte)
  deriving DecidableEq, Repr

/-- A cell held in the cell buffer: its class, the granules it took from the class's reserve and from the shared pool,
and how many queues still refer to it (R144, R145, R150). -/
structure BufEnt where
  cls : Nat := 0
  rsv : Nat := 0
  shared : Nat := 0
  refs : Nat := 0
  deriving DecidableEq, Repr

/-- A cell in a transmit queue, with its buffer entry and whether it is forwarded or originated (R147), and for a
TIME_SYNC being forwarded the ring time at which it arrived (R183). -/
structure TxCell where
  cell : Cell
  buf : Nat
  fwd : Bool
  at_ : Nat := 0
  deriving DecidableEq, Repr

/-- A received cell, in a consumer's queue or held in a reorder context: the port it arrived on, its arrival on the
free-running local count and in ring time (units of 2^-16 ns), whether R149 delivers it here, and whether it is a retry
(R152). -/
structure RxCell where
  cell : Cell
  buf : Nat
  port : Nat
  at_ : Nat
  ring : Nat
  isLocal : Bool := true
  retry : Bool := false
  deriving DecidableEq, Repr

/-- An originated cell that waits for granules (R146): everything but SEQ, ORIGIN and, unless fixed, MAPGEN; the epoch of its
REPLAY copy (R148); and the port whose write completes when the cell is admitted (R487). -/
structure WaitCell where
  cell : Cell
  fixedGen : Bool
  replay : Option Nat
  port : Option Nat
  ack : Option Initiator := none
  deriving DecidableEq, Repr

/-- An entry of IMG's retry list (R152). -/
structure RetryEnt where
  src : Nat
  seq : Nat
  at_ : Nat
  deriving DecidableEq, Repr

/-- A copy in the REPLAY class, tagged with its epoch (R148). -/
structure ReplayEnt where
  epoch : Nat
  cell : Cell
  deriving DecidableEq, Repr

/-- The switch core (R142 to R157). -/
structure SwSt where
  buf : SMap BufEnt := []
  nextBuf : Nat := 1
  txq : SMap (List TxCell) := []
  lastFwd : SMap Bool := []
  cons : SMap (List RxCell) := []
  waiting : List WaitCell := []
  retry : List RetryEnt := []
  replay : List ReplayEnt := []
  replayBroken : List Nat := []
  notices : List (Nat × Nat × Nat) := []
  dropped : List RxCell := []
  deriving DecidableEq, Repr

/-- An entry of the duplicate-discard table and its context (R159). -/
structure DdtEnt where
  valid : Bool := false
  exp : Nat := 0
  ctx : Bool := false
  held : List RxCell := []
  deriving DecidableEq, Repr

/-- The mirror unit's capture ring: entries of 32 bytes, and how many were written since CLEAR (R164 to R166). -/
structure MirSt where
  ring : SMap Nat := []
  since : Nat := 0
  wroteAt : Option Nat := none
  deriving DecidableEq, Repr

/-- The trace buffer and its two outgoing paths (R685 to R691). -/
structure ObsSt where
  trace : SMap Nat := []
  since : Nat := 0
  pinQ : List Nat := []
  usbQ : List Nat := []
  lostBuf : Nat := 0
  lostPin : Nat := 0
  pinAt : Nat := 0
  lostUsb : Nat := 0
  cycle : Nat := 0
  inCycle : Nat := 0
  deriving DecidableEq, Repr

/-- A fault record (R540), with the local time of its creation (R547). -/
structure FltRec where
  time : Nat
  addr : Nat
  source : Nat
  kind : Nat
  cls : Nat
  action : Nat
  forced : Bool
  locked : Bool
  isOpen : Bool
  merges : Nat := 0
  kindOr : Nat
  seq : Nat
  last : Nat
  made : Nat
  deriving DecidableEq, Repr

/-- The fault collector: the log; open records that are no longer in it; the next REC_SEQ; a HUB_RESET action that is due;
the pages in class CE with the end of their second; the pages failed by a FATAL; heartbeats; CLACK and its grace; the restarts of the
last second; the local address of a register access that fails the register bus's parity (R542, R554). -/
structure FltSt where
  log : List FltRec := []
  popped : List FltRec := []
  nextSeq : Nat := 0
  resetDue : Option Nat := none
  ceUntil : SMap Nat := []
  failed : List Nat := []
  lastBeat : Option Nat := none
  beats : Nat := 0
  clackFatal : Bool := false
  lastToggle : Nat := 0
  clackHigh : Bool := false
  graceEnd : Option Nat := none
  restarts : List Nat := []
  parity : Option Nat := none
  deriving DecidableEq, Repr

/-- One ring port beyond its registers: consecutive good HELLOs, the time at which the next HELLO is due and that of the last good
one, the level of SD_LOS, and the end of a cable test in progress (R106, R107, R109, R130). -/
structure LinkSt where
  good : Nat := 0
  helloAt : Nat := 0
  lastGood : Nat := 0
  los : Bool := false
  cableEnd : Option Nat := none
  deriving DecidableEq, Repr

/-- ID_REFUSE cells still to be repeated (R124): claimant, holder, ID, how many are left and when the next is due. -/
structure RefuseJob where
  claimant : Nat
  holder : Nat
  id : Nat
  left : Nat
  due : Nat
  deriving DecidableEq, Repr

/-- What the ring view keeps of one source's TOPO cells: serial and slow links of the last one, and for each side the HOPS and the
arrival of the last one that came on that port (R127, R128). -/
structure TopoEnt where
  src : Nat
  serial : Nat
  at_ : Nat
  slow : Bool
  east : Option (Nat × Nat) := none
  west : Option (Nat × Nat) := none
  deriving DecidableEq, Repr

/-- A TOPO cell this hub sent: its SEQ, when, and the ports on which it returned and was stripped (R128). -/
structure OwnTopo where
  seq : Nat
  at_ : Nat
  backE : Bool := false
  backW : Bool := false
  deriving DecidableEq, Repr

/-- Claiming and the ring view (R122 to R128): the ID claimed, claims sent, times; TOPO schedule; what was heard. -/
structure RingSt where
  want : Nat := 0
  fixedNow : Bool := false
  claims : Nat := 0
  firstClaim : Nat := 0
  lastClaim : Nat := 0
  refuse : List RefuseJob := []
  nextSeq : Nat := 0
  topo : List TopoEnt := []
  topoDue : Nat := 0
  topoEvent : Option Nat := none
  own : List OwnTopo := []
  topoFirst : Option Nat := none
  everValid : Bool := false
  validNodes : Nat := 0
  eastAnchor : Option (Nat × Nat) := none
  planned : Nat := 0
  configured : Bool := false
  posDone : Bool := false
  deriving DecidableEq, Repr

/-- One MSI-X table entry (R515); it is masked until software unmasks it. -/
structure MsixEnt where
  addr : Nat := 0
  data : Nat := 0
  masked : Bool := true
  deriving DecidableEq, Repr

/-- The MSI-X table and its pending bits (R515). -/
structure MsixSt where
  tab : SMap MsixEnt := []
  pba : List Nat := []
  deriving DecidableEq, Repr

/-- The peer-delay exchange of one port (R182): the last REQ_ID, the departure t1, T2 and t4 of the exchange in progress
(in units of 2^-16 ns), when its request was sent and whether it is open, the samples kept, how many exchanges in a row went
unanswered, and the local time of the next request. -/
structure PdSt where
  reqId : Nat := 0xFFFF
  t1 : Option Nat := none
  t2 : Option Nat := none
  t4 : Nat := 0
  sent : Nat := 0
  open_ : Bool := false
  samples : List Int := []
  missed : Nat := 0
  due : Option Nat := none
  deriving DecidableEq, Repr

/-- A TIME_SYNC copy that arrived (R183): its port, its arrival in units of 2^-16 ns of ring time and in local time,
ORIGIN_T, HOPS, the correction received with it, whether it yields no sample, and whether its TIME_SYNC was decided before its
record came. -/
structure SyncCopy where
  seq : Nat
  src : Nat
  port : Nat
  arr : Nat
  at_ : Nat
  originT : Nat
  hops : Nat
  cin : Option Int := none
  failed : Bool := false
  late : Bool := false
  deriving DecidableEq, Repr

/-- A sync record that a port still has to send for a TIME_SYNC copy that departed (R183): departure, the arrival of a
forwarded copy, ORIGIN_T, all in units of 2^-16 ns. -/
structure SyncOut where
  port : Nat
  seq : Nat
  dep : Nat
  arr : Option Nat
  originT : Nat
  due : Nat
  deriving DecidableEq, Repr

/-- A grandmaster candidate as its last TIME_ANNOUNCE gives it (R184 to R186). -/
structure GmCand where
  id : Nat
  serial : Nat
  prio1 : Nat
  cls : Nat
  prio2 : Nat
  todValid : Bool
  todOffset : Int
  baseT : Nat
  baseN : Nat
  at_ : Nat
  deriving DecidableEq, Repr

/-- Ring time and the Governor (R178 to R195): the counter in units of 2^-32 ns, f and the integrator in units of
2^-16 ppm, the last theta in units of 2^-16 ns; peer delay per port; TIME_SYNC copies awaiting decision; the sync records to send,
the SEQ and correction last sent on each port, the records received (port, SEQ, correction, newest first); candidates; the ring time of
the next TIME_SYNC; runs of good and rejected samples; PPS; a base that a Course switch moves at an epoch still ahead, 
IMG_EPOCH as it was before the last move (R619, R620); and the local time of the last change of LOCKED. -/
structure TimeSt where
  ring : Nat := 0
  f : Int := 0
  integ : Int := 0
  theta : Int := 0
  pd : SMap PdSt := []
  copies : List SyncCopy := []
  decided : List Nat := []
  syncOut : List SyncOut := []
  syncLast : SMap (Nat × Int) := []
  recs : List (Nat × Nat × Int) := []
  cands : List GmCand := []
  ownAnn : Option Nat := none
  lastAnn : Option Nat := none
  firstUp : Option Nat := none
  lastSync : Option Nat := none
  syncDue : Option Nat := none
  goodRun : Nat := 0
  badRun : Nat := 0
  lastApplied : Nat := 0
  ppsFirst : Bool := true
  ppsLast : Option Nat := none
  ppsHeld : Int := 0
  ppsMissed : Bool := false
  ppsHold : Bool := false
  ppsOut : Bool := false
  ppsFall : Option Nat := none
  everLocked : Bool := false
  firstBaseT : Option Nat := none
  nextBase : Option (Nat × Nat × Nat) := none
  prevW : Option Nat := none
  lockChg : Nat := 0
  deriving DecidableEq, Repr

/-- The transmit time-stamp queue (R196 to R198): entries of 16 bytes, oldest first, and the next STAMP_SEQ. -/
structure TxtsSt where
  q : List Nat := []
  nextSeq : Nat := 0
  deriving DecidableEq, Repr

/-- A valid CHANGE cell held for its epoch (R218, R222): entries of shard offset and value, and the cell's SRC. -/
structure HeldChange where
  owner : Nat
  epoch : Nat
  tenure : Nat
  no : Nat
  src : Nat
  entries : List (Nat × Nat)
  deriving DecidableEq, Repr

/-- A seal held (R219, R222); `late` where it came at its commit instant or after (R227). -/
structure HeldSeal where
  owner : Nat
  epoch : Nat
  tenure : Nat
  full : Bool
  cells : Nat
  changes : Nat
  digest : Nat
  src : Nat
  late : Bool
  deriving DecidableEq, Repr

/-- A valid REFRESH cell held for a shard being collected (R220, R237). -/
structure HeldRefresh where
  owner : Nat
  epoch : Nat
  tenure : Nat
  slice : Nat
  values : List Nat
  deriving DecidableEq, Repr

/-- A shard as verified for one epoch (R222): its digest and the value of each point, by point index. -/
structure ShardVer where
  epoch : Nat
  tenure : Nat
  digest : Nat
  vals : SMap Nat
  deriving DecidableEq, Repr

/-- What the hub works with for one shard: the highest tenure seen in a seal (R223), whether it is PENDING and, once complete, at which
epoch (R237), the verified states with the newest first, the epochs of recent digest mismatches (R230), the last epoch of which a seal
arrived, the epoch in which one last arrived (R237), the start of the STALE run that a PROXY response gives (R232), and the SRC of the
last accepted seal (R577) and its SEAL_AT. -/
structure ShardSt where
  tenure : Option Nat := none
  pend : Bool := true
  states : List ShardVer := []
  mism : List Nat := []
  lastSeal : Option Nat := none
  heard : Option Nat := none
  staleFrom : Option Nat := none
  src : Nat := 0
  sealAt : Nat := 0
  deriving DecidableEq, Repr

/-- An owner record as the last commit shows it (R211): STATE, TENURE, LAST_EPOCH, DIGEST, STALE_SINCE, SLICES_MISSING. -/
structure OwnerRec where
  st : Nat := 3
  tenure : Nat := 0
  last : Option Nat := none
  digest : Nat := 0
  since : Option Nat := none
  missing : Nat := 0
  deriving DecidableEq, Repr

/-- A repair request (R230 to R234): sent or waiting for one of 32 places; the REFRESH payloads of a RESYNC or PROXY
response so far. -/
structure RepairReq where
  tag : Nat
  owner : Nat
  epoch : Nat
  kind : Nat
  first : Nat
  last : Nat
  dest : Nat
  sent : Bool := false
  at_ : Nat := 0
  tries : Nat := 0
  busy : Bool := false
  refs : List HeldRefresh := []
  deriving DecidableEq, Repr

/-- A repair request this hub serves (R232). -/
structure ServeJob where
  src : Nat
  tag : Nat
  owner : Nat
  epoch : Nat
  kind : Nat
  first : Nat
  last : Nat
  deriving DecidableEq, Repr

/-- An epoch this hub publishes (R214 to R220): the map generation in force at its t_s (R217), its change set by shard offset, how many
CHANGE cells it has admitted, whether it is sealed, its digest, the value of each point, and the points by shard offset under the shard
table in force at its t_s (R209). -/
structure OwnEpoch where
  epoch : Nat
  owner : Nat
  tenure : Nat
  gen : Nat
  full : Bool
  entries : List (Nat × Nat)
  sent : Nat := 0
  sealed : Bool := false
  digest : Nat
  vals : SMap Nat
  pts : List Nat := []
  deriving DecidableEq, Repr

/-- The demand state of one point (R275): the value in force, its issue time, its writer, the first epoch it is taken into, and the value
for the epochs before that one (R273). -/
structure Demand where
  value : Nat := 0
  tau : Nat := 0
  writer : Nat := 0
  epoch : Nat := 0
  held : Option Nat := none
  deriving DecidableEq, Repr

/-- A channel of the image copy (R279 to R281): a copy that is due or in progress, whether a commit stopped it, the bank it
reads, and its content. -/
structure CopyCh where
  due : Bool := false
  busy : Bool := false
  stop : Bool := false
  seq : Nat := 0
  bank : Nat := 0
  epoch : Nat := 0
  lag : Bool := false
  full : Bool := false
  mover : Nat := 0
  words : List Nat := []
  deriving DecidableEq, Repr

/-- A Cistern bank (R257): its slots, and the last epoch that is wholly in it. -/
structure ImgBank where
  vals : SMap Nat := []
  epoch : Option Nat := none
  deriving DecidableEq, Repr

/-- The image engine (R207 to R291): shard tables of the current and previous generation and in staging, from which epoch each is in
force, and the last advance; shards; cells held; the epoch from which CFG_BAD acts (R213); commit instants passed but not committed,
each with the shards STALE for it; the lines in CHATTER at the last commit (R341); whether the hub returned to JOIN and is not FULL
since (R91), and whether it has committed since collecting began; the three banks, the shard table and the owner records of the last
commit; repair; publication; demands; conflict log; bindings; image copies; the pin. -/
structure ImgSt where
  cur : SMap Nat := []
  prev : SMap Nat := []
  stg : SMap Nat := []
  advAt : Nat := 0
  heldFrom : Nat := 0
  lastAdv : Option Nat := none
  shards : SMap ShardSt := []
  changes : List HeldChange := []
  seals : List HeldSeal := []
  refreshes : List HeldRefresh := []
  cfgSeen : List (Nat × Nat × Nat) := []
  cfgFrom : Nat := 0
  passed : List (Nat × List Nat) := []
  lastTc : Option Nat := none
  tcCount : Nat := 0
  colEpoch : Nat := 0
  returned : Bool := false
  colCommit : Bool := false
  bank : SMap ImgBank := []
  visTab : SMap Nat := []
  recs : SMap OwnerRec := []
  chat : List Nat := []
  repairs : List RepairReq := []
  nextTag : Nat := 0
  serve : List ServeJob := []
  own : List OwnEpoch := []
  lastPub : Option Nat := none
  ownVals : SMap Nat := []
  lastSealPl : List Byte := []
  dem : SMap Demand := []
  conf : List Nat := []
  bindSh : SMap Nat := []
  bindLive : SMap Nat := []
  copies : SMap CopyCh := []
  pinUntil : Nat := 0
  pinFresh : Bool := false
  pmapBusy : Bool := false
  bindBusy : Bool := false
  upset : List Nat := []
  forceFull : Bool := false
  deriving DecidableEq, Repr

/-- A twin hub beyond its registers (R561 to R584): the next JSEQ to send and to receive; a role still to be taken, with the
peer port and the preference it is taken with;
whether it drives the shared lines
(R562); of the Bedstone's copy the demand records, HOST_OUT by page and RB_FAIL by page with its time; the offset of each
counting binding and the private captures by epoch, newest first (R567); the last CKPT (epoch, STATE, COG_RUN, TBL_SUM) and
whether the next one is checked (R570); a full checkpoint the Runner owes; the epoch from which a late Runner counts (R564);
of a takeover its detection in local and ring time, its cause, its line, how far it is (0 none, 1 detected, 2 replayed, 3 first
drive), and the first epoch E of R575 with whether it is still to be published. -/
structure TwinSt where
  jseq : Nat := 0
  jnext : Option Nat := none
  enter : Bool := false
  port : Nat := 0
  pref : Bool := false
  demands : SMap Demand := []
  hostOut : SMap Nat := []
  rbFail : SMap (Nat × Nat) := []
  offs : SMap Nat := []
  caps : List (Nat × SMap Nat) := []
  ckpt : Option (Nat × Nat × Nat × Nat) := none
  check : Bool := false
  owed : Bool := false
  lateFrom : Option Nat := none
  lockedAt : Option Nat := none
  t0 : Nat := 0
  t0Ring : Nat := 0
  cause : Nat := 0
  line : Nat := 0xFF
  phase : Nat := 0
  driveAt : Nat := 0
  first : Option Nat := none
  toEpoch : Nat := 0
  driving : Bool := false
  deriving DecidableEq, Repr

/-- A local axis beyond its registers (R292 to R297): the levels of A and B its decoder last saw, its position from each of
the ring times listed (newest first), its captures at the last 8 sampling instants, the raw value and sample of the last
good SSI read, a preset that waits: its value and the ring time from which it may take effect (R320); and whether an apply cut
the position since the last record (R319). -/
structure AxisSt where
  a : Bool := false
  b : Bool := false
  hist : List (Nat × Nat) := []
  caps : List (Nat × Nat) := []
  raw : Option Nat := none
  sample : Option (Nat × Nat) := none
  preset : Option (Nat × Nat) := none
  cut : Bool := false
  deriving DecidableEq, Repr

/-- An axis reference (R298, R299): epoch, position and time of the records held, newest first, and whether it was last
found valid. -/
structure RefSt where
  hist : List (Nat × Nat × Nat) := []
  valid : Bool := false
  deriving DecidableEq, Repr

/-- A tracking window (R301, R302): the words of its entry; the ring time of its arming event; the ring time at which its
close passed; in DEFER the position it waits for, the launch it will insert and the ring time of its outcome. -/
structure Win where
  ctl : Nat := 0
  arm : Nat := 0
  hit : Nat := 0
  openOff : Nat := 0
  closeOff : Nat := 0
  act : Nat := 0
  base : Nat := 0
  hitc : Nat := 0
  armAt : Nat := 0
  closeAt : Option Nat := none
  target : Nat := 0
  opword : Nat := 0
  arg : Nat := 0
  deriving DecidableEq, Repr

/-- A slot of the launch queue (R312): TIME, bytes 8 to 11 with VALID, ARG, the number of its insertion, the window that
inserted it, and whether it is staged or was executed. -/
structure LaunchEnt where
  time : Nat := 0
  opword : Nat := 0
  arg : Nat := 0
  order : Nat := 0
  win : Option Nat := none
  staged : Bool := false
  ran : Bool := false
  deriving DecidableEq, Repr

/-- Tracking and launches (R292 to R330): axes, references, windows, the outcome log (entries of 16 bytes), launch slots,
the exception log, the number of the next insertion, the DO operations done on the current tick, and the ring time of the last tick
that had no room for one. -/
structure TrkSt where
  axis : SMap AxisSt := []
  ref : SMap RefSt := []
  win : SMap Win := []
  log : List Nat := []
  slot : SMap LaunchEnt := []
  exc : List Nat := []
  nextOrder : Nat := 0
  tick : Nat := 0
  tickOps : Nat := 0
  fullAt : Option Nat := none
  deriving DecidableEq, Repr

/-- A discrete line beyond the registers of its page (R333 to R347): the level of its pin; the stamp of the run of samples that set
the filtered level in ring time and in local time, and the local time at which the filter accepted it; the chatter window, its edges,
and the last filtered edge; since when the level is active; the values its IMAGE and LAUNCH sources give; the ring time of a pulse's
end; the electrical level driven, none where the pin is released; the level the read-back compares with, when it last changed and since
when the filtered level differs; the last driven value. -/
structure LineSt where
  pin : Bool := false
  stamp : Nat := 0
  stampAt : Nat := 0
  filtAt : Nat := 0
  winIdx : Nat := 0
  winCnt : Nat := 0
  lastEdge : Nat := 0
  activeAt : Option Nat := none
  img : Bool := false
  launch : Bool := false
  pulseEnd : Option Nat := none
  elec : Option Bool := none
  rb : Option Bool := none
  drvAt : Nat := 0
  diffAt : Nat := 0
  last : Bool := false
  deriving DecidableEq, Repr

/-- The event FIFO of a DIO page, oldest first, and the next EVT_SEQ (R343). -/
structure DioPage where
  q : List Nat := []
  seq : Nat := 0
  deriving DecidableEq, Repr

/-- A FIFO word of a lane: its data, its end mark, and whether its parity check fails (R361, R368). -/
structure LaneWord where
  data : Nat
  fin : Bool
  bad : Bool := false
  deriving DecidableEq, Repr

/-- A write that waits for room in a transmit FIFO (R365, R508): the port, the word, when it began to wait, and whether it is
the first word of a wider write, which the second completes; whether it came on USB endpoint 0; the TAG of the
issuing hub's own copy of a multicast write; the address with its BAR
for a failure report of the PCIe port (R517); and the first failing status of the parts of the same write that completed before. -/
structure LaneWait where
  ini : Initiator
  data : Nat
  fin : Bool
  at_ : Nat
  more : Bool := false
  ep0 : Bool := false
  mcast : Option Nat := none
  addr : Nat := 0
  bar2 : Bool := false
  prior : Nat := 0
  deriving DecidableEq, Repr

/-- A frame being sent (R364): its descriptor, the ring time of its first bit edge and whether the Governor was locked then; the local
time `edge` at which its character `base` begins, characters of the line (on I2C the address bytes and those read among them) counted
from 0; how many characters have begun and how many words were received in it; the words that have left the FIFO; whether it waits for
its next word, whether its end mark has left the FIFO, and whether QUIET or a disabled page stopped it (R92, R372). -/
structure LaneSend where
  desc : Nat := 0
  at_ : Nat := 0
  locked : Bool := false
  edge : Nat := 0
  base : Nat := 0
  chars : Nat := 0
  got : Nat := 0
  words : List Nat := []
  under : Bool := false
  whole : Bool := false
  halt : Bool := false
  deriving DecidableEq, Repr

/-- A lane beyond its registers: the two FIFOs, a received word that enters its FIFO once it is known whether it ends its packet or, ended,
once there is room (log entry 136); writes waiting, the frame being sent, the TIME at which a launch released
the head frame, the words of the packet being received, whether words of it were lost, the local time of the last
character, IO-Link response octets still expected of `rspLen` with the local time from which they are timed, an SSI read in progress
(its axis and sample time), whether one waits for room (R366), the end of its MONO time, the end of a WURQ pulse, the end of DE after a
frame, whether CS_N is low, when QUIET or a write to EN stopped the lane, and an apply that waits for the words in progress (R372). -/
structure LaneSt where
  rx : List LaneWord := []
  hold : Option LaneWord := none
  tx : List LaneWord := []
  wait : List LaneWait := []
  send : Option LaneSend := none
  release : Option Nat := none
  pkt : List Nat := []
  lost : Bool := false
  lastChar : Nat := 0
  rsp : Nat := 0
  rspLen : Nat := 0
  rspAt : Nat := 0
  ssi : Option (Option Nat × Nat) := none
  ssiWait : Bool := false
  monoEnd : Nat := 0
  wurqEnd : Option Nat := none
  deTill : Nat := 0
  cs : Bool := false
  offAt : Option Nat := none
  later : Option (List (Nat × Nat)) := none
  deriving DecidableEq, Repr

/-- A mover beyond its registers (R374 to R378): the words moved since START, and the end of a back-off (R499). -/
structure MoverSt where
  pos : Nat := 0
  backoff : Option Nat := none
  deriving DecidableEq, Repr

/-- A cog engine beyond its registers (R388 to R411): the local time at which its next instruction executes, the cycle
start of a waiting instruction, the local time from which it is stalled, the transmit mailboxes changed since it last
loaded them, the words a MARK still has to write, whether an ARRIVE matched on the tick before, the local time of its pending
launch match, its SIGNAL executions; the post-delay of the instruction it completed last; the tick on which its wait was evaluated last;
whether that instruction is the END word of the innermost loop, whose pass ends with its post-delay (R400); the OUT and DIR that its pins
had before each change of the last two ticks (R390); and for each mailbox the tick of its last write with the value before it (R404). -/
structure CogSt where
  due : Nat := 0
  delay : Nat := 0
  evalAt : Nat := 0
  ending : Bool := false
  pins : List (Nat × Nat × Nat) := []
  rxOld : SMap (Nat × Nat) := []
  txOld : SMap (Nat × Nat) := []
  base : Nat := 0
  stallAt : Nat := 0
  mbxNew : Nat := 0
  mark : List (Nat × Bool) := []
  prev : Bool := false
  matchAt : Nat := 0
  sigs : Nat := 0
  deriving DecidableEq, Repr

/-- A group token on one tick (R403): the local time, how many of it an AWAIT may take on that tick, and the gives and clears of the tick,
which act after the takes. -/
structure TokSt where
  at_ : Nat := 0
  avail : Nat := 0
  ops : List (Option Nat) := []
  deriving DecidableEq, Repr

/-- A CAN frame as the ring of R423 and a transmit buffer hold it: the ID word, DLC, BRS, ESI and the data bytes. -/
structure CanFrame where
  idw : Nat
  dlc : Nat
  brs : Bool := false
  esi : Bool := false
  data : List Byte := []
  deriving DecidableEq, Repr

/-- An entry of the receive ring (R423). -/
structure CanEnt where
  time : Nat
  frame : CanFrame
  own : Bool
  locked : Bool
  ecc : Bool := false
  wake : Bool := false
  seq : Nat
  deriving DecidableEq, Repr

/-- A transmit buffer (R428, R429, R436, R440): its window words, STATE, LAST, a latched request, misses, consecutive
clash errors, an injection claim at TIME, and an uncorrectable error that holds it until it is written again (R425). -/
structure CanBuf where
  st : Nat := 0
  last : Nat := 0
  latched : Bool := false
  misses : Nat := 0
  clash : Nat := 0
  idw : Nat := 0
  ctl : Nat := 0
  data : SMap Nat := []
  inj : Option Nat := none
  bad : Bool := false
  deriving DecidableEq, Repr

/-- A zone-manager frame in the port's internal buffer (R442): its identifier, its data, and whether it is SLEEP_REQ (0),
SLEEP_CMD commit (1) or SLEEP_CMD abort (2). -/
structure ZoneFrame where
  id : Nat
  data : List Byte
  kind : Nat
  deriving DecidableEq, Repr

/-- An attempt on the bus (R428): a buffer with its CAN_TXB_CTL at the start, or none for a zone-manager frame; the frame; the ring
time of its start of frame and whether the Governor was locked then; the slot window it is in. -/
structure CanTry where
  buf : Option Nat
  ctl : Nat := 0
  zone : Option ZoneFrame := none
  frame : CanFrame
  at_ : Nat
  locked : Bool := false
  slot : Option Nat := none
  deriving DecidableEq, Repr

/-- A slot window that is open (R435): its entry, its end in ring time, the buffer it carries (none for an unclaimed FREE
window), and whether its frame was sent. -/
structure CanWin where
  slot : Nat
  till : Nat
  buf : Option Nat
  claimed : Bool
  sent : Bool := false
  deriving DecidableEq, Repr

/-- A CAN port beyond its registers: the receive ring and next RX_SEQ, buffers, zone frames waiting, the attempt on the
bus, mode and timing in effect where an apply waits for bus idle, the schedule in effect (its CAN_SCHED word and valid
entries), the start of the basic cycle, the open window, detection (candidate, good frames, end of its dwell), and counts
since hub reset: frames received, slots missed. -/
structure CanSt where
  ring : List CanEnt := []
  seq : Nat := 0
  buf : SMap CanBuf := []
  zq : List ZoneFrame := []
  act : Option CanTry := none
  later : Option (List (Nat × Nat)) := none
  sched : Nat := 0xC
  slots : List (Nat × Nat × Nat) := []
  schedNew : Bool := false
  cycle : Option Nat := none
  win : Option CanWin := none
  cand : Nat := 0
  good : Nat := 0
  dwellEnd : Nat := 0
  rxCount : Nat := 0
  missCount : Nat := 0
  deriving DecidableEq, Repr

/-- A zone beyond its registers (R443 to R448): the end of the timer that runs, whether SLEEP_REQ or SLEEP_CMD commit has
ended or its start of frame was driven, the pulse in progress, and a change of configuration that waits. -/
structure ZoneSt where
  till : Option Nat := none
  committed : Bool := false
  pulse : Bool := false
  ignoreTill : Nat := 0
  later : Option (List (Nat × Nat)) := none
  deriving DecidableEq, Repr

/-- A sluice beyond its registers, all times local (R466 to R473): when its fault timer was last brought up to date, when
its ramp began and its length in ms, since when it waits for a retry, since when power-good is asserted, since when it qualifies,
its trips since power-on, the current of the last sample in mA, which the register shows up to 65,535 (R478, R482), and that a
zeroing phase takes the place of its next sample (R590). -/
structure SluSt where
  ftAt : Nat := 0
  rampAt : Nat := 0
  rampMs : Nat := 20
  retryAt : Option Nat := none
  pgAt : Nat := 0
  qualAt : Nat := 0
  trips : Nat := 0
  current : Nat := 0
  zeroing : Bool := false
  deriving DecidableEq, Repr

/-- The power die beyond its registers: it treats the logic die as silent, the page counters of what occurred meanwhile (R460, R475),
and the block registers of its pages as they stood when the link fell silent, by page and word (log entry 99); when VIN rose, whether an
undervoltage waits for VIN to rise through 16.5 V (R461), a tamper alarm raised while the link was silent, to which the logic die has
still to respond (R477, R662), the end of a power cycle's OFF_TIME (R473); PFW0 assertions since power-on, the local time of the last
telemetry sample that the logic die received and its items, item `u` of instance 0xA0 + n under 4 × n + u (R478). -/
structure PwdSt where
  silent : Bool := false
  missed : List (Nat × Nat) := []
  view : SMap Nat := []
  items : SMap Nat := []
  vinAt : Nat := 0
  waitVin : Bool := false
  alarm : Bool := false
  offTill : Option Nat := none
  pfwCount : Nat := 0
  sampleAt : Option Nat := none
  deriving DecidableEq, Repr


/-- A sequenced write remembered by its initiator hub (R493). -/
structure SentWrite where
  target : Nat
  wseq : Nat
  addr : Nat
  initiator : Nat
  tag : Nat
  deriving DecidableEq, Repr

/-- A remote read in one of the 8 contexts, or waiting for one (R494): the parts that have arrived, and whether the request of the PCIe
port was lost meanwhile (R516). -/
structure ReadCtx where
  used : Bool := false
  gen : Nat := 0
  ini : Initiator := .hk
  node : Nat := 0
  addr : Nat := 0
  len : Nat := 0
  pf : Nat := 0
  at_ : Nat := 0
  parts : SMap (List Byte) := []
  gone : Bool := false
  deriving DecidableEq, Repr

/-- A prefetch buffer entry (R496), with its expiry and when it was last used. -/
structure PfEnt where
  node : Nat
  addr : Nat
  data : List Byte
  till : Nat
  used : Nat
  deriving DecidableEq, Repr

/-- A collection slot beyond its status register (R501): the read, its parts or data, and the start of its timer. -/
structure SlotSt where
  node : Nat := 0
  addr : Nat := 0
  len : Nat := 0
  at_ : Nat := 0
  parts : SMap (List Byte) := []
  data : List Byte := []
  ini : Initiator := .hk
  deriving DecidableEq, Repr

/-- The bridge (R484 to R507): last WSEQ given to each target, next expected WSEQ of each source (0 while invalid), write
history, posted-error log (entries of 32 bytes), read contexts and waiting reads, prefetch buffer, collection slots, and a
remote write that waits for room with the time its execution started. -/
structure BrgSt where
  wtx : SMap Nat := []
  wrx : SMap Nat := []
  hist : List SentWrite := []
  perr : List Nat := []
  ctx : SMap ReadCtx := []
  waiting : List ReadCtx := []
  pf : List PfEnt := []
  slot : SMap SlotSt := []
  held : Option (RxCell × Nat) := none
  deriving DecidableEq, Repr

/-- A tunnel response that waits to be collected on endpoint 0x81, or a remote READ whose response is still to come (R532):
its operation, its SEQ, and whether its response is dropped. -/
structure TunnelRead where
  op : Nat
  seq : Nat
  drop : Bool := false
  deriving DecidableEq, Repr

/-- A tunnel request received whole on endpoint 0x01 that waits to be executed (R532, R535): header and data, whether its words in the
endpoint buffer fail, and after a bus reset whether its response is dropped and whether it came while the port was authenticated. -/
structure TunnelReq where
  hdr : List Byte
  data : List Byte := []
  ecc : Bool := false
  drop : Bool := false
  auth : Bool := false
  deriving DecidableEq, Repr

/-- The USB service port beyond its registers (R527 to R537): the STATE before SUSPENDED and when it was suspended; the
nonce that waits for its answer, with its time; consecutive failures; the end of a lockout; halted endpoints; the status of
the last EP0 register access; bytes of responses that wait on endpoint 0x81; the request in progress; the requests that wait behind it;
the endpoints whose next packet is DATA1; the test mode selected, 0 in none. -/
structure UsbSt where
  before : Nat := 0
  suspAt : Nat := 0
  nonce : Option (List Byte × Nat) := none
  fails : Nat := 0
  lockEnd : Option Nat := none
  halted : List Nat := []
  lastStatus : Nat := 0
  held : List (List Byte) := []
  reading : Option TunnelRead := none
  reqs : List TunnelReq := []
  toggle : List Nat := []
  test : Nat := 0
  deriving DecidableEq, Repr

/-- The QSPI host port beyond its registers: a frame in progress whose response has not ended, and a local WRITE of it that
waits for room (R519, R522). -/
structure QshSt where
  frame : Bool := false
  waiting : Bool := false
  deriving DecidableEq, Repr

/-- The PCIe endpoint beyond its registers: memory space enabled (R510, R516). -/
structure PcieSt where
  mem : Bool := false
  deriving DecidableEq, Repr


/-- An armed Course switch (R614 to R616). -/
structure CrsArm where
  epoch : Nat
  course : Nat
  sum : Nat
  stamp : Nat
  issuer : Nat
  deriving DecidableEq, Repr

/-- A store session: its initiator, image number, words (newest first), the time of the last data write, and whether the
committed image is being written (R622). -/
structure CrsStore where
  ini : Initiator
  image : Nat
  words : List Nat := []
  at_ : Nat
  writing : Bool := false
  deriving DecidableEq, Repr

/-- Courses beyond their registers: the Foundation and the Courses as loaded, the armed switch, COURSE_SWITCH cells still to
be repeated (payload, how many, when), when the last QUERY was sent and whether a STATE came, a store session, and the image of
the Course in force (R606 to R622). -/
structure CrsSt where
  fnd : List Byte := []
  course : SMap (List Byte) := []
  arm : Option CrsArm := none
  sends : Option (List Byte × Nat × Nat) := none
  query : Option Nat := none
  answered : Bool := false
  once : Bool := false
  store : Option CrsStore := none
  active : List Byte := []
  deriving DecidableEq, Repr


/-- A source's header buffer (R633): the bytes, the distributor, session and chunks of a ring source, and the time of its
last data. -/
structure UpdHdr where
  open_ : Bool := false
  bytes : List Byte := []
  node : Nat := 0
  session : Nat := 0
  chunks : Nat := 0
  held : SMap (List Byte) := []
  at_ : Nat := 0
  deriving DecidableEq, Repr

/-- The session that owns the slot: source, distributor, header, body bytes received in order, for a ring session the
chunks held, and the words in the write buffer (R635, R636). -/
structure UpdSess where
  source : Nat
  node : Nat := 0
  session : Nat := 0
  chunks : Nat := 0
  slot : Nat
  header : List Byte
  body : List Byte := []
  held : SMap (List Byte) := []
  buf : Nat := 0
  at_ : Nat
  deriving DecidableEq, Repr

/-- A distribution in progress (R636): slot, the next chunk, the round, and when the next cell is due. -/
structure UpdDist where
  slot : Nat
  session : Nat
  chunk : Nat := 0
  round : Nat := 1
  due : Nat
  deriving DecidableEq, Repr

/-- Update beyond its registers: header buffers by source, the owning session, a slot being erased, the running slot, when the trial
began, the FATAL records since the firmware runs, writes to UPD_DATA that wait, a distribution, and the number of the next one (R631 to
R640). -/
structure UpdSt where
  hdr : SMap UpdHdr := []
  sess : Option UpdSess := none
  erasing : Option Nat := none
  run : Option Nat := none
  trialAt : Option Nat := none
  fatals : Nat := 0
  waits : List LaneWait := []
  dist : Option UpdDist := none
  nextSession : Nat := 1
  deriving DecidableEq, Repr


/-- A pair entry of a port (R664): the neighbour's serial, the next key number to use, TX_RES and RX_MARK. -/
structure PairEnt where
  serial : Nat
  nextT : Nat := 0
  txRes : Nat := 0
  rxMark : Nat := 0xFFFFFFFF
  deriving DecidableEq, Repr

/-- Link protection of one port (R663 to R668): the transmit SA (key number and last PN), the receive SA (key number, last
PN accepted), the receive SA of before a link-master switch with its key slot, the end of its 1 ms and its last PN, a search (AN, the
key numbers tried, the frame searched for), the last verified frame, the time frames began to fail, pair entries. -/
structure ProtSt where
  txT : Option Nat := none
  txPn : Nat := 0
  txWait : Bool := false
  rxT : Option Nat := none
  rxPn : Nat := 0
  oldRx : Option (Nat × List Byte × Nat × Nat) := none
  txSak : List Byte := []
  rxSak : List Byte := []
  search : Option (Nat × Nat × Frame) := none
  lastOk : Nat := 0
  failing : Option Nat := none
  pairs : List PairEnt := []
  deriving DecidableEq, Repr

/-- A key slot as loaded (R650 to R654): STATE as KEY_SLOT_INFO shows it, usage, parent, generation, and the key. -/
structure KeySlot where
  st : Nat := 0
  usage : Nat := 0
  parent : Nat := 0
  gen : Nat := 0
  key : List Byte := []
  deriving DecidableEq, Repr

/-- A key operation in progress (R657 to R660): a destruction, or an installation with its material in the key register. -/
structure KeyOp where
  ini : Initiator
  destroy : Bool
  slot : Nat
  parent : Nat := 0
  usage : Nat := 0
  deriving DecidableEq, Repr

/-- The key block beyond its registers and slots: the key register (R655), the operation in progress, the epoch of an armed
link-master switch (R668), and a failed entropy source (R649). -/
structure KeySt where
  reg : List Byte := []
  op : Option KeyOp := none
  at_ : Option Nat := none
  noEntropy : Bool := false
  deriving DecidableEq, Repr


/-- A register write that waits for the housekeeping core to run again (R21, R638). -/
structure HkWrite where
  ini : Initiator
  page : Nat
  off : Nat
  data : Nat
  deriving DecidableEq, Repr

/-- A register write beyond the 16 that are queued, which waits as R638 has it: the write, and how it completes. -/
structure HkWait where
  page : Nat
  off : Nat
  how : LaneWait
  deriving DecidableEq, Repr

/-- What the pages of the housekeeping core showed when it stopped: the local time, the registers and counters, and what their derived
words are computed from (R638). -/
structure HkView where
  at_ : Nat := 0
  regs : SMap Word := []
  shadow : SMap Word := []
  ctr : SMap Nat := []
  keySlot : SMap KeySlot := []
  crs : CrsSt := {}
  upd : UpdSt := {}
  key : KeySt := {}
  deriving DecidableEq, Repr

/-- The housekeeping core: ledger records that wait in its RAM (R595); an activation in progress: the slot to start and
whether it is the fallback (R637, R640); writes that wait for the end of a restart, and those that found 16 of them; what its pages
showed when a restart began (R638); a fallback still to be reported (R641). -/
structure HkSt where
  ledger : List (List Nat) := []
  starting : Option (Nat × Bool) := none
  queue : List HkWrite := []
  waits : List HkWait := []
  view : Option HkView := none
  fellBack : Bool := false
  deriving DecidableEq, Repr


/-- PLUMB beyond its registers (R673 to R678): an accepted SNAP that waits for its edge (AT_COMMIT, PIN, SCOPE, initiator
copy, local time of the write), the pages that failed to latch, the records latched, the parts, the bytes of the part in the
window, a part being built, the end of HOLD. -/
structure PlumbSt where
  snap : Option (Bool × Bool × Nat × Nat × Nat) := none
  bad : List Nat := []
  recs : List (List Byte) := []
  hdr : List Byte := []
  parts : List (List Byte) := []
  window : List Byte := []
  build : Option Nat := none
  till : Option Nat := none
  deriving DecidableEq, Repr

/-- The clocks, resets and test port (R72, R78, R96, R702, R717, R718): consecutive bad and good reference windows; the reset commands
that are due, oldest first, and whether each is RECOVERY; a QUIET request with the time of its command; TAP instruction, boundary
register and the disable fuse; VDDIO banks without supply and banks at 3.3 V (numbered as `State.dark` has it); logic-die telemetry
items with the time of the last sample; the local time of the last change of the node state; when each scrubber's pass began and the
word it reads next (R586, R588), when each periodic calibration last ran, under 8 × quantity + path (R589); the level of TEST_EN, and
the logic-die rails below their thresholds (R702, R717). -/
structure RstSt where
  badWin : Nat := 0
  goodWin : Nat := 0
  due : List (Nat × Bool) := []
  quiet : Option (Bool × Nat) := none
  ir : Nat := 0xF
  boundary : List Bool := []
  fuse : Bool := false
  noVio : List Nat := []
  vio3 : List Nat := []
  telem : SMap Nat := []
  telemAt : Option Nat := none
  nodeAt : Nat := 0
  passAt : SMap Nat := []
  scrubNext : SMap Nat := []
  calAt : SMap Nat := []
  testEn : Bool := false
  lowRails : List Nat := []
  deriving DecidableEq, Repr


/-- The state of the hub. -/
structure State where
  /-- The commands that wait, first in, first out. -/
  pending : List Instr := []
  /-- Local time since power-on in ns, a free-running count of CLK_IO cycles (4 ns each) (R70, R161). -/
  now : Nat := 0
  /-- Local time of t_0 of the running start-up (R84). -/
  t0 : Nat := 0
  /-- The hub is held in reset, with the causes that hold it: bit numbers of SYS_RST_CAUSE (R78, R81). -/
  held : List Nat := []
  /-- Register words in effect, by `regKey`; an unlisted word has its reset value. -/
  regs : SMap Word := []
  /-- Shadow words of registers with RWS fields (R56), by `regKey`. -/
  shadow : SMap Word := []
  /-- The 64-bit counters (R57), by 32 × page + counter. -/
  ctr : SMap Nat := []
  /-- The latched high words (R58), by `regKey` of the counter's low word. -/
  latch : SMap Nat := []
  /-- Applies and soft resets of each page. -/
  page : SMap PageSt := []
  /-- What has left the hub, oldest first. -/
  out : List Out := []
  /-- How many free values have been drawn (log entry 3): the model's own field. -/
  free : Nat := 0
  /-- The housekeeping firmware runs. -/
  hkUp : Bool := false
  msix : MsixSt := {}
  sw : SwSt := {}
  rsq : SMap DdtEnt := []
  mir : MirSt := {}
  obs : ObsSt := {}
  flt : FltSt := {}
  link : SMap LinkSt := []
  ring : RingSt := {}
  time : TimeSt := {}
  txts : TxtsSt := {}
  prot : SMap ProtSt := []
  keySlot : SMap KeySlot := []
  img : ImgSt := {}
  twin : TwinSt := {}
  brg : BrgSt := {}
  trk : TrkSt := {}
  line : SMap LineSt := []
  dio : SMap DioPage := []
  lane : SMap LaneSt := []
  mov : SMap MoverSt := []
  cog : SMap CogSt := []
  can : SMap CanSt := []
  zone : SMap ZoneSt := []
  slu : SMap SluSt := []
  pwd : PwdSt := {}
  usb : UsbSt := {}
  qsh : QshSt := {}
  pcie : PcieSt := {}
  hk : HkSt := {}
  crs : CrsSt := {}
  upd : UpdSt := {}
  key : KeySt := {}
  plumb : PlumbSt := {}
  rst : RstSt := {}
  /-- The mover granted last (R375). -/
  movLast : Nat := 47
  /-- The group tokens on the last tick on which one was written, by 4 × group + token (R403). -/
  tok : SMap TokSt := []
  /-- The external flash. -/
  flash : Flash := {}
  deriving DecidableEq, Repr

/-- The hub right after a power-on reset: every register at the value the spec gives for reset, every queue empty. -/
def State.reset : State := {}

end Sys2Proof.Machine
end

