-- ==== Sys2Proof/Machine/Regs.lean ====
section
/-!
DEFINITION. The operations every block shares: register fields, counters, free values, local time, and interrupts with
their MSI-X messages and trace records.
-/
namespace Sys2Proof.Machine

/-! ## Registers -/

/-- The register word in effect at offset `off` of page `p`, initiator copy `ini`. -/
def State.word (s : State) (p off : Nat) (ini : Nat := 0) : Word := s.regs.get regDefault (regKey ini p off)

/-- Writes a register word in effect. -/
def State.setWord (s : State) (p off : Nat) (w : Word) (ini : Nat := 0) : State :=
  { s with regs := s.regs.set regDefault (regKey ini p off) w }

/-- The shadow word (R56). -/
def State.shadowWord (s : State) (p off : Nat) : Word := s.shadow.get regDefault (regKey 0 p off)

/-- Writes a shadow word. -/
def State.setShadow (s : State) (p off : Nat) (w : Word) : State :=
  { s with shadow := s.shadow.set regDefault (regKey 0 p off) w }

/-- A field's value in effect: element `i` of field `f` on page `p`. -/
def State.rd (s : State) (p : Nat) (f : Field) (i : Nat := 0) (ini : Nat := 0) : Nat := f.of (s.word p (f.off i) ini)

/-- Writes a field's value in effect. -/
def State.wr (s : State) (p : Nat) (f : Field) (v : Nat) (i : Nat := 0) (ini : Nat := 0) : State :=
  s.setWord p (f.off i) (f.into (s.word p (f.off i) ini) v) ini

/-- A one-bit field as a truth value. -/
def State.on (s : State) (p : Nat) (f : Field) (i : Nat := 0) : Bool := s.rd p f i == 1

/-- A 64-bit value held in two words. -/
def State.rd64 (s : State) (p : Nat) (lo hi : Field) (i : Nat := 0) (ini : Nat := 0) : Nat :=
  s.rd p lo i ini + 2 ^ 32 * s.rd p hi i ini

/-- Writes a 64-bit value held in two words. -/
def State.wr64 (s : State) (p : Nat) (lo hi : Field) (v : Nat) (i : Nat := 0) (ini : Nat := 0) : State :=
  (s.wr p lo (v % 2 ^ 32) i ini).wr p hi (v / 2 ^ 32) i ini

/-- PAGE_CTRL.EN of a page (R46). -/
def State.enabled (s : State) (p : Nat) : Bool := s.on p PAGE_CTRL_EN

/-- The page's dynamic state. -/
def State.pageSt (s : State) (p : Nat) : PageSt := s.page.get (fun _ => {}) p

/-- Writes the page's dynamic state, with PAGE_STAT.BUSY as R49 has it: 1 while a soft reset is in progress, an apply is
pending or an apply at commit is armed. -/
def State.setPageSt (s : State) (p : Nat) (x : PageSt) : State :=
  State.wr { s with page := s.page.set (fun _ => {}) p x } p PAGE_STAT_BUSY (b2n (x.applyPend || x.armed || x.softBusy))

/-- The pages that the housekeeping core serves: while it restarts their writes wait and their reads hold (R638). -/
def servedByHk (p : Nat) : Bool := p == pgPLUMB || p == pgCRS || p == pgUPD || p == pgKEY || p == pgFLASH

/-- The pages that a hub in RECOVERY implements: SYS, PWRST, FLT, UPD, KEY, PCIE, QSH and USB (R642). -/
def recoveryPages : List Nat := [pgSYS, pgPWRST, pgFLT, pgUPD, pgKEY, pgPCIE, pgQSH, pgUSB]

/-- The kind of page `p` where the hub implements it now; none while the hub is held in reset (R39, R73, R89, R642). -/
def State.kindAt (s : State) (p : Nat) : Option Kind :=
  if !s.held.isEmpty then none
  else if s.rd pgPWRST PWRST_STATE_STATE = 5 ∧ !recoveryPages.contains p then none else pageKind? p

/-- A write of a port to the block registers of a page has its effect: the hub is not held in reset, the block is initialised and no
soft reset is in progress (R48, R73, R88). -/
def State.takes (s : State) (p : Nat) : Bool := s.held.isEmpty && s.on p PAGE_STAT_READY && !(s.pageSt p).softBusy

/-- The block's RW and RWS fields take writes: it takes commands and PAGE_CTRL.LOCK is 0 (R63). -/
def State.openTo (s : State) (p : Nat) : Bool := s.takes p && !s.on p PAGE_CTRL_LOCK

/-! ## Counters, free values, local time -/

/-- Counter `k` of page `p` (R57). -/
def State.counter (s : State) (p k : Nat) : Nat := s.ctr.get (fun _ => 0) (32 * p + k)

/-- Adds `n` to counter `k` of page `p`, which stops at all ones (R57). -/
def State.count (s : State) (p k : Nat) (n : Nat := 1) : State :=
  { s with ctr := s.ctr.set (fun _ => 0) (32 * p + k) (min (s.counter p k + n) (2 ^ 64 - 1)) }

/-- The value the spec leaves open that is drawn next (log entry 3). -/
def State.freeVal (s : State) : Nat := (Config.freeValue s.free).toNat

/-- Counts a free value as drawn. -/
def State.drawn (s : State) : State := { s with free := s.free + 1 }

/-- Records what leaves the hub. -/
def State.emit (s : State) (o : Out) : State := { s with out := s.out ++ [o] }

/-- Ring time in whole nanoseconds (R178). -/
def State.ringNow (s : State) : Nat := s.time.ring / 2 ^ 32 % 2 ^ 64

/-- Ring time in units of 2^-16 ns, the resolution of the time cells (R181). -/
def State.ringFine (s : State) : Nat := s.time.ring / 2 ^ 16 % 2 ^ 80

/-- Picoseconds to units of 2^-16 ns. -/
def psToFine (ps : Int) : Int := ps * 65536 / 1000

/-- A stamp of time-stamp unit `u` of DRS_TSDLYp (East transmit, East receive, West transmit, West receive), taken `frac` sixteenths of
a ns into the tick: a multiple of 1/16 ns, corrected by the calibrated delay, added on transmit and taken off on receipt (R180, R598;
DEDUCED, log entry 105). -/
def State.portStamp (s : State) (u frac : Nat) : Nat :=
  let d := psToFine (s.rd pgDRS DRS_TSDLYp_DELAY u)
  let t : Int := (s.ringFine : Int) + frac * 4096 + (if u % 2 = 0 then d else -d)
  (t / 4096 * 4096 % 2 ^ 80).toNat

/-- TIME_STAT.LOCKED (R188). -/
def State.locked (s : State) : Bool := s.on pgTIME TIME_STAT_LOCKED

/-- What the ring-time counter gains on each CLK_IO cycle, in units of 2^-32 ns: 4 ns × (1 + f) (R178). -/
def tickInc (f : Int) : Nat := (4 * 2 ^ 32 + f * (4 * 2 ^ 16) / 10 ^ 6).toNat

/-- Ring time in whole nanoseconds `n` ns of local time from now, on the next CLK_IO tick (R178). -/
def State.ringAfter (s : State) (n : Nat) : Nat := (s.time.ring + (n + 3) / 4 * tickInc s.time.f) / 2 ^ 32 % 2 ^ 64

/-- Ring time `n` CLK_CAN cycles before the last edge of CLK_CAN, whose 12.5 ns cycles the model counts from local time 0 (R196; DESIGN
CHOICE, log entry 106). -/
def State.canBack (s : State) (n : Nat) : Nat :=
  (s.time.ring - (2 * s.now % 25 + 25 * n) * tickInc s.time.f / 8) / 2 ^ 32 % 2 ^ 64

/-- The Governor was locked at local time `t`, where LOCKED changed at most once since. -/
def State.lockedAt (s : State) (t : Nat) : Bool := s.locked == decide (s.time.lockChg ≤ t)

/-- `n` CLK_IO cycles pass: local time and ring time advance (R70, R178).  While a reset cause holds the hub, the logic die executes
nothing and ring time stays at its reset value (R73, R78, R80). -/
def State.pass (s : State) (n : Nat) : State :=
  { s with now := s.now + 4 * n,
           time := if s.held.isEmpty then { s.time with ring := (s.time.ring + n * tickInc s.time.f) % 2 ^ 96 } else s.time }

/-- Time passes to the local instant `t` where it lies ahead: a timer's event takes place when its time has come. -/
def State.passTo (s : State) (t : Nat) : State := s.pass ((t - s.now + 3) / 4)

/-! ## MSI-X, interrupts and trace -/

/-- INT_STAT of a page: INT_RAW AND INT_EN (R51). -/
def State.intStat (s : State) (p : Nat) : Nat := ((s.word p 0x010) &&& (s.word p 0x014)).toNat

/-- The routing byte of a page (R66). -/
def State.mapByte (s : State) (p : Nat) : Nat := bitsOf (s.word pgSYS (0x400 + p / 4 * 4)).toNat (8 * (p % 4)) 8

/-- The page is routed to MSI-X vector `v`. -/
def State.routed (s : State) (p v : Nat) : Bool := bitAt (s.mapByte p) 5 && s.mapByte p % 32 == v

/-- The OR of INT_STAT over the pages routed to vector `v` is not zero (R68). -/
def State.vectorOr (s : State) (v : Nat) : Bool := allPages.any (fun p => s.routed p v && s.intStat p != 0)

/-- A VDDIO bank has no supply: its pins are high impedance and its inputs read 0 (R704).  Banks 2b + g are those of group g of DIO
page b, 16 + k those of lanes 4k to 4k + 3, 32 and 33 those of CAN ports 0 to 3 and 4 to 7, 34 and 35 host banks A and B (R721). -/
def State.dark (s : State) (bank : Nat) : Bool := s.rst.noVio.contains bank

/-- INT_N is asserted: a page with QSH_EN set has INT_STAT not zero (R67); it is deasserted until step 4 (R87), and not driven while
its bank has no supply (R704). -/
def State.intN (s : State) : Bool :=
  !s.dark 34 && decide (4 ≤ s.rd pgPWRST PWRST_STATE_STEP) && allPages.any (fun p => bitAt (s.mapByte p) 6 && s.intStat p != 0)

/-- The PCIe port carries transfers of the hub: the link is up, bus mastering enabled, not in D3hot (R510, R516). -/
def State.pcieMaster (s : State) : Bool :=
  s.on pgPCIE PCIE_STAT_LINK_UP && s.on pgPCIE PCIE_STAT_BME && !s.on pgPCIE PCIE_STAT_D3

/-- One MSI-X message of vector `v`: sent, held in the PBA while masked or while the port cannot master the bus, or none while
MSI-X is disabled (R515). -/
def State.sendMsix (s : State) (v : Nat) : State :=
  if !s.on pgPCIE PCIE_STAT_MSIX_EN then s
  else
    let e := s.msix.tab.get (fun _ => {}) v
    if s.on pgPCIE PCIE_STAT_FMASK || e.masked || !s.pcieMaster then
      { s with msix := { s.msix with pba := if s.msix.pba.contains v then s.msix.pba else s.msix.pba ++ [v] } }
    else (s.emit (.msix v e.addr e.data)).count pgPCIE 7

/-- Sends the message of the page's vector where the OR of that vector rose from zero (R68). -/
def State.msixRise (old s : State) (p : Nat) : State :=
  if bitAt (s.mapByte p) 5 then
    let v := s.mapByte p % 32
    if s.vectorOr v && !old.vectorOr v then s.sendMsix v else s
  else s

/-- Sets INT_RAW bit `b` of page `p`, without the trace record. -/
def State.irqRaw (s : State) (p b : Nat) : State :=
  if bitAt (s.rd p INT_RAW_W) b then s
  else State.msixRise s (s.wr p INT_RAW_W (s.rd p INT_RAW_W + 2 ^ b)) p

/-- A trace record of R685 as a number of 128 bits, byte 0 lowest. -/
def traceRecord (time page kind arg : Nat) (locked : Bool) (data : Nat) : Nat :=
  time % 2 ^ 64 + (page % 2 ^ 12 + kind % 16 * 2 ^ 12) * 2 ^ 64 + arg % 256 * 2 ^ 80 + b2n locked * 2 ^ 88
    + data % 2 ^ 32 * 2 ^ 96

/-- The service port takes the trace stream: enabled, and the port CONFIGURED (R691). -/
def State.usbStreams (s : State) : Bool := s.on pgOBS OBS_TRC_CTRL_USB_EN

/-- The records that the trace pins have finished by now: one record takes 16 rising edges of TRC_CLK, which runs at
CLK_IO / PIN_DIV, after a gap of 2 periods (R690). -/
def State.pinDrain (s : State) : State :=
  let per := 18 * 4 * max 4 (s.rd pgOBS OBS_TRC_CTRL_PIN_DIV)
  let n := min s.obs.pinQ.length ((s.now - s.obs.pinAt) / per)
  if n = 0 then s
  else
    let s := (s.obs.pinQ.take n).foldl (fun s r => if s.dark 35 then s else s.emit (.trace r)) s
    State.wr { s with obs := { s.obs with pinQ := s.obs.pinQ.drop n, pinAt := s.obs.pinAt + n * per } } pgOBS
      OBS_TRC_STAT_PIN_FILL (s.obs.pinQ.length - n)

/-- A record that stands for `n` lost or written ones is queued for the trace pins, a LOST record before it where records were lost on
this path (R687, R690). -/
def State.tracePin (s : State) (r n : Nat) : State :=
  if !s.on pgOBS OBS_TRC_CTRL_PINS_EN then s
  else
    let s := s.pinDrain
    let lost := if s.obs.lostPin = 0 then [] else
      [traceRecord s.ringNow pgOBS 0xF 0 s.locked s.obs.lostPin]
    if s.obs.pinQ.length + lost.length + 1 ≤ 64 then
      State.wr { s with obs := { s.obs with
          pinQ := s.obs.pinQ ++ lost ++ [r], lostPin := 0, pinAt := if s.obs.pinQ.isEmpty then s.now else s.obs.pinAt } }
        pgOBS OBS_TRC_STAT_PIN_FILL (s.obs.pinQ.length + lost.length + 1)
    else (State.count { s with obs := { s.obs with lostPin := s.obs.lostPin + n } } pgOBS 3).irqRaw pgOBS 4

/-- A record that stands for `n` lost or written ones is queued for endpoint 0x82, a LOST record before it where records were lost on
this path; one that arrives while the port is SUSPENDED or the buffer of 256 is full is lost on it (R687, R691). -/
def State.traceUsb (s : State) (r n : Nat) : State :=
  if !s.usbStreams || decide (s.rd pgUSB USB_STAT_STATE < 3) then s
  else
    let lost := if s.obs.lostUsb = 0 then [] else
      [traceRecord s.ringNow pgOBS 0xF 0 s.locked s.obs.lostUsb]
    if s.rd pgUSB USB_STAT_STATE = 3 ∧ s.obs.usbQ.length + lost.length + 1 ≤ 256 then
      State.wr { s with obs := { s.obs with usbQ := s.obs.usbQ ++ lost ++ [r], lostUsb := 0 } } pgOBS
        OBS_TRC_STAT_USB_FILL (s.obs.usbQ.length + lost.length + 1)
    else (State.count { s with obs := { s.obs with lostUsb := s.obs.lostUsb + n } } pgOBS 4).irqRaw pgOBS 4

/-- A transfer of `len` bytes on an endpoint: each packet, of at most 512 bytes at high speed or 64 at full speed, moves its data toggle
(R528, R529). -/
def State.usbMoved (s : State) (ep len : Nat) : State :=
  let m := if s.on pgUSB USB_STAT_HIGH_SPEED then 512 else 64
  let odd := decide (max 1 ((len + m - 1) / m) % 2 = 1)
  let t := s.usb.toggle
  { s with usb := { s.usb with toggle := if !odd then t else if t.contains ep then t.erase ep else ep :: t } }

/-- The host takes one packet of the trace stream from endpoint 0x82: whole records, up to 512 bytes at high speed or 64 bytes at full
speed (R691; when the host polls is DESIGN CHOICE, log entry 109). -/
def State.usbStream (s : State) : State :=
  if s.obs.usbQ.isEmpty || !s.usbStreams || s.rd pgUSB USB_STAT_STATE != 3 || s.usb.halted.contains 0x82 then s
  else
    let n := if s.on pgUSB USB_STAT_HIGH_SPEED then 32 else 4
    let s' := (s.usbMoved 0x82 1).emit (.usb 0x82 ((s.obs.usbQ.take n).flatMap (leBytes 16)))
    State.wr { s' with obs := { s'.obs with usbQ := s'.obs.usbQ.drop n } } pgOBS OBS_TRC_STAT_USB_FILL (s.obs.usbQ.length - n)

/-- Writes one record into the trace buffer, and on to the other paths; a LOST record stands for `n` records (R688). -/
def State.traceWrite (s : State) (r : Nat) (n : Nat := 1) : State :=
  let stop := s.on pgOBS OBS_TRC_CTRL_MODE
  if stop && decide (16384 ≤ s.obs.since) then s.count pgOBS 2
  else
    let w := s.rd pgOBS OBS_TRC_WPTR_WPTR
    let w' := (w + 1) % 16384
    let s := { s with obs := { s.obs with trace := s.obs.trace.set (fun _ => 0) w r, since := s.obs.since + 1 } }
    let s := (s.wr pgOBS OBS_TRC_WPTR_WPTR w').count pgOBS 0
    let s := if w' = 0 then s.wr pgOBS OBS_TRC_WPTR_WRAPPED 1 else s
    let s := if w' = 0 ∨ w' = 0x2000 then s.irqRaw pgOBS 3 else s
    let s := if stop && s.obs.since == 16384 then (s.wr pgOBS OBS_TRC_WPTR_STOPPED 1).irqRaw pgOBS 2 else s
    (s.tracePin r n).traceUsb r n

/-- Writing stops in STOP mode once 16,384 records were written since CLEAR: STOPPED and FULL; in WRAP mode it goes on (R688,
R697). -/
def State.traceMode (s : State) : State :=
  if !s.on pgOBS OBS_TRC_CTRL_MODE then s.wr pgOBS OBS_TRC_WPTR_STOPPED 0
  else if decide (16384 ≤ s.obs.since) && !s.on pgOBS OBS_TRC_WPTR_STOPPED then
    (s.wr pgOBS OBS_TRC_WPTR_STOPPED 1).irqRaw pgOBS 2
  else s

/-- An event enters the trace: its KIND and page are enabled, at most four records a CLK_IO cycle; a LOST record before the next one
stands for those lost, on each path that the buffer feeds (R687). -/
def State.traceRaw (s : State) (page kind arg data : Nat) : State :=
  if !s.on pgOBS OBS_TRC_CTRL_ARM then s
  else if kind ≠ 8 ∧ !(bitAt (s.rd pgOBS OBS_TRC_KINDS_KINDS) kind
      && bitAt (s.rd pgOBS OBS_TRC_PAGESn_PAGES (page / 32)) (page % 32)) then s
  else
    let n := if s.obs.cycle = s.now then s.obs.inCycle else 0
    if 4 ≤ n then
      (State.count { s with obs := { s.obs with lostBuf := s.obs.lostBuf + 1 } } pgOBS 1).irqRaw pgOBS 4
    else
      let s := { s with obs := { s.obs with cycle := s.now, inCycle := n + 1 } }
      let s := if s.obs.lostBuf = 0 then s else
        let r := traceRecord s.ringNow pgOBS 0xF 0 s.locked s.obs.lostBuf
        State.traceWrite { s with obs := { s.obs with lostBuf := 0 } } r s.obs.lostBuf
      let s := s.traceWrite (traceRecord s.ringNow page kind arg s.locked data)
      if kind = 8 then s.count pgOBS 5 else s

/-- An event enters the trace; an INT_RAW bit that this sets on the OBS page is itself such an event. -/
def State.trace (s : State) (page kind arg data : Nat) : State :=
  let t := s.traceRaw page kind arg data
  [2, 3, 4].foldl (fun u b =>
    if bitAt (t.rd pgOBS INT_RAW_W) b && !bitAt (s.rd pgOBS INT_RAW_W) b
    then u.traceRaw pgOBS 1 b (u.rd pgOBS INT_RAW_W) else u) t

/-- The event of interrupt bit `b` of page `p` occurs (R51, R68, R686). -/
def State.irq (s : State) (p b : Nat) : State :=
  if bitAt (s.rd p INT_RAW_W) b then s
  else
    let t := s.irqRaw p b
    t.trace p 1 b (t.rd p INT_RAW_W)

/-- Several interrupt bits at once, lowest first; a reserved bit has no source and is not set (R39, R51). -/
def State.irqs (s : State) (p : Nat) (bits : Nat) : State :=
  (List.range 32).foldl (fun s b => if bitAt bits b && bitAt (intMask p) b then s.irq p b else s) s

/-- An event of wake kind `b`, 0 FAULT, 1 STATE, 2 PERR, 3 TAMPER, sets its bit of USB_WAKE_REASON where it is enabled
(R536, R538). -/
def State.usbWake (s : State) (b : Nat) : State :=
  if bitAt (s.word pgUSB 0x108).toNat b then
    s.wr pgUSB USB_WAKE_REASON_REASON (setBits (s.rd pgUSB USB_WAKE_REASON_REASON) b 1 1)
  else s

/-- `n` random bytes of the DRBG (R649), free values in the model. -/
def State.randBytes : Nat → State → List Byte × State
  | 0, s => ([], s)
  | n + 1, s =>
    let b := BitVec.ofNat 8 s.freeVal
    let (l, t) := State.randBytes n s.drawn
    (b :: l, t)

end Sys2Proof.Machine
end

