-- ==== Sys2Proof/Machine/Drive.lean ====
section
/-!
DEFINITION. What the pins drive: the discrete outputs with their SAFE values (R345, R346), and the stop of the cog engines
with their pins in HOLD (R407, R411), and the states of the sluices (R464 to R471).
-/
namespace Sys2Proof.Machine

def nsBOOT : Nat := 0
def nsJOIN : Nat := 1
def nsSERVICE : Nat := 2
def nsQUIET : Nat := 3
def nsHOLD : Nat := 4
def nsRECOVERY : Nat := 5

/-- The node state (R89). -/
def State.node (s : State) : Nat := s.rd pgPWRST PWRST_STATE_STATE

/-! ## Discrete outputs -/

/-- A hub of a twin board that does not drive the shared lines (R562, R567). -/
def State.cold (s : State) : Bool := s.enabled pgTWIN && !s.twin.driving

/-- Line `k` beyond its registers. -/
def State.lineSt (s : State) (k : Nat) : LineSt := s.line.get (fun _ => {}) k

/-- Writes a line's state. -/
def State.setLine (s : State) (k : Nat) (x : LineSt) : State := { s with line := s.line.set (fun _ => {}) k x }

/-- The lines from `lo` to `hi` forget everything but the level of their pins, which a reset does not change. -/
def pinsOnly (l : SMap LineSt) (lo hi : Nat) : SMap LineSt :=
  l.foldl (fun m e => m.set (fun _ => {}) e.1 (if lo ≤ e.1 ∧ e.1 ≤ hi then { pin := e.2.pin } else e.2)) []

/-- The DIO page of a line (R331). -/
def dioPg (k : Nat) : Nat := pgDIO + k / 32

/-- A line's configuration field. -/
def State.dioCfg (s : State) (k : Nat) (f : Field) : Nat := s.rd (dioPg k) f (k % 32)

/-- A line's bit of a per-page mask register. -/
def State.dioBit (s : State) (k : Nat) (f : Field) : Bool := bitAt (s.rd (dioPg k) f) (k % 32)

/-- Writes a line's bit of a per-page mask register. -/
def State.setDioBit (s : State) (k : Nat) (f : Field) (b : Bool) : State :=
  s.wr (dioPg k) f (setBits (s.rd (dioPg k) f) (k % 32) 1 (b2n b))

/-- SAFE replaces the selected source: from step 4 until SERVICE, in QUIET and in HOLD (R346), and while the claim is REFUSED or the ID
out of range (R122, R125). -/
def State.safeNow (s : State) : Bool :=
  decide (s.rd pgPWRST PWRST_STATE_STEP < 7) || s.node == nsQUIET || s.node == nsHOLD
    || s.rd pgLINK RING_ID_CLAIM == 3 || s.rd pgPWRST PWRST_STATE_DETAIL == 9

/-- The VDDIO bank of a line's group has no supply: its pins are high impedance and its inputs read 0 (R331, R704). -/
def State.lineOff (s : State) (k : Nat) : Bool := s.dark (2 * (k / 32) + k % 32 / 16)

/-- The VDDIO bank of a lane has no supply (R355, R704). -/
def State.laneDark (s : State) (n : Nat) : Bool := s.dark (16 + n / 4)

/-- A stopped frame goes on from now, with its next character. -/
def LaneSend.resume (f : LaneSend) (now : Nat) : LaneSend :=
  if f.halt then { f with halt := false, edge := max now f.edge } else f

/-- A stopped lane goes on. -/
def LaneSt.go (x : LaneSt) (now : Nat) : LaneSt := { x with send := x.send.map (fun f => f.resume now), offAt := none }

/-- The lanes whose page is enabled go on: QUIET ends, or a twin hub begins to drive the shared lines (R92, R567). -/
def State.lanesGo (s : State) : State :=
  { s with lane := (s.lane.map (fun e => if s.enabled (pgLANE + e.1) then (e.1, e.2.go s.now) else e)).filter (fun e => e.2 != {}) }

/-- What a lane shows at its pins leaves the hub, unless its bank has no supply (R704). -/
def State.laneOut (s : State) (n : Nat) (words : List Nat) : State := if s.laneDark n then s else s.emit (.lane n words)

/-- The value a line drives, 1 active; none where it drives nothing (R345, R346, R87, R567). -/
def State.lineOut (s : State) (k : Nat) : Option Bool :=
  if !s.enabled (dioPg k) || s.dioCfg k DIO_LINEj_CFG_DIR == 0 || s.lineOff k then none
  else if decide (s.rd pgPWRST PWRST_STATE_STEP < 4) || s.cold then none
  else if s.safeNow then
    match s.dioCfg k DIO_LINEj_CFG_SAFE with
    | 0 => some false
    | 1 => some true
    | 2 => some (s.lineSt k).last
    | _ => none
  else match s.dioCfg k DIO_LINEj_CFG_OUT_MODE with
    | 0 => some (s.lineSt k).img
    | 1 => some (s.lineSt k).launch
    | _ => some (s.dioBit k DIO_OUT_HOST_W)

/-- A line takes the value it drives now; an open-drain output at the high level is released (R332).  DIO_DRIVEN shows the value
(R346), and the start of a read-back difference is kept (R347). -/
def State.driveLine (s : State) (k : Nat) : State :=
  let v := s.lineOut k
  let pol := s.dioCfg k DIO_LINEj_CFG_POL == 1
  let r := v.map (fun b => b != pol)
  let e := if s.dioCfg k DIO_LINEj_CFG_DRIVE = 1 ∧ r = some true then none else r
  let x := s.lineSt k
  let filt := s.dioBit k DIO_RAW_W
  let differs (o : Option Bool) : Bool := match o with
    | some b => b != filt
    | none => false
  let s := if x.elec = e ∧ x.rb = r ∧ x.last = v.getD x.last then s else
    s.setLine k { x with elec := e, rb := r, last := v.getD x.last, drvAt := if x.rb = r then x.drvAt else s.now,
                         diffAt := if differs r && !differs x.rb then s.now else x.diffAt }
  if s.dioBit k DIO_DRIVEN_W == (v == some true) then s else s.setDioBit k DIO_DRIVEN_W (v == some true)

/-- Lines in output mode IMAGE hold what they drove last: QUIET ends in JOIN (R91, R277). -/
def State.holdLines (s : State) : State :=
  s.line.foldl (fun s e => s.setLine e.1 { e.2 with img := e.2.last }) s

/-- Every line of an enabled page, and every line that was driven, takes the value it drives now. -/
def State.driveSync (s : State) : State :=
  (List.range 8).foldl (fun s b =>
    if s.enabled (pgDIO + b) || s.line.any (fun e => e.1 / 32 == b && e.2.rb.isSome) then
      (List.range 32).foldl (fun s j => s.driveLine (32 * b + j)) s
    else s) s

/-! ## Cog engines: stopping, and a launch match -/

/-- Engine `e` beyond its registers. -/
def State.cogSt (s : State) (e : Nat) : CogSt := s.cog.get (fun _ => {}) e

/-- Writes an engine's state. -/
def State.setCogSt (s : State) (e : Nat) (x : CogSt) : State := { s with cog := s.cog.set (fun _ => {}) e x }

/-- The page of an engine (R388). -/
def cogPg (e : Nat) : Nat := pgCOG + e / 4

/-- A register field of an engine. -/
def State.cogRd (s : State) (e : Nat) (f : Field) : Nat := s.rd (cogPg e) f (e % 4)

/-- Writes a register field of an engine. -/
def State.cogWr (s : State) (e : Nat) (f : Field) (v : Nat) : State := s.wr (cogPg e) f v (e % 4)

/-- The engine cycle in ns (R391). -/
def State.cogCycle (s : State) (e : Nat) : Nat := 4 * max 1 (s.cogRd e COGe_CFG_DIV)

/-- An engine's STATE is RUNNING, WAITING or STALLED. -/
def State.cogActive (s : State) (e : Nat) : Bool :=
  let st := s.cogRd e COGe_STAT_STATE
  decide (1 ≤ st ∧ st ≤ 3)

/-- The ticks that an engine was STALLED since they were counted last are counted (R416). -/
def State.cogUnstall (s : State) (e : Nat) : State :=
  if s.cogRd e COGe_STAT_STATE = 3 then
    (s.count (cogPg e) (4 + e % 4) ((s.now - (s.cogSt e).stallAt) / 4)).setCogSt e { s.cogSt e with stallAt := s.now }
  else s

/-- An engine stops, keeping its state; what is left of a post-delay is kept in full cycles (R407, R408, R416). -/
def State.cogStop (s : State) (e : Nat) : State :=
  if !s.cogActive e then s
  else
    let left := if s.cogRd e COGe_STAT_STATE = 1 then
      (((s.cogSt e).due - s.now) + s.cogCycle e - 1) / s.cogCycle e else 0
    let s := s.cogUnstall e
    let s := (s.cogWr e COGe_STAT_STATE 4).cogWr e COGe_STAT_DELAY_LEFT (min (s.cogSt e).delay left)
    (s.cogWr e COGe_STAT_RESUME_OK 1).irq (cogPg e) 2

/-- The pins of an engine take new output levels and directions; what they were is seen for two ticks more (R390). -/
def State.cogPins (s : State) (e out dir : Nat) : State :=
  let x := s.cogSt e
  let old := (s.now, s.cogRd e COGe_PINS_OUT, s.cogRd e COGe_PINS_DIR)
  let s := s.setCogSt e { x with pins := old :: x.pins.filter (fun q => decide (s.now ≤ q.1 + 8)) }
  (s.cogWr e COGe_PINS_OUT out).cogWr e COGe_PINS_DIR dir

/-- OUT and DIR of an engine as the synchroniser shows them: from before every change of the last two ticks (R390; DEDUCED, log entry
139). -/
def State.cogThen (s : State) (e : Nat) : Nat × Nat :=
  match ((s.cogSt e).pins.filter (fun q => decide (s.now ≤ q.1 + 8))).getLast? with
  | some q => q.2
  | none => (s.cogRd e COGe_PINS_OUT, s.cogRd e COGe_PINS_DIR)

/-- The levels of an engine's pins as the synchroniser shows them: its own on outputs, `levels` on inputs (R390). -/
def State.cogSeen (s : State) (e levels : Nat) : Nat :=
  let (out, dir) := s.cogThen e
  (List.range 4).foldl (fun a p => a + b2n (if bitAt dir p then bitAt out p else bitAt levels p) * 2 ^ p) 0

/-- The pins of an engine whose claim is established take COGe_CLAIM.SAFE (R411). -/
def State.cogSafe (s : State) (e : Nat) : State :=
  if s.cogRd e COGe_STAT_CLAIM_OK = 0 then s
  else
    (List.range 4).foldl (fun s p =>
      let out := s.cogRd e COGe_PINS_OUT
      let dir := s.cogRd e COGe_PINS_DIR
      match bitsOf (s.cogRd e COGe_CLAIM_SAFE) (2 * p) 2 with
      | 0 => s
      | 1 => s.cogPins e (setBits out p 1 0) (setBits dir p 1 1)
      | 2 => s.cogPins e (setBits out p 1 1) (setBits dir p 1 1)
      | _ => s.cogPins e out (setBits dir p 1 0)) s

/-- Every engine stops on entry to QUIET or HOLD; in HOLD its pins take their safe values (R411). -/
def State.cogStopAll (s : State) (hold : Bool) : State :=
  (List.range 32).foldl (fun s e =>
    let s := s.cogStop e
    if hold then s.cogSafe e else s) s

/-- A launch match reaches an engine: it sets MATCH, or is lost where MATCH is set already (R402). -/
def State.cogMatch (s : State) (e : Nat) : State :=
  if s.cogRd e COGe_STAT_MATCH = 1 then (s.irq (cogPg e) 6).count (cogPg e) 9
  else (s.cogWr e COGe_STAT_MATCH 1).setCogSt e { s.cogSt e with matchAt := s.now }

/-! ## Sluices: states and levels -/

/-- The page of sluice `n`. -/
def sluPg (n : Nat) : Nat := pgSLU + n

/-- Sluice `n` beyond its registers. -/
def State.sluSt (s : State) (n : Nat) : SluSt := s.slu.get (fun _ => {}) n

/-- Writes a sluice's state. -/
def State.setSluSt (s : State) (n : Nat) (x : SluSt) : State := { s with slu := s.slu.set (fun _ => {}) n x }

/-- SLU_STAT.STATE: 0 OFF, 1 RAMP, 2 ON, 3 FAULT, 4 SUSPENDED, 5 FET_SHORT (R469). -/
def State.sluState (s : State) (n : Nat) : Nat := s.rd (sluPg n) SLU_STAT_STATE

/-- A page of the power die, which takes no command while the die link is silent (R20, R475). -/
def State.dieSilent (s : State) (p : Nat) : Bool := s.pwd.silent && decide (pgPWD ≤ p ∧ p ≤ pgSLU + 7)

/-- The logic die hears of the power die: the die link runs and no cause holds the hub in reset (R20, R73, R475). -/
def State.dieHeard (s : State) : Bool := !s.pwd.silent && s.held.isEmpty

/-- An interrupt of a power-die page, which the logic die learns of while it hears the die link (R475). -/
def State.pirq (s : State) (p b : Nat) : State := if s.dieHeard then s.irq p b else s

/-- Counts an event of a power-die page; one that occurs while the die link is stopped is added when it resumes (R460). -/
def State.pcount (s : State) (p k : Nat) : State :=
  if s.dieHeard then s.count p k else { s with pwd := { s.pwd with missed := s.pwd.missed ++ [(p, k)] } }

/-- The events that the power die counted while the logic die did not hear it are added (R460). -/
def State.missedCounts (s : State) : State :=
  if s.dieHeard then s.pwd.missed.foldl (fun s e => s.count e.1 e.2) { s with pwd := { s.pwd with missed := [] } } else s

/-- The fault timer of a sluice in µs: up by 1 each µs in limit, down by 1 every 8 µs outside (R466). -/
def State.sluTimer (s : State) (n : Nat) : Nat :=
  let dt := (s.now - (s.sluSt n).ftAt) / 1000
  let c := s.rd (sluPg n) SLU_FTIMER_COUNT
  if s.on (sluPg n) SLU_STAT_LIMIT then min 0xFFFF (c + dt) else c - dt / 8

/-- Brings the fault timer up to date. -/
def State.sluTick (s : State) (n : Nat) : State :=
  (s.wr (sluPg n) SLU_FTIMER_COUNT (s.sluTimer n)).setSluSt n { s.sluSt n with ftAt := s.now }

/-- Power-good drops; counter 7 counts it outside FAULT; qualification restarts (R468, R483). -/
def State.sluPgDrop (s : State) (n : Nat) (toFault : Bool) : State :=
  let s := s.setSluSt n { s.sluSt n with qualAt := s.now }
  if !s.on (sluPg n) SLU_STAT_PG then s
  else
    let s := (s.wr (sluPg n) SLU_STAT_PG 0).pirq (sluPg n) 4
    if toFault then s else s.pcount (sluPg n) 7

/-- A sluice changes state: the gate's consequences, the fault timer set to 0 on leaving FAULT or OFF, LATCHED ended
(R466, R468, R469, R472, R483). -/
def State.sluTo (s : State) (n st : Nat) : State :=
  let p := sluPg n
  let old := s.sluState n
  if old = st then s
  else
    let s := s.sluTick n
    let s := if st = 1 ∨ st = 2 then s else (s.wr p SLU_STAT_LIMIT 0).sluPgDrop n (decide (st = 3))
    let s := if old = 3 ∨ old = 0 then s.wr p SLU_FTIMER_COUNT 0 else s
    let s := if old = 3 then (s.wr p SLU_STAT_LATCHED 0).setSluSt n { s.sluSt n with retryAt := none } else s
    (s.wr p SLU_STAT_STATE st).pirq p 2

/-- A sluice enters RAMP with the ramp length in effect (R467, R481); after an undervoltage its gate stays off until VIN rises through
16.5 V (R461). -/
def State.sluRamp (s : State) (n : Nat) : State :=
  if s.pwd.waitVin then s.sluTo n 0
  else
    let s := (s.sluTo n 1).pcount (sluPg n) 0
    s.setSluSt n { s.sluSt n with rampAt := s.now, rampMs := max 1 (s.rd (sluPg n) SLU_CFG_RAMP), qualAt := s.now }

/-- LEVEL becomes `v` (R470); a suspended sluice whose LEVEL becomes 1 once the overvoltage is over ramps (R461). -/
def State.sluLevel (s : State) (n : Nat) (v : Bool) : State :=
  let s := s.wr (sluPg n) SLU_STAT_LEVEL (b2n v)
  let st := s.sluState n
  if st = 5 then s
  else if v then (if st = 0 || (st == 4 && !s.on pgPWD PWD_STAT_OV) then s.sluRamp n else s)
  else s.sluTo n 0

/-- The source of LEVEL is SAFE: in start-up from step 4 until SERVICE, in HOLD, and while the claim is REFUSED or the ID out of range
(R122, R125, R471). -/
def State.sluSafeSrc (s : State) : Bool :=
  decide (4 ≤ s.rd pgPWRST PWRST_STATE_STEP ∧ s.rd pgPWRST PWRST_STATE_STEP < 7) || s.node == nsHOLD
    || s.rd pgLINK RING_ID_CLAIM == 3 || s.rd pgPWRST PWRST_STATE_DETAIL == 9

/-- SAFE gives LEVEL of one of SLU1 to SLU7 its value where it replaces the command source; none while the page's EN is 0 or the die
link silent (R462, R471, R475). -/
def State.sluSafe (s : State) (n : Nat) : State :=
  if s.pwd.silent || !s.enabled (sluPg n) || !s.sluSafeSrc || n == 0 then s
  else match s.rd (sluPg n) SLU_CFG_SAFE with
    | 0 => s.sluLevel n false
    | 1 => s.sluLevel n true
    | _ => s

/-- SAFE acts on SLU1 to SLU7: at step 4, on entry to HOLD, when the claim is refused and when the die link resumes (R471). -/
def State.sluSafeAll (s : State) : State := (List.range 7).foldl (fun s k => s.sluSafe (k + 1)) s

end Sys2Proof.Machine
end

