-- ==== Sys2Proof/Machine/Ops.lean ====
section
/-!
DEFINITION. The operations the blocks share above the registers: collecting the image, node states, the fault collector,
the mirror unit, the cell buffer and origination.
-/
namespace Sys2Proof.Machine

/-! ## Applies -/

/-- A page's copy has taken effect: CFG_GEN and APPLIED (R55, R59). -/
def State.copied (s : State) (p : Nat) : State := (s.wr p CFG_GEN_W (s.rd p CFG_GEN_W + 1)).irq p 1

/-- The copy of a pending apply has taken effect (R59). -/
def State.applyDone (s : State) (p : Nat) : State :=
  let x := s.pageSt p
  if x.applyPend then (s.setPageSt p { x with applyPend := false }).copied p else s

/-! ## Collecting the image -/

/-- COUNT of a shard table entry (R210). -/
def segCount (e : Nat) : Nat := bitsOf e 17 13

/-- The owners that have segments in a shard table. -/
def tableOwners (t : SMap Nat) : List Nat :=
  ((t.filter (fun e => segCount e.2 != 0 && decide (8 ≤ e.1))).map (fun e => e.1 / 8)).dedup

/-- The hub enters LAG (R226, R250). -/
def State.enterLag (s : State) : State :=
  if s.on pgIMG IMG_STAT_LAG then s else ((s.wr pgIMG IMG_STAT_LAG 1).irq pgIMG 3).count pgIMG 2

/-- The epoch in progress; all ones while there is none (R195). -/
def State.epoch (s : State) : Nat := s.rd64 pgTIME TIME_EPOCH_LO_W TIME_EPOCH_HI_W

/-- LAG_DEPTH: the epochs between the last passed commit instant and the visible epoch, or, with nothing committed, the instants passed
since collection began (R246). -/
def State.depthSync (s : State) : State :=
  let c := s.rd64 pgIMG IMG_COMMIT_EPOCH_LO_W IMG_COMMIT_EPOCH_HI_W
  s.wr pgIMG IMG_STAT_LAG_DEPTH (min 255 (if c = 2 ^ 64 - 1 then s.img.tcCount else s.img.lastTc.getD 0 - c))

/-- The last epoch whose commit instant has passed in the present epoch (R215); none before the first. -/
def State.tcPassed (s : State) : Option Nat :=
  let k := s.rd pgIMG IMG_EPOCH_SETTLE + 1
  if s.epoch = 2 ^ 64 - 1 ∨ s.epoch < s.rd64 pgTIME TIME_BASE_N_LO_W TIME_BASE_N_HI_W + k then none else some (s.epoch - k)

/-- The hub begins collecting the image: every shard with segments is PENDING, what it held and every uncommitted epoch
is abandoned, and the visible bank stays; the next commit is of the epoch whose t_c is the first to pass from now on (R226, R235, R236,
R244).  `again` is false for the first collection after reset. -/
def State.collect (s : State) (again : Bool) : State :=
  let s := if s.on pgIMG IMG_STAT_FULL then (s.wr pgIMG IMG_STAT_FULL 0).irq pgIMG 4 else s
  let s := (s.wr pgIMG IMG_STAT_COLLECTING 1).wr pgIMG IMG_STAT_PENDING (tableOwners s.img.cur).length
  let shards := s.img.shards.map (fun e => (e.1, { e.2 with pend := true, states := [], mism := [], staleFrom := none }))
  let s := { s with img := { s.img with
    shards := shards, changes := [], seals := [], refreshes := [], passed := [], repairs := [], tcCount := 0, upset := [],
    lastTc := match s.img.lastTc, s.tcPassed with
      | some a, some b => some (max a b)
      | a, b => a.or b
    colCommit := false, colEpoch := if s.epoch = 2 ^ 64 - 1 then 0 else s.epoch + 1 } }
  let s := (s.wr pgIMG IMG_REPAIR_OUTSTANDING 0).depthSync
  if again then (s.irq pgIMG 10).count pgIMG 11 else s

/-! ## Node states -/

/-- CLACK stops and is driven low (R551). -/
def State.clackStop (s : State) (cause : Nat) : State :=
  let run := s.on pgFLT FLT_CLACK_RUN
  let s := { s with flt := { s.flt with clackHigh := false, beats := 0 } }
  let s := (s.wr pgFLT FLT_CLACK_RUN 0).wr pgFLT FLT_CLACK_STOP_CAUSE cause
  if run then (s.irq pgFLT 6).count pgFLT 7 else s

/-- The ports transmit again: what they had on the bus when the hub left SERVICE was cut, and is tried again (R419, R430; DESIGN CHOICE,
log entry 140). -/
def State.canResume (s : State) : State :=
  let cut (b : CanBuf) : CanBuf := if b.st = 2 then { b with st := 1 } else b
  let port (x : CanSt) : CanSt := { x with act := none, buf := x.buf.map (fun b => (b.1, cut b.2)) }
  let s := { s with can := (s.can.map (fun e => (e.1, port e.2))).filter (fun e => e.2 != {}) }
  (List.range 8).foldl (fun s n => s.wr (pgCAN + n) CAN_STAT_TX_ACTIVE 0) s

/-- Every zone's wake line is released (R419). -/
def State.wakeRelease (s : State) : State :=
  { s with zone := (s.zone.map (fun e => (e.1, { e.2 with pulse := false }))).filter (fun e => e.2 != {}) }

/-- The change to node state `n` is shown: PWRST_STATE, counter 0, STATE_CHG, a trace record, and a TOPO cell is due within 1 ms
(R90, R99, R127, R686). -/
def State.nodeShown (s : State) (n : Nat) : State :=
  let s := { s with rst := { s.rst with nodeAt := s.now }, ring := { s.ring with topoEvent := some (s.now + 1000000) } }
  let s := (((s.wr pgPWRST PWRST_STATE_STATE n).count pgPWRST 0).irq pgPWRST 2).usbWake 1
  s.trace pgPWRST 6 n (s.word pgPWRST 0x100).toNat

/-- A hub that falls back to JOIN collects again, and its return lags (R90, R237). -/
def State.fallBack (s : State) : State :=
  let s := s.collect true
  State.enterLag { s with img := { s.img with returned := true } }

/-- The node state changes from `old` to another; entry to HOLD or RECOVERY stops CLACK (R90, R92, R99, R551). -/
def State.setNode (s : State) (n : Nat) : State :=
  let old := s.node
  if old = n then s
  else
    let s := s.nodeShown n
    let s := if (old = nsSERVICE ∨ old = nsQUIET) ∧ n = nsJOIN then s.fallBack else s
    let s := if old = nsQUIET ∧ n = nsJOIN then s.holdLines else s
    let s := if old = nsQUIET then s.lanesGo else s
    let s := if n = nsSERVICE ∧ old ≠ nsQUIET then s.canResume else s
    let s := if n = nsHOLD then s.wakeRelease else s
    let s := if n = nsQUIET ∨ n = nsHOLD then s.cogStopAll (decide (n = nsHOLD)) else s
    let s := s.driveSync
    let s := if n = nsHOLD then s.sluSafeAll else s
    if n = nsHOLD ∨ n = nsRECOVERY then s.clackStop 3 else s

/-- Entry to HOLD with a DETAIL (R90, R544). -/
def State.enterHold (s : State) (detail : Nat) : State :=
  if s.node ≤ nsQUIET then (s.wr pgPWRST PWRST_STATE_DETAIL detail).setNode nsHOLD else s

/-- The start-up condition that DETAIL shows: NOT_LOCKED where step 6 is late and open, else NO_LINK where step 5 is, else none (R86;
DESIGN CHOICE where both are late, log entry 95). -/
def State.lateDetail (s : State) : Nat :=
  if s.on pgPWRST PWRST_BOOT_LATE_LOCK && s.rd pgPWRST PWRST_STEP_TIME_TIME_US 5 == 0xFFFFFFFF then 4
  else if s.on pgPWRST PWRST_BOOT_LATE_LINKS && s.rd pgPWRST PWRST_STEP_TIME_TIME_US 4 == 0xFFFFFFFF then 3
  else 0

/-- In JOIN, SERVICE and QUIET, DETAIL follows the late steps where it shows nothing of a higher rank (R86). -/
def State.detailSync (s : State) : State :=
  if decide (nsJOIN ≤ s.node ∧ s.node ≤ nsQUIET) && [0, 3, 4].contains (s.rd pgPWRST PWRST_STATE_DETAIL)
  then s.wr pgPWRST PWRST_STATE_DETAIL s.lateDetail else s

/-- A DETAIL of the node ID ends: DETAIL shows the late steps again (R86, R126). -/
def State.detailClear (s : State) : State := (s.wr pgPWRST PWRST_STATE_DETAIL 0).detailSync

/-- A start-up step completes (R84, R94, R98): STEP is the last completed one and STEP_TIME its time from t_0 in µs. -/
def State.stepDone (s : State) (n : Nat) : State :=
  let us := (s.now - s.t0) / 1000
  let s := s.wr pgPWRST PWRST_STEP_TIME_TIME_US (if n = 1 then 0 else min us 0xFFFFFFFE) (n - 1)
  let s := (s.wr pgPWRST PWRST_STATE_STEP (max n (s.rd pgPWRST PWRST_STATE_STEP))).driveSync
  if n = 4 then s.sluSafeAll else s

/-! ## The fault collector -/

/-- A kind of fault of R542: its number, its FLT_FORCE bit, its class for a forced message and its action. -/
structure KindRow where
  kind : Nat
  bit : Nat
  forcedCls : Nat
  action : Nat
  hk : Bool := false
  deriving DecidableEq, Repr

/-- The kinds of R542 that a kind of page reports. -/
def kindRows : Kind → List KindRow
  | .sys => [⟨0x01, 0, 2, 3, false⟩, ⟨0x02, 1, 1, 1, false⟩]
  | .flt => [⟨0x03, 0, 1, 2, true⟩, ⟨0x04, 1, 1, 2, true⟩, ⟨0x05, 2, 2, 2, true⟩, ⟨0x06, 3, 2, 3, true⟩]
  | .flash => [⟨0x07, 0, 1, 1, false⟩, ⟨0x08, 1, 1, 1, false⟩]
  | .upd => [⟨0x09, 0, 1, 1, false⟩]
  | .key => [⟨0x0A, 0, 1, 3, false⟩, ⟨0x0B, 1, 1, 1, false⟩]
  | .twin => [⟨0x0C, 0, 1, 1, false⟩, ⟨0x0D, 1, 1, 1, false⟩]
  | .link => [⟨0x0E, 0, 1, 1, false⟩, ⟨0x0F, 1, 1, 1, false⟩]
  | .swc => [⟨0x10, 0, 1, 1, false⟩, ⟨0x11, 1, 2, 4, false⟩]
  | .rsq => [⟨0x12, 0, 1, 1, false⟩]
  | .mir => [⟨0x13, 0, 1, 1, false⟩]
  | .obs => [⟨0x14, 0, 1, 1, false⟩]
  | .timeP => [⟨0x15, 0, 1, 1, false⟩]
  | .img => [⟨0x16, 0, 1, 1, false⟩, ⟨0x17, 1, 1, 1, false⟩, ⟨0x18, 2, 1, 1, false⟩, ⟨0x19, 3, 1, 1, false⟩,
      ⟨0x1A, 4, 1, 1, false⟩, ⟨0x1B, 5, 1, 1, false⟩]
  | .trk => [⟨0x1C, 0, 1, 1, false⟩]
  | .lnch => [⟨0x1D, 0, 1, 1, false⟩]
  | .usb => [⟨0x1E, 0, 1, 1, false⟩]
  | .dio => [⟨0x1F, 0, 1, 1, false⟩]
  | .lane => [⟨0x20, 0, 1, 1, false⟩]
  | .cog => [⟨0x21, 0, 1, 1, false⟩]
  | .can => [⟨0x22, 0, 1, 1, false⟩, ⟨0x23, 1, 0, 0, false⟩]
  | .zone => [⟨0x24, 0, 1, 1, false⟩]
  | .pwd => [⟨0x25, 0, 1, 1, false⟩, ⟨0x26, 1, 1, 1, false⟩, ⟨0x27, 2, 1, 1, false⟩]
  | .slu => [⟨0x28, 0, 0, 0, false⟩, ⟨0x29, 1, 1, 1, false⟩]
  | _ => []

/-- The page whose HEALTH a source sets: the FLT page for the housekeeping core's SOURCE 0x3F0 (R543). -/
def healthPage (source : Nat) : Nat := if source = 0x3F0 then pgFLT else source

/-- The action of a message of class `cls`: NONE for a corrected error, else the kind's (R542). -/
def actionOf (source kind cls : Nat) : Nat :=
  if cls = 0 then 0
  else match pageKind? (healthPage source) with
    | some k => ((kindRows k).find? (fun r => r.kind == kind)).elim 0 (·.action)
    | none => 0

/-- PAGE_STAT.HEALTH as R50 and R543 have it. -/
def State.healthOf (s : State) (p : Nat) : Nat :=
  if s.flt.failed.contains p then 3
  else if (s.flt.log ++ s.flt.popped).any (fun r => r.isOpen && r.cls == 1 && healthPage r.source == p) then 2
  else if s.now < s.flt.ceUntil.get (fun _ => 0) p then 1
  else 0

/-- Brings HEALTH of a page up to date; a change sets HEALTH_CHG (R50). -/
def State.setHealth (s : State) (p : Nat) : State :=
  let h := s.healthOf p
  if s.rd p PAGE_STAT_HEALTH = h then s else (s.wr p PAGE_STAT_HEALTH h).irq p 0

/-- FLT_STAT.OPEN and FLT_LOG_STAT.FILL follow the records (R557, R558). -/
def State.fltSync (s : State) : State :=
  let n := ((s.flt.log ++ s.flt.popped).filter (·.isOpen)).length
  (s.wr pgFLT FLT_STAT_OPEN (min n 255)).wr pgFLT FLT_LOG_STAT_FILL s.flt.log.length

/-- The eight words of a fault record (R540). -/
def FltRec.words (r : FltRec) : List Nat :=
  let d := r.addr % 2 ^ 40 + r.source % 2 ^ 10 * 2 ^ 40 + r.kind % 64 * 2 ^ 50 + r.cls % 4 * 2 ^ 56
    + r.action % 8 * 2 ^ 58 + b2n r.forced * 2 ^ 61 + b2n r.locked * 2 ^ 62 + b2n r.isOpen * 2 ^ 63
  [r.time % 2 ^ 32, r.time / 2 ^ 32 % 2 ^ 32, d % 2 ^ 32, d / 2 ^ 32,
   r.merges % 256 + r.kindOr % 64 * 256, r.seq % 2 ^ 32, r.last % 2 ^ 32, r.last / 2 ^ 32 % 2 ^ 32]

/-- The record is written to FLT_LASTFATAL0 to FLT_LASTFATAL7 (R544). -/
def State.lastFatal (s : State) (r : FltRec) : State :=
  (List.range 8).foldl (fun s i => s.wr pgFLT FLT_LASTFATALn_ENTRY (r.words.getD i 0) i) s

/-- A UC or FATAL record is copied to the ledger's store of 256 in housekeeping RAM; when it overflows the oldest is lost
(R543, R595). -/
def State.ledgerAdd (s : State) (r : FltRec) : State :=
  let full := decide (256 ≤ s.hk.ledger.length)
  let s := if full then s.count pgDRS 19 else s
  let l := (if full then s.hk.ledger.drop 1 else s.hk.ledger) ++ [r.words]
  State.wr { s with hk := { s.hk with ledger := l } } pgDRS DRS_LEDGER_RAM_HELD l.length

/-- Records still open 1 s after their creation are closed (R547). -/
def State.fltExpire (s : State) : State :=
  let late (r : FltRec) : Bool := r.isOpen && decide (r.made + 10 ^ 9 ≤ s.now)
  let gone := (s.flt.log ++ s.flt.popped).filter late
  if gone.isEmpty then s
  else
    let s := { s with flt := { s.flt with log := s.flt.log.map (fun r => if late r then { r with isOpen := false } else r),
                                          popped := s.flt.popped.filter (fun r => !late r) } }
    gone.foldl (fun s r => s.setHealth (healthPage r.source)) s.fltSync

/-- A record of class `cls` was created, or a merge raised one to it: interrupt, FATAL_SEEN, CLACK (R543, R551, R560). -/
def State.clsSeen (s : State) (r : FltRec) (clackToo : Bool) : State :=
  let s := s.irq pgFLT (2 + r.cls)
  let s := if r.cls = 0 then s else (s.ledgerAdd r).usbWake 0
  if r.cls = 2 then
    let s := (s.wr pgFLT FLT_STAT_FATAL_SEEN 1).lastFatal r
    let s := { s with upd := { s.upd with fatals := s.upd.fatals + 1 } }
    let s := State.setHealth { s with flt := { s.flt with
      failed := if s.flt.failed.contains (healthPage r.source) then s.flt.failed
        else s.flt.failed ++ [healthPage r.source] } } (healthPage r.source)
    if clackToo then State.clackStop { s with flt := { s.flt with clackFatal := true } } 2 else s
  else s

/-- A record is discarded: OVF, OVF_COUNT, LOG_OVF, counter 4 (R549). -/
def State.logOvf (s : State) : State :=
  let s := (s.wr pgFLT FLT_LOG_STAT_OVF 1).wr pgFLT FLT_LOG_STAT_OVF_COUNT
    (satInc 0xFFFF (s.rd pgFLT FLT_LOG_STAT_OVF_COUNT))
  (s.irq pgFLT 5).count pgFLT 4

/-- Places a new record in the log of 64 (R549). -/
def State.logPlace (s : State) (r : FltRec) : State :=
  if s.flt.log.length < 64 then { s with flt := { s.flt with log := s.flt.log ++ [r] } }
  else if r.cls ≠ 0 ∧ s.flt.log.any (fun x => x.cls == 0) then
    let old := s.flt.log.filter (fun x => x.cls == 0) |>.take 1
    let log := s.flt.log.eraseP (fun x => x.cls == 0)
    State.count { s with flt := { s.flt with
      log := log ++ [r], popped := s.flt.popped ++ old.filter (·.isOpen) } } pgFLT 5
  else State.logOvf { s with flt := { s.flt with popped := s.flt.popped ++ [r] } }

/-- A message becomes a record or merges into its source's open record in the log (R540, R547).  The second component is
the action to take now. -/
def State.faultRecord (s : State) (source kind cls addr : Nat) (forced : Bool) : State × Nat :=
  let act := if forced && !s.on pgFLT FLT_CFG_FORCE_ACT then 0 else actionOf source kind cls
  let clackToo := !(forced && !s.on pgFLT FLT_CFG_FORCE_ACT)
  let s := s.fltExpire.count pgFLT cls
  let s := if forced then s.count pgFLT 6 else s
  let s := s.trace (source % 0x1000) 2 (kind % 64 + cls * 64) addr
  let s := if cls = 0 then
      { s with flt := { s.flt with ceUntil := s.flt.ceUntil.set (fun _ => 0) (healthPage source) (s.now + 10 ^ 9) } }
    else s
  match s.flt.log.find? (fun r => r.isOpen && r.source == source) with
  | some r =>
    let r' := { r with merges := min 255 (r.merges + 1), kindOr := r.kindOr ||| kind, last := s.ringNow,
                       cls := max r.cls cls, action := max r.action act }
    let s := { s with flt := { s.flt with log := s.flt.log.map (fun x => if x = r then r' else x) } }
    let s := s.count pgFLT 3
    let s := if r.cls < r'.cls then s.clsSeen r' clackToo
      else if cls = 2 ∧ clackToo ∧ !s.flt.clackFatal then State.clackStop { s with flt := { s.flt with clackFatal := true } } 2 else s
    let s := if r.action < act ∧ 3 ≤ act then s.lastFatal r' else s
    (((s.setHealth (healthPage source)).fltSync), if r.action < act then act else 0)
  | none =>
    if cls = 0 ∧ !s.on pgFLT FLT_CFG_CE_LOG then (s.setHealth (healthPage source), act)
    else
      let r : FltRec := {
        time := s.ringNow, addr := addr, source := source, kind := kind, cls := cls, action := act,
        forced := forced, locked := s.locked, isOpen := true, kindOr := kind, seq := s.flt.nextSeq, last := s.ringNow,
        made := s.now }
      let s := { s with flt := { s.flt with nextSeq := (s.flt.nextSeq + 1) % 2 ^ 32 } }
      let s := (s.logPlace r).clsSeen r clackToo
      let s := if 3 ≤ act then s.lastFatal r else s
      ((s.setHealth (healthPage source)).fltSync, act)

/-- The actions HOLD and HUB_RESET (R544): HOLD at once, a hub reset at least 10 µs later. -/
def State.faultAct (s : State) (kind act : Nat) : State :=
  if act = 3 then s.enterHold (if kind = 0x0A then 5 else 6)
  else if act = 4 then { s with flt := { s.flt with resetDue := some (s.flt.resetDue.getD (s.now + 10000)) } }
  else s

/-- Firmware slot 0 A or 1 B in flash. -/
def State.fwSlot (s : State) (n : Nat) : FwSlot := if n = 0 then s.flash.slotA else s.flash.slotB

/-- UPD_SLOTx and UPD_SLOTx_VER follow the flash and the running slot (R645). -/
def State.fwSync (s : State) : State :=
  [0, 1].foldl (fun s n =>
    let x := s.fwSlot n
    let s := (s.wr pgUPD UPD_SLOTx_STATE x.st n).wr pgUPD UPD_SLOTx_RUNNING (b2n (s.upd.run == some n)) n
    (s.wr pgUPD UPD_SLOTx_ROLLBACK (leAt x.header 12 1) n).wr pgUPD UPD_SLOTx_VER_VERSION (leAt x.header 8 4) n) s

/-- Writes a firmware slot. -/
def State.setFw (s : State) (n : Nat) (x : FwSlot) : State :=
  State.fwSync { s with flash := if n = 0 then { s.flash with slotA := x } else { s.flash with slotB := x } }

/-- The slot on trial: TRIAL with TRIED (R631). -/
def State.trialSlot (s : State) : Option Nat := [0, 1].find? (fun n => (s.fwSlot n).st == 4 && (s.fwSlot n).tried)

/-- A slot that may serve as the fallback: GOOD, its ROLLBACK not below the counter (R630, R639). -/
def State.isGood (s : State) (n : Nat) : Bool :=
  (s.fwSlot n).st == 5 && decide (s.rd pgUPD UPD_ROLLBACK_COUNTER ≤ leAt (s.fwSlot n).header 12 1 % 64)

/-- A trial fails: BAD on its slot, the GOOD slot starts, and the fallback is reported once firmware runs (R638, R640). -/
def State.trialFail (s : State) : State :=
  match s.trialSlot with
  | none => s
  | some n =>
    let s := s.setFw n { s.fwSlot n with st := 6 }
    let next := if s.isGood (1 - n) then some (1 - n, true) else none
    { s with upd := { s.upd with trialAt := none }, hk := { s.hk with starting := next, fellBack := true } }

/-- What the pages of the housekeeping core show now (R638). -/
def State.hkView (s : State) : HkView :=
  { at_ := s.now, regs := s.regs, shadow := s.shadow, ctr := s.ctr, keySlot := s.keySlot, crs := s.crs, upd := s.upd, key := s.key }

/-- The housekeeping core restarts (R21, R83): SYS_HK_RESTART counts it with its cause; the data paths are untouched; a
firmware on trial has failed (R640).  Within a pause its pages go on showing what they held when the pause began (R638). -/
def State.hkRestart (s : State) (cause : Nat) : State :=
  let s := s.trialFail
  let s := (s.wr pgSYS SYS_HK_RESTART_COUNT (satInc 0xFFFF (s.rd pgSYS SYS_HK_RESTART_COUNT))).wr pgSYS
    SYS_HK_RESTART_LAST cause
  { s with hkUp := false, hk := { s.hk with view := s.hk.view.orElse (fun _ => some s.hkView) },
           flt := { s.flt with restarts := s.now :: s.flt.restarts.filter (fun t => s.now < t + 10 ^ 9) } }

/-- A fault message and the action its kind calls for; a third housekeeping restart within 1 s is HK_REPEAT (R542).  R83
gives no LAST to a restart for HK_RAM_ECC: a free value. -/
def State.fault (s : State) (source kind cls addr : Nat) (forced : Bool := false) : State :=
  let (s, act) := s.faultRecord source kind cls addr forced
  if act = 2 then
    let (c, s) := if kind = 0x05 then (3, s) else if kind = 0x03 then (1, s) else (s.freeVal % 4, s.drawn)
    let s := s.hkRestart c
    if 3 ≤ s.flt.restarts.length then
      let (s, a) := s.faultRecord 0x3F0 0x06 2 0 false
      s.faultAct 0x06 a
    else s
  else s.faultAct kind act

/-- A write to a worn region of the flash is refused (R594, R600, R605). -/
def State.flashWorn (s : State) : State :=
  (((s.irq pgDRS 9).count pgDRS 20).irq pgFLASH 3).fault pgFLASH 0x07 1 0

/-- The global address of a local address of this hub (R31, R541). -/
def State.globalAddr (s : State) (local_ : Nat) : Nat := s.rd pgLINK RING_ID_ID * 2 ^ 29 + local_ % 2 ^ 29

/-! ## The mirror unit -/

/-- A capture-ring entry of 32 bytes as a number, byte 0 lowest (R166); a LOSS entry has no cell and CLASS 0 (log entry 101). -/
def captureEntry (s : State) (c : Cell) (port event : Nat) : Nat :=
  let w2 := c.typ % 64 + c.race % 2 * 2 ^ 6 + c.dkind % 4 * 2 ^ 7 + port % 2 * 2 ^ 9
    + (if event = 0xA then 0 else classOf c.typ) * 2 ^ 10
    + event % 16 * 2 ^ 13
  let w3 := c.src % 2048 + c.dest % 2048 * 2 ^ 11
  let w4 := c.hops % 2048 + c.len % 512 * 2 ^ 11 + c.mapgen % 256 * 2 ^ 20
  let head := leNat (c.payload.take 4)
  (if s.time.everLocked then s.ringNow else 0) + w2 * 2 ^ 64 + w3 * 2 ^ 96 + w4 * 2 ^ 128 + c.seq % 2 ^ 32 * 2 ^ 160
    + c.origin % 2 ^ 32 * 2 ^ 192 + head * 2 ^ 224

/-- The event matches filter `n` (R176). -/
def State.mirMatch (s : State) (c : Cell) (port event n : Nat) : Bool :=
  s.on pgMIR MIR_FILTn_A_EN n
    && (s.on pgMIR MIR_FILTn_A_TYPE_ANY n || s.rd pgMIR MIR_FILTn_A_TYPE n == c.typ)
    && (s.on pgMIR MIR_FILTn_A_SRC_ANY n || s.rd pgMIR MIR_FILTn_A_SRC n == c.src)
    && (if event = 0xA ∨ event = 0x2 then s.rd pgMIR MIR_FILTn_A_PORTS n != 0
        else bitAt (s.rd pgMIR MIR_FILTn_A_PORTS n) port)
    && bitAt (s.rd pgMIR MIR_FILTn_B_EVENTS n) event

/-- Writing stops in STOP mode once 4,096 entries were written since CLEAR: STOPPED and FULL; in WRAP mode it goes on (R165, R175,
R177). -/
def State.mirMode (s : State) : State :=
  if !s.on pgMIR MIR_CTRL_MODE then s.wr pgMIR MIR_WPTR_STOPPED 0
  else if decide (4096 ≤ s.mir.since) && !s.on pgMIR MIR_WPTR_STOPPED then (s.wr pgMIR MIR_WPTR_STOPPED 1).irq pgMIR 2
  else s

/-- The mirror unit sees a switch-core event: on an enabled page, armed, it writes an entry where a filter matches (R46, R164, R165,
R177).  Whether a second entry within one cycle exceeds the ring's write bandwidth, so that the event is lost and counted, is a free value
(R164; DESIGN CHOICE, log entry 94). -/
def State.mirror (s : State) (c : Cell) (port event : Nat) : State :=
  if !(s.enabled pgMIR && s.on pgMIR MIR_CTRL_ARM && (List.range 4).any (s.mirMatch c port event)) then s
  else if s.on pgMIR MIR_CTRL_MODE && decide (4096 ≤ s.mir.since) then s.count pgMIR 2
  else if s.mir.wroteAt == some s.now && s.freeVal % 2 == 1 then s.drawn.count pgMIR 1
  else
    let s := if s.mir.wroteAt == some s.now then s.drawn else s
    let w := s.rd pgMIR MIR_WPTR_WPTR
    let w' := (w + 1) % 4096
    let s := { s with mir := { ring := s.mir.ring.set (fun _ => 0) w (captureEntry s c port event),
                               since := s.mir.since + 1, wroteAt := some s.now } }
    let s := (s.wr pgMIR MIR_WPTR_WPTR w').count pgMIR 0
    let s := if w' = 0 then s.wr pgMIR MIR_WPTR_WRAPPED 1 else s
    let s := if w' = 0 ∨ w' = 0x800 then s.irq pgMIR 3 else s
    s.mirMode

/-! ## The cell buffer and origination -/

/-- The reserved granules of classes 0 to 3 (R144). -/
def rsvSize (cls : Nat) : Nat := [2048, 12288, 4096, 1024].getD cls 0

/-- Shared-pool granules in use, all classes. -/
def State.poolUse (s : State) : Nat :=
  (List.range 4).foldl (fun a c => a + s.rd pgSWC SWC_USEn_SHARED c) 0

/-- Takes granules for a cell: the class's reserve if it has room for the whole cell, else the shared pool within the
class's cap (R145).  The entry's number comes back. -/
def State.alloc (s : State) (cls g refs : Nat) : Option (State × Nat) :=
  let id := s.sw.nextBuf
  let put (e : BufEnt) : State :=
    { s with sw := { s.sw with buf := s.sw.buf.set (fun _ => {}) id e, nextBuf := id + 1 } }
  if s.rd pgSWC SWC_USEn_RSV cls + g ≤ rsvSize cls then
    some ((put ⟨cls, g, 0, refs⟩).wr pgSWC SWC_USEn_RSV (s.rd pgSWC SWC_USEn_RSV cls + g) cls, id)
  else if s.poolUse + g ≤ 5120 ∧ s.rd pgSWC SWC_USEn_SHARED cls + g ≤ min 5120 (s.rd pgSWC SWC_CAPn_CAP cls) then
    some ((put ⟨cls, 0, g, refs⟩).wr pgSWC SWC_USEn_SHARED (s.rd pgSWC SWC_USEn_SHARED cls + g) cls, id)
  else none

/-- Gives up `n` references of a buffer entry; the granules are freed with the last one (R150). -/
def State.release (s : State) (id : Nat) (n : Nat := 1) : State :=
  let e := s.sw.buf.get (fun _ => {}) id
  if e.refs ≤ n then
    let s := { s with sw := { s.sw with buf := s.sw.buf.set (fun _ => {}) id {} } }
    let s := s.wr pgSWC SWC_USEn_RSV (s.rd pgSWC SWC_USEn_RSV e.cls - e.rsv) e.cls
    s.wr pgSWC SWC_USEn_SHARED (s.rd pgSWC SWC_USEn_SHARED e.cls - e.shared) e.cls
  else { s with sw := { s.sw with buf := s.sw.buf.set (fun _ => {}) id { e with refs := e.refs - n } } }

/-- The transmit queue of a port and class (R147). -/
def State.txq (s : State) (port cls : Nat) : List TxCell := s.sw.txq.get (fun _ => []) (4 * port + cls)

/-- Writes the transmit queue of a port and class. -/
def State.setTxq (s : State) (port cls : Nat) (q : List TxCell) : State :=
  { s with sw := { s.sw with txq := s.sw.txq.set (fun _ => []) (4 * port + cls) q } }

/-- Puts a cell at the end of a port's class queue. -/
def State.txPush (s : State) (port : Nat) (t : TxCell) : State :=
  s.setTxq port (classOf t.cell.typ) (s.txq port (classOf t.cell.typ) ++ [t])

/-- The link of a port is UP (R105). -/
def State.linkUp (s : State) (port : Nat) : Bool := s.rd (pgLINK + port) LINK_STAT_STATE == 3

/-- The housekeeping core is restarting, so that writes to its pages wait (R21, R638). -/
def State.hkPaused (s : State) : Bool :=
  !s.hkUp && decide (3 ≤ s.rd pgPWRST PWRST_STATE_STEP) && s.node != nsRECOVERY

/-- The claim is HELD (R123). -/
def State.heldId (s : State) : Bool := s.rd pgLINK RING_ID_CLAIM == 2

/-- This hub's node ID, 0 until the claim is HELD. -/
def State.nodeId (s : State) : Nat := s.rd pgLINK RING_ID_ID

/-- Cells with SRC 0 (R114). -/
def srcZero (typ : Nat) : Bool := typ == tID_CLAIM || typ == tID_REFUSE

/-- The hub may source a cell of this type: link-scope cells always, but JOURNAL cells not while the claim is REFUSED or the ID out
of range; ID_CLAIM and ID_REFUSE outside HOLD and RECOVERY;
every other cell only while the claim is HELD and the node state is neither HOLD nor RECOVERY (R93, R123 to R125). -/
def State.maySource (s : State) (typ : Nat) : Bool :=
  (linkTypes.contains typ && !(typ == tJOURNAL && (s.rd pgLINK RING_ID_CLAIM == 3 || s.rd pgPWRST PWRST_STATE_DETAIL == 9)))
    || (decide (s.node ≠ nsHOLD ∧ s.node ≠ nsRECOVERY) && (srcZero typ || s.heldId))

/-- ORIGIN at admission (R153): 0 while the Governor is not locked, else the low 32 bits of ring time, 1 in place of 0. -/
def State.originStamp (s : State) : Nat :=
  if s.locked then (if s.ringNow % 2 ^ 32 = 0 then 1 else s.ringNow % 2 ^ 32) else 0

/-- Keeps a copy in the REPLAY class, freeing the oldest epochs held until it fits (R148). -/
def replayFit : Nat → List ReplayEnt → List Nat → Nat → List ReplayEnt × List Nat × Nat
  | 0, l, b, n => (l, b, n)
  | k + 1, l, b, n =>
    if (l.foldl (fun a e => a + e.cell.granules) 0) ≤ 8192 then (l, b, n)
    else match l with
      | [] => (l, b, n)
      | e :: _ => replayFit k (l.filter (fun x => x.epoch != e.epoch)) (b ++ [e.epoch]) (n + 1)

/-- SWC_REPLAY follows the REPLAY class (R169): an epoch is whole when its seal is held and no cell of it was freed. -/
def State.replaySync (s : State) : State :=
  let g := s.sw.replay.foldl (fun a e => a + e.cell.granules) 0
  let whole := (s.sw.replay.filter (fun e => e.cell.typ == tSEAL && !s.sw.replayBroken.contains e.epoch)).map (·.epoch)
  (s.wr pgSWC SWC_REPLAY_GRANULES g).wr pgSWC SWC_REPLAY_EPOCHS (min 8 whole.eraseDups.length)

/-- Adds a REPLAY copy of an originated CHANGE or SEAL (R148). -/
def State.replayAdd (s : State) (epoch : Nat) (c : Cell) : State :=
  let (l, b, n) := replayFit 16 (s.sw.replay ++ [⟨epoch, c⟩]) s.sw.replayBroken 0
  State.replaySync ((State.count { s with sw := { s.sw with replay := l, replayBroken := b } } pgSWC 18 n))

/-- The cell may still be sourced: its type is allowed now, and a link-scope cell other than a HELLO needs its link in UP (R105,
R125). -/
def State.mayAdmit (s : State) (w : WaitCell) : Bool :=
  s.maySource w.cell.typ && (match w.port with
    | some p => w.cell.typ == tHELLO || s.linkUp p
    | none => true)

/-- An originated cell as it is admitted: SRC, SEQ, ORIGIN, MAPGEN, and the ORIGIN_T of a TIME_SYNC (R117, R118, R158, R181). -/
def State.originCell (s : State) (w : WaitCell) : Cell :=
  let zero := w.port.isSome || srcZero w.cell.typ
  { w.cell with
    src := if w.port.isSome then (if w.cell.typ = tHELLO ∧ !s.heldId then 0 else s.nodeId)
      else if srcZero w.cell.typ then 0 else s.nodeId,
    seq := if zero then 0 else s.ring.nextSeq, origin := s.originStamp, hops := 0,
    payload := if w.cell.typ = tTIME_SYNC then beBytes 10 s.ringFine ++ w.cell.payload.drop 10 else w.cell.payload,
    mapgen := if w.fixedGen then w.cell.mapgen else s.rd pgSWC SWC_MAPGEN_CURRENT }

/-- Admits an originated cell where its class has room (R146, R158, R118): it takes SEQ, ORIGIN and MAPGEN, a TIME_SYNC its ORIGIN_T
(R181), and goes to the East queue with RACE 0 and the West queue with RACE 1, or to one port for link scope. None while there is no
room. -/
def State.admitCell (s : State) (w : WaitCell) : Option State :=
  let zero := w.port.isSome || srcZero w.cell.typ
  let c := s.originCell w
  let ports := match w.port with
    | some p => [p]
    | none => [0, 1].filter s.linkUp
  match s.alloc (classOf c.typ) c.granules ports.length with
  | none => none
  | some (s, id) =>
    let s := if zero then s else { s with ring := { s.ring with nextSeq := (s.ring.nextSeq + 1) % 2 ^ 32 } }
    let s := s.count pgSWC 16
    let s := ports.foldl (fun s p => s.txPush p { cell := { c with race := p }, buf := id, fwd := false }) s
    let s := if ports.isEmpty then s.release id else s
    some (match w.replay with | some e => s.replayAdd e c | none => s)

/-- A block originates a cell: admitted now, or waiting for granules behind the cells that wait already (R146). -/
def State.submit (s : State) (w : WaitCell) : State :=
  if !s.maySource w.cell.typ then s
  else
    let wait (s : State) : State := State.count { s with sw := { s.sw with waiting := s.sw.waiting ++ [w] } } pgSWC 17
    if s.sw.waiting.any (fun x => classOf x.cell.typ == classOf w.cell.typ) then wait s
    else match s.admitCell w with
      | some s => s
      | none => wait s

/-- Originates a ring-scope cell on both races (R118). -/
def State.originate (s : State) (dkind dest typ : Nat) (payload : List Byte) : State :=
  s.submit { cell := { typ := typ, dkind := dkind, dest := dest, payload := payload }, fixedGen := false,
             replay := none, port := none }

/-- Originates a link-scope cell on one port (R116, R117); on a port whose link is not UP only a HELLO is queued (R105, R108;
DEDUCED). -/
def State.sendLink (s : State) (port typ : Nat) (payload : List Byte) : State :=
  if typ ≠ tHELLO ∧ !s.linkUp port then s else
  s.submit { cell := { typ := typ, dkind := 3, payload := payload }, fixedGen := false, replay := none,
             port := some port }

end Sys2Proof.Machine
end

