-- ==== Sys2Proof/Machine/Protect.lean ====
section
/-!
DEFINITION. Link protection (R112, R648, R663 to R667): key derivation, transmit and receive associations of one port.
-/
namespace Sys2Proof.Machine

/-- ASCII bytes of a label. -/
def ascii (t : String) : List Byte := t.toList.map (fun c => BitVec.ofNat 8 c.toNat)

/-- KDF(K, LABEL, CONTEXT) of R648: AES-CMAC in counter mode, one iteration, 128 bits. -/
def kdf (k : List Byte) (label : String) (ctx : List Byte) : List Byte :=
  beBytes 16 (Config.cmac k (beBytes 4 1 ++ ascii label ++ beBytes 1 0 ++ ctx ++ beBytes 4 0x80)).toNat

/-- The hub's own serial (R139). -/
def State.serial (s : State) : Nat := s.rd64 pgLINK RING_SELF_SER_LO_SERIAL RING_SELF_SER_HI_SERIAL

/-- The serial from the last good HELLO of a port (R131). -/
def State.neighSerial (s : State) (port : Nat) : Nat :=
  s.rd64 (pgLINK + port) LINK_NEIGH_SER_LO_SERIAL LINK_NEIGH_SER_HI_SERIAL

/-- The link master of a slot, where the slot is loaded with usage LINK_MASTER and the keys are not zeroised (R650). -/
def State.masterOf (s : State) (slot : Nat) : Option (List Byte) :=
  let k := s.keySlot.get (fun _ => {}) slot
  if k.st = 1 ∧ k.usage = 2 ∧ !s.on pgKEY KEY_STAT_ZEROISED then some k.key else none

/-- K_link: the key in KEY_STAT.LINK_SLOT (R663). -/
def State.linkMaster (s : State) : Option (List Byte) := s.masterOf (s.rd pgKEY KEY_STAT_LINK_SLOT)

/-- LINK_CFG.PROTECT of a port (R129). -/
def State.protected (s : State) (port : Nat) : Bool := s.on (pgLINK + port) LINK_CFG_PROTECT

/-- SAK(A, B, T) of R663 under the master `k`. -/
def State.sak (s : State) (k : List Byte) (a b t : Nat) : List Byte :=
  kdf k "KLNK" (beBytes 8 a ++ beBytes 8 b ++ beBytes 4 (s.rd pgLINK RING_LINE_LINE_ID) ++ beBytes 4 t)

/-- The protection state of a port. -/
def State.protSt (s : State) (port : Nat) : ProtSt := s.prot.get (fun _ => {}) port

/-- Writes a port's protection state; KEY_PORTp_STAT follows it (R671). -/
def State.setProt (s : State) (port : Nat) (x : ProtSt) : State :=
  let s := { s with prot := s.prot.set (fun _ => {}) port x }
  let s := s.wr pgKEY KEY_PORTp_STAT_TX_AN (x.txT.getD 0 % 4) port
  let s := s.wr pgKEY KEY_PORTp_STAT_RX_AN (x.rxT.getD 0 % 4) port
  let s := s.wr pgKEY KEY_PORTp_STAT_SEARCH (b2n x.search.isSome) port
  s.wr pgKEY KEY_PORTp_STAT_PAIRS x.pairs.length port

/-- Replaces the pair entry of a serial, adding one where there is none and the table of 16 has room (R664). -/
def ProtSt.setPair (x : ProtSt) (p : PairEnt) : ProtSt :=
  if x.pairs.any (fun q => q.serial == p.serial) then
    { x with pairs := x.pairs.map (fun q => if q.serial = p.serial then p else q) }
  else { x with pairs := (x.pairs ++ [p]).take 16 }

/-- Starts a new transmit SA with the next key number of the neighbour's pair entry; a number that reaches TX_RES asks
for a PAIR record write, and one beyond it waits (R664). -/
def State.txSaStart (s : State) (port : Nat) : State :=
  let x := s.protSt port
  let ser := s.neighSerial port
  let p := (x.pairs.find? (fun q => q.serial == ser)).getD { serial := ser }
  if p.txRes < p.nextT then
    (s.setProt port { x.setPair p with txWait := true }).wr pgKEY KEY_PORTp_STAT_REASON 6 port
  else
    let p' := { p with nextT := (p.nextT + 1) % 2 ^ 32 }
    let sak := s.sak (s.linkMaster.getD []) s.serial ser p.nextT
    let s := s.setProt port { x.setPair p' with txT := some p.nextT, txSak := sak, txPn := 0,
                                                txWait := decide (p.txRes ≤ p.nextT) }
    (s.wr pgKEY KEY_PORTp_STAT_REASON 0 port).count pgKEY (3 + port)

/-- Why a protected port cannot come UP: 1 NO_MASTER, 2 PAIRS_FULL, 5 ZEROISED; 0 when it can (R666, R671). -/
def State.noKeyReason (s : State) (port : Nat) : Nat :=
  if !s.protected port then 0
  else if s.on pgKEY KEY_STAT_ZEROISED then 5
  else if s.linkMaster.isNone then 1
  else
    let x := s.protSt port
    if x.pairs.length = 16 ∧ !x.pairs.any (fun q => q.serial == s.neighSerial port)
      ∧ s.rd (pgLINK + port) LINK_STAT_STATE = 2 ∧ s.neighSerial port ≠ 0 then 2 else 0

/-- The additional data and IV of a protected frame: addresses and SecTAG; SCI and PN (R112; PRESUMED from IEEE 802.1AE,
log entry 20). -/
def macsecAad (serial an pn len : Nat) : List Byte × List Byte :=
  (beBytes 6 ringDest.toNat ++ macOf serial ++ secTagBytes an pn len, macOf serial ++ beBytes 2 1 ++ beBytes 4 pn)

/-- Protects a cell for transmission: the next PN under the transmit SA, and what the frame carries after its addresses: SecTAG,
encrypted bytes, ICV; none while the port has no SA or its PNs are used up (R110, R112, R664). -/
def State.protSend (s : State) (port : Nat) (c : Cell) : Option (State × List Byte) :=
  let x := s.protSt port
  match x.txT with
  | some t =>
    if 0xFFFFFFFF ≤ x.txPn then none
    else
      let pn := x.txPn + 1
      let body := frameBody c true
      let (aad, iv) := macsecAad s.serial (t % 4) pn body.length
      let (enc, icv) := Config.gcmSeal x.txSak iv aad body
      some (s.setProt port { x with txPn := pn },
        secTagBytes (t % 4) pn body.length ++ enc ++ beBytes 16 icv.toNat)
  | none => none

/-- Opens a protected frame under a SAK. -/
def State.openWith (s : State) (port : Nat) (sak : List Byte) (f : Frame) : Option (List Byte) :=
  match f.sec with
  | none => none
  | some tag =>
    let (aad, iv) := macsecAad (s.neighSerial port) tag.an tag.pn f.body.length
    Config.gcmOpen sak iv aad f.body tag.icv

/-- The SAK of the neighbour's key number `t` under master `k` (R663). -/
def State.rxSakOf (s : State) (port : Nat) (k : List Byte) (t : Nat) : List Byte := s.sak k (s.neighSerial port) s.serial t

/-- A frame verified: PN, the time of the last verified frame, and a PAIR record write once the number passes
RX_MARK + 1,024 (R664). -/
def State.rxVerified (s : State) (port t pn : Nat) : State :=
  let x := s.protSt port
  let ser := s.neighSerial port
  let p := (x.pairs.find? (fun q => q.serial == ser)).getD { serial := ser }
  let p' := if ((p.rxMark + 1) % 2 ^ 32) + 1023 < t then { p with rxMark := t } else p
  s.setProt port { x.setPair p' with rxT := some t, rxPn := pn, lastOk := s.now, failing := none, search := none }

/-- A search starts under the association number of a frame (R665, R672). -/
def State.searchStart (s : State) (port an : Nat) (f : Frame) : State :=
  (s.setProt port { s.protSt port with search := some (an, 0, f) }).count pgKEY (5 + port)

/-- A protected frame on a protected port (R112, R665, R668): the clear bytes from the inner EtherType on, or none with the discard
counted.  Replay protection has a window of 0; a frame of another AN, or the first after UP, starts a search. -/
def State.protReceive (s : State) (port : Nat) (f : Frame) (tag : SecTag) : State × Option (List Byte) :=
  let x := s.protSt port
  let pg := pgLINK + port
  if s.linkMaster.isNone then (s, none)
  else if x.search.isSome then (s.count pgKEY 8, none)
  else
    let old := match x.oldRx with
      | some (t, sak, till, last) =>
        if s.now ≤ till ∧ t % 4 = tag.an then (s.openWith port sak f).map (fun b => (t, sak, till, last, b)) else none
      | none => none
    match old with
    | some (t, sak, till, last, b) =>
      if tag.pn ≤ last then (s.count pg 7, none)
      else (s.setProt port { x with lastOk := s.now, failing := none, oldRx := some (t, sak, till, tag.pn) }, some b)
    | none =>
      match x.rxT with
      | some t =>
        if t % 4 = tag.an then
          if tag.pn ≤ x.rxPn then (s.count pg 7, none)
          else match s.openWith port x.rxSak f with
            | some b => (s.rxVerified port t tag.pn, some b)
            | none => ((s.setProt port { x with failing := some (x.failing.getD s.now) }).count pg 6, none)
        else (s.searchStart port tag.an f, none)
      | none => (s.searchStart port tag.an f, none)

end Sys2Proof.Machine
end

