-- ==== Sys2Proof/Machine/Reseq.lean ====
section
/-!
DEFINITION. The resequencer (R158 to R163) and the consumers' queues (R151, R152).
-/
namespace Sys2Proof.Machine

/-! ## Consumer queues -/

/-- The queue of consumer `c` (R151). -/
def State.consQ (s : State) (c : Nat) : List RxCell := s.sw.cons.get (fun _ => []) c

/-- Writes the queue of consumer `c`; SWC_CONS.FULL follows it (R170). -/
def State.setConsQ (s : State) (c : Nat) (q : List RxCell) : State :=
  let s := { s with sw := { s.sw with cons := s.sw.cons.set (fun _ => []) c q } }
  let f := s.rd pgSWC SWC_CONS_FULL
  s.wr pgSWC SWC_CONS_FULL (setBits f c 1 (b2n (consumerDepth c ≤ q.length)))

/-- Takes the oldest cell of type `t` that waits at consumer `c`, freeing its buffer entry. -/
def State.takeCell (s : State) (c t : Nat) : Option (RxCell × State) :=
  match (s.consQ c).find? (fun r => r.cell.typ == t) with
  | none => none
  | some r => some (r, (s.setConsQ c ((s.consQ c).erase r)).release r.buf)

/-- SWC_CONS.RETRY_USED follows IMG's retry list (R170). -/
def State.setRetry (s : State) (l : List RetryEnt) : State :=
  State.wr { s with sw := { s.sw with retry := l } } pgSWC SWC_CONS_RETRY_USED l.length

/-- One loss declaration: counters 4 and 5, a loss notice, RSQ_LOSS_LAST, a LOSS capture event, INT_RAW.LOSS and the
fault RSQ_LOSS (R163, R542).  The capture event has TYPE, RACE, DKIND, PORT and CLASS 0, which the filters see (R166; DESIGN CHOICE,
log entry 101). -/
def State.declareLost (s : State) (src first n : Nat) : State :=
  let s := (s.count pgRSQ 4).count pgRSQ 5 n
  let s := { s with sw := { s.sw with notices := s.sw.notices ++ [(src, first, n)] } }
  let s := ((s.wr pgRSQ RSQ_LOSS_LAST_A_SRC src).wr pgRSQ RSQ_LOSS_LAST_A_COUNT (min n 2047)).wr pgRSQ
    RSQ_LOSS_LAST_B_FIRST_SEQ first
  let s := s.mirror { typ := 0, src := src, seq := first, origin := n } 0 0xA
  (s.irq pgRSQ 2).fault pgRSQ 0x12 1 0

/-- A full consumer queue refuses a copy (R152). -/
def State.refuseCopy (s : State) (c : Nat) (r : RxCell) : State :=
  let s := ((s.count pgSWC (11 + c)).irq pgSWC 5).mirror r.cell r.port 9
  let s := s.release r.buf
  if c = 0 then
    if s.sw.retry.any (fun t => t.src == r.cell.src && t.seq == r.cell.seq) then s
    else if s.sw.retry.length < 16 then s.setRetry (s.sw.retry ++ [⟨r.cell.src, r.cell.seq, s.now⟩])
    else s.declareLost r.cell.src r.cell.seq 1
  else if (c = 2 ∧ r.cell.typ = tBRG_WRITE) ∨ c = 3 then { s with sw := { s.sw with dropped := s.sw.dropped ++ [r] } }
  else s

/-- Steers a cell to the consumer of its type (R151). -/
def State.steer (s : State) (r : RxCell) : State :=
  match consumerOf? r.cell.typ with
  | none => s.release r.buf
  | some c =>
    if consumerDepth c ≤ (s.consQ c).length then s.refuseCopy c r
    else (s.setConsQ c (s.consQ c ++ [r])).mirror r.cell r.port 2

/-- "Deliver" of R161: steering where R149 requires local delivery, else only advancing.  A TIME_SYNC copy was handed to
the Governor when it arrived, because its stamp is taken before the resequencer (R183). -/
def State.deliver (s : State) (r : RxCell) : State :=
  if !r.isLocal || r.cell.typ == tTIME_SYNC then s.release r.buf else s.steer r

/-! ## The algorithm of R161 -/

/-- The entry of source `src` in the duplicate-discard table (R159). -/
def State.ddt (s : State) (src : Nat) : DdtEnt := s.rsq.get (fun _ => {}) src

/-- Contexts in use. -/
def State.ctxUse (s : State) : Nat := (s.rsq.filter (fun e => e.2.ctx)).length

/-- Writes a table entry; RSQ_CTX follows the contexts (R172). -/
def State.setDdt (s : State) (src : Nat) (e : DdtEnt) : State :=
  let s := { s with rsq := s.rsq.set (fun _ => {}) src e }
  let n := s.ctxUse
  (s.wr pgRSQ RSQ_CTX_IN_USE n).wr pgRSQ RSQ_CTX_PEAK (max n (s.rd pgRSQ RSQ_CTX_PEAK))

/-- The offset of a SEQ from the expected one, modulo 2^32 (R161). -/
def seqOff (exp seq : Nat) : Nat := (seq + 2 ^ 32 - exp % 2 ^ 32) % 2 ^ 32

/-- drain(e): delivers held cells while the expected one is held; an empty context is released. -/
def State.drain : Nat → State → Nat → State
  | 0, s, _ => s
  | k + 1, s, src =>
    let e := s.ddt src
    match e.held.find? (fun h => h.cell.seq == e.exp) with
    | some h =>
      State.drain k ((s.setDdt src { e with held := e.held.erase h, exp := (e.exp + 1) % 2 ^ 32 }).deliver h) src
    | none => if e.ctx && e.held.isEmpty then s.setDdt src { e with ctx := false } else s

/-- Inserts a held cell by its offset from `exp`. -/
def insHeld (exp : Nat) (h : RxCell) : List RxCell → List RxCell
  | [] => [h]
  | x :: r => if seqOff exp h.cell.seq < seqOff exp x.cell.seq then h :: x :: r else x :: insHeld exp h r

/-- The positions `pos` to `n - 1` of a skip: held cells are delivered, each run of missing SEQ values is declared lost. -/
def State.skipRuns (src exp n : Nat) : State → Nat → List RxCell → State
  | s, pos, [] => if pos < n then s.declareLost src ((exp + pos) % 2 ^ 32) (n - pos) else s
  | s, pos, h :: r =>
    let o := seqOff exp h.cell.seq
    if n ≤ o then (if pos < n then s.declareLost src ((exp + pos) % 2 ^ 32) (n - pos) else s)
    else
      let s := if pos < o then s.declareLost src ((exp + pos) % 2 ^ 32) (o - pos) else s
      State.skipRuns src exp n (s.deliver h) (o + 1) r

/-- skip(e, n): advances the expected SEQ by `n`, then drains (R161). -/
def State.skip (s : State) (src n : Nat) : State :=
  let e := s.ddt src
  let s' := State.skipRuns src e.exp n s 0 e.held
  let left := e.held.filter (fun h => decide (n ≤ seqOff e.exp h.cell.seq))
  State.drain 1025 (s'.setDdt src { e with exp := (e.exp + n) % 2 ^ 32, held := left }) src

/-- The cell fills a gap by the other race: a cell beyond it that came on the other port is held (R174; DEDUCED from the example of
R163). -/
def DdtEnt.fills (e : DdtEnt) (r : RxCell) : Bool :=
  e.ctx && e.held.any (fun h => h.port != r.port && decide (seqOff e.exp r.cell.seq < seqOff e.exp h.cell.seq))

/-- The cells within the window, after a possible skip.  A cell that fills a gap counts in counter 3: at offset 0 in place of counter
0, beyond it beside counter 2 (R161, R174; DESIGN CHOICE, log entry 151). -/
def State.inWindow (s : State) (r : RxCell) : State :=
  let src := r.cell.src
  let e := s.ddt src
  let d := seqOff e.exp r.cell.seq
  if d = 0 then
    let s := s.count pgRSQ (if e.fills r then 3 else 0)
    State.drain 1025 ((s.setDdt src { e with exp := (e.exp + 1) % 2 ^ 32 }).deliver r) src
  else if !e.ctx && decide (256 ≤ s.ctxUse) then
    (((s.count pgRSQ 6).irq pgRSQ 3).mirror r.cell r.port 9).release r.buf
  else if e.held.any (fun h => h.cell.seq == r.cell.seq) then
    ((s.count pgRSQ 1).mirror r.cell r.port 3).release r.buf
  else
    let s := if e.fills r then s.count pgRSQ 3 else s
    (s.setDdt src { e with ctx := true, held := insHeld e.exp r e.held }).count pgRSQ 2

/-- A duplicate: discarded, or delivered out of order as a retry that IMG awaits; a queue that is still full refuses that copy too, and
the entry stays (R152, R161). -/
def State.duplicate (s : State) (r : RxCell) : State :=
  match s.sw.retry.find? (fun t => t.src == r.cell.src && t.seq == r.cell.seq) with
  | some t =>
    if r.isLocal && decide (consumerDepth 0 ≤ (s.consQ 0).length) then s.refuseCopy 0 r
    else if r.isLocal then ((s.setRetry (s.sw.retry.erase t)).count pgRSQ 9).steer { r with retry := true }
    else ((s.count pgRSQ 1).mirror r.cell r.port 3).release r.buf
  | none => ((s.count pgRSQ 1).mirror r.cell r.port 3).release r.buf

/-- The resequencer on one cell (R161). -/
def State.resequence (s : State) (r : RxCell) : State :=
  let src := r.cell.src
  let e := s.ddt src
  let s := if e.valid then s else s.setDdt src { e with valid := true, exp := r.cell.seq }
  let d := seqOff (s.ddt src).exp r.cell.seq
  if 2 ^ 31 ≤ d then s.duplicate r
  else if d < 1024 then s.inWindow r
  else ((s.count pgRSQ 7).skip src (d - 1023)).inWindow r

/-- The effective hold time in ns: the lesser of RSQ_HOLD and SWC_AGE.LIMIT − 100 µs (R163). -/
def State.holdEff (s : State) : Nat :=
  let h := max 1 (s.rd pgRSQ RSQ_HOLD_HOLD) * 100000
  let l := min 16 (max 1 (s.rd pgSWC SWC_AGE_LIMIT)) * 1000000
  min h (l - 100000)

/-- An ID_CLAIM for node ID `x` invalidates entry `x`: held cells are delivered in SEQ order, the missing ones between
them declared lost (R160).  Counter 8 counts it where the entry was valid (R174; DESIGN CHOICE, log entry 100). -/
def State.invalidate (s : State) (x : Nat) : State :=
  let e := s.ddt x
  let n := e.held.foldl (fun a h => max a (seqOff e.exp h.cell.seq + 1)) 0
  let s := if n = 0 then s else s.skip x n
  if e.valid then (s.setDdt x {}).count pgRSQ 8 else s

end Sys2Proof.Machine
end

