-- ==== Sys2Proof/Machine/Links.lean ====
section
/-!
DEFINITION. Ring ports and links (R100 to R112), node IDs (R122 to R126), topology (R127, R128), PHY PLLs (R74).
Ports are 0 East and 1 West.
-/
namespace Sys2Proof.Machine

/-- What a command answers. -/
abbrev Res := Host.Outcome State Fault Refusal

/-- While a cause holds the hub in reset the logic die does nothing (R73, R78, R80). -/
def State.awake (s : State) (r : Res) : Res := if s.held.isEmpty then r else .next s

/-! ## The ring view -/

/-- The effective hop limit (R120). -/
def State.hopLimit (s : State) : Nat :=
  let l := s.rd pgLINK RING_HOP_LIMIT
  if l = 0 then
    if !s.ring.everValid then 2047
    else
      let n := if s.on pgLINK RING_STAT_TOPO_VALID then s.rd pgLINK RING_STAT_NODES else s.ring.validNodes
      min 2047 (n + 64)
  else max 2 l

/-- RING_HOP.EFFECTIVE follows the limit (R137). -/
def State.hopSync (s : State) : State := s.wr pgLINK RING_HOP_EFFECTIVE s.hopLimit

/-- The farthest source heard on one side, or this hub where none is (R128). -/
def farEnd (self : Nat) (l : List (Nat × Option Nat)) : Nat :=
  (l.foldl (fun (a : Nat × Option Nat) e =>
    match e.2, a.2 with
    | some h, some g => if g ≤ h then e else a
    | some _, none => e
    | none, _ => a) (self, none)).1

/-- What was heard on one side within the window. -/
def freshSide (now win : Nat) (x : Option (Nat × Nat)) : Option Nat :=
  x.bind (fun e => if now ≤ e.2 + win then some e.1 else none)

/-- The ring view from the TOPO cells of the last 192 ms (R128): NODES, CLOSED, SLOW_LINK, TOPO_VALID, and the two ends, which a side
without an UP link names after this hub; a change of any but TOPO_VALID sets RING_CHG. -/
def State.ringView (s : State) : State :=
  let win := 192000000
  let topo := s.ring.topo.filter (fun e => decide (s.now ≤ e.at_ + win))
  let own := s.ring.own.filter (fun e => decide (s.now ≤ e.at_ + win))
  let first := if topo.isEmpty then none else s.ring.topoFirst
  let closed := own.any (fun e => e.backE && e.backW)
  let valid := match first with
    | some t => decide (t + win ≤ s.now)
    | none => false
  let shape (s : State) : Nat × Word := (setBits (s.word pgLINK 0x20C).toNat 14 1 0, s.word pgLINK 0x210)
  let old := shape s
  let s := { s with ring := { s.ring with topo := topo, own := own, topoFirst := first } }
  let s := (s.wr pgLINK RING_STAT_NODES (1 + topo.length)).wr pgLINK RING_STAT_CLOSED (b2n closed)
  let s := (s.wr pgLINK RING_STAT_SLOW_LINK (b2n (topo.any (·.slow)))).wr pgLINK RING_STAT_TOPO_VALID (b2n valid)
  let far (port : Nat) (side : TopoEnt → Option (Nat × Nat)) : Nat :=
    if closed then 0
    else if !s.linkUp port then s.nodeId
    else farEnd s.nodeId (topo.map (fun e => (e.src, freshSide s.now win (side e))))
  let s := (s.wr pgLINK RING_BREAK_EAST_END (far 0 (·.east))).wr pgLINK RING_BREAK_WEST_END (far 1 (·.west))
  let s := if valid then { s with ring := { s.ring with everValid := true, validNodes := 1 + topo.length } } else s
  let s := s.hopSync
  if shape s ≠ old then s.irq pgLINK 9 else s

/-! ## The link state -/

/-- The link state of a port (R105). -/
def State.lstate (s : State) (port : Nat) : Nat := s.rd (pgLINK + port) LINK_STAT_STATE

/-- A port's state beyond its registers. -/
def State.lnk (s : State) (port : Nat) : LinkSt := s.link.get (fun _ => {}) port

/-- Writes a port's state beyond its registers. -/
def State.setLnk (s : State) (port : Nat) (x : LinkSt) : State :=
  { s with link := s.link.set (fun _ => {}) port x }

/-- The port uses its SerDes lane (R100, R102). -/
def State.serdes (s : State) (port : Nat) : Bool :=
  s.rd (pgLINK + port) LINK_CFG_MEDIUM == 1 || s.rd (pgLINK + port) LINK_CFG_MEDIUM == 2

/-- SD_TXDIS of a port is driven high (R103, R129). -/
def State.txDis (s : State) (port : Nat) : Bool :=
  !s.enabled (pgLINK + port) || !s.serdes port || decide (s.rd pgPWRST PWRST_STATE_STEP < 4)

/-- Discards the cells queued for a port that left UP: counter 13 (R108); a link-scope cell that still waits for granules is not
admitted to it any more (DESIGN CHOICE, log entry 96). -/
def State.flushPort (s : State) (port : Nat) : State :=
  let s := (List.range 4).foldl (fun s c =>
    let q := s.txq port c
    let s := q.foldl (fun s t => s.release t.buf) s
    (s.setTxq port c []).count (pgLINK + port) 13 q.length) s
  { s with sw := { s.sw with waiting := s.sw.waiting.filter (fun w => w.port != some port) } }

/-- A cell on a change of this hub's link, claim or node state is due within 1 ms (R127). -/
def State.topoSoon (s : State) : State :=
  { s with ring := { s.ring with topoEvent := some (s.now + 1000000) } }

/-- The link state of a port becomes `st`: registers, interrupts, counters and trace; leaving UP discards the queued cells
and reports LINK_DOWN; both links out of UP take SERVICE and QUIET to JOIN; entry to UP starts the transmit SA and the
first peer-delay request; every change invalidates D_rx (R90, R108, R134, R140, R141, R182, R664). -/
def State.setLink (s : State) (port st : Nat) : State :=
  let pg := pgLINK + port
  let old := s.lstate port
  if old = st then s
  else
    let s := s.wr pg LINK_STAT_STATE st
    let s := s.wr64 pg LINK_CHG_TIME_LO_TIME LINK_CHG_TIME_HI_TIME s.ringNow
    let s := s.irq pg 2
    let s := if 4 ≤ st ∧ st ≤ 6 then s.irq pg 3 else s
    let s := s.trace pg 7 st 0
    let s := if st = 0 then s.count pg 11 else s
    let s := s.topoSoon
    let pd := s.time.pd.get (fun _ => {}) port
    let pd' : PdSt := { reqId := pd.reqId, due := if st = 3 then some s.now else none }
    let s := { s with time := { s.time with pd := s.time.pd.set (fun _ => {}) port pd' } }
    let s := s.wr pgTIME TIME_PDELAY_VALID 0 port
    let s := s.setLnk port { s.lnk port with good := 0 }
    if st = 3 then
      let s := { s with time := { s.time with firstUp := some (s.time.firstUp.getD s.now) } }
      let s := if s.protected port then s.txSaStart port else s
      let s := if s.linkUp (1 - port) && s.rd pgPWRST PWRST_STEP_TIME_TIME_US 4 == 0xFFFFFFFF then (s.stepDone 5).detailSync else s
      s.ringView
    else if old = 3 then
      let s := ((s.flushPort port).fault pg 0x0E 1 0).ringView
      let s := s.setProt port { s.protSt port with txT := none, rxT := none, search := none, failing := none }
      if !s.linkUp (1 - port) && (s.node == nsSERVICE || s.node == nsQUIET) then s.setNode nsJOIN else s
    else s

/-- A protected port enters NO_KEY with its REASON (R666, R671, R672). -/
def State.noKey (s : State) (port reason : Nat) : State :=
  (((s.wr pgKEY KEY_PORTp_STAT_REASON reason port).setLink port 7).irq pgKEY 7).count pgKEY 9

/-- From DOWN a port enters TRAINING at once where EN is 1, MEDIUM is not 0b11 and a SerDes port has no LOS, or NO_KEY where it is
protected and has no link key; until step 4 both ports stay closed (R86, R106, R666). -/
def State.settle (s : State) (port : Nat) : State :=
  let pg := pgLINK + port
  if s.lstate port = 0 ∧ s.enabled pg ∧ s.rd pg LINK_CFG_MEDIUM ≠ 3 ∧ !(s.serdes port && (s.lnk port).los)
      ∧ 4 ≤ s.rd pgPWRST PWRST_STATE_STEP then
    let r := s.noKeyReason port
    if r = 0 then s.setLink port 1 else s.noKey port r
  else s

/-- The link goes DOWN, then trains again where it may. -/
def State.linkDown (s : State) (port : Nat) : State :=
  let s := (s.setLink port 0).wr (pgLINK + port) LINK_STAT_PCS_LOCK 0
  s.settle port

/-- The payload of a HELLO cell (R107). -/
def State.helloPayload (s : State) (port : Nat) : List Byte :=
  beBytes 8 s.serial ++ beBytes 2 s.nodeId ++ beBytes 1 (port + 2 * b2n (s.protected port)) ++ beBytes 1 s.node
    ++ beBytes 2 (s.rd pgLINK RING_LINE_LINE_ID) ++ beBytes 2 0

/-- A HELLO leaves on a port, and the next one is due at `next` (R107). -/
def State.hello (s : State) (port next : Nat) : State :=
  (s.setLnk port { s.lnk port with helloAt := next }).sendLink port tHELLO (s.helloPayload port)

/-- LINK_STAT.LOS shows the level of SD_LOS, 0 on 2.5GBASE-T1 (R130). -/
def State.losSync (s : State) (port : Nat) : State :=
  s.wr (pgLINK + port) LINK_STAT_LOS (b2n (s.serdes port && (s.lnk port).los))

/-- PCS_LOCK_GAINED: training calibrates the port's time stamps and asymmetry, the link enters PCS_UP, or NO_KEY where
protection has no link key, and sends its first HELLO (R106, R107, R589). -/
def execPcsLockGained (port txDelay rxDelay asym : Nat) (s : State) : Res :=
  let pg := pgLINK + port
  if s.lstate port = 1 ∧ (s.lnk port).cableEnd = none then
    let s := (s.wr pgDRS DRS_TSDLYp_DELAY txDelay (2 * port)).wr pgDRS DRS_TSDLYp_DELAY rxDelay (2 * port + 1)
    let s := s.wr pgDRS DRS_ASYM_ASYM (if s.serdes port then 0 else asym) port
    let s := s.wr pg LINK_STAT_PCS_LOCK 1
    let r := s.noKeyReason port
    if r ≠ 0 then
      .next (s.noKey port r)
    else
      let s := s.setLnk port { s.lnk port with lastGood := s.now }
      .next ((s.setLink port 2).hello port (s.now + 64000))
  else .next s

/-- PCS_LOCK_LOST: the link of a locked port enters DOWN (R106). -/
def execPcsLockLost (port : Nat) (s : State) : Res :=
  if s.on (pgLINK + port) LINK_STAT_PCS_LOCK then .next (s.linkDown port) else .next s

/-- SD_LOS_RISE: the link is treated as having lost PCS lock (R103); without its bank's supply the pin reads 0 (R704). -/
def execSdLosRise (port : Nat) (s : State) : Res :=
  if s.dark 35 then .next s else
  let s := (s.setLnk port { s.lnk port with los := true }).losSync port
  if s.serdes port then .next (s.linkDown port) else .next s

/-- SD_LOS_FALL: a DOWN SerDes port enters TRAINING (R106). -/
def execSdLosFall (port : Nat) (s : State) : Res :=
  .next (((s.setLnk port { s.lnk port with los := false }).losSync port).settle port)

/-- HELLO_TX: every 64 µs counted from the entry to PCS_UP, in every state but DOWN, TRAINING and NO_KEY (R107). -/
def execHelloTx (port : Nat) (s : State) : Res :=
  if 2 ≤ s.lstate port ∧ s.lstate port ≤ 6 then
    let due := (s.lnk port).helloAt
    .next ((s.passTo due).hello port (due + 64000))
  else .next s

/-- The judgement of a HELLO on a port (R106): 0 good, else the mismatch state it leads to. -/
def State.judgeHello (s : State) (port : Nat) (p : List Byte) : Nat :=
  if beAt p 10 1 % 2 = port ∨ beAt p 0 8 = s.serial then 4
  else if beAt p 12 2 ≠ s.rd pgLINK RING_LINE_LINE_ID then 5
  else if bitAt (beAt p 10 1) 1 ≠ s.protected port then 6
  else 0

/-- A good HELLO updates the neighbour's registers (R130, R131). -/
def State.neighbour (s : State) (port : Nat) (p : List Byte) : State :=
  let pg := pgLINK + port
  let s := (s.wr pg LINK_STAT_NEIGH_PORT (beAt p 10 1 % 2)).wr pg LINK_STAT_NEIGH_ID (beAt p 8 2 % 2048)
  s.wr64 pg LINK_NEIGH_SER_LO_SERIAL LINK_NEIGH_SER_HI_SERIAL (beAt p 0 8)

/-- HELLO_RX: the oldest HELLO in the housekeeping queue is judged; the third good one in a row takes PCS_UP to UP, or to
NO_KEY where the neighbour's pair has no room (R106, R666). -/
def execHelloRx (s : State) : Res :=
  match s.takeCell 4 tHELLO with
  | none => .next s
  | some (r, s) =>
    let port := r.port
    let st := s.lstate port
    if st < 2 ∨ st = 7 then .next s
    else
      let j := s.judgeHello port r.cell.payload
      if j = 0 then
        let s := s.neighbour port r.cell.payload
        let s := s.setLnk port { s.lnk port with good := (s.lnk port).good + 1, lastGood := s.now }
        if st = 2 ∧ 3 ≤ (s.lnk port).good then
          let k := s.noKeyReason port
          if k ≠ 0 then .next (s.noKey port k)
          else .next (s.setLink port 3)
        else .next s
      else
        let s := s.setLnk port { s.lnk port with good := 0 }
        if st = 2 ∨ st = 3 then .next (s.setLink port j) else .next s

/-- HELLO_TIMEOUT: HELLO_MISS periods without a good HELLO take the link DOWN with its training restarted (R106, R129). -/
def execHelloTimeout (port : Nat) (s : State) : Res :=
  if 2 ≤ s.lstate port ∧ s.lstate port ≤ 6 then
    let n := max 2 (s.rd (pgLINK + port) LINK_CFG_HELLO_MISS)
    let s := s.passTo ((s.lnk port).lastGood + n * 64000)
    let s := s.count (pgLINK + port) 12
    .next (s.linkDown port)
  else .next s

/-- LINK_RETRAIN: LINK_CMD command RETRAIN forces the link to retrain (R108). -/
def execLinkRetrain (port : Nat) (s : State) : Res :=
  if !s.takes (pgLINK + port) then .next s else
  .next (s.linkDown port)

/-- CABLE_TEST: accepted on a 2.5GBASE-T1 port in DOWN or TRAINING, else complete at once with REJECTED (R109). -/
def execCableTest (port : Nat) (s : State) : Res :=
  if !s.takes (pgLINK + port) then .next s else
  let pg := pgLINK + port
  if s.rd pg LINK_CFG_MEDIUM = 0 ∧ s.lstate port ≤ 1 then
    .next ((s.setLnk port { s.lnk port with cableEnd := some (s.now + 50000000) }).wr pg LINK_DIAG_RESULT 1)
  else .next ((s.wr pg LINK_DIAG_RESULT 6).irq pg 4)

/-- CABLE_TEST_DONE: the outcome (2 GOOD to 5 INCONCLUSIVE) and the distance; DIAG_DONE (R109, R133). -/
def execCableTestDone (port result dist : Nat) (s : State) : Res :=
  let pg := pgLINK + port
  if (s.lnk port).cableEnd.isSome then
    let s := (s.setLnk port { s.lnk port with cableEnd := none }).wr pg LINK_DIAG_RESULT result
    .next ((s.wr pg LINK_DIAG_DIST dist).irq pg 4)
  else .next s

/-- CLEAR_WORST: SQI_WORST becomes 7 (R109). -/
def execClearWorst (port : Nat) (s : State) : Res :=
  if !s.takes (pgLINK + port) then .next s else
  .next (s.wr (pgLINK + port) LINK_DIAG_SQI_WORST 7)

/-- SQI_UPDATE: the grade of a locked 2.5GBASE-T1 port, and the lowest since CLEAR_WORST (R109). -/
def execSqiUpdate (port grade : Nat) (s : State) : Res :=
  let pg := pgLINK + port
  if s.rd pg LINK_CFG_MEDIUM = 0 ∧ s.on pg LINK_STAT_PCS_LOCK then
    let s := s.wr pg LINK_STAT_SQI grade
    .next (s.wr pg LINK_DIAG_SQI_WORST (min grade (s.rd pg LINK_DIAG_SQI_WORST)))
  else .next s

/-- PHY_PLL_UNLOCK: the link goes DOWN; the CLK page reports it (R74, R77). -/
def execPhyPllUnlock (port : Nat) (s : State) : Res :=
  if 2 ≤ port ∨ !s.held.isEmpty then .next s else
  let s := s.wr pgCLK (if port = 0 then CLK_STAT_LINKE_PLL_LOCK else CLK_STAT_LINKW_PLL_LOCK) 0
  let s := (s.irq pgCLK 2).count pgCLK port
  .next (s.linkDown port)

/-- PHY_PLL_LOCK: the PLL regains lock by itself (R74). -/
def execPhyPllLock (port : Nat) (s : State) : Res :=
  if 2 ≤ port ∨ !s.held.isEmpty then .next s else
  .next (s.wr pgCLK (if port = 0 then CLK_STAT_LINKE_PLL_LOCK else CLK_STAT_LINKW_PLL_LOCK) 1)

/-! ## TOPO cells -/

/-- The payload of a TOPO cell (R127). -/
def State.topoPayload (s : State) : List Byte :=
  let l (p : Nat) := s.lstate p + 8 * s.rd (pgLINK + p) LINK_CFG_MEDIUM + 32 * b2n (s.protected p)
  beBytes 8 s.serial ++ beBytes 2 s.nodeId ++ beBytes 1 s.node ++ beBytes 1 (s.rd pgLINK RING_ID_ANCHOR)
    ++ beBytes 1 (l 0) ++ beBytes 1 (l 1) ++ beBytes 2 (s.rd pgLINK LINK_STAT_NEIGH_ID)
    ++ beBytes 2 (s.rd (pgLINK + 1) LINK_STAT_NEIGH_ID) ++ beBytes 2 0

/-- Sends a TOPO cell on both races and remembers it until it returns (R127, R128). -/
def State.sendTopo (s : State) : State :=
  let q := s.ring.nextSeq
  let t := s.originate 2 0 tTOPO s.topoPayload
  if t.ring.nextSeq = q then t
  else { t with ring := { t.ring with own := t.ring.own ++ [{ seq := q, at_ := t.now }] } }

/-- TOPO_TX: every 64 ms from the moment the claim became HELD (R127). -/
def execTopoTx (s : State) : Res :=
  if s.heldId && !s.hkPaused then
    let s := s.passTo s.ring.topoDue
    .next (State.sendTopo { s with ring := { s.ring with topoDue := s.ring.topoDue + 64000000 } })
  else .next s

/-- TOPO_EVENT_TX: the cell for a change of link, claim or node state; it does not move the 64 ms schedule (R127). -/
def execTopoEventTx (s : State) : Res :=
  if s.heldId && !s.hkPaused && s.ring.topoEvent.isSome then
    .next (State.sendTopo { s with ring := { s.ring with topoEvent := none } })
  else .next s

/-! ## Node IDs -/

/-- A duplicate-ID event: RING_DUP, the other's serial, DUP_ID, counter 17, the fault (R124, R139 to R141, R542). -/
def State.dupEvent (s : State) (id role serial : Nat) : State :=
  let s := (s.wr pgLINK RING_DUP_DUP_ID id).wr pgLINK RING_DUP_ROLE role
  let s := s.wr64 pgLINK RING_DUP_SER_LO_SERIAL RING_DUP_SER_HI_SERIAL serial
  ((s.irq pgLINK 8).count pgLINK 17).fault pgLINK 0x0F 1 0

/-- The claim becomes REFUSED: DETAIL ID_REFUSED, and the outputs in their safe state.  R90 lists no change of node state for it, so a
hub in SERVICE or QUIET stays there (R124, R125; DESIGN CHOICE, log entry 97). -/
def State.refused (s : State) : State :=
  let s := (s.wr pgLINK RING_ID_CLAIM 3).wr pgLINK RING_ID_ID 0
  let s := if s.node ≤ nsQUIET then s.wr pgPWRST PWRST_STATE_DETAIL 2 else s
  s.topoSoon.driveSync.sluSafeAll.ringView

/-- The payload of an ID_REFUSE cell (R123). -/
def refusePayload (claimant holder id : Nat) : List Byte :=
  beBytes 8 claimant ++ beBytes 8 holder ++ beBytes 2 id ++ beBytes 6 0

/-- Sends the first of three ID_REFUSE cells, 1 ms apart (R124). -/
def State.refuse (s : State) (claimant holder id : Nat) : State :=
  let s := { s with ring := { s.ring with refuse := s.ring.refuse ++ [(⟨claimant, holder, id, 2, s.now + 1000000⟩ : RefuseJob)] } }
  s.originate 2 0 tID_REFUSE (refusePayload claimant holder id)

/-- The ID that a claim would take: the Foundation's, or the one derived from position (R122, R126). -/
def State.claimable (s : State) : Bool :=
  s.ring.configured && (s.linkUp 0 || s.linkUp 1) && s.rd pgLINK RING_ID_CLAIM == 0
    && decide (1 ≤ s.ring.want ∧ s.ring.want ≤ 2047) && decide (nsJOIN ≤ s.node ∧ s.node ≤ nsQUIET)

/-- One ID_CLAIM on both races; counter 16 (R123, R141). -/
def State.sendClaim (s : State) : State :=
  let s := s.originate 2 0 tID_CLAIM (beBytes 8 s.serial ++ beBytes 2 s.ring.want ++ beBytes 6 0)
  State.count { s with ring := { s.ring with claims := s.ring.claims + 1, lastClaim := s.now } } pgLINK 16

/-- Starts claiming the ID in `ring.want` (R123). -/
def State.startClaim (s : State) : State :=
  let s := (s.wr pgLINK RING_ID_CLAIM 1).topoSoon
  State.sendClaim { s with ring := { s.ring with claims := 0, firstClaim := s.now } }

/-- CLAIM_START: with the Foundation applied and a link UP, the hub claims its ID (R123). -/
def execClaimStart (s : State) : Res := if s.claimable then .next s.startClaim else .next s

/-- ID_CLAIM_REPEAT: 1 ms after the previous claim, up to four in all; none in HOLD or RECOVERY (R123, R124). -/
def execIdClaimRepeat (s : State) : Res :=
  if s.rd pgLINK RING_ID_CLAIM = 1 ∧ s.ring.claims < 4 ∧ s.maySource tID_CLAIM then
    .next (s.passTo (s.ring.lastClaim + 1000000)).sendClaim
  else .next s

/-- A hub that is no twin begins its own image writing afresh: no demand, nothing published as it takes an ID (R123). -/
def State.ownAfresh (s : State) : State :=
  if s.enabled pgTWIN then s else { s with img := { s.img with dem := [], lastPub := none } }

/-- The claim becomes HELD: RING_ID, CLAIM_DONE, SEQ from 0, the 64 ms TOPO schedule from this moment (R123, R127, R158). -/
def State.claimHeld (s : State) : State :=
  let s := s.passTo (s.ring.firstClaim + 10000000)
  let s := (s.wr pgLINK RING_ID_CLAIM 2).wr pgLINK RING_ID_ID s.ring.want
  let s := if s.rd pgPWRST PWRST_STATE_DETAIL = 2 ∨ s.rd pgPWRST PWRST_STATE_DETAIL = 9 then s.detailClear else s
  let s := State.ringView { s with ring := { s.ring with nextSeq := 0, topoDue := s.now + 64000000 } }
  let s := s.driveSync
  (s.ownAfresh.irq pgLINK 10).topoSoon

/-- ID_REFUSE_RX: a refusal naming this hub as claimant makes its claim REFUSED (R124). -/
def execIdRefuseRx (s : State) : Res :=
  match if s.hkPaused then none else s.takeCell 4 tID_REFUSE with
  | none => .next s
  | some (r, s) =>
    let p := r.cell.payload
    let c := s.rd pgLINK RING_ID_CLAIM
    if beAt p 0 8 = s.serial ∧ (c = 1 ∨ c = 2) then
      .next (s.refused.dupEvent (beAt p 16 2 % 2048) 1 (beAt p 8 8))
    else .next s

/-- The refusal that is due first. -/
def RingSt.nextRefuse (r : RingSt) : Option RefuseJob :=
  r.refuse.foldl (fun (a : Option RefuseJob) j => match a with
    | some b => if j.due < b.due then some j else some b
    | none => some j) none

/-- ID_REFUSE_REPEAT: 1 ms after the previous one of its conflict, three in all (R124). -/
def execIdRefuseRepeat (s : State) : Res :=
  match s.ring.nextRefuse with
  | none => .next s
  | some j =>
    let s := s.passTo j.due
    let l := s.ring.refuse.erase j
    let l := if j.left ≤ 1 then l else l ++ [{ j with left := j.left - 1, due := j.due + 1000000 }]
    let s := { s with ring := { s.ring with refuse := l } }
    .next (s.originate 2 0 tID_REFUSE (refusePayload j.claimant j.holder j.id))

/-- What a HELD or CLAIMING hub does on an ID_CLAIM of its own ID by another serial; a hub in HOLD or RECOVERY sends no refusal, and
records the claimant as any other does (R124). -/
def State.onClaim (s : State) (serial id : Nat) : State :=
  let c := s.rd pgLINK RING_ID_CLAIM
  if serial = s.serial then s
  else if (c = 2 ∧ id = s.nodeId) ∨ (c = 1 ∧ id = s.ring.want ∧ s.serial < serial) then
    (if s.node = nsHOLD ∨ s.node = nsRECOVERY then s else s.refuse serial s.serial id).dupEvent id 0 serial
  else if c = 1 ∧ id = s.ring.want then s.refused.dupEvent id 1 serial
  else s

/-- A HELD hub sees a TOPO with its own ID and another serial (R119, R124). -/
def State.topoDup (s : State) (serial : Nat) : State :=
  let id := s.nodeId
  if serial = s.serial then s
  else if s.serial < serial then s.dupEvent id 0 serial
  else (s.refused.refuse s.serial serial id).dupEvent id 1 serial

/-- A POSITION-mode ID derived from an anchor TOPO; outside 1 to 2,047 the hub claims none (R122). -/
def State.derive (s : State) (id : Nat) : State :=
  let s := { s with ring := { s.ring with posDone := true, want := if id ≤ 2047 then id else 0 } }
  if 1 ≤ id ∧ id ≤ 2047 ∨ nsQUIET < s.node then s else (s.wr pgPWRST PWRST_STATE_DETAIL 9).driveSync.sluSafeAll

/-- The hub still needs a position: POSITION mode, not the anchor, no ID derived, no ID set by software (R122, R126). -/
def State.needsPosition (s : State) : Bool :=
  s.rd pgLINK RING_ID_MODE == 1 && !s.on pgLINK RING_ID_ANCHOR && !s.ring.posDone && s.ring.configured
    && s.rd pgLINK RING_ID_CLAIM == 0

/-- TOPO_RX: outside a restart of the housekeeping core (R21) the ring view takes the cell, and an anchor TOPO may give the
POSITION-mode ID (R122, R128). -/
def execTopoRx (s : State) : Res :=
  match if s.hkPaused then none else s.takeCell 4 tTOPO with
  | none => .next s
  | some (r, s) =>
    let p := r.cell.payload
    let src := r.cell.src
    let old := s.ring.topo.find? (fun e => e.src == src)
    let slow := bitsOf (beAt p 12 1) 3 2 = 1 ∨ bitsOf (beAt p 13 1) 3 2 = 1
    let e : TopoEnt := {
      src := src, serial := beAt p 0 8, at_ := s.now, slow := slow,
      east := if r.port = 0 then some (r.cell.hops, s.now) else old.bind (·.east),
      west := if r.port = 1 then some (r.cell.hops, s.now) else old.bind (·.west) }
    let topo := (s.ring.topo.filter (fun x => x.src != src)) ++ [e]
    let s := { s with ring := { s.ring with topo := topo, topoFirst := some (s.ring.topoFirst.getD s.now) } }
    let anchor := beAt p 11 1 % 2 == 1
    let h := r.cell.hops
    let s := if anchor && s.needsPosition then
        if r.port = 1 then s.derive (h + 2)
        else if s.ring.eastAnchor.isNone then { s with ring := { s.ring with eastAnchor := some (s.now, h) } } else s
      else s
    .next s.ringView

/-- TOPO_EXPIRE: information older than 192 ms ages out of the ring view (R128). -/
def execTopoExpire (s : State) : Res :=
  let heard := s.ring.topo.flatMap (fun e => e.at_ :: [e.east, e.west].filterMap (fun x => x.map (·.2)))
  match (heard ++ s.ring.own.map (·.at_)).min? with
  | none => .next s.ringView
  | some t => .next (s.passTo (t + 192000004)).ringView

/-- POSITION_TIMEOUT: 130 ms after the first anchor TOPO on the East port the ID is P − h (R122). -/
def execPositionTimeout (s : State) : Res :=
  match s.ring.eastAnchor with
  | some (t, h) =>
    if s.needsPosition then .next ((s.passTo (t + 130000000)).derive (s.ring.planned - h)) else .next s
  | none => .next s

/-- RING_ID_SET: from a local port, command CLAIM with key 0x5A and an ID starts a FIXED claim, while the claim is NONE or
REFUSED; any other write is ignored (R126). -/
def execRingIdSet (ini : Initiator) (data : Nat) (s : State) : Res :=
  if !s.takes pgLINK then .next s else
  let id := bitsOf data 0 11
  let c := s.rd pgLINK RING_ID_CLAIM
  if ini ≠ .bridge ∧ bitsOf data 12 4 = 1 ∧ bitsOf data 24 8 = 0x5A ∧ id ≠ 0 ∧ (c = 0 ∨ c = 3) then
    let s := { s with ring := { s.ring with want := id, posDone := true, fixedNow := true } }
    let s := (s.wr pgLINK RING_ID_CLAIM 0).wr pgLINK RING_ID_MODE 0
    if s.claimable then .next s.startClaim else .next s
  else .next s

/-! ## Page operations of LINKE and LINKW -/

/-- An apply of LINK_CFG took effect: a change of MEDIUM or PROTECT takes the link DOWN, which then retrains (R129). -/
def State.linkApplied (old s : State) (p : Nat) : State :=
  let port := p - pgLINK
  if old.rd p LINK_CFG_MEDIUM ≠ s.rd p LINK_CFG_MEDIUM ∨ old.rd p LINK_CFG_PROTECT ≠ s.rd p LINK_CFG_PROTECT then
    let s := s.losSync port
    let s := if s.serdes port then s.wr p LINK_STAT_SQI 0 else s
    s.linkDown port
  else s

/-- PAGE_CTRL.EN of a link page was written: 0 takes the link DOWN with its transmitter off, 1 lets it train (R106). -/
def State.linkEnable (s : State) (p : Nat) : State :=
  let port := p - pgLINK
  if s.enabled p then s.settle port
  else (s.setLink port 0).wr p LINK_STAT_PCS_LOCK 0

end Sys2Proof.Machine
end

