-- ==== Sys2Proof/Machine/Time.lean ====
section
/-!
DEFINITION. Ring time and the Governor (R178 to R195, R203), peer delay and TIME_SYNC (R181 to R183), the grandmaster
(R184 to R186), the servo and lock (R187, R188), PPS (R191 to R193) and the transmit time-stamp queue (R196 to R198).
Fine times are in units of 2^-16 ns.
-/
namespace Sys2Proof.Machine

/-! ## Settings -/

/-- SYNC_INT in ns (R201). -/
def State.syncInt (s : State) : Nat := 250000 * 2 ^ s.rd pgTIME TIME_SERVO_SYNC_INT

/-- LOCK_THR in units of 2^-16 ns (R201). -/
def State.lockThr (s : State) : Int := (max 1 (s.rd pgTIME TIME_LOCK_LOCK_THR) * 10 * 65536 : Nat)

/-- UNLOCK_THR in units of 2^-16 ns (R201). -/
def State.unlockThr (s : State) : Int := (max 1 (s.rd pgTIME TIME_LOCK_UNLOCK_THR) * 100 * 65536 : Nat)

/-- EPOCH_LEN in ns (R245). -/
def State.epochLen (s : State) : Nat := 250000 * 2 ^ min 6 (s.rd pgIMG IMG_EPOCH_EPOCH_LEN)

/-- BASE_T (R194). -/
def State.baseT (s : State) : Nat := s.rd64 pgTIME TIME_BASE_T_LO_W TIME_BASE_T_HI_W

/-- BASE_N (R194). -/
def State.baseN (s : State) : Nat := s.rd64 pgTIME TIME_BASE_N_LO_W TIME_BASE_N_HI_W

/-- IMG_EPOCH as in force for epoch `n`: a Course may move it at an epoch ahead, or have moved it at BASE_N (R213, R619, R620). -/
def State.epochWord (s : State) (n : Nat) : Nat :=
  let w := (s.word pgIMG 0x104).toNat
  match s.time.nextBase, s.time.prevW with
  | some (n0, _, w'), p => if n0 ≤ n then w' else if n < s.baseN then p.getD w else w
  | none, some p => if n < s.baseN then p else w
  | none, none => w

/-- EPOCH_LEN of epoch `n` in ns (R245). -/
def State.lenAt (s : State) (n : Nat) : Nat := 250000 * 2 ^ min 6 (bitsOf (s.epochWord n) 0 3)

/-- SETTLE of epoch `n` (R245). -/
def State.settleAt (s : State) (n : Nat) : Nat := bitsOf (s.epochWord n) 4 2 + 1

/-- t_s(N): under the base in force (R194), under the base that a Course moves for the epochs from that one on, and under the old one for
the epochs before BASE_N, of which the last commits as the new base begins (R619). -/
def State.tS (s : State) (n : Nat) : Nat :=
  match s.time.nextBase with
  | some (n0, b, _) => if n0 ≤ n then b + (n - n0) * s.lenAt n else
      if n < s.baseN then s.baseT - (s.baseN - 1 - n + s.settleAt n) * s.lenAt n else s.baseT + (n - s.baseN) * s.lenAt n
  | none =>
    if n < s.baseN then s.baseT - (s.baseN - 1 - n + s.settleAt n) * s.lenAt n else s.baseT + (n - s.baseN) * s.lenAt n

/-- The next epoch and its t_s (R194, R619). -/
def State.nextStart (s : State) : Nat × Nat :=
  let m := if s.epoch = 2 ^ 64 - 1 then s.baseN else s.epoch + 1
  (m, s.tS m)

/-- All ones in 64 bits, what TIME_EPOCH reads while there is no epoch (R195). -/
def ones64 : Nat := 2 ^ 64 - 1

/-- A base that a Course moves takes effect with epoch `m`; a change of SEAL_AT alone moves no base (R619). -/
def State.takeBase (s : State) (m : Nat) : State :=
  match s.time.nextBase with
  | some (n, b, w) =>
    if m < n then s
    else
      let moves := decide ((s.word pgIMG 0x104).toNat % 256 ≠ w % 256)
      let old := (s.word pgIMG 0x104).toNat
      let s := State.setWord { s with time := { s.time with nextBase := none } } pgIMG 0x104 (BitVec.ofNat 32 w)
      let s := if moves then { s with time := { s.time with prevW := some old } } else s
      if moves then (s.wr64 pgTIME TIME_BASE_T_LO_W TIME_BASE_T_HI_W b).wr64 pgTIME TIME_BASE_N_LO_W TIME_BASE_N_HI_W n
      else s
  | none => s

/-- Writes TIME_EPOCH. -/
def State.setEpoch (s : State) (n : Nat) : State := s.wr64 pgTIME TIME_EPOCH_LO_W TIME_EPOCH_HI_W n

/-- Time passes until ring time reads at least `t` ns. -/
def State.passRing (s : State) (t : Nat) : State :=
  let i := tickInc s.time.f
  s.pass ((t * 2 ^ 32 - s.time.ring + i - 1) / i)

/-- A full ring time in 2^-16 ns from a 10-byte stamp (R181): eight bytes of ns and two of fraction. -/
def stampAt (l : List Byte) (o : Nat) : Nat := beAt l o 10

/-! ## Grandmaster choice -/

/-- This hub's CLASS (R184). -/
def State.gmClass (s : State) : Nat :=
  if s.on pgTIME TIME_GM_CFG_EXT_EN && s.time.ppsLast.isSome then (if s.time.ppsHold then 0x20 else 0x10) else 0x30

/-- TOD_OFFSET as a signed value (R203). -/
def State.todOffset (s : State) : Int := signed 64 (s.rd64 pgTIME TIME_TOD_OFFSET_LO_W TIME_TOD_OFFSET_HI_W)

/-- Writes TOD_OFFSET. -/
def State.setTod (s : State) (v : Int) : State :=
  s.wr64 pgTIME TIME_TOD_OFFSET_LO_W TIME_TOD_OFFSET_HI_W (unsigned 64 v)

/-- This hub as a candidate (R184, R186). -/
def State.selfCand (s : State) : GmCand := {
  id := s.nodeId, serial := s.serial, prio1 := s.rd pgTIME TIME_GM_CFG_PRIO1, cls := s.gmClass,
  prio2 := s.rd pgTIME TIME_GM_CFG_PRIO2, todValid := s.on pgTIME TIME_STAT_TOD_VALID, todOffset := s.todOffset,
  baseT := s.baseT, baseN := s.baseN, at_ := s.time.ownAnn.getD 0 }

/-- The rank of a candidate: lower is better (R184). -/
def GmCand.rank (c : GmCand) : Nat := ((c.prio1 * 256 + c.cls) * 256 + c.prio2) * 2 ^ 64 + c.serial

/-- The better ranked of two. -/
def GmCand.better (a b : GmCand) : Bool := decide (a.rank < b.rank)

/-- Inserts a candidate by rank. -/
def insCand (c : GmCand) : List GmCand → List GmCand
  | [] => [c]
  | x :: r => if c.better x then c :: x :: r else x :: insCand c r

/-- The hub still hears a candidate: an announcement within the last 192 ms, or, of its grandmaster, TIME_SYNC within 8 × SYNC_INT
(R185). -/
def State.hears (s : State) (c : GmCand) : Bool :=
  decide (s.now ≤ c.at_ + 192000000)
    || (c.id == s.rd pgTIME TIME_GM_GM_ID && s.time.lastSync.any (fun t => decide (s.now ≤ t + 8 * s.syncInt)))

/-- The candidates that the hub still hears, best first, and this hub while it is capable and has announced itself
within that time (R185). -/
def State.gmTable (s : State) : List GmCand :=
  let l := (s.time.cands.filter s.hears).foldl (fun a c => insCand c a) []
  let own := match s.time.ownAnn with
    | some t => decide (s.now ≤ t + 192000000) && s.on pgTIME TIME_GM_CFG_CAPABLE
    | none => false
  if own then insCand s.selfCand l else l

/-- The Governor's state (R188). -/
def State.gov (s : State) : Nat := s.rd pgTIME TIME_STAT_STATE

/-- The counter steps by `d` ns: the positions that the axes held move with it, so that each stays as far back as it was (R296, R297). -/
def State.moveAxes (s : State) (d : Int) : State :=
  { s with trk := { s.trk with axis := s.trk.axis.map (fun e =>
      (e.1, { e.2 with hist := e.2.hist.map (fun h => (((h.1 : Int) + d).toNat, h.2)) })) } }

/-- A base that a Course was to move is dropped where the ring's numbering is another: IMG_EPOCH takes the Course's value at once, as on a
hub that is not locked (R194, R619). -/
def State.dropBase (s : State) : State :=
  match s.time.nextBase with
  | some (_, _, w) => State.setWord { s with time := { s.time with nextBase := none } } pgIMG 0x104 (BitVec.ofNat 32 w)
  | none => s

/-- The base of epoch numbering and the time of day of the grandmaster that a hub has locked to, from its announcement; a base moved
by a Course that the announcement does not carry is dropped (R90, R194, R296). -/
def State.adoptBase (s : State) : State :=
  match s.gmTable.find? (fun c => c.id == s.rd pgTIME TIME_GM_GM_ID) with
  | some c =>
    let s := if c.baseT = s.baseT ∧ c.baseN = s.baseN then s else s.dropBase
    let s := s.wr64 pgTIME TIME_BASE_T_LO_W TIME_BASE_T_HI_W c.baseT
    let s := s.wr64 pgTIME TIME_BASE_N_LO_W TIME_BASE_N_HI_W c.baseN
    (s.setTod c.todOffset).wr pgTIME TIME_STAT_TOD_VALID (b2n c.todValid)
  | none => s

/-- A hub that collects and has committed nothing since skips the instants that passed while it was not locked (R226, R236). -/
def State.skipPassed (s : State) : State :=
  if !s.on pgIMG IMG_STAT_COLLECTING then s
  else
    let img := { s.img with colEpoch := if s.epoch = ones64 then 0 else s.epoch + 1 }
    { s with img := if img.colCommit then img else { img with passed := [], lastTc := s.tcPassed } }

/-- The Governor gains lock in state `g`: the base of epoch numbering and the time of day of the grandmaster's announcement, a base that
a Course moved and whose time has come, the epoch, collection at the first lock, and start-up step 6 (R22, R90, R194, R226, R236). -/
def State.gainLock (s : State) (g : Nat) : State :=
  let first := !s.time.everLocked
  let s := { s with time := { s.time with everLocked := true, lastApplied := s.now, prevW := if g = 4 then s.time.prevW else none } }
  let s := if g = 4 then s else s.adoptBase
  let s := match s.time.nextBase with
    | some (n, b, _) => if b ≤ s.ringNow then s.takeBase n else s
    | none => s
  let s := { s with time := { s.time with firstBaseT := some (s.time.firstBaseT.getD s.baseT) } }
  let s := if s.baseT ≤ s.ringNow ∧ s.epoch = ones64
    then s.setEpoch (s.baseN + (s.ringNow - s.baseT) / s.epochLen) else s
  let s := if first then s.collect false else s.skipPassed
  if s.rd pgPWRST PWRST_STEP_TIME_TIME_US 5 == 0xFFFFFFFF then (s.stepDone 6).detailSync else s

/-- The Governor loses lock: epochs end with a fault, LAG, publishing and PPS_OUT stop, schedules stop running, and a hub in SERVICE or
QUIET returns to JOIN (R22, R90, R188, R194, R204). -/
def State.endLock (s : State) : State :=
  let s := ((s.setEpoch ones64).count pgTIME 5).fault pgTIME 0x15 1 0
  let s := s.enterLag.wr pgIMG IMG_STAT_PUBLISHING 0
  let s := { s with time := { s.time with ppsOut := false, ppsFall := none } }
  let s := (List.range 8).foldl (fun s n => s.wr (pgCAN + n) CAN_SCHED_STAT_RUNNING 0) s
  if s.node == nsSERVICE || s.node == nsQUIET then s.setNode nsJOIN else s

/-- The Governor enters a state: LOCKED with its interrupt, HOLDOVER's, and what gaining or losing lock brings (R188, R204). -/
def State.setGov (s : State) (g : Nat) : State :=
  let was := s.locked
  let s := s.wr pgTIME TIME_STAT_STATE g
  let now := decide (2 ≤ g)
  let s := s.wr pgTIME TIME_STAT_LOCKED (b2n now)
  let s := { s with time := { s.time with goodRun := 0, badRun := if g = 3 then s.time.badRun else 0 } }
  let s := if g = 3 then (s.irq pgTIME 4).count pgTIME 4 else s
  if was = now then s
  else
    let s := State.irq { s with time := { s.time with lockChg := s.now } } pgTIME 2
    if now then s.gainLock g else s.endLock

/-- This hub establishes ring time: the counter takes the time of day in class EXT_LOCKED; BASE_N is 0 and BASE_T the
first whole multiple of 16 ms from now; a base still to move is dropped (R179, R186, R194). -/
def State.establish (s : State) : State :=
  let tod : Int := (s.ringNow : Int) + s.todOffset
  let s := if s.gmClass = 0x10 ∧ 0 ≤ tod then
      State.setTod (State.moveAxes { s with time := { s.time with ring := tod.toNat % 2 ^ 64 * 2 ^ 32, ppsHeld := 0 } }
        (tod - s.ringNow)) 0
    else s
  let s := s.dropBase
  let b := (s.ringNow + 15999999) / 16000000 * 16000000
  let s := s.wr64 pgTIME TIME_BASE_T_LO_W TIME_BASE_T_HI_W b
  s.wr64 pgTIME TIME_BASE_N_LO_W TIME_BASE_N_HI_W 0

/-- The next SYNC_INT boundary of this hub's own counter after ring time `t` (R185). -/
def State.nextSync (s : State) (t : Nat) : Nat := (t / s.syncInt + 1) * s.syncInt

/-- The hub becomes grandmaster (R185, R186, R188); copies of another source give it no sample. -/
def State.becomeGm (s : State) : State :=
  let s := if s.locked then s else s.establish
  let s := { s with time := { s.time with syncDue := some (s.nextSync s.ringNow), copies := [] } }
  (s.setGov 4).wr pgTIME TIME_STAT_PATH_HOPS 0

/-- TIME_GM names another grandmaster, or none: GM_CHG, and TIME_SYNC of the old source is no longer used (R185, R204). -/
def State.gmChanged (s : State) : State :=
  State.count (State.irq { s with time := { s.time with copies := [], decided := [], lastSync := none } } pgTIME 3) pgTIME 3

/-- The hub takes the best candidate as its grandmaster (R185, R188): TIME_GM, GM_CHG, and the state that follows. -/
def State.chooseGm (s : State) : State :=
  let s := { s with time := { s.time with cands := s.time.cands.filter s.hears } }
  match s.gmTable with
  | [] =>
    let s := if s.rd pgTIME TIME_GM_GM_ID = 0 then s else
      (((s.wr pgTIME TIME_GM_GM_ID 0).wr pgTIME TIME_GM_CLASS 0).wr pgTIME TIME_GM_PRIO1 0).gmChanged
    if s.gov = 1 then s.setGov 0 else s
  | c :: _ =>
    let chg := s.rd pgTIME TIME_GM_GM_ID ≠ c.id
    let s := ((s.wr pgTIME TIME_GM_GM_ID c.id).wr pgTIME TIME_GM_CLASS c.cls).wr pgTIME TIME_GM_PRIO1 c.prio1
    let s := if chg then s.gmChanged else s
    if c.serial = s.serial then (if s.gov = 4 then s else s.becomeGm)
    else if s.gov = 0 then s.setGov 1 else s

/-! ## Peer delay -/

/-- The peer-delay exchange of a port. -/
def State.pd (s : State) (port : Nat) : PdSt := s.time.pd.get (fun _ => {}) port

/-- Writes the peer-delay exchange of a port. -/
def State.setPd (s : State) (port : Nat) (x : PdSt) : State :=
  { s with time := { s.time with pd := s.time.pd.set (fun _ => {}) port x } }

/-- D of a port in units of 2^-16 ns: the average of the samples kept (R182). -/
def PdSt.mean (x : PdSt) : Int :=
  if x.samples.isEmpty then 0 else x.samples.foldl (· + ·) 0 / (x.samples.length : Int)

/-- D_rx of a port, where it is valid: D plus the port's asymmetry (R182, R589). -/
def State.dRx (s : State) (port : Nat) : Option Int :=
  if s.on pgTIME TIME_PDELAY_VALID port then
    some ((s.pd port).mean + psToFine (signed 32 (s.rd pgTIME TIME_ASYM_ASYM port))
      + psToFine (signed 16 (s.rd pgDRS DRS_ASYM_ASYM port)))
  else none

/-- PDELAY_REQ_TX: on entry to UP and then every 8 ms (R182). -/
def execPdelayReqTx (port : Nat) (s : State) : Res :=
  match (s.pd port).due with
  | some d =>
    if s.linkUp port then
      let s := s.passTo d
      let x := s.pd port
      let id := if x.reqId = 0xFFFE ∨ x.reqId = 0xFFFF then 0 else x.reqId + 1
      let s := s.setPd port { x with reqId := id, t1 := none, t2 := none, open_ := true, sent := s.now,
                                     due := some (d + 8000000) }
      .next (s.sendLink port tPDELAY_REQ (beBytes 2 id ++ beBytes 2 0))
    else .next s
  | none => .next s

/-- PDELAY_REQ_RX: the request is answered with PDELAY_RESP carrying T2; the follow-up goes out at its departure (R182). -/
def execPdelayReqRx (s : State) : Res :=
  match s.takeCell 1 tPDELAY_REQ with
  | none => .next s
  | some (r, s) =>
    .next (s.sendLink r.port tPDELAY_RESP (slice r.cell.payload 0 2 ++ beBytes 10 r.ring))

/-- PDELAY_RESP_RX: the response to the open request is kept with its arrival t4 (R182). -/
def execPdelayRespRx (s : State) : Res :=
  match s.takeCell 1 tPDELAY_RESP with
  | none => .next s
  | some (r, s) =>
    let x := s.pd r.port
    if x.open_ ∧ beAt r.cell.payload 0 2 = x.reqId ∧ s.now ≤ x.sent + 1000000 then
      .next (s.setPd r.port { x with t2 := some (stampAt r.cell.payload 2), t4 := r.ring, missed := 0 })
    else .next s

/-- The sample ((t4 − t1) − (T3 − T2)) / 2 joins the last 16; D_rx is valid after 4 (R182, R200, R204). -/
def State.pdSample (s : State) (port t3 : Nat) : State :=
  let x := s.pd port
  match x.t1, x.t2 with
  | some t1, some t2 =>
    let v : Int := (((x.t4 : Int) - t1) - ((t3 : Int) - t2)) / 2
    let x := { x with samples := (v :: x.samples).take 16, open_ := false, missed := 0, t1 := none, t2 := none }
    let s := (s.setPd port x).count pgTIME (7 + port)
    let d := x.mean * 1000 / 65536
    let s := s.wr pgTIME TIME_PDELAY_D (if d < 0 then 0 else min d.toNat (2 ^ 31 - 1)) port
    if 4 ≤ x.samples.length then s.wr pgTIME TIME_PDELAY_VALID 1 port else s
  | _, _ => s

/-- The record of copy `seq` arrives on a port with the correction `ci` (R183): it is kept for the copies that this hub forwards, and
completes the copy that waits for it; a copy decided before gives no sample, and counts where D_rx is not valid (R204). -/
def State.syncRecord (s : State) (port seq : Nat) (ci : Int) : State :=
  let mine (c : SyncCopy) : Bool := c.port == port && c.seq == seq && !c.failed && decide (s.now ≤ c.at_ + 200000)
  let s := if s.time.copies.any (fun c => mine c && c.late) && (s.dRx port).isNone then s.count pgTIME 2 else s
  { s with time := { s.time with
    recs := ((port, seq, ci) :: s.time.recs).take 16,
    copies := (s.time.copies.filter (fun c => !(mine c && c.late))).map
      (fun c => if mine c then { c with cin := some ci } else c) } }

/-- PDELAY_RESP_FU_RX: completes a delay sample, and may carry the sync record of a TIME_SYNC copy (R182, R183). -/
def execPdelayRespFuRx (s : State) : Res :=
  match s.takeCell 1 tPDELAY_RESP_FU with
  | none => .next s
  | some (r, s) =>
    let p := r.cell.payload
    let x := s.pd r.port
    let s := if beAt p 0 2 ≠ 0xFFFF ∧ x.open_ ∧ beAt p 0 2 = x.reqId then s.pdSample r.port (stampAt p 2) else s
    if beAt p 24 1 % 2 = 1 then
      .next (s.syncRecord r.port (beAt p 12 4) (signed 64 (beAt p 16 8)))
    else .next s

/-- PDELAY_TIMEOUT: no response to the open request within 1 ms; three in a row make D_rx invalid (R182, R204). -/
def execPdelayTimeout (port : Nat) (s : State) : Res :=
  let x := s.pd port
  if x.open_ && x.t2.isNone then
    let s := (s.passTo (x.sent + 1000000)).count pgTIME (9 + port)
    let x := { x with open_ := false, t1 := none, t2 := none, missed := x.missed + 1 }
    if 3 ≤ x.missed then .next ((s.setPd port { x with samples := [] }).wr pgTIME TIME_PDELAY_VALID 0 port)
    else .next (s.setPd port x)
  else .next s

/-! ## TIME_SYNC -/

/-- TIME_SYNC_TX: the grandmaster sends TIME_SYNC on both races every SYNC_INT (R181, R185). -/
def stepTimeSyncTx (s : State) : Res :=
  match s.time.syncDue with
  | some d =>
    if s.gov = 4 then
      let s := s.passRing d
      let s := { s with time := { s.time with syncDue := some (s.nextSync d) } }
      .next (s.originate 2 0 tTIME_SYNC (beBytes 10 s.ringFine ++ beBytes 1 s.gmClass ++ beBytes 1 0))
    else .next s
  | none => .next s

/-- SYNC_CORR of a copy at its departure (R183): departure + c − ORIGIN_T with c 0 on the grandmaster and −θ elsewhere;
for a forwarded copy whose own correction is known, C_in + D_rx + (departure − arrival). -/
def State.syncCorr (s : State) (o : SyncOut) : Int :=
  let plain : Int := (o.dep : Int) - (if s.gov = 4 then 0 else s.time.theta) - o.originT
  match o.arr, s.time.recs.find? (fun r => r.1 == 1 - o.port && r.2.1 == o.seq), s.dRx (1 - o.port) with
  | some a, some r, some d => r.2.2 + d + ((o.dep : Int) - a)
  | _, _, _ => plain

/-- The sync record that a PDELAY_RESP_FU on a port carries: the one that waits for the port, else SEQ and correction of the copy last
sent, not valid (R181, R183; DESIGN CHOICE, log entry 107). -/
def State.takeRecord (s : State) (port : Nat) : State × List Byte :=
  let rec_ (q : Nat) (v : Int) (ok : Nat) : List Byte := beBytes 4 q ++ beBytes 8 (unsigned 64 v) ++ beBytes 1 ok ++ beBytes 3 0
  match s.time.syncOut.find? (fun o => o.port == port) with
  | some o =>
    let v := s.syncCorr o
    ({ s with time := { s.time with syncOut := s.time.syncOut.erase o,
                                    syncLast := s.time.syncLast.set (fun _ => (0, 0)) port (o.seq, v) } }, rec_ o.seq v 1)
  | none =>
    let l := s.time.syncLast.get (fun _ => (0, 0)) port
    (s, rec_ l.1 l.2 0)

/-- What a port does when a time cell departs at `stamp`: t1 of a request, the follow-up of a response, the sync record that a
TIME_SYNC copy needs within 20 µs (R182, R183). -/
def State.timeDepart (s : State) (port stamp : Nat) (t : TxCell) : State :=
  if t.cell.typ = tPDELAY_REQ then s.setPd port { s.pd port with t1 := some stamp }
  else if t.cell.typ = tPDELAY_RESP then
    let (s, r) := s.takeRecord port
    s.sendLink port tPDELAY_RESP_FU (slice t.cell.payload 0 2 ++ beBytes 10 stamp ++ r)
  else if t.cell.typ = tTIME_SYNC then
    { s with time := { s.time with syncOut := s.time.syncOut ++
      [⟨port, t.cell.seq, stamp, if t.fwd then some t.at_ else none, stampAt t.cell.payload 0, s.now + 20000⟩] } }
  else s

/-- SYNC_RECORD_TX: within 20 µs of a copy's departure a PDELAY_RESP_FU carries its record (R183). -/
def execSyncRecordTx (port : Nat) (s : State) : Res :=
  if s.time.syncOut.any (fun o => o.port == port) then
    let (s, r) := s.takeRecord port
    .next (s.sendLink port tPDELAY_RESP_FU (beBytes 2 0xFFFF ++ beBytes 10 0 ++ r))
  else .next s

/-- TIME_SYNC_RX: a copy from the grandmaster is kept with its arrival; a grandmaster that hears a better one stops and
enters TRACK (R183, R185). -/
def stepTimeSyncRx (s : State) : Res :=
  match s.takeCell 1 tTIME_SYNC with
  | none => .next s
  | some (r, s) =>
    if r.cell.src = s.rd pgTIME TIME_GM_GM_ID ∧ r.cell.src ≠ s.nodeId then
      let s := if s.gov = 4 then
          State.setGov { s with time := { s.time with syncDue := none, lastApplied := s.now } } 2
        else s
      let c : SyncCopy := {
        seq := r.cell.seq, src := r.cell.src, port := r.port, arr := r.ring, at_ := r.at_,
        originT := stampAt r.cell.payload 0, hops := r.cell.hops, late := s.time.decided.contains r.cell.seq }
      .next { s with time := { s.time with lastSync := some s.now, copies := s.time.copies ++ [c] } }
    else .next s

/-- SYNC_RECORD_TIMEOUT: 200 µs without the record, the copy yields no sample (R183, R204). -/
def execSyncRecordTimeout (port seq : Nat) (s : State) : Res :=
  match s.time.copies.find? (fun c => c.port == port && c.seq == seq && c.cin.isNone && !c.failed) with
  | some c =>
    let s := (s.passTo (c.at_ + 200000)).count pgTIME 2
    .next { s with time := { s.time with copies := (s.time.copies.filter (fun x => !(x == c && c.late))).map (fun x =>
      if x = c then { c with failed := true } else x) } }
  | none => .next s

/-- A copy's offset sample θ = a − (ORIGIN_T + C_in + D_rx), where it has one (R183). -/
def State.sampleOf (s : State) (c : SyncCopy) : Option Int :=
  match c.cin, s.dRx c.port with
  | some ci, some d => if c.failed then none else some ((c.arr : Int) - ((c.originT : Int) + ci + d))
  | _, _ => none

/-- A copy with a sample that the other cannot be preferred to (R183). -/
def State.cannotBeat (s : State) (c : SyncCopy) : Bool :=
  let n := s.rd pgLINK RING_STAT_NODES
  !s.on pgLINK RING_STAT_CLOSED || decide (c.hops < n - 2 - c.hops) || (c.hops == n - 2 - c.hops && c.port == 1)

/-- The ±500 ppm limit of f in units of 2^-16 ppm (R178). -/
def fLimit : Int := 500 * 65536

/-- The servo of R187 with an interval of `t` ns, in units of 2^-16 ppm: θ / T with θ in 2^-16 ns and T in ns is θ × 10^6 / T. -/
def State.servo (s : State) (theta t : Int) : State :=
  let e := theta * 10 ^ 6
  let integ := s.time.integ - e / (t * 2 ^ s.rd pgTIME TIME_SERVO_KI_SHIFT)
  let f := max (-fLimit) (min fLimit (integ - e / (t * 2 ^ s.rd pgTIME TIME_SERVO_KP_SHIFT)))
  State.wr { s with time := { s.time with integ := integ, f := f } } pgTIME TIME_FREQ_F (unsigned 32 f)

/-- The Governor loses lock: ACQUIRE where a grandmaster is known, else FREE (R188). -/
def State.loseLock (s : State) : State := s.setGov (if s.rd pgTIME TIME_GM_GM_ID = 0 then 0 else 1)

/-- A sample is applied by the servo: counter 0, the end of a run of rejections (R187, R188). -/
def State.applied (s : State) (theta : Int) : State :=
  let s := (s.servo theta s.syncInt).count pgTIME 0
  { s with time := { s.time with badRun := 0, lastApplied := s.now } }

/-- A sample is rejected in TRACK or HOLDOVER; the fourth in a row loses lock (R188). -/
def State.rejected (s : State) : State :=
  let s := s.count pgTIME 1
  let s := { s with time := { s.time with badRun := s.time.badRun + 1 } }
  if 4 ≤ s.time.badRun then s.loseLock else s

/-- A step of the counter by −`theta` moves with it the stamps of the old count that still take part in a measurement: the sync records to
send, the TIME_SYNC copies, the peer-delay exchanges, the time cells queued in and out, the axes' held positions (R183, R188, R297; DESIGN
CHOICE, log entry 108). -/
def State.stepBy (s : State) (theta : Int) : State :=
  let mv (t : Nat) : Nat := (((t : Int) - theta) % 2 ^ 80).toNat
  let r : Int := (s.time.ring : Int) - theta * 2 ^ 16
  let tm := { s.time with
    ring := r.toNat,
    syncOut := s.time.syncOut.map (fun o => { o with dep := mv o.dep, arr := o.arr.map mv }),
    copies := s.time.copies.map (fun c => { c with arr := mv c.arr }),
    pd := s.time.pd.map (fun x => (x.1, { x.2 with t1 := x.2.t1.map mv, t4 := mv x.2.t4 })) }
  let sw := { s.sw with
    txq := s.sw.txq.map (fun q => (q.1, q.2.map (fun t => { t with at_ := mv t.at_ }))) }
  let s := State.moveAxes { s with time := tm, sw := sw } ((-theta) / 2 ^ 16)
  State.setConsQ s 1 ((s.consQ 1).map (fun r => { r with ring := mv r.ring }))

/-- An offset sample in the Governor's state (R187, R188). -/
def State.sample (s : State) (theta : Int) (port hops : Nat) : State :=
  let ps := theta * 1000 / 65536
  let lim : Int := 2147483647
  let s := s.wr pgTIME TIME_OFFSET_THETA (unsigned 32 (max (-lim) (min lim ps)))
  let s := (s.wr pgTIME TIME_STAT_PORT port).wr pgTIME TIME_STAT_PATH_HOPS (hops + 1)
  let s := { s with time := { s.time with theta := theta } }
  let small := decide (theta ≤ s.unlockThr ∧ -s.unlockThr ≤ theta)
  if s.gov = 1 then
    let run := if theta ≤ s.lockThr ∧ -s.lockThr ≤ theta then s.time.goodRun + 1 else 0
    let s := if small then s.applied theta else (s.stepBy theta).count pgTIME 6
    let s := if small then s else { s with time := { s.time with integ := 0, theta := 0 } }
    let s := { s with time := { s.time with goodRun := run } }
    if max 8 (s.rd pgTIME TIME_LOCK_LOCK_CNT) ≤ run then s.setGov 2 else s
  else if s.gov = 2 then (if small then s.applied theta else s.rejected)
  else if s.gov = 3 then (if small then (s.applied theta).setGov 2 else s.rejected)
  else s

/-- SYNC_DECISION: the TIME_SYNC of number `seq` is decided: both copies resolved, a copy that cannot be beaten, or 2 ms
after the first copy; of the copies with a sample the lower HOPS is used, on a tie the West one (R183). -/
def stepSyncDecision (seq : Nat) (s : State) : Res :=
  match if s.gov = 4 then [] else s.time.copies.filter (fun c => c.seq == seq && !c.late) with
  | [] => .next s
  | c :: l =>
    let cs := c :: l
    let done (x : SyncCopy) := (s.sampleOf x).isSome || x.failed || (x.cin.isSome && (s.dRx x.port).isNone)
    let ready := (decide (2 ≤ cs.length) && cs.all done) || cs.any (fun x => (s.sampleOf x).isSome && s.cannotBeat x)
    let s := if ready then s else s.passTo (cs.foldl (fun a x => min a x.at_) c.at_ + 2000000)
    let s := s.count pgTIME 2 (cs.filter (fun x => x.cin.isSome && (s.dRx x.port).isNone && !x.failed)).length
    let pick := cs.foldl (fun (a : Option SyncCopy) x =>
      if (s.sampleOf x).isNone then a
      else match a with
        | none => some x
        | some y => if x.hops < y.hops ∨ (x.hops = y.hops ∧ x.port = 1) then some x else a) none
    let s := { s with time := { s.time with
      copies := (s.time.copies.filter (fun x => x.seq != seq || x.late || (x.cin.isNone && !x.failed))).map
        (fun x => if x.seq = seq then { x with late := true } else x),
      decided := (seq :: s.time.decided).take 8 } }
    match pick with
    | none => .next s
    | some x => match s.sampleOf x with
      | some th => .next (s.sample th x.port x.hops)
      | none => .next s

/-- May this hub announce now (R185): the grandmaster; a locked candidate that ranks better than the one it knows; a
candidate that has heard no announcement for 192 ms since its first link came UP; a hub that may source no such cell announces nothing
(R93). -/
def State.mayAnnounce (s : State) : Bool :=
  s.on pgTIME TIME_GM_CFG_CAPABLE && s.maySource tTIME_ANNOUNCE
    && (s.gov == 4
      || (s.locked && match s.time.cands.foldl (fun a c => insCand c a) [] with
            | [] => true
            | c :: _ => s.selfCand.better c)
      || (match s.time.firstUp with
          | some t => decide (max t (s.time.lastAnn.getD t) + 192000000 ≤ s.now)
          | none => false))

/-- TIME_ANNOUNCE_TX: every 64 ms a candidate that may announce sends TIME_ANNOUNCE and counts itself (R185, R186). -/
def stepTimeAnnounceTx (s : State) : Res :=
  let s := match s.time.ownAnn with
    | some t => s.passTo (t + 64000000)
    | none => s
  if s.mayAnnounce then
    let p := beBytes 8 s.serial ++ beBytes 1 (s.rd pgTIME TIME_GM_CFG_PRIO1) ++ beBytes 1 s.gmClass
      ++ beBytes 1 (s.rd pgTIME TIME_GM_CFG_PRIO2) ++ beBytes 1 (s.rd pgTIME TIME_STAT_TOD_VALID)
      ++ beBytes 8 (unsigned 64 s.todOffset) ++ beBytes 8 s.baseT ++ beBytes 8 s.baseN ++ beBytes 4 0
    let s := s.originate 2 0 tTIME_ANNOUNCE p
    .next (State.chooseGm { s with time := { s.time with ownAnn := some s.now } })
  else .next s

/-- TIME_ANNOUNCE_RX: the candidate table keeps the best eight, the grandmaster is chosen, and a locked hub takes time of
day from its grandmaster (R185, R192). -/
def stepTimeAnnounceRx (s : State) : Res :=
  match s.takeCell 1 tTIME_ANNOUNCE with
  | none => .next s
  | some (r, s) =>
    let p := r.cell.payload
    let c : GmCand := {
      id := r.cell.src, serial := beAt p 0 8, prio1 := beAt p 8 1, cls := beAt p 9 1, prio2 := beAt p 10 1,
      todValid := beAt p 11 1 % 2 == 1, todOffset := signed 64 (beAt p 12 8), baseT := beAt p 20 8,
      baseN := beAt p 28 8, at_ := s.now }
    let l := insCand c (s.time.cands.filter (fun x => x.serial != c.serial && s.hears x))
    let s := State.chooseGm { s with time := { s.time with cands := l.take 8, lastAnn := some s.now } }
    if c.id = s.rd pgTIME TIME_GM_GM_ID ∧ s.locked ∧ s.gov ≠ 4 then
      .next ((s.setTod c.todOffset).wr pgTIME TIME_STAT_TOD_VALID (b2n c.todValid))
    else .next s

/-- GM_DROP: no TIME_SYNC for 8 × SYNC_INT and no TIME_ANNOUNCE for 192 ms, the grandmaster leaves the table (R185). -/
def stepGmDrop (s : State) : Res :=
  let id := s.rd pgTIME TIME_GM_GM_ID
  if id = 0 ∨ id = s.nodeId then .next s
  else
    let a := match s.time.cands.find? (fun c => c.id == id) with
      | some c => c.at_ + 192000004
      | none => s.now
    let b := match s.time.lastSync with
      | some t => t + 8 * s.syncInt
      | none => s.now
    let s := s.passTo (max a b)
    .next (State.chooseGm { s with time := { s.time with cands := s.time.cands.filter (fun c => c.id != id) } })

/-- HOLDOVER_ENTRY: no sample applied for 4 × SYNC_INT in TRACK (R188). -/
def execHoldoverEntry (s : State) : Res :=
  if s.gov = 2 then .next ((s.passTo (s.time.lastApplied + 4 * s.syncInt)).setGov 3) else .next s

/-- HOLDOVER_EXPIRY: HOLDOVER_MS without a sample, lock is lost (R188). -/
def stepHoldoverExpiry (s : State) : Res :=
  if s.gov = 3 then
    .next (s.passTo (s.time.lastApplied + s.rd pgTIME TIME_LOCK_HOLDOVER_MS * 10000000)).loseLock
  else .next s

/-! ## PPS and captures -/

/-- PPS_IN_EDGE: a rising edge on a hub with EXT_EN is captured; within 1 µs of the expected time, or the first one, it is
accepted and gives TOD_OFFSET, and the grandmaster's f follows it by the law of R187 with an interval of 1 s, so that the offset holds
(R191, R204; DESIGN CHOICE, log entry 35). -/
def stepPpsInEdge (s : State) : Res :=
  if !s.on pgTIME TIME_GM_CFG_EXT_EN || s.dark 35 then .next s
  else
    let cap := s.ringNow
    let next := s.rd64 pgTIME TIME_TOD_NEXT_LO_W TIME_TOD_NEXT_HI_W
    let off : Int := (next : Int) * 10 ^ 9 - cap
    let err := s.time.ppsHeld - off
    if s.time.ppsFirst || decide (err ≤ 1000 ∧ -1000 ≤ err) then
      let first := s.time.ppsFirst
      let s := s.wr64 pgTIME TIME_PPS_CAP_LO_W TIME_PPS_CAP_HI_W cap
      let s := s.wr64 pgTIME TIME_TOD_NEXT_LO_W TIME_TOD_NEXT_HI_W ((next + 1) % 2 ^ 64)
      let s := { s with time := { s.time with ppsFirst := false, ppsLast := some s.now, ppsMissed := false,
                                              ppsHold := false, ppsHeld := if first then off else s.time.ppsHeld } }
      let s := if s.gov = 4 ∨ !s.locked then (s.setTod off).wr pgTIME TIME_STAT_TOD_VALID 1 else s
      let s := s.irq pgTIME 5
      if s.gov = 4 ∧ !first then .next (s.servo (err * 65536) (10 ^ 9)) else .next s
    else .next (s.count pgTIME 11)

/-- PPS_MISS: 1.1 s without an accepted edge (R191). -/
def execPpsMiss (s : State) : Res :=
  match s.time.ppsLast with
  | some t =>
    if s.on pgTIME TIME_GM_CFG_EXT_EN && !s.time.ppsMissed then
      let s := s.passTo (t + 1100000000)
      .next (State.irq { s with time := { s.time with ppsMissed := true } } pgTIME 6)
    else .next s
  | none => .next s

/-- PPS_HOLDOVER: 2 s without an accepted edge make the class EXT_HOLDOVER (R191). -/
def execPpsHoldover (s : State) : Res :=
  match s.time.ppsLast with
  | some t =>
    if s.on pgTIME TIME_GM_CFG_EXT_EN then
      let s := s.passTo (t + 2000000000)
      .next { s with time := { s.time with ppsHold := true } }
    else .next s
  | none => .next s

/-- The length of the epoch that begins here: from the new base on, that of the Course that moves it (R193, R619). -/
def State.ppsLen (s : State) : Nat :=
  match s.time.nextBase with
  | some (_, b, w) => if b ≤ s.ringNow then 250000 * 2 ^ min 6 (bitsOf w 0 3) else s.epochLen
  | none => s.epochLen

/-- The next ring time at which PPS_OUT rises (R193): a whole second of external time, or of ring time while TOD_VALID is
0, in mode SECOND; t_s(N) in mode EPOCH.  An instant less than one CLK_CORE cycle back has its rise now. -/
def State.ppsNext (s : State) : Nat :=
  let t := s.ringNow - 3
  if s.rd pgTIME TIME_PPS_OUT_MODE = 1 then
    let ext : Int := (t : Int) + (if s.on pgTIME TIME_STAT_TOD_VALID then s.todOffset else 0)
    t + ((-ext) % 10 ^ 9).toNat
  else
    let up (b len : Nat) : Nat := b + (t - b + len - 1) / len * len
    let old := up s.baseT s.epochLen
    match s.time.nextBase with
    | some (n, b, w) => if old < s.tS n then old else up b (250000 * 2 ^ min 6 (bitsOf w 0 3))
    | none => old

/-- PPS_OUT_RISE: PPS_OUT rises at its boundary while the hub is locked and a mode is set (R193). -/
def execPpsOutRise (s : State) : Res :=
  let m := s.rd pgTIME TIME_PPS_OUT_MODE
  if s.locked && (m == 1 || m == 2) && !s.time.ppsOut then
    let s := s.passRing s.ppsNext
    let w := max 1 (s.rd pgTIME TIME_PPS_OUT_WIDTH) * 1000
    let w := if m = 2 then min w (s.ppsLen / 2) else w
    .next { s with time := { s.time with ppsOut := true, ppsFall := some (s.ringNow + w) } }
  else .next s

/-- PPS_OUT_FALL: the pulse ends after WIDTH microseconds (R193). -/
def execPpsOutFall (s : State) : Res :=
  match s.time.ppsFall with
  | some t =>
    let s := s.passRing t
    .next { s with time := { s.time with ppsOut := false, ppsFall := none } }
  | none => .next s

/-- TIME_CAPTURE: TIME_CAP_CMD.CAPTURE latches ring time into TIME_CAP (R203). -/
def execTimeCapture (s : State) : Res :=
  if !s.takes pgTIME then .next s else .next (s.wr64 pgTIME TIME_CAP_LO_W TIME_CAP_HI_W s.ringNow)

/-- An apply of the TIME page took effect: PPS_OUT is low while its mode is OFF (R193), and setting EXT_EN makes the next PPS_IN edge the
first (R191). -/
def State.timeApplied (old s : State) : State :=
  let m := s.rd pgTIME TIME_PPS_OUT_MODE
  let s := if m = 1 ∨ m = 2 then s else { s with time := { s.time with ppsOut := false, ppsFall := none } }
  if s.on pgTIME TIME_GM_CFG_EXT_EN && !old.on pgTIME TIME_GM_CFG_EXT_EN then
    { s with time := { s.time with ppsFirst := true, ppsLast := none, ppsHold := false } }
  else s

/-! ## Transmit time stamps -/

/-- A queue entry of R197 as a number of 128 bits, byte 0 lowest. -/
def stampEntry (time inst kind : Nat) (locked : Bool) (tag seq : Nat) : Nat :=
  time % 2 ^ 64 + (inst % 64 + kind % 4 * 64) * 2 ^ 64 + (b2n locked + 2) * 2 ^ 72 + tag % 2 ^ 16 * 2 ^ 80
    + seq % 2 ^ 32 * 2 ^ 96

/-- A stamp, taken at `time` with the Governor locked or not, enters the queue of 64, or is discarded with its STAMP_SEQ consumed (R196
to R198, R206). -/
def State.txStamp (s : State) (time : Nat) (lk : Bool) (inst kind tag : Nat) : State :=
  let q := s.txts.nextSeq
  if 64 ≤ s.txts.q.length then
    let s := { s with txts := { s.txts with nextSeq := (q + 1) % 2 ^ 32 } }
    let s := (s.wr pgTXTS TXTS_STAT_OVF 1).wr pgTXTS TXTS_STAT_OVF_COUNT
      (satInc 0xFFFF (s.rd pgTXTS TXTS_STAT_OVF_COUNT))
    (s.irq pgTXTS 4).count pgTXTS 1
  else
    let e := stampEntry time inst kind lk tag q
    let s := { s with txts := { q := s.txts.q ++ [e], nextSeq := (q + 1) % 2 ^ 32 } }
    let n := s.txts.q.length
    let s := ((s.wr pgTXTS TXTS_STAT_FILL n).irq pgTXTS 2).count pgTXTS 0
    if n = min 64 (max 1 (s.rd pgTXTS TXTS_WEIR_LEVEL)) then s.irq pgTXTS 3 else s

/-- TXTS_POP removes the head entry; a pop of an empty queue has no effect (R198). -/
def State.txtsPop (s : State) : State :=
  match s.txts.q with
  | [] => s
  | _ :: l => State.wr { s with txts := { s.txts with q := l } } pgTXTS TXTS_STAT_FILL l.length

end Sys2Proof.Machine
end

