-- ==== Sys2Proof/Machine/Image.lean ====
section
/-!
DEFINITION. The site image (R207 to R244): points, shard tables, digests, the receipt and verification of epochs, repair,
publication, point-map changes, and pinned views (R263 to R265).  Captures, commits and output drives are in Commit.lean.
-/
namespace Sys2Proof.Machine

/-! ## Shard tables and points -/

/-- FIRST of a shard table entry (R210). -/
def segFirst (e : Nat) : Nat := bitsOf e 0 17

/-- The width in bits of the points of a segment (R210). -/
def segWidth (e : Nat) : Nat := [1, 8, 16, 32].getD (bitsOf e 30 2) 32

/-- Shard table entry of owner `o`, segment `k`. -/
def tableEntry (t : SMap Nat) (o k : Nat) : Nat := t.get (fun _ => 0) (8 * o + k)

/-- The points of a shard in order of shard offset, each with its width (R209). -/
def shardPoints (t : SMap Nat) (o : Nat) : List (Nat × Nat) :=
  (List.range 8).flatMap (fun k =>
    let e := tableEntry t o k
    (List.range (segCount e)).map (fun j => (segFirst e + j, segWidth e)))

/-- The table entry that holds point `i`, with its owner. -/
def pointEntry (t : SMap Nat) (i : Nat) : Option (Nat × Nat) :=
  (t.find? (fun e => decide (8 ≤ e.1 ∧ segFirst e.2 ≤ i ∧ i < segFirst e.2 + segCount e.2))).map (fun e => (e.1 / 8, e.2))

/-- The owner of point `i`, 0 where it is unowned. -/
def pointOwner (t : SMap Nat) (i : Nat) : Nat := ((pointEntry t i).map (·.1)).getD 0

/-- The shard table of the generation in force at t_s of an epoch (R209); none for a generation no longer held. -/
def State.tableAt (s : State) (n : Nat) : Option (SMap Nat) :=
  if s.img.advAt ≤ n then some s.img.cur else if s.img.heldFrom ≤ n then some s.img.prev else none

/-- The map generation in force at t_s of an epoch (R217). -/
def State.genAt (s : State) (n : Nat) : Nat :=
  if s.img.advAt ≤ n then s.rd pgSWC SWC_MAPGEN_CURRENT else s.rd pgSWC SWC_MAPGEN_PREVIOUS

/-- A payload of a generation no longer held: the hub collects again, but not while it collects (R235). -/
def State.lostGen (s : State) : State := if s.on pgIMG IMG_STAT_COLLECTING then s else s.collect true

/-- CFG_BAD stops sealing and commits from the epoch after the one in which it was set (R213). -/
def State.cfgStops (s : State) : Bool :=
  s.on pgIMG IMG_STAT_CFG_BAD && (s.epoch == 2 ^ 64 - 1 || decide (s.img.cfgFrom ≤ s.epoch))

/-- The owner whose shard this hub publishes or stands by for (R18, R563): the twin shard's on a twin hub. -/
def State.shardId (s : State) : Nat :=
  if s.enabled pgTWIN then s.rd pgTWIN TWIN_SHARD_OWNER else s.nodeId

/-- The owner under which this hub publishes, 0 for none (R563). -/
def State.pubId (s : State) : Nat :=
  if s.enabled pgTWIN then
    (if s.rd pgTWIN TWIN_STAT_ROLE = 1 ∨ s.twin.phase = 3 then s.rd pgTWIN TWIN_SHARD_OWNER else 0)
  else s.nodeId

/-! ## The shard digest -/

/-- h(i, v) of R221. -/
def imgHash (i v : Nat) : Nat :=
  let x := (i * 2 ^ 32) ||| v
  let x := x ^^^ (x / 2 ^ 31)
  let x := x * 0xA3B195C47E2D6F0B % 2 ^ 64
  let x := x ^^^ (x / 2 ^ 29)
  let x := x * 0x5C8E1F73D2A946B5 % 2 ^ 64
  x ^^^ (x / 2 ^ 32)

/-- The digest over points and their slot contents (R221). -/
def digestOf (l : List (Nat × Nat)) : Nat := l.foldl (fun a e => a ^^^ imgHash e.1 e.2) 0

/-- The content of a point in a map of values. -/
def valAt (m : SMap Nat) (i : Nat) : Nat := m.get (fun _ => 0) i

/-- Writes a point's content. -/
def setVal (m : SMap Nat) (i v : Nat) : SMap Nat := m.set (fun _ => 0) i v

/-! ## The Cistern's banks -/

/-- Bank `b` of the Cistern (R257). -/
def State.bankAt (s : State) (b : Nat) : ImgBank := s.img.bank.get (fun _ => {}) b

/-- Writes a bank. -/
def State.setBank (s : State) (b : Nat) (x : ImgBank) : State :=
  { s with img := { s.img with bank := s.img.bank.set (fun _ => {}) b x } }

/-- The slots of the VISIBLE bank (R257, R261). -/
def State.visVals (s : State) : SMap Nat := (s.bankAt (s.rd pgIMG IMG_BANK_VISIBLE)).vals

/-- The slots of the pinned view: of the bank that was VISIBLE at the pin, which is VISIBLE still or the THIRD bank since; 0 while no
pin is held (R263, R265). -/
def State.pinVals (s : State) : SMap Nat :=
  if !s.on pgIMG IMG_PIN_STAT_STATE then []
  else if s.img.pinFresh then s.visVals else (s.bankAt (s.rd pgIMG IMG_BANK_THIRD)).vals

/-- Writes the points of a shard as verified into the slots of a bank (R258). -/
def putShard (pts : List (Nat × Nat)) (v : SMap Nat) (m : SMap Nat) : SMap Nat :=
  pts.foldl (fun m q => setVal m q.1 (valAt v q.1 % 2 ^ q.2)) m

/-! ## Epoch settings, seals and payloads -/

/-- SETTLE in epochs (R245). -/
def State.settle_ (s : State) : Nat := s.rd pgIMG IMG_EPOCH_SETTLE + 1

/-- t_c(N), by the settings in force for `n` (R215, R619). -/
def State.tC (s : State) (n : Nat) : Nat := s.tS n + s.settleAt n * s.lenAt n

/-- The EPOCH_LEN and SETTLE − 1 codes in force for epoch `n` (R213, R619, R620). -/
def State.codesAt (s : State) (n : Nat) : Nat × Nat :=
  (bitsOf (s.epochWord n) 0 3, bitsOf (s.epochWord n) 4 2)

/-- The next epoch whose commit instant is to pass. -/
def State.nextTc (s : State) : Nat :=
  match s.img.lastTc with
  | some n => n + 1
  | none => if s.epoch = ones64 then s.baseN else max s.baseN (s.epoch + 1 - s.settle_)

/-- IMG_COMMIT_EPOCH. -/
def State.commitEpoch (s : State) : Nat := s.rd64 pgIMG IMG_COMMIT_EPOCH_LO_W IMG_COMMIT_EPOCH_HI_W

/-- The payload of a seal (R219). -/
def sealPayload (epoch owner tenure : Nat) (full : Bool) (cells changes codes digest : Nat) : List Byte :=
  beBytes 8 epoch ++ beBytes 2 (owner + b2n full * 2 ^ 11) ++ beBytes 1 tenure ++ beBytes 1 cells
    ++ beBytes 2 changes ++ beBytes 1 codes ++ beBytes 1 0 ++ beBytes 8 digest

/-- Byte 14 of this hub's seals (R219). -/
def State.sealCodes (s : State) : Nat :=
  s.rd pgIMG IMG_EPOCH_EPOCH_LEN + s.rd pgIMG IMG_EPOCH_SETTLE * 8 + s.rd pgIMG IMG_EPOCH_SEAL_AT * 32

/-- The entries of a CHANGE payload (R218). -/
def changeEntries (p : List Byte) : List (Nat × Nat) :=
  (List.range ((p.length - 8) / 6)).map (fun j => (beAt p (8 + 6 * j) 2 % 4096, beAt p (10 + 6 * j) 4))

/-- Offsets strictly ascending. -/
def ascending : List Nat → Bool
  | [] => true
  | [_] => true
  | a :: b :: l => decide (a < b) && ascending (b :: l)

/-- A CHANGE payload is valid for a shard (R218). -/
def changeValid (pts : List (Nat × Nat)) (p : List Byte) : Bool :=
  let es := changeEntries p
  decide (14 ≤ p.length ∧ (p.length - 8) % 6 = 0 ∧ p.length ≤ 254) && ascending (es.map (·.1))
    && es.all (fun e => match pts[e.1]? with
        | some q => decide (e.2 < 2 ^ q.2)
        | none => false)

/-- The values of a REFRESH payload. -/
def refreshValues (p : List Byte) : List Nat :=
  (List.range ((p.length - 8) / 4)).map (fun j => beAt p (8 + 4 * j) 4)

/-- A REFRESH payload is valid for a shard (R220). -/
def refreshValid (pts : List (Nat × Nat)) (p : List Byte) : Bool :=
  let vs := refreshValues p
  let k := beAt p 7 1
  decide (12 ≤ p.length ∧ (p.length - 8) % 4 = 0 ∧ vs.length ≤ 16 ∧ 16 * k < pts.length
      ∧ vs.length = min 16 (pts.length - 16 * k))
    && ((List.range vs.length).all (fun j => match pts[16 * k + j]? with
        | some q => decide (vs.getD j 0 < 2 ^ q.2)
        | none => false))

/-- Tenure `a` is higher than `b` (R223). -/
def tenureHigher (a b : Nat) : Bool := let d := (a + 256 - b) % 256; decide (1 ≤ d ∧ d ≤ 127)

/-! ## Shards -/

/-- What the hub works with for shard `o`. -/
def State.shard (s : State) (o : Nat) : ShardSt := s.img.shards.get (fun _ => {}) o

/-- Writes a shard's working state. -/
def State.setShard (s : State) (o : Nat) (x : ShardSt) : State :=
  { s with img := { s.img with shards := s.img.shards.set (fun _ => {}) o x } }

/-- The state of a shard as verified for epoch `n`. -/
def ShardSt.at? (x : ShardSt) (n : Nat) : Option ShardVer := x.states.find? (fun v => v.epoch == n)

/-- The newest verified state of a shard of an epoch before `n`. -/
def ShardSt.before? (x : ShardSt) (n : Nat) : Option ShardVer :=
  x.states.foldl (fun (a : Option ShardVer) v =>
    if v.epoch < n then match a with
      | some u => if u.epoch < v.epoch then some v else a
      | none => some v
    else a) none

/-- The shard is PENDING for epoch `n`: nothing of it is verified up to `n` since collection began (R224, R237). -/
def ShardSt.pendAt (x : ShardSt) (n : Nat) : Bool := x.pend && x.states.all (fun v => decide (n < v.epoch))

/-- A cell of tenure `t` of shard `o` is discarded (R223). -/
def State.lowTenure (s : State) (o t : Nat) : Bool :=
  match (s.shard o).tenure with
  | some u => tenureHigher u t
  | none => false

/-- The seal held for (o, n) of the highest tenure (R223). -/
def State.sealOf (s : State) (o n : Nat) : Option HeldSeal :=
  (s.img.seals.filter (fun x => x.owner == o && x.epoch == n)).foldl (fun (a : Option HeldSeal) x =>
    match a with
    | some y => if tenureHigher x.tenure y.tenure then some x else a
    | none => some x) none

/-- The CHANGE cells held for a seal, in CELL_NO order; none while one is missing (R222). -/
def State.cellsOf (s : State) (x : HeldSeal) : Option (List HeldChange) :=
  (List.range x.cells).mapM (fun k =>
    s.img.changes.find? (fun c => c.owner == x.owner && c.epoch == x.epoch && c.tenure == x.tenure && c.no == k))

/-- The outstanding requests, IMG_REPAIR.OUTSTANDING (R249). -/
def State.repairSync (s : State) : State :=
  (s.wr pgIMG IMG_REPAIR_OUTSTANDING (min 32 (s.img.repairs.filter (·.sent)).length)).wr pgIMG IMG_REPAIR_SERVING
    s.img.serve.length

/-- Sends a REPAIR_REQ, unicast (R230, R231). -/
def State.sendRepair (s : State) (r : RepairReq) : State :=
  let s := s.count pgIMG 8
  s.originate 0 r.dest tREPAIR_REQ
    (beBytes 8 r.epoch ++ beBytes 2 (r.owner + r.kind * 2 ^ 12) ++ beBytes 1 r.first ++ beBytes 1 r.last
      ++ beBytes 1 r.tag ++ beBytes 3 0)

/-- Sends waiting requests while fewer than 32 are outstanding (R230). -/
def State.repairFlush : Nat → State → State
  | 0, s => s.repairSync
  | k + 1, s =>
    if 32 ≤ (s.img.repairs.filter (·.sent)).length then s.repairSync
    else match s.img.repairs.find? (fun r => !r.sent) with
      | none => s.repairSync
      | some r =>
        let r' := { r with sent := true, at_ := s.now, tries := 1 }
        let s := { s with img := { s.img with repairs := s.img.repairs.map (fun x => if x = r then r' else x) } }
        State.repairFlush k (s.sendRepair r')

/-- Asks for repair of (o, n), once; a request of KIND SHARD replaces one of KIND EPOCH (R230). -/
def State.askRepair (s : State) (o n kind first last dest : Nat) : State :=
  if s.img.repairs.any (fun r => r.owner == o && (r.epoch == n && (r.kind != 0 || kind != 1) || r.kind == 2 && kind == 2)) then s
  else
    let s := { s with img := { s.img with repairs := s.img.repairs.filter (fun r => !(r.owner == o && r.epoch == n)) } }
    let r : RepairReq := { tag := s.img.nextTag, owner := o, epoch := n, kind := kind, first := first, last := last,
                           dest := dest }
    State.repairFlush 1 { s with img := { s.img with repairs := s.img.repairs ++ [r],
                                                     nextTag := (s.img.nextTag + 1) % 256 } }

/-- A request leaves the list. -/
def State.dropRepairs (s : State) (p : RepairReq → Bool) : State :=
  State.repairFlush 32 { s with img := { s.img with repairs := s.img.repairs.filter (fun r => !p r) } }

/-- Asks for what a held seal of (o, n) still needs: the epochs since the last verified one, then its own cells; KIND
SHARD after a second digest mismatch within 8 epochs (R225, R230). -/
def State.askFor (s : State) (o n : Nat) (x : HeldSeal) : State :=
  let sh := s.shard o
  if 2 ≤ (sh.mism.filter (fun e => decide (n ≤ e + 8 ∧ e ≤ n))).length then s.askRepair o n 1 0 0 x.src
  else
    let from_ := match sh.before? n with
      | some v => v.epoch + 1
      | none => n
    let s := if x.full then s else
      (List.range (min 32 (n - from_))).foldl (fun s k =>
        if ((s.shard o).at? (from_ + k)).isSome then s else s.askRepair o (from_ + k) 0 0 99 x.src) s
    s.askRepair o n 0 0 (x.cells - 1) x.src

/-- The epoch that is assembled in SHADOW: the first that has not been committed (R258). -/
def State.nextEpoch (s : State) : Nat := (s.img.passed.head?.map (·.1)).getD s.nextTc

/-- The change set of a shard verified for the epoch that is being assembled goes to SHADOW, and to a SPARE in step in the same cycle
(R258). -/
def State.shadowPut (s : State) (o : Nat) (v : ShardVer) : State :=
  match s.tableAt v.epoch, decide (v.epoch = s.nextEpoch) && !s.on pgIMG IMG_BANK_SHADOW_CATCHUP with
  | some t, true =>
    let put (s : State) (b : Nat) : State :=
      s.setBank b { s.bankAt b with vals := putShard (shardPoints t o) v.vals (s.bankAt b).vals }
    let s := put s (s.rd pgIMG IMG_BANK_SHADOW)
    if s.rd pgIMG IMG_BANK_THIRD_ROLE = 0 then put s (s.rd pgIMG IMG_BANK_THIRD) else s
  | _, _ => s

/-- What is verified of the epoch that is being assembled goes to SHADOW (R258). -/
def State.shadowFill (s : State) : State :=
  s.img.shards.foldl (fun s e => match e.2.at? s.nextEpoch with
    | some v => s.shadowPut e.1 v
    | none => s) s

/-- Bank `b` is brought into step with bank `lead`: one epoch behind it, under one map and with no shard PENDING, by the change sets
retained since, in epoch order; else it is overwritten (R260). -/
def State.bankFollow (s : State) (b lead : Nat) : State :=
  let x := s.bankAt b
  let y := s.bankAt lead
  let near := match x.epoch, y.epoch with
    | some e, some f => decide (e + 1 = f) && s.on pgIMG IMG_STAT_FULL && decide (s.img.advAt ≤ e)
    | _, _ => false
  let e := x.epoch.getD 0
  let sets (k : Nat) (m : SMap Nat) : SMap Nat := s.img.shards.foldl (fun m o => match o.2.at? (e + k) with
    | some v => putShard (shardPoints s.img.cur o.1) v.vals m
    | none => m) m
  let vals := if near then (if e + 2 = s.nextEpoch then sets 2 (sets 1 x.vals) else sets 1 x.vals) else y.vals
  s.setBank b { vals := vals, epoch := y.epoch }

/-- A verified state joins the shard and SHADOW; requests for that epoch end. -/
def State.addVer (s : State) (o : Nat) (v : ShardVer) : State :=
  let sh := s.shard o
  let sh := { sh with states := v :: sh.states.filter (fun u => u.epoch != v.epoch) }
  ((s.setShard o sh).shadowPut o v).dropRepairs (fun r => r.owner == o && r.epoch == v.epoch && r.kind != 2)

/-- A digest mismatch for (o, n); a PENDING shard is left to collection (R222, R230). -/
def State.mismatch (s : State) (o n : Nat) (x : HeldSeal) : State :=
  let s := ((s.count pgIMG 6).irq pgIMG 6).fault pgIMG 0x18 1 0
  let sh := s.shard o
  let s := s.setShard o { sh with mism := (n :: sh.mism).take 8 }
  if sh.pend && sh.states.isEmpty then s
  else State.askFor { s with img := { s.img with
    changes := s.img.changes.filter (fun c => !(c.owner == o && c.epoch == n)) } } o n x

/-- The non-empty slices of a shard of `p` points. -/
def sliceCount (p : Nat) : Nat := (p + 15) / 16

/-- The newest REFRESH cell held for a slice, of an epoch up to `n`. -/
def State.sliceOf (s : State) (o n k : Nat) : Option HeldRefresh :=
  (s.img.refreshes.filter (fun r => r.owner == o && r.slice == k && decide (r.epoch ≤ n))).foldl
    (fun (a : Option HeldRefresh) r => match a with
      | some q => if q.epoch < r.epoch then some r else a
      | none => some r) none

/-- The values of a PENDING shard at epoch `n` from REFRESH and CHANGE cells in stream order; none while a slice, a seal
or a CHANGE cell since the earliest slice is missing (R236, R237). -/
def State.collected (s : State) (o n : Nat) (pts : List (Nat × Nat)) : Option (SMap Nat) := do
  let rs ← (List.range (sliceCount pts.length)).mapM (s.sliceOf o n)
  let e0 := rs.foldl (fun a r => min a r.epoch) n
  let cs ← (List.range (n - e0)).mapM (fun k => (s.sealOf o (e0 + 1 + k)).bind s.cellsOf)
  let base := rs.flatMap (fun r => (List.range r.values.length).map (fun j => (16 * r.slice + j, r.epoch, r.values.getD j 0)))
  let vals := base.foldl (fun m b =>
    let v := cs.flatten.foldl (fun (a : Nat × Nat) c =>
      if a.1 < c.epoch then match c.entries.find? (fun e => e.1 == b.1) with
        | some e => (c.epoch, e.2)
        | none => a
      else a) (b.2.1, b.2.2)
    match pts[b.1]? with
    | some q => setVal m q.1 v.2
    | none => m) []
  return vals

/-- The verification of (o, n) under its seal, again where the seal is of a higher tenure than the state verified (R222, R223, R237). -/
def State.tryVerify (s : State) (o n : Nat) : State :=
  match s.sealOf o n, s.tableAt n with
  | some x, some t =>
    let sh := s.shard o
    let pts := shardPoints t o
    if (sh.at? n).any (fun v => !tenureHigher x.tenure v.tenure) || pts.isEmpty then s
    else
      let ver (m : SMap Nat) (d : Nat) : ShardVer := ⟨n, x.tenure, d, m⟩
      let bad : State := if sh.mism.contains n && (x.cells == 0 || sh.pend && sh.states.isEmpty) then s else s.mismatch o n x
      match s.cellsOf x with
      | none => s
      | some cs =>
        let es := cs.flatMap (·.entries)
        if x.full then
          let m := es.foldl (fun m e => match pts[e.1]? with
            | some q => setVal m q.1 e.2
            | none => m) []
          let d := digestOf (pts.map (fun q => (q.1, valAt m q.1)))
          let once := es.length == pts.length && (List.range pts.length).all (fun k => es.any (fun e => e.1 == k))
          if once ∧ d = x.digest then s.addVer o (ver m d) else bad
        else match sh.at? (n - 1), decide (1 ≤ n) with
          | some v, true =>
            let m := es.foldl (fun m e => match pts[e.1]? with
              | some q => setVal m q.1 e.2
              | none => m) v.vals
            let d := es.foldl (fun a e => match pts[e.1]? with
              | some q => a ^^^ imgHash q.1 (valAt v.vals q.1) ^^^ imgHash q.1 e.2
              | none => a) v.digest
            if es.length = x.changes ∧ d = x.digest then s.addVer o (ver m d) else bad
          | _, _ =>
            if sh.pend && sh.states.isEmpty then
              match s.collected o n pts with
              | some m =>
                let d := digestOf (pts.map (fun q => (q.1, valAt m q.1)))
                if d = x.digest then s.addVer o (ver m d) else bad
              | none => s
            else s
  | _, _ => s

/-- SHARD_VERIFY: within 40 µs of holding a seal and its cells (R222). -/
def execShardVerify (owner epoch : Nat) (s : State) : Res := .next (s.tryVerify owner epoch)

/-! ## Receiving image cells -/

/-- Epoch N from EPOCH_LO (R218, R722). -/
def State.epochFrom (s : State) (lo : Nat) : Nat := nearest 32 lo s.epoch

/-- Holds a valid CHANGE payload, replacing a held cell of the same number. -/
def State.holdChange (s : State) (p : List Byte) (src : Nat) : State :=
  let o := beAt p 4 2 % 2048
  let n := s.epochFrom (beAt p 0 4)
  match s.tableAt n with
  | none => s.lostGen
  | some t =>
    if !changeValid (shardPoints t o) p then s.count pgIMG 13
    else if s.lowTenure o (beAt p 6 1) then s.count pgIMG 14
    else
      let c : HeldChange := { owner := o, epoch := n, tenure := beAt p 6 1, no := beAt p 7 1 % 128, src := src,
                              entries := changeEntries p }
      let l := s.img.changes.filter (fun d => !(d.owner == o && d.epoch == n && d.tenure == c.tenure && d.no == c.no))
      { s with img := { s.img with changes := l ++ [c] } }

/-- CHANGE_RX (R218, R223). -/
def execChangeRx (s : State) : Res :=
  match s.takeCell 0 tCHANGE with
  | none => .next s
  | some (r, s) =>
    let s := s.count pgIMG 4
    if s.epoch = ones64 then .next s else .next (s.holdChange r.cell.payload r.cell.src)

/-- A margin in whole microseconds, held within 16 bits: t_c(N) − arrival − 40 µs, the arrival in 2^-16 ns (R240, R248). -/
def State.marginUs (s : State) (n at_ : Nat) : Int :=
  satSigned 16 ((((s.tC n : Int) - 40000) * 65536 - at_) / (65536 * 1000))

/-- Margin 1 of a seal of another owner (R240). -/
def State.margin1 (s : State) (n at_ : Nat) : State :=
  let m := s.marginUs n at_
  if m < signed 16 (s.rd pgIMG IMG_SETTLE_MARGIN_MIN1) then s.wr pgIMG IMG_SETTLE_MARGIN_MIN1 (unsigned 16 m) else s

/-- Margin 2, of the copy of a seal that the resequencer discards (R240). -/
def State.margin2 (s : State) (r : RxCell) : State :=
  let p := r.cell.payload
  let o := beAt p 8 2 % 2048
  let n := beAt p 0 8
  if r.cell.typ ≠ tSEAL ∨ !s.on pgLINK RING_STAT_CLOSED ∨ o = s.pubId ∨ s.epoch = ones64 then s
  else
    let m := s.marginUs n r.ring
    let s := if m < signed 16 (s.rd pgIMG IMG_SETTLE_MARGIN_MIN2) then
        let s := s.wr pgIMG IMG_SETTLE_MARGIN_MIN2 (unsigned 16 m)
        (s.wr pgIMG IMG_MARGIN_WORST_OWNER o).wr pgIMG IMG_MARGIN_WORST_EPOCH (n % 2 ^ 16)
      else s
    if m < (s.rd pgIMG IMG_MARGIN_CFG_WARN : Int) then s.irq pgIMG 8 else s

/-- A seal received for an epoch is tallied; more than half of at least two with other codes sets CFG_BAD (R213). -/
def State.tallySeal (s : State) (n : Nat) (differs : Bool) : State :=
  let old := (s.img.cfgSeen.find? (fun e => e.1 == n)).getD (n, 0, 0)
  let new := (n, old.2.1 + 1, old.2.2 + b2n differs)
  let s := { s with img := { s.img with cfgSeen := (new :: s.img.cfgSeen.filter (fun e => e.1 != n)).take 16 } }
  if 2 ≤ new.2.1 ∧ new.2.1 < 2 * new.2.2 ∧ !s.on pgIMG IMG_STAT_CFG_BAD then
    State.fault (State.wr { s with img := { s.img with cfgFrom := if s.epoch = ones64 then 0 else s.epoch + 1 } } pgIMG IMG_STAT_CFG_BAD 1) pgIMG 0x1B 1 0
  else s

/-- Holds a seal: configuration codes, tenure, lateness, and for a late seal the working state only; an uncommitted epoch verified under a
lower tenure is to be verified again (R213, R219, R223, R227). -/
def State.holdSeal (s : State) (p : List Byte) (src : Nat) (at_ : Option Nat) : State :=
  let n := beAt p 0 8
  let o := beAt p 8 2 % 2048
  let te := beAt p 10 1
  let codes := beAt p 14 1
  let ok := (bitsOf codes 0 3, bitsOf codes 3 2) = s.codesAt n
  let s := s.tallySeal n (decide (¬ok))
  if ¬ok then (s.count pgIMG 12).irq pgIMG 9
  else if s.lowTenure o te then s.count pgIMG 14
  else
    let sh := s.shard o
    let up := match sh.tenure with
      | some u => tenureHigher te u
      | none => true
    let s := s.setShard o { sh with tenure := if up then some te else sh.tenure,
                                    lastSeal := some (max n (sh.lastSeal.getD 0)),
                                    heard := if s.epoch = ones64 ∨ at_.isNone then sh.heard else some s.epoch, src := src,
                                    sealAt := bitsOf codes 5 3 }
    let late := decide (s.epoch ≠ ones64 ∧ (n < s.nextTc ∨ s.tC n ≤ s.ringNow)) && at_.isSome
    let s := if late then ((s.count pgIMG 7).irq pgIMG 7).fault pgIMG 0x19 1 0 else s
    let s := match at_ with
      | some t => if o = s.pubId ∨ s.epoch = ones64 then s else s.margin1 n t
      | none => s
    if (s.sealOf o n).any (fun y => y.tenure == te) then s
    else
      let x : HeldSeal := { owner := o, epoch := n, tenure := te, full := bitAt (beAt p 8 2) 11,
                            cells := beAt p 11 1 % 128, changes := beAt p 12 2 % 8192, digest := beAt p 16 8,
                            src := src, late := late || at_.isNone && decide (n < s.nextTc) }
      let sh := s.shard o
      let open_ := decide (s.commitEpoch = 2 ^ 64 - 1 ∨ s.commitEpoch < n)
      let s := if open_ then s.setShard o { sh with
        states := sh.states.filter (fun v => !(v.epoch == n && tenureHigher te v.tenure)) } else s
      { s with img := { s.img with seals := s.img.seals ++ [x] } }

/-- REFRESH_RX: checked, and held for a shard being collected (R220, R236). -/
def execRefreshRx (s : State) : Res :=
  match s.takeCell 0 tREFRESH with
  | none => .next s
  | some (r, s) =>
    let p := r.cell.payload
    let s := s.count pgIMG 5
    if s.epoch = ones64 then .next s
    else
      let o := beAt p 4 2 % 2048
      let n := s.epochFrom (beAt p 0 4)
      match s.tableAt n with
      | none => .next s.lostGen
      | some t =>
        if !refreshValid (shardPoints t o) p then .next (s.count pgIMG 13)
        else if s.lowTenure o (beAt p 6 1) then .next (s.count pgIMG 14)
        else if (s.shard o).pend && (s.shard o).states.isEmpty then
          let x : HeldRefresh := { owner := o, epoch := n, tenure := beAt p 6 1, slice := beAt p 7 1,
                                   values := refreshValues p }
          let l := s.img.refreshes.filter (fun y => !(y.owner == o && y.slice == x.slice))
          .next { s with img := { s.img with refreshes := l ++ [x] } }
        else .next s

/-- A loss notice for the source of a shard's cells while its seal is held and a cell is missing (R163, R230). -/
def State.lossNotice (s : State) (src : Nat) : State :=
  s.img.seals.foldl (fun s x =>
    if x.src = src ∧ ((s.shard x.owner).at? x.epoch).isNone ∧ (s.cellsOf x).isNone
        ∧ !((s.shard x.owner).pend && (s.shard x.owner).states.isEmpty)
    then s.askFor x.owner x.epoch x else s) s

/-! ## Repair -/

/-- REPAIR_REQ_RETRY: a request with no complete response after 2 × EPOCH_LEN, or one EPOCH_LEN after BUSY, is repeated;
after 3 attempts of KIND EPOCH, those answered BUSY among them, it asks for KIND SHARD (R234; DESIGN CHOICE, log entry 153). -/
def execRepairReqRetry (tag : Nat) (s : State) : Res :=
  match s.img.repairs.find? (fun r => r.tag == tag && r.sent) with
  | none => .next s
  | some r =>
    let s := s.passTo (r.at_ + (if r.busy then 1 else 2) * s.epochLen)
    let kind := if r.kind = 0 ∧ 3 ≤ r.tries then 1 else r.kind
    let r' := { r with at_ := s.now, busy := false, tries := r.tries + 1, kind := kind, refs := [] }
    let s := { s with img := { s.img with repairs := s.img.repairs.map (fun x => if x = r then r' else x) } }
    .next (s.sendRepair r')

/-- A REPAIR_DATA cell to `dest` (R233). -/
def State.repairData (s : State) (dest tag status inner : Nat) (p : List Byte) : State :=
  s.originate 0 dest tREPAIR_DATA (beBytes 1 (inner + status * 64) ++ beBytes 1 tag ++ p)

/-- A BUSY response (R232). -/
def State.repairBusy (s : State) (dest tag : Nat) : State := (s.repairData dest tag 1 0 []).count pgIMG 10

/-- REPAIR_REQ_RX: at most 16 requests are served at once; a reserved KIND or field gets no response (R232). Bit 7 of bytes 10 and 11,
which R231 names neither a field nor reserved, is taken as reserved (DESIGN CHOICE, log entry 152). -/
def execRepairReqRx (s : State) : Res :=
  match s.takeCell 0 tREPAIR_REQ with
  | none => .next s
  | some (r, s) =>
    let p := r.cell.payload
    let w := beAt p 8 2
    let kind := bitsOf w 12 2
    let bad := kind == 3 || bitAt w 11 || bitsOf w 14 2 != 0 || decide (128 ≤ beAt p 10 1 ∨ 128 ≤ beAt p 11 1)
      || beAt p 13 3 != 0
    if bad then .next (s.count pgIMG 13)
    else if 16 ≤ s.img.serve.length then .next (s.repairBusy r.cell.src (beAt p 12 1))
    else
      let j : ServeJob := { src := r.cell.src, tag := beAt p 12 1, owner := w % 2048, epoch := beAt p 0 8, kind := kind,
                            first := beAt p 10 1, last := beAt p 11 1 }
      .next (State.repairSync { s with img := { s.img with serve := s.img.serve ++ [j] } })

/-- The REFRESH payloads of every non-empty slice of a shard (R220, R232). -/
def refreshPayloads (epoch owner tenure : Nat) (vals : List Nat) : List (List Byte) :=
  (List.range (sliceCount vals.length)).map (fun k =>
    beBytes 4 (epoch % 2 ^ 32) ++ beBytes 2 owner ++ beBytes 1 tenure ++ beBytes 1 k
      ++ ((vals.drop (16 * k)).take 16).flatMap (beBytes 4))

/-- The response of KIND SHARD: values and seal of the latest epoch sealed (R232). -/
def State.serveShard (s : State) (j : ServeJob) (o : OwnEpoch) : State :=
  let vals := o.pts.map (valAt o.vals)
  let s := (refreshPayloads o.epoch j.owner o.tenure vals).foldl (fun s p => s.repairData j.src j.tag 2 tREFRESH p) s
  s.repairData j.src j.tag 2 tSEAL s.img.lastSealPl

/-- REPAIR_SERVE: the response to the oldest request, by the first row of R232 that applies. -/
def execRepairServe (s : State) : Res :=
  match s.img.serve with
  | [] => .next s
  | j :: l =>
    let s := State.repairSync { s with img := { s.img with serve := l } }
    let last := (s.img.own.filter (fun x => x.sealed && x.owner == j.owner)).foldl (fun (a : Option OwnEpoch) x => match a with
      | some y => if y.epoch < x.epoch then some x else a
      | none => some x) none
    if j.kind = 0 ∨ j.kind = 1 then
      match last with
      | some o =>
        if j.owner ≠ s.pubId ∨ s.pubId = 0 then .next (s.repairBusy j.src j.tag)
        else
          let s := s.count pgIMG 9
          let held := s.sw.replay.filter (fun e => e.epoch == j.epoch)
          match held.find? (fun e => e.cell.typ == tSEAL), decide (j.kind = 0 ∧ !s.sw.replayBroken.contains j.epoch) with
          | some sl, true =>
            let s := (held.filter (fun e => e.cell.typ == tCHANGE
                && decide (j.first ≤ beAt e.cell.payload 7 1 % 128 ∧ beAt e.cell.payload 7 1 % 128 ≤ j.last))).foldl
              (fun s e => s.repairData j.src j.tag 0 tCHANGE e.cell.payload) s
            .next (s.repairData j.src j.tag 0 tSEAL sl.cell.payload)
          | _, _ => .next (s.serveShard j o)
      | none => .next (s.repairBusy j.src j.tag)
    else
      let rec_ := s.img.recs.get (fun _ => {}) j.owner
      let pts := shardPoints ((rec_.last.bind s.tableAt).getD s.img.cur) j.owner
      match rec_.last, s.on pgIMG IMG_STAT_FULL && s.on pgIMG IMG_CTRL_PROXY_EN && !pts.isEmpty with
      | some e, true =>
        let s := (s.count pgIMG 9).count pgIMG 17
        let vals := pts.map (fun q => valAt s.visVals q.1)
        let s := (refreshPayloads e j.owner rec_.tenure vals).foldl (fun s p => s.repairData j.src j.tag 3 tREFRESH p) s
        .next (s.repairData j.src j.tag 3 tSEAL
          (sealPayload e j.owner rec_.tenure true 0 0 s.sealCodes rec_.digest))
      | _, _ => .next (s.repairBusy j.src j.tag)

/-- The end of a RESYNC or PROXY response: the shard's state is replaced wholesale and verified by its digest (R232). -/
def State.resync (s : State) (r : RepairReq) (p : List Byte) (proxy : Bool) : State :=
  let n := beAt p 0 8
  let te := beAt p 10 1
  match s.tableAt n with
  | none => s.lostGen
  | some t =>
    let pts := shardPoints t r.owner
    let m := r.refs.foldl (fun m x => (List.range x.values.length).foldl (fun m j => match pts[16 * x.slice + j]? with
      | some q => setVal m q.1 (x.values.getD j 0)
      | none => m) m) []
    let d := digestOf (pts.map (fun q => (q.1, valAt m q.1)))
    let all := (List.range (sliceCount pts.length)).all (fun k => r.refs.any (fun x => x.slice == k))
    let clear := { s with img := { s.img with repairs := s.img.repairs.map (fun x =>
      if x.tag = r.tag then { x with refs := [] } else x) } }
    if !all then clear
    else if d ≠ beAt p 16 8 then (clear.count pgIMG 6).irq pgIMG 6
    else if s.lowTenure r.owner te then clear.count pgIMG 14
    else
      let sh := s.shard r.owner
      let s := s.setShard r.owner { sh with tenure := some te, staleFrom := if proxy then some (n + 1) else sh.staleFrom }
      let s := s.addVer r.owner ⟨n, te, d, m⟩
      let s := { s with img := { s.img with upset := s.img.upset.filter (fun o => o != r.owner) } }
      if !proxy && decide (r.epoch < n) && ((s.shard r.owner).at? r.epoch).isNone then
        { s with img := { s.img with repairs := s.img.repairs.map (fun x =>
          if x.tag = r.tag then { x with refs := [], kind := 0, first := 0, last := 99, tries := 1, at_ := s.now } else x) } }
      else s.dropRepairs (fun x => x.tag == r.tag)

/-- REPAIR_DATA_RX: the wrapped payload of a response (R232, R233). -/
def execRepairDataRx (s : State) : Res :=
  match s.takeCell 0 tREPAIR_DATA with
  | none => .next s
  | some (c, s) =>
    let p := c.cell.payload
    let inner := beAt p 0 1 % 64
    let st := beAt p 0 1 / 64
    let q := p.drop 2
    match s.img.repairs.find? (fun r => r.tag == beAt p 1 1 && r.sent) with
    | none => .next s
    | some r =>
      if st = 1 then
        .next { s with img := { s.img with repairs := s.img.repairs.map (fun x =>
          if x = r then { x with busy := true, at_ := s.now } else x) } }
      else if st = 0 then
        if inner = tCHANGE then .next (s.holdChange q c.cell.src)
        else if inner = tSEAL then .next ((s.holdSeal q c.cell.src none).dropRepairs (fun x => x.tag == r.tag))
        else .next s
      else if inner = tREFRESH then
        let n := s.epochFrom (beAt q 0 4)
        match s.tableAt n with
        | none => .next s.lostGen
        | some t =>
          if !refreshValid (shardPoints t r.owner) q then .next (s.count pgIMG 13)
          else
            let x : HeldRefresh := { owner := r.owner, epoch := n, tenure := beAt q 6 1, slice := beAt q 7 1,
                                     values := refreshValues q }
            .next { s with img := { s.img with repairs := s.img.repairs.map (fun y =>
              if y = r then { y with refs := y.refs ++ [x] } else y) } }
      else if inner = tSEAL then .next (s.resync r q (st == 3))
      else .next s

/-- PROXY_SHARD_REQUEST: no seal of a PENDING shard in SETTLE + 1 consecutive epochs of collection; the request goes to
the East neighbour, or to the West one while the East link is not UP (R237). -/
def execProxyShardRequest (owner : Nat) (s : State) : Res :=
  let sh := s.shard owner
  let since := max s.img.colEpoch ((sh.heard.map (· + 1)).getD 0)
  let dest := s.rd (if s.linkUp 0 then pgLINK else pgLINK + 1) LINK_STAT_NEIGH_ID
  if s.on pgIMG IMG_STAT_COLLECTING && sh.pend && sh.states.isEmpty && (tableOwners s.img.cur).contains owner
      && decide (s.epoch ≠ ones64 ∧ since + s.settle_ + 1 ≤ s.epoch ∧ dest ≠ 0) then
    .next (s.askRepair owner s.epoch 2 0 0 dest)
  else .next s

/-! ## Publication -/

/-- The hub may publish an epoch (R214). -/
def State.mayPublish (s : State) : Bool :=
  s.locked && s.heldId && decide (nsJOIN ≤ s.node ∧ s.node ≤ nsQUIET) && !s.cfgStops
    && s.pubId != 0 && !(shardPoints s.img.cur s.pubId).isEmpty

/-- How many CHANGE cells a change set takes (R217). -/
def changeCells (n : Nat) : Nat := (n + 40) / 41

/-- The CHANGE payload of cell `k` of an epoch this hub publishes (R217, R218). -/
def OwnEpoch.changePayload (x : OwnEpoch) (k : Nat) : List Byte :=
  beBytes 4 (x.epoch % 2 ^ 32) ++ beBytes 2 x.owner ++ beBytes 1 x.tenure ++ beBytes 1 k
    ++ ((x.entries.drop (41 * k)).take 41).flatMap (fun e => beBytes 2 e.1 ++ beBytes 4 e.2)

/-- Replaces the record of an epoch this hub publishes. -/
def State.setOwn (s : State) (x : OwnEpoch) : State :=
  { s with img := { s.img with own := s.img.own.map (fun y => if y.epoch = x.epoch then x else y) } }

/-- Admits an image cell of this hub's own with the generation in force at t_s of its epoch, keeping its REPLAY copy where it is a
CHANGE or a seal (R148, R217). -/
def State.imageCell (s : State) (typ gen : Nat) (replay : Option Nat) (p : List Byte) : State :=
  s.submit { cell := { typ := typ, dkind := 2, payload := p, mapgen := gen }, fixedGen := true, replay := replay, port := none }

/-- Admits the CHANGE cells of an epoch that are still to go (R217, R250). -/
def State.publish (s : State) (x : OwnEpoch) : State :=
  let n := changeCells x.entries.length
  let s := (List.range (n - x.sent)).foldl (fun s k =>
    (s.imageCell tCHANGE x.gen (some x.epoch) (x.changePayload (x.sent + k))).count pgIMG 16) s
  s.setOwn { x with sent := n }

/-- The epoch in progress as this hub publishes it. -/
def State.ownNow (s : State) : Option OwnEpoch := 
  s.img.own.find? (fun x => x.epoch == s.epoch && !x.sealed && x.owner == s.pubId && x.tenure == s.rd pgIMG IMG_OWN_TENURE)

/-- CHANGE_PUBLISH: the CHANGE cells of the epoch in progress, in ascending CELL_NO (R217). -/
def execChangePublish (s : State) : Res :=
  match s.ownNow with
  | some x => if s.mayPublish then .next (s.publish x) else .next s
  | none => .next s

/-- Admits the seal of an epoch and its REFRESH cell, and takes the epoch as this hub's own verified state of the shard
(R219, R220, R224, R247). -/
def State.sealEpoch (s : State) (x : OwnEpoch) : State :=
  let pl := sealPayload x.epoch x.owner x.tenure x.full (changeCells x.entries.length) x.entries.length s.sealCodes x.digest
  let s := (s.imageCell tSEAL x.gen (some x.epoch) pl).count pgIMG 15
  let s := s.wr64 pgIMG IMG_SEALED_EPOCH_LO_W IMG_SEALED_EPOCH_HI_W x.epoch
  let s := (s.setOwn { x with sealed := true }).wr pgIMG IMG_STAT_PUBLISHING 1
  let s := { s with img := { s.img with lastSealPl := pl, lastPub := some x.epoch } }
  let sh := s.shard x.owner
  let s := s.setShard x.owner { sh with tenure := some x.tenure, lastSeal := some x.epoch, src := s.nodeId }
  let s := s.addVer x.owner ⟨x.epoch, x.tenure, x.digest, x.vals⟩
  let vals := x.pts.map (valAt x.vals)
  let k := (x.epoch + x.owner) % 256
  if 16 * k < vals.length then
    s.imageCell tREFRESH x.gen none ((refreshPayloads x.epoch x.owner x.tenure vals).getD k [])
  else s

/-- SEAL_TX: at SEAL_AT, once every CHANGE cell is admitted (R215, R219). -/
def execSealTx (s : State) : Res :=
  match s.ownNow with
  | some x =>
    if s.mayPublish && decide (x.sent = changeCells x.entries.length) then
      let s := s.passRing (s.tS x.epoch + s.rd pgIMG IMG_EPOCH_SEAL_AT * s.epochLen / 8)
      .next (s.sealEpoch x)
    else .next s
  | none => .next s

/-! ## Point-map changes -/

/-- STATE of PMAP_STAT: 0 IDLE, 1 VALID, 2 ARMED, 3 INVALID (R253). -/
def State.pmapState (s : State) : Nat := s.rd pgPMAP PMAP_STAT_STATE

/-- A refused PMAP command writes ERROR (R254). -/
def State.pmapRefuse (s : State) (e : Nat) : State := s.wr pgPMAP PMAP_STAT_ERROR e

/-- Writes the pair of staged multicast membership registers. -/
def State.setMcastStage (s : State) (v : Nat) : State := s.wr64 pgPMAP PMAP_MCAST_LO_MEMBER PMAP_MCAST_HI_MEMBER v

/-- PMAP_COPY: the current map into staging, with STATE back at IDLE (DESIGN CHOICE, log entry 154); refused while ARMED (R241, R254). -/
def execPmapCopy (s : State) : Res :=
  if !s.takes pgPMAP then .next s else
  if s.pmapState = 2 then .next (s.pmapRefuse 7)
  else
    let s := { s with img := { s.img with stg := s.img.cur } }
    .next ((s.setMcastStage (s.rd64 pgSWC SWC_MCAST_CUR_LO_MEMBER SWC_MCAST_CUR_HI_MEMBER)).wr pgPMAP PMAP_STAT_STATE 0)

/-- PMAP_VALIDATE: validation of the staged map starts (R254). -/
def execPmapValidate (s : State) : Res :=
  if !s.takes pgPMAP then .next s else
  if s.pmapState = 2 then .next (s.pmapRefuse 7)
  else .next { s with img := { s.img with pmapBusy := true } }

/-- The first failure of a staged table in address order: error, owner, segment (R254). -/
def tableError (t : SMap Nat) : Option (Nat × Nat × Nat) :=
  let bad (e : Nat × Nat) : Nat :=
    let pol := bitsOf e.2 32 2
    if e.1 < 8 ∧ e.2 ≠ 0 then 5
    else if pol = 3 ∨ (pol = 1 ∧ bitsOf e.2 34 11 = 0) ∨ 2 ^ 45 ≤ e.2 then 4
    else if 131072 < segFirst e.2 + segCount e.2 then 2
    else if 4096 < (List.range 8).foldl (fun a k => a + segCount (tableEntry t (e.1 / 8) k)) 0 then 3
    else if segCount e.2 ≠ 0 ∧ t.any (fun x => decide (x.1 < e.1 ∧ segCount x.2 ≠ 0
        ∧ segFirst x.2 < segFirst e.2 + segCount e.2 ∧ segFirst e.2 < segFirst x.2 + segCount x.2)) then 1
    else 0
  (t.find? (fun e => bad e != 0)).map (fun e => (bad e, e.1 / 8, e.1 % 8))

/-- PMAP_VALIDATE_DONE: within 1 ms, with VALID, which clears ERROR (DESIGN CHOICE, log entry 154), or INVALID; a map armed meanwhile
was VALID and stays ARMED (R254, R256). -/
def execPmapValidateDone (s : State) : Res :=
  if !s.img.pmapBusy then .next s
  else
    let s := { s with img := { s.img with pmapBusy := false } }
    let s := if s.pmapState = 2 then s else match tableError s.img.stg with
      | none => (s.wr pgPMAP PMAP_STAT_STATE 1).wr pgPMAP PMAP_STAT_ERROR 0
      | some (e, o, k) =>
        let s := (s.wr pgPMAP PMAP_STAT_STATE 3).wr pgPMAP PMAP_STAT_ERROR e
        ((s.wr pgPMAP PMAP_STAT_ERR_OWNER o).wr pgPMAP PMAP_STAT_ERR_SEG k).count pgPMAP 1
    .next (s.irq pgPMAP 2)

/-- PMAP_AT (R251). -/
def State.pmapAt (s : State) : Nat := s.rd64 pgPMAP PMAP_AT_LO_EPOCH PMAP_AT_HI_EPOCH

/-- PMAP_ARM: accepted only in VALID, with E at least 2 epochs ahead and SETTLE + 1 after the last advance (R241). -/
def execPmapArm (s : State) : Res :=
  if !s.takes pgPMAP then .next s else
  if s.pmapState ≠ 1 then .next (s.pmapRefuse 7)
  else if s.epoch = ones64 ∨ s.pmapAt < s.epoch + 2 ∨ s.img.lastAdv.any (fun a => decide (s.pmapAt < a + s.settle_ + 1)) then .next (s.pmapRefuse 6)
  else .next (s.wr pgPMAP PMAP_STAT_STATE 2)

/-- PMAP_DISARM: ARMED returns to VALID (R254). -/
def execPmapDisarm (s : State) : Res :=
  if !s.takes pgPMAP then .next s else
  if s.pmapState = 2 then .next (s.wr pgPMAP PMAP_STAT_STATE 1) else .next (s.pmapRefuse 7)

/-- PMAP_ADOPT: the staged map, whose row 0 reads 0, is current at once as generation `gen`, and collection restarts (R210, R244). -/
def execPmapAdopt (gen : Nat) (s : State) : Res :=
  if !s.takes pgPMAP then .next s else
  if nsJOIN ≤ s.node ∧ s.node ≤ nsQUIET ∧ (!s.on pgIMG IMG_STAT_FULL ∨ s.on pgIMG IMG_STAT_LAG) then
    let s := { s with img := { s.img with
      cur := s.img.stg.keep (fun k => decide (8 ≤ k)), prev := [], advAt := 0, heldFrom := 0 } }
    let s := (s.wr pgSWC SWC_MAPGEN_CURRENT gen).wr pgSWC SWC_MAPGEN_PREV_VALID 0
    let s := s.wr64 pgSWC SWC_MCAST_PREV_LO_MEMBER SWC_MCAST_PREV_HI_MEMBER 0
    let s := s.wr64 pgSWC SWC_MCAST_CUR_LO_MEMBER SWC_MCAST_CUR_HI_MEMBER
      (s.rd64 pgPMAP PMAP_MCAST_LO_MEMBER PMAP_MCAST_HI_MEMBER)
    .next ((s.wr pgPMAP PMAP_STAT_NEXT_GEN ((gen + 1) % 256)).collect true)
  else .next (s.pmapRefuse 7)

/-- A write to the staged entry that PMAP_SEL selects (which 0) or to the staged membership (1), as one 64-bit value;
without effect while ARMED (R251, R252). -/
def State.pmapStageWrite (s : State) (which value : Nat) : State :=
  if s.pmapState = 2 then s.irq pgPMAP 5
  else
    let s := s.wr pgPMAP PMAP_STAT_STATE 0
    if which = 0 then
      let k := 8 * s.rd pgPMAP PMAP_SEL_OWNER + s.rd pgPMAP PMAP_SEL_SEG
      { s with img := { s.img with stg := setVal s.img.stg k (value % 2 ^ 64) } }
    else s.setMcastStage (value % 2 ^ 64)

/-- PMAP_STAGE_WRITE (R251, R252); the fields are RW, so LOCK blocks them (R63). -/
def execPmapStageWrite (which value : Nat) (s : State) : Res :=
  if s.openTo pgPMAP then .next (s.pmapStageWrite which value) else .next s

/-- An armed map becomes the current generation at t_s(E) (R155, R242). -/
def State.mapAdvance (s : State) (e : Nat) : State :=
  let g := s.rd pgSWC SWC_MAPGEN_CURRENT
  let own := (List.range 8).map (tableEntry s.img.cur s.shardId)
  let own' := (List.range 8).map (tableEntry s.img.stg s.shardId)
  let s := { s with img := { s.img with
    prev := s.img.cur, cur := s.img.stg, heldFrom := s.img.advAt, advAt := e, lastAdv := some e,
    forceFull := s.img.forceFull || decide (own ≠ own') } }
  let m := s.rd64 pgSWC SWC_MCAST_CUR_LO_MEMBER SWC_MCAST_CUR_HI_MEMBER
  let s := s.wr64 pgSWC SWC_MCAST_PREV_LO_MEMBER SWC_MCAST_PREV_HI_MEMBER m
  let s := s.wr64 pgSWC SWC_MCAST_CUR_LO_MEMBER SWC_MCAST_CUR_HI_MEMBER
    (s.rd64 pgPMAP PMAP_MCAST_LO_MEMBER PMAP_MCAST_HI_MEMBER)
  let s := ((s.wr pgSWC SWC_MAPGEN_PREVIOUS g).wr pgSWC SWC_MAPGEN_PREV_VALID 1).wr pgSWC SWC_MAPGEN_CURRENT ((g + 1) % 256)
  let s := (s.wr pgPMAP PMAP_STAT_NEXT_GEN ((g + 2) % 256)).wr pgPMAP PMAP_STAT_STATE 0
  (s.irq pgPMAP 3).count pgPMAP 0

/-- The staged table as stored, in address order (R210, R255). -/
def tableBytes (t : SMap Nat) : List Byte := (List.range 16384).flatMap (fun k => leBytes 8 (t.get (fun _ => 0) k))

/-- PMAP_SUM (R255). -/
def State.pmapSum (s : State) : Nat :=
  if s.pmapState = 1 ∨ s.pmapState = 2 then crc32c (tableBytes s.img.stg) else 0

/-! ## Margins and pinned views -/

/-- MARGIN_CLEAR: IMG_MARGIN_CFG.CLEAR (R248). -/
def execMarginClear (s : State) : Res :=
  if !s.takes pgIMG then .next s else
  let s := (s.wr pgIMG IMG_SETTLE_MARGIN_MIN1 0x7FFF).wr pgIMG IMG_SETTLE_MARGIN_MIN2 0x7FFF
  .next ((s.wr pgIMG IMG_MARGIN_WORST_OWNER 0).wr pgIMG IMG_MARGIN_WORST_EPOCH 0)

/-- The lease in ns (R283). -/
def State.lease (s : State) : Nat := max 1 (s.rd pgIMG IMG_PIN_CFG_LEASE) * 1000000

/-- A pin is held. -/
def State.pinHeld (s : State) : Bool := s.on pgIMG IMG_PIN_STAT_STATE

/-- RENEW with the holder's tag restarts the lease (R264). -/
def execRenew (tag : Nat) (s : State) : Res :=
  if !s.takes pgIMG then .next s else
  if s.pinHeld ∧ s.rd pgIMG IMG_PIN_STAT_TAG = tag % 256
  then .next { s with img := { s.img with pinUntil := s.now + s.lease } } else .next s

/-- The pin is released: the pinned view reads 0, IMG_PIN_EPOCH all ones, and a PINNED bank is a SPARE to be brought into
step (R257, R265). -/
def State.unpin (s : State) : State :=
  let s := (s.wr pgIMG IMG_PIN_STAT_STATE 0).wr pgIMG IMG_PIN_STAT_TAG 0
  let s := s.wr64 pgIMG IMG_PIN_EPOCH_LO_EPOCH IMG_PIN_EPOCH_HI_EPOCH ones64
  let s := if s.rd pgIMG IMG_BANK_THIRD_ROLE = 2 then s.wr pgIMG IMG_BANK_THIRD_ROLE 1 else s
  { s with img := { s.img with pinFresh := false } }

/-- UNPIN with the holder's tag (R264). -/
def execUnpin (tag : Nat) (s : State) : Res :=
  if !s.takes pgIMG then .next s else
  if s.pinHeld ∧ s.rd pgIMG IMG_PIN_STAT_TAG = tag % 256 then .next s.unpin else .next s

/-- PIN_LEASE_EXPIRY: PIN_EXPIRED and counter 22 (R264). -/
def execPinLeaseExpiry (s : State) : Res :=
  if s.pinHeld then .next (((s.passTo s.img.pinUntil).unpin.irq pgIMG 11).count pgIMG 22) else .next s

/-- BANK_CATCHUP_DONE: the bank being brought into step is in step, SHADOW first: SHADOW with the last commit and what is verified since,
the SPARE with SHADOW (R258, R260, R284). -/
def execBankCatchupDone (s : State) : Res :=
  let sh := s.rd pgIMG IMG_BANK_SHADOW
  if s.on pgIMG IMG_BANK_SHADOW_CATCHUP then
    .next ((s.bankFollow sh (s.rd pgIMG IMG_BANK_VISIBLE)).wr pgIMG IMG_BANK_SHADOW_CATCHUP 0).shadowFill
  else if s.rd pgIMG IMG_BANK_THIRD_ROLE = 1 then
    .next ((s.bankFollow (s.rd pgIMG IMG_BANK_THIRD) sh).wr pgIMG IMG_BANK_THIRD_ROLE 0)
  else .next s

end Sys2Proof.Machine
end

