-- ==== Sys2Proof/Machine/Hosts.lean ====
section
/-!
DEFINITION. How the host ports answer (R38, R491, R509): statuses, the failure record of the PCIe port (R512, R517), the
response of a QSPI frame (R520, R523), and the response of a USB tunnel request (R531).
-/
namespace Sys2Proof.Machine

/-! ## Statuses of an access (R38, R491) -/

def stOK : Nat := 0
def stUNMAPPED : Nat := 1
def stREAD_ONLY : Nat := 2
def stALIGN : Nat := 3
def stLOCKED : Nat := 4
def stBUSY : Nat := 5
def stNOT_OWNER : Nat := 6
def stWRITER_REFUSED : Nat := 7
def stWAIT_EXPIRED : Nat := 8
def stDROPPED : Nat := 9
def stLOST : Nat := 0xA
def stTIMEOUT : Nat := 0xB
def stUNREACHABLE : Nat := 0xC
def stDENIED : Nat := 0xD
def stDISCARDED : Nat := 0xE
def stCOLLECT_ONLY : Nat := 0xF

def stCRC_ERR : Nat := 0x10
def stBAD_OP : Nat := 0x11
def stUSE_TICKET : Nat := 0x12
def stNOT_READY : Nat := 0x13
def stNO_SLOT : Nat := 0x14
def stAUTH_REQUIRED : Nat := 0x15

/-- PAGE_CTRL.EN of a host port's page stops the port once the Foundation has set it; before, and in RECOVERY, the ports serve
(R46, R47, R88; DESIGN CHOICE, log entry 104). -/
def State.portOn (s : State) (p : Nat) : Bool := s.enabled p || !s.ring.configured || s.node == nsRECOVERY

/-- The QSPI and USB ports answer from step 3 of start-up, or from entry to RECOVERY (R88); the QSPI pins need their bank's supply
(R704). -/
def State.portsServe (s : State) (p : Nat) : Bool :=
  s.portOn p && !(p == pgQSH && s.dark 34) && (decide (3 ≤ s.rd pgPWRST PWRST_STATE_STEP) || s.node == nsRECOVERY)

/-- The USB port attaches while USB_VBUS is high, not before it serves (R527, R539). -/
def State.usbAttach (s : State) : State :=
  if s.on pgUSB USB_STAT_VBUS && s.portsServe pgUSB && s.rd pgUSB USB_STAT_STATE == 0 then (s.wr pgUSB USB_STAT_STATE 1).irq pgUSB 2
  else s

/-- Words as bytes in address order (R7). -/
def wordBytes (ws : List Nat) : List Byte := ws.flatMap (leBytes 4)

/-- A failed access of the PCIe port is recorded (R512, R517, R518). -/
def State.pcieErr (s : State) (addr status : Nat) (bar2 write : Bool) : State :=
  let s := (s.wr pgPCIE PCIE_ERR_ADDR_LO_ADDR (addr % 2 ^ 32)).wr pgPCIE PCIE_ERR_ADDR_HI_ADDR (addr / 2 ^ 32)
  let s := ((s.wr pgPCIE PCIE_ERR_STAT_STATUS status).wr pgPCIE PCIE_ERR_STAT_BAR2 (b2n bar2)).wr pgPCIE
    PCIE_ERR_STAT_WRITE (b2n write)
  let s := (s.wr pgPCIE PCIE_ERR_STAT_VALID 1).wr pgPCIE PCIE_ERR_STAT_COUNT (satInc 0xFFFF (s.rd pgPCIE PCIE_ERR_STAT_COUNT))
  (s.irq pgPCIE 3).count pgPCIE 4

/-- One bit of the CRC-16 of R523: polynomial 0x1021, not reflected. -/
def crc16Bit (c : Nat) : Nat := if 0x8000 ≤ c then (c * 2 % 0x10000) ^^^ 0x1021 else c * 2

/-- One byte of the CRC-16 (R523). -/
def crc16Byte (c : Nat) (b : Byte) : Nat :=
  crc16Bit (crc16Bit (crc16Bit (crc16Bit (crc16Bit (crc16Bit (crc16Bit (crc16Bit (c ^^^ (b.toNat * 256)))))))))

/-- The CRC-16 of R523: initial value 0xFFFF, no final exclusive-OR. -/
def crc16 (l : List Byte) : Nat := l.foldl crc16Byte 0xFFFF

/-- A QSH_ERR bit is set, and FRAME_ERR with it (R525, R526). -/
def State.qshErr (s : State) (f : Field) : State := (s.wr pgQSH f 1).irq pgQSH 2

/-- The response phase of a QSPI frame: marker, STATUS, data words, RCRC; none is driven once QSH_CS_N has risen (R520, R522,
R525, R526). -/
def State.qshAnswer (s : State) (status : Nat) (ws : List Nat) : State :=
  let body := beBytes 1 status ++ ws.flatMap (beBytes 4)
  let s := State.wr { s with qsh := { s.qsh with waiting := false } } pgQSH QSH_STAT_LAST_STATUS status
  let s := if s.qsh.frame then s.emit (.qsh (beBytes 1 0x5A ++ body ++ beBytes 2 (crc16 body))) else s
  if status = stBAD_OP then (s.qshErr QSH_ERR_BAD_OP).count pgQSH 8
  else if status = stCRC_ERR then (s.qshErr QSH_ERR_DCRC).count pgQSH 6
  else if status = stWAIT_EXPIRED then s.qshErr QSH_ERR_WAIT_EXPIRED
  else if status = stNOT_READY then s.count pgQSH 9
  else s

/-- The response of a tunnel request on endpoint 0x81, held while the port is SUSPENDED (R531, R532, R536). -/
def State.tunnelAnswer (s : State) (op seq status : Nat) (ws : List Nat) : State :=
  let bytes := leBytes 1 op ++ leBytes 1 status ++ leBytes 2 seq ++ leBytes 2 (4 * ws.length) ++ leBytes 2 0 ++ wordBytes ws
  let s := { s with usb := { s.usb with reading := none } }
  if s.rd pgUSB USB_STAT_STATE = 4 then { s with usb := { s.usb with held := s.usb.held ++ [bytes] } }
  else (s.usbMoved 0x81 bytes.length).emit (.usb 0x81 bytes)

/-- Responses of the tunnel not yet collected are discarded, those of the request still executing and of the requests received whole
included, which are executed with the authentication that they came with (R535). -/
def State.tunnelFlush (s : State) : State :=
  let auth := s.on pgUSB USB_STAT_AUTH
  { s with usb := { s.usb with
    held := [], reading := s.usb.reading.map (fun (r : TunnelRead) => { r with drop := true }),
    reqs := s.usb.reqs.map (fun (r : TunnelReq) => { r with drop := true, auth := r.auth || auth }) } }

/-- The USB port detaches; authentication ends, and a nonce stays (R527, R533, R538, R539). -/
def State.usbDetach (s : State) : State :=
  let was := s.rd pgUSB USB_STAT_STATE != 0
  let s := State.tunnelFlush { s with usb := { s.usb with halted := [], toggle := [], test := 0 } }
  let s := ((s.wr pgUSB USB_STAT_STATE 0).wr pgUSB USB_STAT_ADDRESS 0).wr pgUSB USB_STAT_RWAKE_EN 0
  let s := (s.wr pgUSB USB_STAT_AUTH 0).wr pgUSB USB_STAT_HIGH_SPEED 0
  if was then s.irq pgUSB 2 else s

/-- A remote read of the PCIe port whose request is lost: its data will be discarded (R516). -/
def ReadCtx.lose (c : ReadCtx) : ReadCtx := { c with gone := c.gone || c.ini == .pcie }

/-- The configuration space returns to its reset values and every window is closed; the data of the port's remote reads still
outstanding will be discarded (R516). -/
def State.pcieConfigReset (s : State) : State :=
  let s := { s with pcie := {}, brg := { s.brg with ctx := s.brg.ctx.map (fun e => (e.1, if e.2.used then e.2.lose else e.2)),
                                                    waiting := s.brg.waiting.map (·.lose) } }
  let s := [PCIE_STAT_BME, PCIE_STAT_MSIX_EN, PCIE_STAT_FMASK, PCIE_STAT_D3].foldl (fun s f => s.wr pgPCIE f 0) s
  (List.range 64).foldl (fun s k => s.wr pgPCIE PCIE_WINk_EN 0 k) s

/-- The link goes down (R516 to R518). -/
def State.pcieDown (s : State) : State :=
  if !s.on pgPCIE PCIE_STAT_LINK_UP then s
  else
    let s := ((s.wr pgPCIE PCIE_STAT_LINK_UP 0).wr pgPCIE PCIE_STAT_SPEED 0).wr pgPCIE PCIE_STAT_WIDTH 0
    (s.pcieConfigReset.irq pgPCIE 2).count pgPCIE 5

/-- The PCIe and USB ports follow their pages' EN. -/
def State.portsSync (s : State) : State :=
  let s := if s.portOn pgPCIE then s else s.pcieDown
  if s.portOn pgUSB then s.usbAttach else s.usbDetach

/-- An access of a port completes: a QSPI frame or a tunnel request that waits for it is answered, data only with OK. -/
def State.rsp (s : State) (ini : Initiator) (status : Nat) (data : List Nat) : State :=
  match ini with
  | .qsh => if s.qsh.waiting then s.qshAnswer status (if status = stOK then data else []) else s.emit (.rsp ini status data)
  | .usb => match s.usb.reading with
    | some r =>
      if r.drop then { s with usb := { s.usb with reading := none } }
      else s.tunnelAnswer r.op r.seq status (if status = stOK then data else [])
    | none => s.emit (.rsp ini status data)
  | _ => s.emit (.rsp ini status data)

/-- A remote read completes; a failure is recorded for the PCIe port, whose data are discarded while its link is down (R514,
R516). -/
def State.readDone (s : State) (ini : Initiator) (node addr status : Nat) (data : List Nat) : State :=
  if ini = .pcie ∧ !s.on pgPCIE PCIE_STAT_LINK_UP then s
  else (if ini == .pcie && status != stOK then s.pcieErr (node * 2 ^ 29 + addr) status true false else s).rsp ini status data

/-- An address in page space (R33). -/
def inPages (a : Nat) : Bool := decide (a < 0x01000000)

/-- Accesses of an initiator are executed: not while a cause holds the hub in reset, those of the QSPI and USB ports only where the port
answers (R73, R88). -/
def State.iniServes (s : State) (ini : Initiator) : Bool :=
  s.held.isEmpty && match ini with
    | .qsh => s.portsServe pgQSH
    | .usb => s.portsServe pgUSB
    | _ => true

/-- An access of `len` bytes needs authentication that the USB port does not have: every write, and every access that reaches the KEY
page of a node (R534). -/
def State.authMissing (s : State) (write : Bool) (addr len : Nat) : Bool :=
  !s.on pgUSB USB_STAT_AUTH
    && (write || decide (addr % 2 ^ 29 / 0x1000 ≤ pgKEY ∧ pgKEY ≤ (addr % 2 ^ 29 + (len - 1)) / 0x1000))

/-- The same for an access of any port. -/
def State.noAuth (s : State) (ini : Initiator) (write : Bool) (addr len : Nat) : Bool := ini == .usb && s.authMissing write addr len

/-- An access that needs authentication is refused (R534). -/
def State.authRefused (s : State) (ini : Initiator) : State := (s.rsp ini stAUTH_REQUIRED []).count pgUSB 3

/-- A write waits for the housekeeping core beyond the 16 that are queued (R508, R638). -/
def State.hkWait (s : State) (page off : Nat) (w : LaneWait) : State :=
  { s with hk := { s.hk with waits := s.hk.waits ++ [⟨page, off, w⟩] } }

/-- A register write to a page of the housekeeping core during a restart: up to 16 are queued and complete with OK; a
further one waits at most 100 µs (R508, R638). -/
def State.hkDefer (s : State) (ini : Initiator) (page off data : Nat) : State :=
  if s.hk.queue.length < 16 then { s with hk := { s.hk with queue := s.hk.queue ++ [⟨ini, page, off, data⟩] } }
  else s.hkWait page off { ini := ini, data := data, fin := false, at_ := s.now, addr := page * 0x1000 + off }

end Sys2Proof.Machine
end

