-- ==== Sys2Proof/Machine/Bridge.lean ====
section
/-!
DEFINITION. The bridge as initiator (R484 to R507): posted writes, the posted-error log, reads, prefetch and collection
slots; and the demands (R272 to R276), which it carries.  What executes at a target is in Access.lean.
-/
namespace Sys2Proof.Machine

/-! ## The posted-error log -/

/-- An entry of 32 bytes as a number, byte 0 lowest (R493). -/
def perrEntry (time addr ini kind tag wseq count : Nat) (multi nohist local_ : Bool) (logged : Nat) : Nat :=
  time % 2 ^ 64 + (addr % 2 ^ 40 + ini % 16 * 2 ^ 40 + kind % 16 * 2 ^ 44 + tag % 2 ^ 16 * 2 ^ 48) * 2 ^ 64
    + (wseq % 2 ^ 16 + count % 2 ^ 16 * 2 ^ 16 + (b2n multi + 2 * b2n nohist + 4 * b2n local_) * 2 ^ 32) * 2 ^ 128
    + logged % 2 ^ 64 * 2 ^ 192

/-- An entry is written, or discarded while the log of 16 is full (R493). -/
def State.perrAdd (s : State) (e : Nat) : State :=
  if 16 ≤ s.brg.perr.length then
    let s := (s.wr pgBRG BRG_PERR_STAT_OVF 1).wr pgBRG BRG_PERR_STAT_OVF_COUNT
      (satInc 0xFFFF (s.rd pgBRG BRG_PERR_STAT_OVF_COUNT))
    (s.irq pgBRG 3).count pgBRG 6
  else
    let s := { s with brg := { s.brg with perr := s.brg.perr ++ [e] } }
    let s := (s.wr pgBRG BRG_PERR_STAT_FILL s.brg.perr.length).irq pgBRG 2
    if bitsOf e 104 4 = 3 then s.usbWake 2 else s

/-- BRG_PERR_POP removes the head entry (R506). -/
def State.perrPop (s : State) : State :=
  match s.brg.perr with
  | [] => s
  | _ :: l => State.wr { s with brg := { s.brg with perr := l } } pgBRG BRG_PERR_STAT_FILL l.length

/-- A failure found by the initiator hub is logged with LOCAL (R492, R502). -/
def State.perrLocal (s : State) (addr ini kind tag wseq : Nat) (multi : Bool) : State :=
  s.perrAdd (perrEntry s.ringNow addr ini kind tag wseq 1 multi false true s.ringNow)

/-! ## Posted writes -/

/-- A node is absent: the ring view is valid and holds no TOPO of it, or this hub may not source the cell (R492; log
entry 25). -/
def State.absent (s : State) (x : Nat) : Bool :=
  !s.maySource tBRG_WRITE
    || (s.on pgLINK RING_STAT_TOPO_VALID
        && !s.ring.topo.any (fun e => e.src == x && decide (s.now ≤ e.at_ + 192000000)))

/-- The WSEQ after `w`, from 1 to 0xFFFF (R488). -/
def wseqNext (w : Nat) : Nat := if 0xFFFF ≤ w then 1 else w + 1

/-- The payload of a BRG_WRITE (R485). -/
def writePayload (addr ini : Nat) (multi : Bool) (tag wseq : Nat) (data : List Byte) : List Byte :=
  beBytes 4 (addr % 2 ^ 29) ++ beBytes 1 ini ++ beBytes 1 (b2n multi) ++ beBytes 2 tag ++ beBytes 2 wseq ++ beBytes 6 0 ++ data

/-- Two ranges of bytes overlap. -/
def overlap (a n b m : Nat) : Bool := decide (a < b + m ∧ b < a + n)

/-- This hub's write invalidates the prefetch entries it overlaps, on one node or on every node (R496). -/
def State.pfInvalidate (s : State) (node : Option Nat) (addr len : Nat) : State :=
  let hit (e : PfEnt) : Bool := (match node with
    | some x => e.node == x
    | none => true) && overlap e.addr e.data.length addr len
  let n := (s.brg.pf.filter hit).length
  State.count { s with brg := { s.brg with pf := s.brg.pf.filter (fun e => !hit e) } } pgBRG 10 n

/-- One unicast BRG_WRITE of up to 240 bytes (R485, R487, R488, R493). -/
def State.postCell (s : State) (node addr ini tag : Nat) (data : List Byte) : State :=
  if s.absent node then s.perrLocal (node * 2 ^ 29 + addr) ini stUNREACHABLE tag 0 false
  else
    let w := wseqNext (s.brg.wtx.get (fun _ => 0) node)
    let s := { s with brg := { s.brg with
      wtx := s.brg.wtx.set (fun _ => 0) node w,
      hist := (SentWrite.mk node w addr ini tag :: s.brg.hist).take 256 } }
    let s := (s.pfInvalidate (some node) addr data.length).count pgBRG 0
    s.originate 0 node tBRG_WRITE (writePayload addr ini false tag w data)

/-- A posted write of any length: cells of up to 240 bytes in ascending address order (R485). -/
def State.post : Nat → State → Nat → Nat → Nat → Nat → List Byte → State
  | 0, s, _, _, _, _, _ => s
  | k + 1, s, node, addr, ini, tag, data =>
    if data.isEmpty then s
    else State.post k (s.postCell node addr ini tag (data.take 240)) node (addr + 240) ini tag (data.drop 240)

/-- A node field that names this hub (R31). -/
def State.isHere (s : State) (node : Nat) : Bool := node == 0 || node == s.nodeId

/-- BRG_TAG of an initiator (R484). -/
def State.tagOf (s : State) (ini : Initiator) : Nat := s.rd pgBRG BRG_TAG_TAG 0 ini.num

/-- A posted write of a port: it completes with OK when the hub admits its last cell (R487, R508). -/
def State.postWrite (s : State) (ini : Initiator) (node addr : Nat) (words : List Nat) : State :=
  let t := State.post (words.length + 1) s node addr ini.num (s.tagOf ini) (wordBytes words)
  match t.sw.waiting.getLast? with
  | some w =>
    if s.sw.waiting.length < t.sw.waiting.length then
      { t with sw := { t.sw with waiting := t.sw.waiting.dropLast ++ [{ w with ack := some ini }] } }
    else t.rsp ini stOK []
  | none => t.rsp ini stOK []

/-- BRG_WRITE_ISSUE: a port's write whose node field names another hub is posted and completes OK at its admission; the USB port needs
authentication (R88, R485, R487, R534). -/
def execBrgWriteIssue (ini : Initiator) (node addr : Nat) (words : List Nat) (s : State) : Res :=
  if s.isHere node ∨ ini = .bridge ∨ !s.iniServes ini then .next s
  else if s.noAuth ini true addr (4 * words.length) then .next (s.authRefused ini)
  else .next (s.postWrite ini node addr words)

/-- BRG_POSTED_ERR of a target, unicast to the source of the write (R490). -/
def State.postedErr (s : State) (src addr ini kind : Nat) (multi : Bool) (tag wseq count : Nat) : State :=
  let s := s.count pgBRG 4
  s.originate 0 src tBRG_POSTED_ERR
    (beBytes 4 (addr % 2 ^ 29) ++ beBytes 1 (ini % 16 + kind % 16 * 16) ++ beBytes 1 (b2n multi) ++ beBytes 2 tag
      ++ beBytes 2 wseq ++ beBytes 2 count ++ beBytes 8 s.ringNow ++ beBytes 4 0)

/-- The report of a write in a cell. -/
def State.reportWrite (s : State) (r : RxCell) (kind : Nat) : State :=
  let p := r.cell.payload
  s.postedErr r.cell.src (beAt p 0 4) (beAt p 4 1 % 16) kind (bitAt (beAt p 5 1) 0) (beAt p 6 2) (beAt p 8 2) 1

/-- The lost WSEQ values of a report, from `w` on. -/
def lostSeqs : Nat → Nat → List Nat
  | 0, _ => []
  | n + 1, w => w :: lostSeqs n (wseqNext w)

/-- BRG_POSTED_ERR_RX: entries of the posted-error log (R493). -/
def execBrgPostedErrRx (s : State) : Res :=
  match s.takeCell 2 tBRG_POSTED_ERR with
  | none => .next s
  | some (r, s) =>
    let p := r.cell.payload
    let x := r.cell.src
    let kind := beAt p 4 1 / 16
    let s := s.count pgBRG 5
    let time := beAt p 12 8
    let multi := bitAt (beAt p 5 1) 0
    if kind ≠ stLOST then
      .next (s.perrAdd (perrEntry time (x * 2 ^ 29 + beAt p 0 4 % 2 ^ 29) (beAt p 4 1 % 16) kind (beAt p 6 2) (beAt p 8 2) 1
        multi false false s.ringNow))
    else
      let lost := lostSeqs (beAt p 10 2) (beAt p 8 2)
      let found := lost.filterMap (fun w => s.brg.hist.find? (fun h => h.target == x && h.wseq == w))
      if found.isEmpty then
        .next (s.perrAdd (perrEntry time (x * 2 ^ 29) 0xF kind 0xFFFF (beAt p 8 2) (beAt p 10 2) multi true false s.ringNow))
      else
        .next (found.foldl (fun s h =>
          s.perrAdd (perrEntry time (x * 2 ^ 29 + h.addr) h.initiator kind h.tag h.wseq 1 multi false false s.ringNow)) s)

/-! ## Reads, prefetch, collection -/

/-- READ_TMO in ns (R503). -/
def State.readTmo (s : State) : Nat := max 1 (s.rd pgBRG BRG_CFG_READ_TMO) * 1000000

/-- PF_LIFE in ns; 0 turns prefetch off (R503). -/
def State.pfLife (s : State) : Nat := s.rd pgBRG BRG_CFG2_PF_LIFE * 1000

/-- The bridge is in collection mode (R500). -/
def State.collectMode (s : State) : Bool :=
  s.on pgBRG BRG_CFG_MODE || s.node == nsBOOT || s.node == nsJOIN || s.node == nsHOLD || s.node == nsRECOVERY

/-- Read context `i`. -/
def State.rctx (s : State) (i : Nat) : ReadCtx := s.brg.ctx.get (fun _ => {}) i

/-- Writes a read context; BRG_STAT.READS follows. -/
def State.setCtx (s : State) (i : Nat) (c : ReadCtx) : State :=
  let s := { s with brg := { s.brg with ctx := s.brg.ctx.set (fun _ => {}) i c } }
  s.wr pgBRG BRG_STAT_READS (s.brg.ctx.filter (fun e => e.2.used)).length

/-- PF of a read (R496). -/
def State.prefetchLen (s : State) (addr len : Nat) : Nat :=
  if s.pfLife = 0 then 0
  else match (List.range 8).find? (fun k =>
      s.on pgBRG BRG_PFRANGEk_A_EN k && decide (s.rd pgBRG BRG_PFRANGEk_A_BASE k / 4 * 4 ≤ addr
        ∧ addr + len ≤ s.rd pgBRG BRG_PFRANGEk_B_LIMIT k / 4 * 4)) with
    | some k => min 256 (s.rd pgBRG BRG_PFRANGEk_B_LIMIT k / 4 * 4 - (addr + len))
    | none => 0

/-- Sends a BRG_READ (R494): LAST_WSEQ is the last WSEQ given to that target. -/
def State.sendRead (s : State) (node addr ini rid len pf rgen : Nat) : State :=
  let s := s.count pgBRG 1
  s.originate 0 node tBRG_READ
    (beBytes 4 (addr % 2 ^ 29) ++ beBytes 1 ini ++ beBytes 1 rid ++ beBytes 2 len
      ++ beBytes 2 (s.brg.wtx.get (fun _ => 0) node) ++ beBytes 2 pf ++ beBytes 1 rgen ++ beBytes 3 0)

/-- A read takes a free context and is sent (R494, R495). -/
def State.grant (s : State) (c : ReadCtx) : Option State :=
  ((List.range 8).find? (fun i => !(s.rctx i).used)).map (fun i =>
    let g := ((s.rctx i).gen + 1) % 256
    let pf := s.prefetchLen c.addr c.len
    let s := s.setCtx i { c with used := true, gen := g, pf := pf, at_ := s.now, parts := [] }
    s.sendRead c.node c.addr c.ini.num i c.len pf g)

/-- READ_CONTEXT_GRANT: the oldest waiting read takes a free context (R494). -/
def execReadContextGrant (s : State) : Res :=
  match s.brg.waiting with
  | [] => .next s
  | c :: l => match s.grant c with
    | some t => .next { t with brg := { t.brg with waiting := l } }
    | none => .next s

/-- A context is freed, its generation kept. -/
def State.freeCtx (s : State) (i : Nat) : State := s.setCtx i { gen := (s.rctx i).gen }

/-- A remote read of a port (R494, R496, R500): COLLECT_ONLY in collection mode from the PCIe or USB port or the
housekeeping core; else from the prefetch buffer; else UNREACHABLE; else by a context, at once or after waiting. -/
def State.readIssue (s : State) (ini : Initiator) (node addr len : Nat) : State :=
  let zeros := List.replicate (len / 4) 0
  if s.collectMode && (ini == .pcie || ini == .usb || ini == .hk) then s.readDone ini node addr stCOLLECT_ONLY zeros
  else match s.brg.pf.find? (fun e => e.node == node && decide (e.addr ≤ addr ∧ addr + len ≤ e.addr + e.data.length
      ∧ s.now < e.till)) with
    | some e =>
      let pf := s.brg.pf.map (fun x => if x = e then { x with used := s.now } else x)
      (State.count { s with brg := { s.brg with pf := pf } } pgBRG 9).rsp ini stOK
        (leWords (len / 4) (slice e.data (addr - e.addr) len))
    | none =>
      if s.absent node then s.readDone ini node addr stUNREACHABLE zeros
      else
        let c : ReadCtx := { ini := ini, node := node, addr := addr, len := len }
        match s.brg.waiting.isEmpty, s.grant c with
        | true, some t => t
        | _, _ => { s with brg := { s.brg with waiting := s.brg.waiting ++ [c] } }

/-- BRG_READ_ISSUE: a port's read whose node field names another hub, of 4 to 256 bytes; on the USB port one that reaches the KEY page of
a node needs authentication (R88, R494, R534). -/
def execBrgReadIssue (ini : Initiator) (node addr len : Nat) (s : State) : Res :=
  if s.isHere node ∨ ini = .bridge ∨ len = 0 ∨ 256 < len ∨ len % 4 ≠ 0 ∨ !s.iniServes ini then .next s
  else if s.noAuth ini false addr len then .next (s.authRefused ini)
  else .next (s.readIssue ini node addr len)

/-- Slot `i` beyond its status register. -/
def State.slotSt (s : State) (i : Nat) : SlotSt := s.brg.slot.get (fun _ => {}) i

/-- Writes a slot with its STATE, STATUS and LEN; BRG_STAT.SLOTS follows (R501, R506). -/
def State.setSlot (s : State) (i st status len : Nat) (x : SlotSt) : State :=
  let s := { s with brg := { s.brg with slot := s.brg.slot.set (fun _ => {}) i x } }
  let s := ((s.wr pgBRG BRG_SLOTn_STAT_STATE st i).wr pgBRG BRG_SLOTn_STAT_STATUS status i).wr pgBRG BRG_SLOTn_STAT_LEN len i
  s.wr pgBRG BRG_STAT_SLOTS ((List.range 16).filter (fun k => s.rd pgBRG BRG_SLOTn_STAT_STATE k != 0)).length

/-- A slot becomes READY (R501). -/
def State.slotReady (s : State) (i status : Nat) (data : List Byte) : State :=
  let x := s.slotSt i
  (s.setSlot i 2 status data.length { x with parts := [], data := data, at_ := s.now }).irq pgBRG 4

/-- A free slot takes a collected read: its GEN is incremented and the read sent without prefetch; the slot's number
comes back (R501). -/
def State.takeSlot (s : State) (ini : Initiator) (node addr len : Nat) : Option (State × Nat) :=
  ((List.range 16).find? (fun i => s.rd pgBRG BRG_SLOTn_STAT_STATE i == 0)).map (fun i =>
    let g := (s.rd pgBRG BRG_SLOTn_STAT_GEN i + 1) % 256
    let s := s.wr pgBRG BRG_SLOTn_STAT_GEN g i
    let s := s.setSlot i 1 0 0 { node := node, addr := addr, len := len, at_ := s.now, ini := ini }
    (if s.absent node then s.slotReady i stUNREACHABLE [] else s.sendRead node addr ini.num (8 + i) len 0 g, i))

/-- COLLECT_REQUEST: BRG_CREQ_CMD with GO for the address in the port's BRG_CREQ_ADDR (R501, R505). -/
def execCollectRequest (ini : Initiator) (len : Nat) (s : State) : Res :=
  if !s.takes pgBRG then .next s else
  let a := s.rd64 pgBRG BRG_CREQ_ADDR_LO_ADDR BRG_CREQ_ADDR_HI_ADDR 0 ini.num % 2 ^ 40
  let res (s : State) (v : Nat) : State := s.wr pgBRG BRG_CREQ_RES_RESULT v 0 ini.num
  if len < 4 ∨ 256 < len then .next (res s 2)
  else if s.isHere (a / 2 ^ 29) then .next (res s 3)
  else match s.takeSlot ini (a / 2 ^ 29) (a % 2 ^ 29) len with
    | none => .next (res s 1)
    | some (s, i) =>
      let s := (res s 0).wr pgBRG BRG_CREQ_RES_SLOT i 0 ini.num
      .next (s.wr pgBRG BRG_CREQ_RES_GEN (s.rd pgBRG BRG_SLOTn_STAT_GEN i) 0 ini.num)

/-- When COLLECT_TMO of a READY slot passes (R501). -/
def State.slotDue (s : State) (i : Nat) : Nat := (s.slotSt i).at_ + max 1 (s.rd pgBRG BRG_CFG_COLLECT_TMO) * 10000000

/-- A READY slot is freed; where COLLECT_TMO has passed the discard is counted, that of a COLLECT on the same cycle too (R501). -/
def State.slotFree (s : State) (i : Nat) : State :=
  let t := s.setSlot i 0 0 0 {}
  if s.slotDue i ≤ s.now then (t.count pgBRG 15).irq pgBRG 5 else t

/-- SLOT_COLLECT frees a READY slot (R501). -/
def execSlotCollect (slot : Nat) (s : State) : Res :=
  if !s.takes pgBRG then .next s else
  if s.rd pgBRG BRG_SLOTn_STAT_STATE slot = 2 then .next (s.slotFree slot) else .next s

/-- SLOT_DISCARD: COLLECT_TMO passes in READY (R501). -/
def execSlotDiscard (slot : Nat) (s : State) : Res :=
  if s.rd pgBRG BRG_SLOTn_STAT_STATE slot = 2 then
    .next ((s.passTo (s.slotDue slot)).slotFree slot)
  else .next s

/-- The read of a context completes, its context free again; its data are discarded where its request was lost (R495, R516). -/
def State.ctxDone (s : State) (i status : Nat) (ws : List Nat) : State :=
  let c := s.rctx i
  let s := s.freeCtx i
  if c.gone then s else s.readDone c.ini c.node c.addr status ws

/-- The data of a complete response, in OFFSET order. -/
def partsData (m : SMap (List Byte)) : List Byte := m.flatMap (·.2)

/-- Adds prefetched bytes, replacing the least recently used entry of 4 (R496). -/
def State.pfAdd (s : State) (node addr : Nat) (data : List Byte) : State :=
  if data.isEmpty then s
  else
    let e : PfEnt := { node := node, addr := addr, data := data, till := s.now + s.pfLife, used := s.now }
    let l := s.brg.pf
    let l := if l.length < 4 then l else
      match l.foldl (fun (a : Option PfEnt) x => match a with
        | some y => if x.used < y.used then some x else a
        | none => some x) none with
      | some y => l.erase y
      | none => l
    { s with brg := { s.brg with pf := l ++ [e] } }

/-- BRG_READ_RESP_RX: a response completes a waiting context or slot, or is discarded (R495, R496, R501). -/
def execBrgReadRespRx (s : State) : Res :=
  match s.takeCell 2 tBRG_READ_RESP with
  | none => .next s
  | some (r, s) =>
    let p := r.cell.payload
    let rid := beAt p 0 1 % 32
    let st := beAt p 2 1 % 16
    let parts := bitsOf (beAt p 3 1) 2 2 + 1
    let off := beAt p 4 2 % 1024
    if rid < 8 ∧ (s.rctx rid).used ∧ (s.rctx rid).gen = beAt p 1 1 then
      let c := s.rctx rid
      if st ≠ stOK then .next (s.ctxDone rid st (List.replicate (c.len / 4) 0))
      else
        let m := c.parts.ins off (p.drop 8)
        if m.length < parts then .next (s.setCtx rid { c with parts := m })
        else
          let d := partsData m
          .next ((s.pfAdd c.node (c.addr + c.len) (d.drop c.len)).ctxDone rid stOK (leWords (c.len / 4) d))
    else if 8 ≤ rid ∧ rid < 24 ∧ s.rd pgBRG BRG_SLOTn_STAT_STATE (rid - 8) = 1
        ∧ s.rd pgBRG BRG_SLOTn_STAT_GEN (rid - 8) = beAt p 1 1 then
      let i := rid - 8
      let x := s.slotSt i
      if st ≠ stOK then .next (s.slotReady i st [])
      else
        let m := x.parts.ins off (p.drop 8)
        if m.length < parts then .next (s.setSlot i 1 0 0 { x with parts := m })
        else .next (s.slotReady i stOK ((partsData m).take x.len))
    else .next (s.count pgBRG 8)

/-- The BRG_READ of a RID still waits for its admission (R146, R497). -/
def State.readHeld (s : State) (rid : Nat) : Bool :=
  s.sw.waiting.any (fun w => w.cell.typ == tBRG_READ && beAt w.cell.payload 5 1 % 32 == rid)

/-- BRG_READ_TIMEOUT: READ_TMO after the admission of the read with that RID (R497, R501). -/
def execBrgReadTimeout (rid : Nat) (s : State) : Res :=
  if s.readHeld rid then .next s
  else if rid < 8 ∧ (s.rctx rid).used then
    let c := s.rctx rid
    let s := ((s.passTo (c.at_ + s.readTmo)).count pgBRG 7).irq pgBRG 6
    .next (s.ctxDone rid stTIMEOUT (List.replicate (c.len / 4) 0))
  else if 8 ≤ rid ∧ rid < 24 ∧ s.rd pgBRG BRG_SLOTn_STAT_STATE (rid - 8) = 1 then
    let s := ((s.passTo ((s.slotSt (rid - 8)).at_ + s.readTmo)).count pgBRG 7).irq pgBRG 6
    .next (s.slotReady (rid - 8) stTIMEOUT [])
  else .next s

/-- PREFETCH_EXPIRY: the entry whose life ends first becomes invalid, PF_LIFE after its response (R496). -/
def execPrefetchExpiry (s : State) : Res :=
  match s.brg.pf.foldl (fun (a : Option PfEnt) x => match a with
      | some y => if x.till < y.till then some x else a
      | none => some x) none with
  | none => .next s
  | some e =>
    let s := s.passTo e.till
    .next { s with brg := { s.brg with pf := s.brg.pf.erase e } }

/-! ## The journal of a twin hub and demands -/

/-- The twin link's port, as the hub took it at its last entry to a role (R561, R580). -/
def State.peerPort (s : State) : Nat := s.twin.port

/-- Sends one record in a JOURNAL cell with the direction bit (R568). -/
def State.sendJournal (s : State) (dir typ : Nat) (body : List Byte) : State :=
  let te := s.rd pgIMG IMG_OWN_TENURE
  let s := (s.sendLink s.peerPort tJOURNAL
    (beBytes 4 s.twin.jseq ++ beBytes 2 (s.rd pgTWIN TWIN_SHARD_OWNER) ++ beBytes 1 te ++ beBytes 1 dir
      ++ beBytes 1 typ ++ beBytes 1 body.length ++ body)).count pgTWIN 1
  let s := { s with twin := { s.twin with jseq := (s.twin.jseq + 1) % 2 ^ 32 } }
  if dir = 0 then s.wr pgTWIN TWIN_JSTAT_JSEQ (s.twin.jseq % 2 ^ 16) else s

/-- The hub is a twin board's Runner (R563). -/
def State.isRunner (s : State) : Bool := s.enabled pgTWIN && s.rd pgTWIN TWIN_STAT_ROLE == 1

/-- The Runner sends a journal record of an event (R568, R569). -/
def State.journal (s : State) (typ : Nat) (body : List Byte) : State :=
  if s.isRunner then s.sendJournal 0 typ body else s

/-- A conflict log entry of 16 bytes as a number, byte 0 lowest (R276). -/
def confEntry (point kind writer winner epoch : Nat) : Nat :=
  point % 2 ^ 17 + kind % 4 * 2 ^ 17 + (writer % 2 ^ 11 + winner % 2 ^ 11 * 2 ^ 16) * 2 ^ 32 + epoch % 2 ^ 64 * 2 ^ 64

/-- A conflict is logged, or discarded while the log of 16 is full (R276). -/
def State.confAdd (s : State) (e : Nat) : State :=
  let s := if 16 ≤ s.img.conf.length then
      (s.wr pgIMG IMG_CONF_STAT_OVF 1).wr pgIMG IMG_CONF_STAT_OVF_COUNT
        (satInc 0xFFFF (s.rd pgIMG IMG_CONF_STAT_OVF_COUNT))
    else
      let s := { s with img := { s.img with conf := s.img.conf ++ [e] } }
      s.wr pgIMG IMG_CONF_STAT_FILL s.img.conf.length
  s.irq pgIMG 13

/-- IMG_CONF_POP removes the head entry (R286). -/
def State.confPop (s : State) : State :=
  match s.img.conf with
  | [] => s
  | _ :: l => State.wr { s with img := { s.img with conf := l } } pgIMG IMG_CONF_STAT_FILL l.length

/-- EN of a binding entry (R268). -/
def bEN (e : Nat) : Bool := bitAt e 31
/-- POINT of a binding entry. -/
def bPOINT (e : Nat) : Nat := bitsOf e 0 17
/-- KIND of a binding entry (R269). -/
def bKIND (e : Nat) : Nat := bitsOf e 24 5
/-- INST of a binding entry. -/
def bINST (e : Nat) : Nat := bitsOf e 32 8
/-- SUB of a binding entry. -/
def bSUB (e : Nat) : Nat := bitsOf e 40 8
/-- INVERT of a binding entry. -/
def bINVERT (e : Nat) : Bool := bitAt e 48

/-- The bindings in effect, none while the BIND page is disabled (R289). -/
def State.bindings (s : State) : List Nat :=
  if s.enabled pgBIND then (s.img.bindLive.map (·.2)).filter bEN else []

/-- An input binding supplies point `i` (R269, R271). -/
def State.hasInput (s : State) (i : Nat) : Bool :=
  s.bindings.any (fun e => decide (1 ≤ bKIND e ∧ bKIND e ≤ 8) && (bPOINT e == i || bKIND e == 4 && bPOINT e + 1 == i))

/-- The epoch a demand accepted now is taken into: at t_s(N) and after it, N + 1 (R273). -/
def State.demandEpoch (s : State) : Nat :=
  let (m, t) := s.nextStart
  if s.locked && decide (t ≤ s.ringNow) then m + 1 else m

/-- A demand point's record is known: a demand was accepted, or its starting value was taken. -/
def Demand.known (d : Demand) : Bool := d != {}

/-- The value of a demand point for epoch `n`: the one in force, or the one before it where that is taken into a later epoch (R273). -/
def Demand.upTo (d : Demand) (n : Nat) : Option Nat :=
  if !d.known then none else if d.epoch ≤ n then some d.value else d.held

/-- The demand state of a point. -/
def State.demandOf (s : State) (i : Nat) : Demand := s.img.dem.get (fun _ => {}) i

/-- The owner record's STATE as the last commit left it: 1 LIVE, 2 STALE, 3 PENDING (R211). -/
def State.recOf (s : State) (o : Nat) : OwnerRec := s.img.recs.get (fun _ => {}) o

/-- The starting value of a demand point when publication begins (R724): the visible value of a shard that is LIVE or STALE,
else 0. -/
def State.startValue (s : State) (o i : Nat) : Nat :=
  let st := (s.recOf o).st
  if s.commitEpoch ≠ ones64 ∧ (st = 1 ∨ st = 2) then valAt s.visVals i else 0

/-- Writes the demand state of a point. -/
def State.setDemand (s : State) (i : Nat) (d : Demand) : State :=
  { s with img := { s.img with dem := s.img.dem.set (fun _ => {}) i d } }

/-- The shard offset of a point (R209). -/
def shardOffset (t : SMap Nat) (o i : Nat) : Nat := (shardPoints t o).findIdx (fun q => q.1 == i)

/-- The demand state after a demand accepted now replaced `d`: the value of `d` still holds for epochs before the one it is taken into
(R273, R275). -/
def State.newDemand (s : State) (d : Demand) (value tau writer : Nat) : Demand :=
  { value := value, tau := tau, writer := writer, epoch := s.demandEpoch,
    held := if s.demandEpoch ≤ d.epoch then d.held else if d.known then some d.value else none }

/-- DEMAND_ACCEPT at the owner: permission by the writer policy, then the latest τ, the lower writer on a tie (R274, R275,
R569).  The status comes back. -/
def State.demandHere (s : State) (entry point value tau writer : Nat) (local_ : Bool) : State × Nat :=
  let pol := bitsOf entry 32 2
  let single := bitsOf entry 34 11
  let ok := !s.hasInput point && (if pol = 0 ∨ (pol = 1 ∧ single = s.pubId) then local_
    else if pol = 1 then single == writer else pol == 2)
  if !ok then ((s.confAdd (confEntry point 1 writer 0 s.demandEpoch)).count pgIMG 20, stWRITER_REFUSED)
  else
    let d := s.demandOf point
    let v := value % 2 ^ segWidth entry
    let new := s.newDemand d v tau writer
    let log := d.writer ≠ 0 ∧ d.writer ≠ writer
    if d.tau < tau ∨ (d.tau = tau ∧ writer < d.writer) then
      let s := (s.setDemand point new).count pgIMG 18
      let s := if log then (s.confAdd (confEntry point 0 d.writer writer new.epoch)).count pgIMG 19 else s
      (s.journal 0x02 (beBytes 2 (shardOffset s.img.cur s.pubId point) ++ beBytes 2 writer ++ beBytes 8 tau ++ beBytes 4 v),
       stOK)
    else ((if log then (s.confAdd (confEntry point 0 writer d.writer d.epoch)).count pgIMG 19 else s), stOK)

/-- A demand refused because this hub does not own the point is logged and counted (R272, R276). -/
def State.demandRefuse (s : State) (point writer : Nat) : State × Nat :=
  ((s.confAdd (confEntry point 2 writer 0 s.demandEpoch)).count pgIMG 20, stNOT_OWNER)

/-- The offset of IMG_DEMAND in local space (R285). -/
def demandAddr : Nat := 0x19180

/-- A demand issued at this hub by initiator code `ini` with `tag` and issue time `tau` (R272, R273, R577). -/
def State.demandLocal (s : State) (ini tag point value tau : Nat) : State × Nat :=
  match pointEntry s.img.cur point with
  | none => s.demandRefuse point s.nodeId
  | some (o, e) =>
    if o = s.pubId then s.demandHere e point value tau s.nodeId true
    else
      let dest := if (s.shard o).src = 0 then o else (s.shard o).src
      if dest = s.nodeId then s.demandRefuse point s.nodeId
      else (s.postCell dest demandAddr ini tag (leBytes 4 value ++ leBytes 4 point), stOK)

/-- A demand that came through the bridge from node `src`, with the ORIGIN of its cell (R272, R273). -/
def State.demandRemote (s : State) (src origin point value : Nat) : State × Nat :=
  match pointEntry s.img.cur point with
  | none => s.demandRefuse point src
  | some (o, e) =>
    if o = s.pubId then
      s.demandHere e point value (if origin = 0 then s.ringNow else nearest 32 origin s.ringNow) src false
    else s.demandRefuse point src

/-- DEMAND_WRITE: an aligned 8-byte write to IMG_DEMAND from a local port (R88, R272, R273, R512, R534). -/
def execDemandWrite (ini : Initiator) (index value : Nat) (s : State) : Res :=
  if !s.iniServes ini then .next s
  else if s.noAuth ini true demandAddr 8 then .next (s.authRefused ini)
  else if !s.takes pgIMG then .next (s.rsp ini stOK [])
  else
    let (t, st) := s.demandLocal ini.num (s.tagOf ini) (index % 2 ^ 17) (value % 2 ^ 32) s.ringNow
    .next ((if ini == .pcie && st != stOK then t.pcieErr demandAddr st false true else t).rsp ini st [])

end Sys2Proof.Machine
end

