-- ==== Sys2Proof/Machine/LaneTx.lean ====
section
/-!
DEFINITION. The transmit side of a lane (R355 to R365): its FIFO, the head frame, the start of a frame and its release by a
launch, and the start of an SSI read.  Frames ending and everything received are in Lanes.lean.
-/
namespace Sys2Proof.Machine

/-- What a pin of the hub does: high impedance, an input, driven to a level, open-drain and released, or an output that carries the
signal of its mode. -/
inductive Pin where
  | hiZ
  | input
  | level (high : Bool)
  | openDrain
  | signal
  deriving DecidableEq, Repr

/-- The page of lane `n`. -/
def lanePg (n : Nat) : Nat := pgLANE + n

/-- Lane `n` beyond its registers. -/
def State.laneSt (s : State) (n : Nat) : LaneSt := s.lane.get (fun _ => {}) n

/-- A register field of lane `n`. -/
def State.laneRd (s : State) (n : Nat) (f : Field) : Nat := s.rd (lanePg n) f

/-- LANE_MODE.MODE: 0 UART, 1 SPI, 2 I2C, 3 SSI, 4 IO-Link, others reserved (R355). -/
def State.laneMode (s : State) (n : Nat) : Nat := s.laneRd n LANE_MODE_MODE

/-- The lane's mode logic works: enabled, a mode of R355, its pins not claimed (R355, R373). -/
def State.laneOn (s : State) (n : Nat) : Bool :=
  s.enabled (lanePg n) && decide (s.laneMode n ≤ 4) && s.laneRd n LANE_STAT_CLAIMED == 0

/-- The lane is gated: before start-up step 4, in QUIET, and on a twin hub that does not drive the shared lines (R87, R92, R93, R567). -/
def State.laneGated (s : State) : Bool :=
  decide (s.rd pgPWRST PWRST_STATE_STEP < 4) || s.node == nsQUIET || s.cold

/-- Frames begin with a descriptor: with TX_DESC, and always in I2C and IO-Link modes (R363). -/
def State.laneDesc (s : State) (n : Nat) : Bool :=
  s.laneRd n LANE_MODE_TX_DESC == 1 || s.laneMode n == 2 || s.laneMode n == 4

/-- LANE_FMT.BITS within the limits of the mode (R379). -/
def State.laneBits (s : State) (n : Nat) : Nat :=
  let b := s.laneRd n LANE_FMT_BITS
  match s.laneMode n with
  | 0 => min 9 (max 5 b)
  | 1 => min 32 (max 4 b)
  | 3 => min 32 (max 8 b)
  | _ => 8

/-- A parity bit is sent and checked. -/
def State.lanePar (s : State) (n : Nat) : Bool :=
  let p := s.laneRd n LANE_FMT_PARITY
  p == 1 || p == 2

/-- The bit time or clock period in units of 1/4 ns (R356). -/
def State.laneBit (s : State) (n : Nat) : Nat :=
  let d := s.laneRd n LANE_CLK_DIV
  match s.laneMode n with
  | 0 => max 334 d
  | 1 => 16 * min 65535 (max 5 d)
  | 2 => 16 * min 65535 (max 250 d)
  | 3 => 16 * min 65535 (max 25 d)
  | _ => match s.laneRd n LANE_FMT_COM with
    | 3 => 4 * 10 ^ 9 / 230400
    | 2 => 4 * 10 ^ 9 / 38400
    | _ => 4 * 10 ^ 9 / 4800

/-- `k` bit times in ns: an edge falls on the first CLK_IO tick at or after its ideal time (R356). -/
def State.laneBitsNs (s : State) (n k : Nat) : Nat := (k * s.laneBit n + 15) / 16 * 4

/-- The bits of one character or word on the line. -/
def State.charBits (s : State) (n : Nat) : Nat :=
  match s.laneMode n with
  | 0 => 2 + s.laneBits n + b2n (s.lanePar n) + s.laneRd n LANE_FMT_STOP2
  | 1 => s.laneBits n
  | 2 => 9
  | _ => 11

/-- The words of the first frame of a FIFO, through its end mark. -/
def frameWords : List LaneWord → List LaneWord
  | [] => []
  | w :: l => if w.fin then [w] else w :: frameWords l

/-- The FIFO after its first frame. -/
def afterFrame : List LaneWord → List LaneWord
  | [] => []
  | w :: l => if w.fin then l else afterFrame l

/-- The frames that wait behind the frame being sent. -/
def LaneSt.waitingTx (x : LaneSt) : List LaneWord :=
  match x.send with
  | some f => if f.whole then x.tx else afterFrame x.tx
  | none => x.tx

/-- The descriptor of the first frame of a FIFO, 0 where frames have none. -/
def State.headDesc (s : State) (n : Nat) (l : List LaneWord) : Nat :=
  if s.laneDesc n then (l.head?.map (·.data)).getD 0 else 0

/-- The first frame of a FIFO waits for a LANE_START launch: HOLD in its descriptor (R363). -/
def State.headHeld (s : State) (n : Nat) (l : List LaneWord) : Bool := !l.isEmpty && bitAt (s.headDesc n l) 17

/-- Writes the lane's state; its status registers follow, and TX_WEIR occurs where the free words reach it (R381, R384). -/
def State.setLane (s : State) (n : Nat) (x : LaneSt) : State :=
  let p := lanePg n
  let free0 := 256 - (s.laneSt n).tx.length
  let s := { s with lane := s.lane.set (fun _ => {}) n x }
  let s := (s.wr p LANE_RX_STAT_FILL x.rx.length).wr p LANE_RX_STAT_PKTS (x.rx.filter (·.fin)).length
  let s := (s.wr p LANE_TX_STAT_FILL x.tx.length).wr p LANE_TX_STAT_FRAMES (x.tx.filter (·.fin)).length
  let s := (s.wr p LANE_STAT_TX_BUSY (b2n x.send.isSome)).wr p LANE_STAT_RX_BUSY (b2n (!x.pkt.isEmpty || x.ssi.isSome))
  let s := s.wr p LANE_STAT_HELD (b2n (x.send.isNone && x.release.isNone && s.headHeld n x.tx))
  let weir := min 256 (max 1 (s.rd p LANE_WEIR_TX_WEIR))
  if free0 < weir ∧ weir ≤ 256 - x.tx.length then s.irq p 3 else s

/-- Sets a bit of LANE_ERR (R382, R384). -/
def State.laneErr (s : State) (n : Nat) (f : Field) : State := (s.wr (lanePg n) f 1).irq (lanePg n) 6

/-- RX_SINK: words go to the FIFO (R370). -/
def State.sinkFifo (s : State) (n : Nat) : Bool := s.laneRd n LANE_MBX_CFG_RX_SINK != 1

/-- The lane discards arriving words until the next end mark (R369). -/
def State.dropPend (s : State) (n : Nat) : Bool := s.laneRd n LANE_STAT_DROP_PEND == 1

/-! ## A frame on the line -/

/-- The words of the frame being sent that are still in the FIFO. -/
def LaneSend.left (f : LaneSend) (tx : List LaneWord) : List LaneWord := if f.whole then [] else frameWords tx

/-- Characters that a frame of `k` words takes on the line: on I2C the address bytes and the bytes read too (R363). -/
def State.laneChars (s : State) (n : Nat) (f : LaneSend) (k : Nat) : Nat :=
  let rd := bitsOf f.desc 26 6
  if s.laneMode n = 2 then (if k = 0 ∧ rd ≠ 0 then 0 else k + 1) + (if rd = 0 then 0 else rd + 1) else k

/-- How many of a frame's words lie in its first `c` characters: the address byte of I2C comes before them. -/
def State.charWords (s : State) (n c : Nat) : Nat := if s.laneMode n = 2 then c - 1 else c

/-- The characters of the frame being sent that the hub has the words for. -/
def State.laneAvail (s : State) (n : Nat) (f : LaneSend) (tx : List LaneWord) : Nat :=
  s.laneChars n f (f.words.length + (f.left tx).length)

/-- The local time at which character `k` begins, for `k` not below `base` (R356). -/
def State.charAt (s : State) (n : Nat) (f : LaneSend) (k : Nat) : Nat :=
  f.edge + s.laneBitsNs n ((k - f.base) * s.charBits n)

/-- How many characters have begun by now where nothing holds the frame up: each begins on the first tick at or after its time (R356). -/
def State.charsDue (s : State) (n : Nat) (f : LaneSend) : Nat :=
  if s.now < f.edge then f.base else f.base + 16 * ((s.now - f.edge) / 4) / max 1 (s.charBits n * s.laneBit n) + 1

/-- An SPI or I2C controller pauses before its next word, its receive FIFO being full (R366). -/
def State.lanePaused (s : State) (n : Nat) : Bool :=
  (s.laneMode n == 1 || s.laneMode n == 2) && s.laneRd n LANE_MODE_RX_EN == 1 && s.sinkFifo n && !s.dropPend n
    && decide (256 ≤ (s.laneSt n).rx.length)

/-- What a frame's words put on the line: characters and words of the mode's width, and on I2C the address bytes with them (R361,
R363). -/
def State.laneWire (s : State) (n : Nat) (f : LaneSend) : List Nat :=
  let ws := f.words.map (fun w => w % 2 ^ s.laneBits n)
  if s.laneMode n = 2 then
    let a := 2 * bitsOf f.desc 18 7
    let rd := bitsOf f.desc 26 6 != 0
    (if ws.isEmpty && rd then [] else a :: ws) ++ (if rd then [a + 1] else [])
  else ws

/-- What the first `c` characters of a frame that is cut short put on the line. -/
def State.laneCut (s : State) (n : Nat) (f : LaneSend) (tx : List LaneWord) (c : Nat) : List Nat :=
  (s.laneWire n { f with words := f.words ++ (f.left tx).map (·.data) }).take c

/-- `c` characters of the frame being sent have begun: their words leave the FIFO and are counted (R364, R365, R384). -/
def State.laneBegin (s : State) (n c : Nat) : State :=
  let x := s.laneSt n
  match x.send with
  | none => s
  | some f =>
    let ws := (f.left x.tx).take (s.charWords n c - f.words.length)
    (s.setLane n { x with tx := x.tx.drop ws.length, send := some { f with
      words := f.words ++ ws.map (·.data), whole := f.whole || ws.any (·.fin), chars := c } }).count (lanePg n) 0 ws.length

/-- A frame stops before its next character, which begins at `edge` or when it goes on. -/
def State.laneHold (s : State) (n : Nat) (f : LaneSend) : LaneSend := { f with edge := s.charAt n f f.chars, base := f.chars }

/-- A started frame has run out of words before its end mark when the next one is due (R364). -/
def State.laneUnder (s : State) (n : Nat) : State :=
  let x := s.laneSt n
  match x.send with
  | none => s
  | some f =>
    if f.whole || f.under || !x.tx.isEmpty || decide (s.charsDue n f ≤ f.chars) then s
    else
      let s := s.setLane n { x with send := some { s.laneHold n f with under := true } }
      (s.laneErr n LANE_ERR_TX_UNDERRUN).count (lanePg n) 10

/-- The lane is brought up to now: every character that is due has begun, unless the frame is stopped, waits for a word or is paused. -/
def State.laneSync (s : State) (n : Nat) : State :=
  let x := s.laneSt n
  match x.send with
  | none => s
  | some f =>
    if f.halt || f.under || s.lanePaused n then s
    else (s.laneBegin n (max f.chars (min (s.laneAvail n f x.tx) (s.charsDue n f)))).laneUnder n

/-- Pushes a word into a transmit FIFO that has room; a frame that waited for its next word goes on (R364, R365). -/
def State.lanePush (s : State) (n data : Nat) (fin : Bool) : State :=
  let s := s.laneSync n
  let x := s.laneSt n
  s.setLane n { x with tx := x.tx ++ [{ data := data, fin := fin }],
                       send := x.send.map (fun f =>
                         if f.under then { f with under := false, edge := max s.now f.edge } else f) }

/-- A lane stops after the word in progress and keeps its FIFO contents (R92, R372). -/
def State.laneHalt (s : State) (n : Nat) : State :=
  let s := s.laneSync n
  let x := s.laneSt n
  let stop (f : LaneSend) : LaneSend :=
    if f.halt || decide (s.laneAvail n f x.tx ≤ f.chars) && (f.whole || x.tx.any (·.fin)) then f
    else if f.under then { f with halt := true } else { s.laneHold n f with halt := true }
  s.setLane n { x with send := x.send.map stop, offAt := some s.now }

/-- Every lane stops: QUIET takes effect, or a twin hub no longer drives the shared lines (R92, R567). -/
def State.lanesHalt (s : State) : State := (List.range 64).foldl (fun s n => s.laneHalt n) s

/-- A lane's page is enabled again: what was stopped goes on, unless the lane is gated. -/
def State.laneGo (s : State) (n : Nat) : State :=
  if s.laneGated then s else s.setLane n ((s.laneSt n).go s.now)

/-- A write that waited at a transmit FIFO, or for the housekeeping core, completes with a status (R365, R490, R498, R502, R508,
R512); a write whose earlier part failed completes with that part's status. -/
def State.waitDone (s : State) (w : LaneWait) (status : Nat) : State :=
  let whole := if w.prior = stOK then status else w.prior
  if w.more then s
  else if w.ini = .bridge then
    let s' := { s with brg := { s.brg with held := none } }
    match s.brg.held with
    | some (r, _) => if whole = stOK then s' else s'.reportWrite r whole
    | none => s'
  else if w.ep0 then { s with usb := { s.usb with lastStatus := whole } }
  else match w.mcast with
    | some tag => if status = stOK then s else s.perrLocal w.addr w.ini.num status tag 0 true
    | none => (if w.ini == .pcie && status != stOK then s.pcieErr w.addr status w.bar2 true else s).rsp w.ini whole []

/-- The local writes that have waited 100 µs for the housekeeping core are abandoned (R508, R638). -/
def State.hkExpire (s : State) : State :=
  let old (w : HkWait) : Bool := w.how.ini != .bridge && decide (w.how.at_ + 100000 ≤ s.now)
  let gone := s.hk.waits.filter old
  if gone.isEmpty then s
  else gone.foldl (fun s w => s.waitDone w.how stWAIT_EXPIRED)
    { s with hk := { s.hk with waits := s.hk.waits.filter (fun w => !old w) } }

/-- Writes that wait are stored, oldest first, each when there is room for all of its words, and complete (R365). -/
def State.laneDrain : Nat → State → Nat → State
  | 0, s, _ => s
  | k + 1, s, n =>
    let x := s.laneSt n
    match x.wait with
    | [] => s
    | w :: l =>
      if 256 < x.tx.length + (if w.more then 2 else 1) then s
      else
        let s := (s.setLane n { x with wait := l }).lanePush n w.data w.fin
        State.laneDrain k (s.waitDone w stOK) n

/-- The lane is brought up to now, and the writes that found room with it. -/
def State.laneNow (s : State) (n : Nat) : State := (s.laneSync n).laneDrain 256 n

/-- The frame at the head may start (R364). -/
def State.laneReady (s : State) (n : Nat) : Bool :=
  let x := s.laneSt n
  s.laneOn n && !s.laneGated && s.laneMode n != 3 && x.send.isNone && !x.tx.isEmpty && x.later.isNone
    && (x.tx.any (·.fin) || s.laneRd n LANE_MODE_TX_WHOLE == 0 && decide (s.laneMode n ≤ 1))
    && (!s.headHeld n x.tx || x.release.isSome)

/-- The head frame starts, its first bit edge at ring time `t`, which is `edge` on the local count; in SPI mode CS_N falls (R364). -/
def State.laneStart (s : State) (n t edge : Nat) : State :=
  let x := s.laneSt n
  let d := s.headDesc n x.tx
  s.setLane n { x with tx := if s.laneDesc n then x.tx.drop 1 else x.tx, release := none, cs := s.laneMode n == 1,
                       send := some { desc := d, at_ := t, locked := s.locked, edge := edge,
                                      whole := s.laneDesc n && x.tx.head?.any (·.fin) } }

/-- From the start of a frame to its first bit edge, in ns: DE_LEAD bit times, or CS_GAP for SPI (R357, R380). -/
def State.laneLead (s : State) (n : Nat) : Nat :=
  if s.laneMode n = 0 ∨ s.laneMode n = 4 then s.laneBitsNs n (s.laneRd n LANE_TIMING_DE_LEAD)
  else if s.laneMode n = 1 then 4 * max 1 (s.laneRd n LANE_TIMING_CS_GAP)
  else 0

/-- A read's value goes to the receive FIFO (R358, R370). -/
def State.ssiToFifo (s : State) (n : Nat) : Bool := s.laneRd n LANE_MODE_RX_EN == 1 && s.sinkFifo n && !s.dropPend n

/-- An SSI read starts, for an axis or for none; a start within a read or its MONO time is skipped, and one for no axis waits while the
receive FIFO is full (R358, R366). -/
def State.ssiStart (s : State) (n : Nat) (axis : Option Nat) : State :=
  let x := s.laneSt n
  if !s.laneOn n || s.laneMode n != 3 || s.laneGated then s
  else if x.ssi.isSome ∨ x.ssiWait ∨ s.now < x.monoEnd then s.count (lanePg n) 8
  else if axis.isNone && s.ssiToFifo n && decide (256 ≤ x.rx.length) then s.setLane n { x with ssiWait := true }
  else s.setLane n { x with ssi := some (axis, s.ringNow) }

/-- A LANE_START launch executes at `t`: it starts an SSI read, or releases the held head frame, which starts at `t` or as
soon as it can (R313, R358, R364). -/
def State.laneLaunch (s : State) (n t : Nat) : State :=
  if s.laneMode n = 3 then s.ssiStart n none
  else
    let x := s.laneSt n
    let l := x.waitingTx
    if l.isEmpty || !s.headHeld n l || x.release.isSome then s.count (lanePg n) 14
    else
      let s := s.setLane n { x with release := some t }
      let s := if s.laneReady n && x.tx.any (·.fin) then s else (s.laneErr n LANE_ERR_LATE_START).count (lanePg n) 11
      if s.laneReady n then s.laneStart n t s.now else s

/-- A transmit FIFO takes a word at once. -/
def State.laneRoom (s : State) (n : Nat) : Bool := decide ((s.laneSt n).tx.length < 256) && (s.laneSt n).wait.isEmpty

/-- LANE_TXD and LANE_TXD_END: a port pushes a word, or waits for room (R365, R383). -/
def State.laneWrite (s : State) (ini : Initiator) (n data : Nat) (fin : Bool) : State :=
  let s := s.laneNow n
  let x := s.laneSt n
  if s.laneRoom n then (s.lanePush n data fin).rsp ini stOK []
  else s.setLane n { x with wait := x.wait ++ [{ ini := ini, data := data, fin := fin, at_ := s.now,
                                                 addr := lanePg n * 0x1000 + 0x210 + 4 * b2n fin }] }

/-- LANE_TXD: a word without end mark. -/
def execLaneTxd (ini : Initiator) (lane data : Nat) (s : State) : Res :=
  if lane < 64 && s.takes (lanePg lane) then .next (s.laneWrite ini lane (data % 2 ^ 32) false) else .next s

/-- LANE_TXD_END: a word with end mark. -/
def execLaneTxdEnd (ini : Initiator) (lane data : Nat) (s : State) : Res :=
  if lane < 64 && s.takes (lanePg lane) then .next (s.laneWrite ini lane (data % 2 ^ 32) true) else .next s

/-- TX_FIFO_ROOM: the next word of the frame being sent leaves the FIFO when its time has come, and the writes that wait for the room
complete (R364, R365). -/
def execTxFifoRoom (lane : Nat) (s : State) : Res :=
  let s := s.laneNow lane
  let x := s.laneSt lane
  match x.send with
  | none => .next s
  | some f =>
    if f.halt || f.under || s.lanePaused lane || (f.left x.tx).isEmpty then .next s
    else .next ((s.passTo (s.charAt lane f (max f.chars (f.words.length + b2n (s.laneMode lane == 2))))).laneNow lane)

/-- A local write to a lane has waited 100 µs and is abandoned with no effect (R508). -/
def laneExpired (lane : Nat) (s : State) : Res :=
  match (s.laneSt lane).wait with
  | [] => .next s
  | w :: _ =>
    if w.ini = .bridge then .next s else
    let s := (s.passTo (w.at_ + 100000)).laneNow lane
    let x := s.laneSt lane
    if x.wait.head? ≠ some w then .next s
    else .next ((s.setLane lane { x with wait := x.wait.drop (if w.more then 2 else 1) }).waitDone { w with more := false }
      stWAIT_EXPIRED)

/-- LANE_FRAME_START: a complete, released head frame starts (R364). -/
def execLaneFrameStart (lane : Nat) (s : State) : Res :=
  let d := s.laneLead lane
  if s.laneReady lane then .next (s.laneStart lane (s.ringAfter d) (s.now + (d + 3) / 4 * 4)) else .next s

/-- IOL_WURQ: WURQ is driven high for 80 µs; refused while a frame is in progress (R359). -/
def execIolWurq (lane : Nat) (s : State) : Res :=
  let x := s.laneSt lane
  if s.takes (lanePg lane) && s.laneOn lane && s.laneMode lane == 4 && !s.laneGated && x.send.isNone && decide (x.rsp = 0) then
    .next (s.setLane lane { x with wurqEnd := some (s.now + 80000) })
  else .next s

/-- IOL_WURQ_END: the pulse ends. -/
def execIolWurqEnd (lane : Nat) (s : State) : Res :=
  match (s.laneSt lane).wurqEnd with
  | none => .next s
  | some t =>
    let s := s.passTo t
    .next (s.setLane lane { s.laneSt lane with wurqEnd := none })

/-- SSI_READ: LANE_CMD starts an SSI read (R358). -/
def execSsiRead (lane : Nat) (s : State) : Res :=
  if s.takes (lanePg lane) then .next (s.ssiStart lane none) else .next s

end Sys2Proof.Machine
end

