-- ==== Sys2Proof/Machine/Can.lean ====
section
/-!
DEFINITION. The CAN ports and the zone manager (R417 to R458).  The bus itself is the environment: a command reports that
a frame became valid, that an attempt started or ended, that an error was detected or a level was held.
-/
namespace Sys2Proof.Machine

/-! ## Ports, frames and registers -/

/-- The page of port `n`. -/
def canPg (n : Nat) : Nat := pgCAN + n

/-- The VDDIO bank of a port has no supply (R704, R721). -/
def State.canDark (s : State) (n : Nat) : Bool := s.dark (32 + n / 4)

/-- Port `n` beyond its registers. -/
def State.canSt (s : State) (n : Nat) : CanSt := s.can.get (fun _ => {}) n

/-- Buffer `b` of a port. -/
def CanSt.bufAt (x : CanSt) (b : Nat) : CanBuf := x.buf.get (fun _ => {}) b

/-- Writes a buffer. -/
def CanSt.setBuf (x : CanSt) (b : Nat) (v : CanBuf) : CanSt := { x with buf := x.buf.set (fun _ => {}) b v }

/-- CAN_CTRL.MODE; 5 to 7 act as LISTEN_ONLY (R421). -/
def State.canMode (s : State) (n : Nat) : Nat :=
  let m := s.rd (canPg n) CAN_CTRL_MODE
  if 5 ≤ m then 1 else m

/-- CAN_ERR.STATE: 0 ERROR_ACTIVE, 1 ERROR_PASSIVE, 2 BUS_OFF, 3 INTEGRATING (R438). -/
def State.canState (s : State) (n : Nat) : Nat := s.rd (canPg n) CAN_ERR_STATE

/-- The error counters are frozen (R421). -/
def State.canFrozen (s : State) (n : Nat) : Bool := s.canMode n != 0 || s.on (canPg n) CAN_STAT_PARTIAL

/-- Writes a port's state; its status registers follow. -/
def State.setCan (s : State) (n : Nat) (x : CanSt) : State :=
  let p := canPg n
  let s := { s with can := s.can.set (fun _ => {}) n x }
  let pend := x.buf.foldl (fun a e => if e.2.st = 1 ∨ e.2.st = 2 then a + 2 ^ e.1 else a) 0
  let s := (s.wr p CAN_TX_PEND_PEND pend).wr p CAN_STAT_TX_ACTIVE (b2n (x.act.any (fun a => a.buf.isSome)))
  let s := s.wr p CAN_RX_STAT_FILL x.ring.length
  s.wr p CAN_ERR_FROZEN (b2n (s.canFrozen n))

/-- The error state changes (R438, R455). -/
def State.setCanState (s : State) (n st : Nat) : State :=
  if s.canState n = st then s else (s.wr (canPg n) CAN_ERR_STATE st).irq (canPg n) 6

/-- The data bytes of a DLC. -/
def dlcLen (fd : Bool) (d : Nat) : Nat :=
  if fd then [0, 1, 2, 3, 4, 5, 6, 7, 8, 12, 16, 20, 24, 32, 48, 64].getD d 64 else min 8 d

/-- IDE, RTR and FDF of an ID word (R423). -/
def CanFrame.ide (f : CanFrame) : Bool := bitAt f.idw 29
/-- RTR of an ID word. -/
def CanFrame.rtr (f : CanFrame) : Bool := bitAt f.idw 30
/-- FDF of an ID word. -/
def CanFrame.fdf (f : CanFrame) : Bool := bitAt f.idw 31
/-- The identifier of an ID word. -/
def CanFrame.id (f : CanFrame) : Nat := f.idw % 2 ^ 29

/-- The arbitration field as a number: the lower wins (R430, ISO 11898-1). -/
def arbKey (f : CanFrame) : Nat :=
  if f.ide then f.id / 2 ^ 18 * 2 ^ 21 + 3 * 2 ^ 19 + f.id % 2 ^ 18 * 2 + b2n f.rtr
  else f.id % 2 ^ 11 * 2 ^ 21 + b2n f.rtr * 2 ^ 20

/-- The frame that a buffer holds (R428). -/
def CanBuf.frame (b : CanBuf) : CanFrame :=
  let fd := bitAt b.idw 31
  let d := b.ctl % 16
  let len := if bitAt b.idw 30 then 0 else dlcLen fd d
  { idw := b.idw, dlc := d, brs := bitAt b.ctl 4, esi := false,
    data := ((List.range 16).flatMap (fun j => leBytes 4 (b.data.get (fun _ => 0) j))).take len }

/-- A frame is invalid (R429). -/
def State.badFrame (s : State) (n : Nat) (b : CanBuf) : Bool :=
  let f := b.frame
  f.fdf && f.rtr || f.fdf && !s.on (canPg n) CAN_CTRL_FD_EN || bitAt b.ctl 4 && !f.fdf
    || !f.ide && decide (0x7FF < b.idw % 2 ^ 29)

/-- A frame's longest duration in ns, with every possible stuff bit (R435; ISO 11898-1). -/
def State.canDur (s : State) (n : Nat) (f : CanFrame) : Nat :=
  let p := canPg n
  let nb := (s.rd p CAN_NBT_NBRP + 1) * (s.rd p CAN_NBT_NTSEG1 + s.rd p CAN_NBT_NTSEG2 + 3)
  let db := (s.rd p CAN_DBT_DBRP + 1) * (s.rd p CAN_DBT_DTSEG1 + s.rd p CAN_DBT_DTSEG2 + 3)
  let len := if f.rtr then 0 else dlcLen f.fdf f.dlc
  let ticks := if f.fdf then
      let arb := if f.ide then 36 else 17
      let dat := 5 + 8 * len
      let crc := if 16 < len then 4 + 21 + 7 else 4 + 17 + 6
      (arb + (arb - 1) / 4 + 1 + 1 + 2 + 1 + 7) * nb + (dat + dat / 4 + crc) * (if f.brs then db else nb)
    else
      let body := (if f.ide then 54 else 34) + 8 * len
      (body + (body - 1) / 4 + 10) * nb
  ticks * 25 / 2

/-- DLC, BRS and ESI of a frame as a ring entry's word 3 has them (R423). -/
def CanFrame.ctlWord (f : CanFrame) : Nat := f.dlc % 16 + b2n f.brs * 16 + b2n f.esi * 32

/-- The 20 words of a ring entry (R423). -/
def CanEnt.words (e : CanEnt) : List Nat :=
  [e.time % 2 ^ 32, e.time / 2 ^ 32 % 2 ^ 32, e.frame.idw % 2 ^ 32,
   e.frame.ctlWord + b2n e.own * 64 + b2n e.locked * 128
     + (1 + b2n e.ecc * 2 + b2n e.wake * 4) * 2 ^ 8 + e.seq % 2 ^ 16 * 2 ^ 16]
    ++ leWords 16 e.frame.data

/-! ## The zone manager -/

/-- A zone's register field. -/
def State.zRd (s : State) (z : Nat) (f : Field) : Nat := s.rd pgZONE f z

/-- Writes a zone's register field. -/
def State.zWr (s : State) (z : Nat) (f : Field) (v : Nat) : State := s.wr pgZONE f v z

/-- Zone `z` beyond its registers. -/
def State.zoneSt (s : State) (z : Nat) : ZoneSt := s.zone.get (fun _ => {}) z

/-- Writes a zone's state. -/
def State.setZone (s : State) (z : Nat) (x : ZoneSt) : State := { s with zone := s.zone.set (fun _ => {}) z x }

def zsOFF : Nat := 0
def zsAWAKE : Nat := 1
def zsAGREEING : Nat := 2
def zsCOMMITTING : Nat := 3
def zsENTERING : Nat := 4
def zsASLEEP : Nat := 5
def zsWAKING : Nat := 6

/-- ZONEz_STAT.STATE (R443). -/
def State.zState (s : State) (z : Nat) : Nat := s.zRd z ZONEz_STAT_STATE

/-- The zone lets windows begin: it is AWAKE or not managed (R437). -/
def State.zoneOpen (s : State) (z : Nat) : Bool := s.zState z == zsAWAKE || s.zState z == zsOFF

/-- A zone that agrees to sleep lets FREE windows begin for its own frames (R435; DEDUCED, log entry 63). -/
def State.zoneTalks (s : State) (z : Nat) : Bool :=
  (s.zState z == zsAGREEING || s.zState z == zsCOMMITTING) && !(s.canSt z).zq.isEmpty

/-- A change of zone state (R443, R458). -/
def State.zMove (s : State) (z st : Nat) : State := (s.zWr z ZONEz_STAT_STATE st).irq pgZONE 2

/-- Queues a zone-manager frame on the port (R442). -/
def State.zFrame (s : State) (z id kind : Nat) (data : List Byte) : State :=
  let x := s.canSt z
  s.setCan z { x with zq := x.zq ++ [{ id := id, data := data, kind := kind }] }

/-- The zone is AWAKE with a RESULT; a configuration that waited takes effect (R443, R456). -/
def State.zAwake (s : State) (z result : Nat) : State :=
  let s := (s.zMove z zsAWAKE).zWr z ZONEz_STAT_RESULT result
  let x := s.zoneSt z
  let s := (x.later.getD []).foldl (fun s w => s.setWord pgZONE w.1 (BitVec.ofNat 32 w.2)) s
  let s := s.setZone z { ignoreTill := if x.pulse then s.now + 10000 else x.ignoreTill }
  if x.later.isNone then s
  else if s.zone.any (fun e => e.2.later.isSome) then s else s.applyDone pgZONE

/-- AGREEING or COMMITTING ends in AWAKE: a request or commit frame not yet started is cancelled and SLEEP_CMD abort is
sent, except on entry to QUIET (R443, R444, R448). -/
def State.zAbort (s : State) (z result : Nat) (silent : Bool) : State :=
  let x := s.canSt z
  let started (k : Nat) : Bool := x.act.any (fun a => a.zone.any (fun f => f.kind == k))
  let s := s.setCan z { x with zq := x.zq.filter (fun f => started f.kind) }
  let s := (s.zAwake z result).irq pgZONE 3
  if silent then s
  else s.zFrame z (s.zRd z ZONEz_IDS_A_CMD_ID) 2 [BitVec.ofNat 8 (s.zRd z ZONEz_STAT_SEQ), 0]

/-- The zone enters ASLEEP: the transceiver in standby, or partial operation (R446). -/
def State.zAsleep (s : State) (z result : Nat) : State :=
  let s := (s.zMove z zsASLEEP).zWr z ZONEz_STAT_RESULT result
  let s := if s.zRd z ZONEz_CFG_KIND = 0 then s.wr (canPg z) CAN_STAT_STANDBY 1 else s.wr (canPg z) CAN_STAT_PARTIAL 1
  (s.setZone z { s.zoneSt z with till := none, committed := false, pulse := false }).setCan z (s.canSt z)

/-- The end of a wake pulse that starts now. -/
def State.zPulseEnd (s : State) (z : Nat) : Nat := s.now + 10000 * max 1 (s.zRd z ZONEz_CFG_WAKE_PULSE)

/-- The port integrates again (R422); a port that is bus-off goes on recovering (R438). -/
def State.canIntegrate (s : State) (n : Nat) : State := if s.canState n = 2 then s else s.setCanState n 3

/-- The zone enters WAKING: the transceiver wakes, the port integrates, and the first pulse starts (R447). -/
def State.zWaking (s : State) (z : Nat) : State :=
  let s := s.zMove z zsWAKING
  let s := (s.wr (canPg z) CAN_STAT_STANDBY 0).wr (canPg z) CAN_STAT_PARTIAL 0
  let s := (s.canIntegrate z).setCan z (s.canSt z)
  let s := ((s.zWr z ZONEz_STAT_WAKE_LATCHED 0).zWr z ZONEz_REPLIED_REPLIED 0).zWr z ZONEz_STAT_TRIES 1
  s.setZone z { s.zoneSt z with till := some (s.zPulseEnd z), pulse := true, committed := false }

/-- A wake of kind `k`: 0 LINE, 1 BUS, 2 FRAME, 3 SOFT, 4 TX (R444, R445). -/
def State.zWake (s : State) (z k : Nat) : State :=
  let st := s.zState z
  if s.node = nsHOLD ∨ st = zsOFF ∨ st = zsAWAKE then s
  else
    let s := s.zWr z ZONEz_STAT_WAKE_SRC (setBits (s.zRd z ZONEz_STAT_WAKE_SRC) k 1 1)
    if st = zsAGREEING ∨ st = zsCOMMITTING ∧ !(s.zoneSt z).committed then s.zAbort z 4 false
    else if st = zsCOMMITTING ∨ st = zsENTERING then s.zWr z ZONEz_STAT_WAKE_LATCHED 1
    else if st = zsASLEEP then s.zWaking z
    else s

/-- Entry to QUIET aborts AGREEING, and COMMITTING before SLEEP_COMMIT, without an abort frame (R448). -/
def State.zQuiet (s : State) (z : Nat) : State :=
  let st := s.zState z
  if st = zsAGREEING ∨ st = zsCOMMITTING ∧ !(s.zoneSt z).committed then s.zAbort z 4 true else s

/-- A member's frame: an agreement or a refusal in AGREEING; ALIVE in WAKING, and late in the AWAKE that followed it (R442, R443, R447,
R456). -/
def State.zReply (s : State) (z : Nat) (f : CanFrame) : State :=
  let m := f.id - s.zRd z ZONEz_IDS_B_REPLY_BASE
  let mem := s.zRd z ZONEz_MEMBERS_MEMBERS
  let b0 : Nat := ((f.data[0]?).map (·.toNat)).getD 0
  let b1 : Nat := ((f.data[1]?).map (·.toNat)).getD 0xFF
  if f.ide || f.fdf || f.rtr || decide (f.id < s.zRd z ZONEz_IDS_B_REPLY_BASE ∨ 32 ≤ m ∨ f.data.length < 2)
      || !bitAt mem m || s.node == nsHOLD then s
  else
    let mark (s : State) : State := s.zWr z ZONEz_REPLIED_REPLIED (setBits (s.zRd z ZONEz_REPLIED_REPLIED) m 1 1)
    let full (s : State) : Bool := s.zRd z ZONEz_REPLIED_REPLIED &&& mem == mem
    if b1 = 2 then
      if s.zState z = zsWAKING then
        let s := mark s
        if full s then ((s.zAwake z 5).irq pgZONE 4).count pgZONE (8 + z) else s
      else if s.zState z = zsAWAKE ∧ 5 ≤ s.zRd z ZONEz_STAT_RESULT then mark s else s
    else if s.zState z = zsAGREEING ∧ b0 = s.zRd z ZONEz_STAT_SEQ then
      if b1 = 1 then
        let s := mark s
        if full s then
          let s := s.zMove z zsCOMMITTING
          let s := s.setZone z { s.zoneSt z with till := none, committed := false }
          s.zFrame z (s.zRd z ZONEz_IDS_A_CMD_ID) 1 [BitVec.ofNat 8 (s.zRd z ZONEz_STAT_SEQ), 1]
        else s
      else if b1 = 0 then s.zAbort z 2 false
      else s
    else s

/-- A frame of a zone in partial operation that wakes it: WAKE_ID, or ALIVE of a member (R445, R446). -/
def State.zWakeFrame (s : State) (z : Nat) (f : CanFrame) : Bool :=
  let base := s.zRd z ZONEz_IDS_B_REPLY_BASE
  !f.ide && !f.fdf && (f.id == s.zRd z ZONEz_IDS_B_WAKE_ID
    || decide (base ≤ f.id ∧ f.id < base + 32) && bitAt (s.zRd z ZONEz_MEMBERS_MEMBERS) (f.id - base)
        && (f.data[1]?) == some 2#8)

/-- ZONE_RES of an initiator (R457). -/
def State.zRes (s : State) (ini : Initiator) (r : Nat) : State :=
  let s := s.wr pgZONE ZONE_RES_RESULT r 0 ini.num
  if r = 0 then s else s.irq pgZONE 7

/-- ZONE_CMD SLEEP (R443, R457). -/
def State.zSleep (s : State) (ini : Initiator) (z : Nat) : State :=
  if s.node = nsQUIET then s.zRes ini 2
  else if s.zState z ≠ zsAWAKE ∨ !s.enabled (canPg z) ∨ s.canMode z ≠ 0 ∨ s.zRd z ZONEz_MEMBERS_MEMBERS = 0
      ∨ s.node = nsHOLD then s.zRes ini 1
  else
    let q := (s.zRd z ZONEz_STAT_SEQ + 1) % 256
    let s := ((s.zRes ini 0).zWr z ZONEz_STAT_SEQ q).zWr z ZONEz_REPLIED_REPLIED 0
    let s := ((s.zWr z ZONEz_STAT_WAKE_SRC 0).zWr z ZONEz_STAT_WAKE_LATCHED 0).zMove z zsAGREEING
    let s := s.setZone z { s.zoneSt z with till := none, committed := false }
    s.zFrame z (s.zRd z ZONEz_IDS_A_REQ_ID) 0 [BitVec.ofNat 8 q]

/-- ZONE_SLEEP: ZONE_CMD SLEEP starts the agreement. -/
def execZoneSleep (ini : Initiator) (zone : Nat) (s : State) : Res :=
  if s.takes pgZONE && decide (zone < 8) then .next (s.zSleep ini zone) else .next s

/-- ZONE_WAKE: ZONE_CMD WAKE, a SOFT wake. -/
def execZoneWake (ini : Initiator) (zone : Nat) (s : State) : Res :=
  if s.takes pgZONE && decide (zone < 8) then .next ((s.zRes ini 0).zWake zone 3) else .next s

/-- ZONE_AGREE_TIMEOUT: AGREE_WIN passes from the end of SLEEP_REQ (R443). -/
def execZoneAgreeTimeout (zone : Nat) (s : State) : Res :=
  match (s.zoneSt zone).till with
  | some t => if s.zState zone = zsAGREEING ∧ s.node ≠ nsHOLD then .next ((s.passTo t).zAbort zone 3 false) else .next s
  | none => .next s

/-- ZONE_ENTER_DONE: the zone is ASLEEP, and WAKING on the next tick where a wake is latched (R443, R444, R446). -/
def execZoneEnterDone (zone : Nat) (s : State) : Res :=
  match (s.zoneSt zone).till with
  | some t =>
    if s.zState zone = zsENTERING ∧ s.node ≠ nsHOLD then
      let s := ((s.passTo t).zAsleep zone 1).count pgZONE zone
      if s.zRd zone ZONEz_STAT_WAKE_LATCHED = 1 then .next ((s.pass 1).zWaking zone) else .next s
    else .next s
  | none => .next s

/-- ZONE_LINE_WAKE: WAKEn_N was held low for 5 µs by another device (R445). -/
def execZoneLineWake (zone : Nat) (s : State) : Res :=
  let x := s.zoneSt zone
  if zone < 8 ∧ !x.pulse ∧ x.ignoreTill ≤ s.now then .next (s.zWake zone 0) else .next s

/-- ZONE_BUS_WAKE: in ASLEEP with KIND STANDBY, CAN_RXn was held low for 5 µs (R445). -/
def execZoneBusWake (zone : Nat) (s : State) : Res :=
  if zone < 8 ∧ s.zState zone = zsASLEEP ∧ s.zRd zone ZONEz_CFG_KIND = 0 then .next (s.zWake zone 1) else .next s

/-- ZONE_WAKE_PULSE_END: WAKEn_N is released and WAKE_RSP starts (R445, R447). -/
def execZoneWakePulseEnd (zone : Nat) (s : State) : Res :=
  match (s.zoneSt zone).till with
  | some t =>
    if s.zState zone = zsWAKING ∧ (s.zoneSt zone).pulse ∧ s.node ≠ nsHOLD then
      let s := s.passTo t
      .next (s.setZone zone { s.zoneSt zone with
        pulse := false, ignoreTill := s.now + 10000,
        till := some (s.now + 1000000 * max 1 (s.zRd zone ZONEz_TIMING_WAKE_RSP)) })
    else .next s
  | none => .next s

/-- ZONE_WAKE_RSP_TIMEOUT: some members were heard, or the pulse repeats, or the zone falls back (R443, R447). -/
def execZoneWakeRspTimeout (zone : Nat) (s : State) : Res :=
  match (s.zoneSt zone).till with
  | some t =>
    if s.zState zone = zsWAKING ∧ !(s.zoneSt zone).pulse ∧ s.node ≠ nsHOLD then
      let s := s.passTo t
      let tries := s.zRd zone ZONEz_STAT_TRIES
      if s.zRd zone ZONEz_REPLIED_REPLIED ≠ 0 then
        .next (((s.zAwake zone 6).irq pgZONE 5).count pgZONE (8 + zone))
      else if tries < max 1 (s.zRd zone ZONEz_CFG_WAKE_TRIES) then
        let s := s.zWr zone ZONEz_STAT_TRIES (tries + 1)
        .next (s.setZone zone { s.zoneSt zone with till := some (s.zPulseEnd zone), pulse := true })
      else
        let s := ((s.zAsleep zone 7).irq pgZONE 6).count pgZONE (16 + zone)
        .next (s.fault pgZONE 0x24 1 0)
    else .next s
  | none => .next s

/-! ## Receiving -/

/-- Writes a frame to the receive ring, or discards it while the ring is full; `locked` at its TIME (R423, R424). -/
def State.canStore (s : State) (n time : Nat) (f : CanFrame) (own locked wake : Bool) : State :=
  let p := canPg n
  if !s.on p CAN_CTRL_RX_RING_EN then s
  else
    let x := s.canSt n
    let q := (x.seq + 1) % 2 ^ 16
    if 256 ≤ x.ring.length then
      let s := s.setCan n { x with seq := q }
      let s := (s.wr p CAN_RX_STAT_OVF 1).wr p CAN_RX_STAT_OVF_COUNT (satInc 0xFFFF (s.rd p CAN_RX_STAT_OVF_COUNT))
      (s.irq p 4).count p 2
    else
      let e : CanEnt := { time := time, frame := f, own := own, locked := locked, wake := wake, seq := x.seq }
      let s := s.setCan n { x with ring := x.ring ++ [e], seq := q }
      let s := (s.irq p 2).count p 1
      if x.ring.length + 1 = min 256 (max 1 (s.rd p CAN_RX_WEIR_LEVEL)) then s.irq p 3 else s

/-- Byte `j` of a frame; bytes beyond its length count as 0. -/
def frameByte (f : CanFrame) (j : Nat) : Nat := ((f.data[j]?).map (·.toNat)).getD 0

/-- Receive mailboxes that match take the frame's bytes (R426). -/
def State.canMailboxes (s : State) (n : Nat) (f : CanFrame) : State :=
  let p := canPg n
  (List.range 16).foldl (fun s k =>
    let mask := s.rd p CAN_RMBXk_MASK_MASK k
    if s.on p CAN_RMBXk_ID_EN k && !f.rtr && (s.on p CAN_RMBXk_ID_IDE k == f.ide)
        && (f.id &&& mask == s.rd p CAN_RMBXk_ID_ID k &&& mask) then
      let b := s.rd p CAN_RMBXk_EXT_BYTE k
      let v := if s.on p CAN_RMBXk_EXT_BE k
        then frameByte f b * 2 ^ 24 + frameByte f (b + 1) * 2 ^ 16 + frameByte f (b + 2) * 2 ^ 8 + frameByte f (b + 3)
        else frameByte f b + frameByte f (b + 1) * 2 ^ 8 + frameByte f (b + 2) * 2 ^ 16 + frameByte f (b + 3) * 2 ^ 24
      s.wr p CAN_RMBXk_VAL_VALUE (v / 2 ^ s.rd p CAN_RMBXk_EXT_SHIFT k) k
    else s) s

/-- A frame received is counted (R427, R455). -/
def State.canCount (s : State) (n : Nat) : State :=
  let x := s.canSt n
  (s.setCan n { x with rxCount := (x.rxCount + 1) % 2 ^ 32 }).count (canPg n) 0

/-- A frame passes into the port's receive path: counted, stored, to mailboxes and the zone manager. -/
def State.canTake (s : State) (n time : Nat) (f : CanFrame) (own locked : Bool) : State :=
  let s := s.canCount n
  let s := (s.canStore n time f own locked false).canMailboxes n f
  if own then s else s.zReply n f

/-- ERROR_ACTIVE or ERROR_PASSIVE by the counters (R438). -/
def State.canConfine (s : State) (n : Nat) : State :=
  if 2 ≤ s.canState n then s
  else
    let st := if 127 < s.rd (canPg n) CAN_ERR_TEC ∨ 127 < s.rd (canPg n) CAN_ERR_REC then 1 else 0
    let s' := s.setCanState n st
    if st = 1 ∧ s.canState n = 0 then s'.count (canPg n) 6 else s'

/-- REC after a frame received well: one less, or a value from 119 to 127, which ISO 11898-1 leaves open, where it stood
above 127 (log entry 3). -/
def State.canRecOk (s : State) (n : Nat) : State :=
  if s.canFrozen n then s
  else
    let r := s.rd (canPg n) CAN_ERR_REC
    if 127 < r then ((s.wr (canPg n) CAN_ERR_REC (119 + s.freeVal % 9)).drawn).canConfine n
    else (s.wr (canPg n) CAN_ERR_REC (r - 1)).canConfine n

/-- REC after an error in reception: 1 or 8 more, stopping at 255 (R438, R450). -/
def State.canRecErr (s : State) (n lec : Nat) (eight : Bool) : State :=
  let p := canPg n
  let s := (s.count p 5).wr p CAN_ERR_LEC (lec % 8)
  let x := s.canSt n
  let s := s.setCan n { x with good := 0 }
  if s.canFrozen n then s
  else (s.wr p CAN_ERR_REC (min 255 (s.rd p CAN_ERR_REC + (if eight then 8 else 1)))).canConfine n

/-- The port may receive: enabled, past step 4, not in HOLD, not in standby, not integrating or bus-off (R419). -/
def State.canHears (s : State) (n : Nat) : Bool :=
  s.enabled (canPg n) && decide (4 ≤ s.rd pgPWRST PWRST_STATE_STEP ∧ s.canState n < 2) && s.node != nsHOLD
    && !s.on (canPg n) CAN_STAT_STANDBY && !s.canDark n

/-- Detection ends, with the candidate that succeeded, adopted where AUTO is 1 (R441). -/
def State.canDetectEnd (s : State) (n : Nat) (found : Option Nat) : State :=
  let p := canPg n
  let s := ((s.wr p CAN_DET_STAT_RUNNING 0).wr p CAN_DET_STAT_DONE 1).wr p CAN_DET_STAT_FOUND (b2n found.isSome)
  let s := match found with
    | some c =>
      let s := s.wr p CAN_DET_STAT_CAND c
      if s.on p CAN_DET_CTRL_AUTO then
        let t := BitVec.ofNat 32 (s.rd p CAN_DETCANDk_TIMING c % 2 ^ 22)
        let s := (s.setWord p 0x104 t).setShadow p 0x104 t
        let s := (s.wr p CAN_CTRL_MODE 0).setShadow p 0x100 (CAN_CTRL_MODE.into (s.shadowWord p 0x100) 0)
        let s := (s.wr p CFG_GEN_W (s.rd p CFG_GEN_W + 1)).irq p 1
        (s.canIntegrate n).setCan n (s.canSt n)
      else s
    | none => s
  s.irq p 9

/-- The shortest bus level seen in detection (R441). -/
def State.canPulse (s : State) (n pulse : Nat) : State :=
  if pulse < s.rd (canPg n) CAN_DET_STAT_MIN_PULSE then s.wr (canPg n) CAN_DET_STAT_MIN_PULSE pulse else s

/-- CAN_FRAME_RX: a frame became valid, its start of frame `age` cycles of CLK_CAN ago; `res` is the level of the res bit of a CAN FD
frame and `pulse` the shortest level seen in it in ticks (R422, R423, R426, R441, R446). -/
def execCanFrameRx (port idw dlc : Nat) (brs esi : Bool) (data : List Byte) (age : Nat) (res : Bool) (pulse : Nat)
    (s : State) : Res :=
  let f0 : CanFrame := { idw := idw % 2 ^ 32, dlc := dlc % 16, brs := brs, esi := esi, data := [] }
  let f := { f0 with data := if f0.rtr then [] else data.take (dlcLen f0.fdf (dlc % 16)) }
  let time := s.canBack age
  let locked := s.lockedAt (s.now - 25 * age / 2)
  let p := canPg port
  if !(decide (port < 8) && s.canHears port) then .next s
  else if f.fdf ∧ (!s.on p CAN_CTRL_FD_EN ∨ res) then
    if s.on p CAN_CTRL_PEX_EN then .next ((s.canIntegrate port).count p 13)
    else .next (s.canRecErr port 2 false)
  else if s.on p CAN_STAT_PARTIAL then
    if s.zWakeFrame port f then .next (((s.canCount port).canStore port time f false locked true).zWake port 2)
    else .next (s.count p 14)
  else
    let s := (s.canTake port time f false locked).canRecOk port
    if s.on p CAN_DET_STAT_RUNNING then
      let s := s.canPulse port pulse
      let x := s.canSt port
      if max 1 (s.rd p CAN_DET_CTRL_FRAMES) ≤ x.good + 1 then .next (s.canDetectEnd port (some x.cand))
      else .next (s.setCan port { x with good := x.good + 1 })
    else .next s

/-- CAN_ERROR_DETECTED: an error in reception; `eight` where ISO 11898-1 adds 8 to REC (R438). -/
def execCanErrorDetected (port lec : Nat) (eight : Bool) (s : State) : Res :=
  if port < 8 && s.canHears port then .next (s.canRecErr port lec eight) else .next s

/-- CAN_RX_POP: a read of CAN_RXE19 returns its word and removes the head entry (R424). -/
def execCanRxPop (ini : Initiator) (port : Nat) (s : State) : Res :=
  s.awake <|
  let x := s.canSt port
  match (if s.on (canPg port) PAGE_STAT_READY then x.ring else []) with
  | [] => .next (s.rsp ini stOK [0])
  | e :: l => .next ((s.setCan port { x with ring := l }).rsp ini stOK [e.words.getD 19 0])

/-- Bus-off is over: ERROR_ACTIVE with the counters at 0 (R438). -/
def State.canRecovered (s : State) (n : Nat) : State :=
  let p := canPg n
  (((s.wr p CAN_ERR_RECOV 128).wr p CAN_ERR_TEC 0).wr p CAN_ERR_REC 0).setCanState n 0

/-- CAN_INTEGRATED: 11 recessive bits complete integration; in bus-off they are one of the 128 occurrences that RECOV counts (R422,
R438). -/
def execCanIntegrated (port : Nat) (s : State) : Res :=
  let p := canPg port
  if port < 8 ∧ s.enabled p ∧ !s.on p CAN_STAT_STANDBY ∧ !s.canDark port ∧ 4 ≤ s.rd pgPWRST PWRST_STATE_STEP ∧ s.node ≠ nsHOLD then
    if s.canState port = 3 then
      let passive := decide (127 < s.rd p CAN_ERR_TEC ∨ 127 < s.rd p CAN_ERR_REC)
      let s := s.setCanState port (b2n passive)
      .next (if passive then s.count p 6 else s)
    else if s.canState port = 2 then
      let k := s.rd p CAN_ERR_RECOV + 1
      .next (if 128 ≤ k then s.canRecovered port else s.wr p CAN_ERR_RECOV k)
    else .next s
  else .next s

/-- CAN_BUSOFF_RECOVERED: the last of 128 occurrences of 11 recessive bits (R438). -/
def execCanBusoffRecovered (port : Nat) (s : State) : Res :=
  if port < 8 ∧ s.canState port = 2 then .next (s.canRecovered port) else .next s

/-! ## Finding the bus rate -/

/-- CAN_DETECT_START: a write of 1 to CAN_DET_CTRL.START in MODE DETECT (R441). -/
def execCanDetectStart (port : Nat) (s : State) : Res :=
  let p := canPg port
  if s.takes p && decide (port < 8) && s.enabled p && s.canMode port == 3 && !s.on p CAN_DET_STAT_RUNNING then
    let s := ((s.wr p CAN_DET_STAT_RUNNING 1).wr p CAN_DET_STAT_DONE 0).wr p CAN_DET_STAT_FOUND 0
    let s := s.wr p CAN_DET_STAT_MIN_PULSE 0xFFFF
    .next (s.setCan port { s.canSt port with
      cand := 0, good := 0, dwellEnd := s.now + 1000000 * max 1 (s.rd p CAN_DET_CTRL_DWELL) })
  else .next s

/-- CAN_DETECT_DWELL: a candidate's DWELL passes (R441). -/
def execCanDetectDwell (port pulse : Nat) (s : State) : Res :=
  let p := canPg port
  let x := s.canSt port
  if !(decide (port < 8) && s.on p CAN_DET_STAT_RUNNING) then .next s
  else
    let s := (s.passTo x.dwellEnd).canPulse port pulse
    if s.rd p CAN_DET_CTRL_CANDS ≤ x.cand then .next (s.canDetectEnd port none)
    else .next (s.setCan port { x with
      cand := x.cand + 1, good := 0, dwellEnd := s.now + 1000000 * max 1 (s.rd p CAN_DET_CTRL_DWELL) })

/-! ## Transmit buffers -/

/-- CAN_TXB_RES of an initiator (R452). -/
def State.canRes (s : State) (ini : Initiator) (n r : Nat) : State := s.wr (canPg n) CAN_TXB_RES_RESULT r 0 ini.num

/-- A buffer becomes PENDING, which wakes a zone with WAKE_ON_TX (R429, R445). -/
def State.canPend (s : State) (n b : Nat) (inj : Option Nat) : State :=
  let x := s.canSt n
  let s := s.setCan n (x.setBuf b { x.bufAt b with st := 1, inj := inj })
  if s.zRd n ZONEz_CFG_WAKE_ON_TX = 1 then s.zWake n 4 else s

/-- REQUEST of a buffer, as CAN_TXB_CMD and a transmit mailbox make it; the result (R429). -/
def State.canRequest (s : State) (n b : Nat) : State × Nat :=
  let x := s.canSt n
  let v := x.bufAt b
  if s.badFrame n v then (s, 5)
  else match v.st with
    | 0 => (s.canPend n b none, 0)
    | 1 => (s, 0)
    | 2 => (s.setCan n (x.setBuf b { v with latched := true }), 4)
    | _ => (s, 3)

/-- CAN_REQUEST: CAN_TXB_CMD REQUEST. -/
def execCanRequest (ini : Initiator) (port buf : Nat) (s : State) : Res :=
  if s.takes (canPg port) && decide (port < 8 ∧ buf < 32) then
    let (t, r) := s.canRequest port buf
    .next (t.canRes ini port r)
  else .next s

/-- CAN_CANCEL: CAN_TXB_CMD CANCEL (R429). -/
def execCanCancel (ini : Initiator) (port buf : Nat) (s : State) : Res :=
  if !(s.takes (canPg port) && decide (port < 8 ∧ buf < 32)) then .next s
  else
    let x := s.canSt port
    let v := x.bufAt buf
    match v.st with
    | 1 =>
      let s := s.setCan port (x.setBuf buf { v with st := 0, last := 2, latched := false, inj := none })
      .next ((s.count (canPg port) 11).canRes ini port 0)
    | 2 => .next ((s.count (canPg port) 12).canRes ini port 1)
    | _ => .next (s.canRes ini port 2)

/-- CAN_RELEASE: CAN_TXB_CMD RELEASE returns a CLASH buffer to IDLE (R429). -/
def execCanRelease (ini : Initiator) (port buf : Nat) (s : State) : Res :=
  if !(s.takes (canPg port) && decide (port < 8 ∧ buf < 32)) then .next s
  else
    let x := s.canSt port
    let v := x.bufAt buf
    if v.st = 3 then .next ((s.setCan port (x.setBuf buf { v with st := 0, clash := 0 })).canRes ini port 0) else .next s

/-- A CAN_INJECT launch at `t`; none where it is reported FAILED_TARGET (R431). -/
def State.canInject (s : State) (n b t : Nat) : Option State :=
  if 32 ≤ b ∨ (s.canSt n |>.bufAt b).st ≠ 0 then none
  else some ((s.canPend n b (some t)).count (canPg n) 15)

/-! ## Schedule matrices -/

/-- CYCLE_LEN of a CAN_SCHED word in ns (R433). -/
def cycleLen (w : Nat) : Nat := 250000 * 2 ^ min 8 (bitsOf w 2 4)

/-- How many basic cycles the matrix of a CAN_SCHED word holds. -/
def matrixLen (w : Nat) : Nat := 2 ^ min 6 (bitsOf w 6 3)

/-- PHASE of a CAN_SCHED word in ns, taken modulo CYCLE_LEN (R450). -/
def schedPhase (w : Nat) : Nat := bitsOf w 16 16 * 1000 % cycleLen w

/-- START of a slot in ns. -/
def slotStart (a : Nat) : Nat := bitsOf a 0 16 * 1000
/-- The length of a slot's window in ns. -/
def slotWin (a : Nat) : Nat := 8000 * max 1 (bitsOf a 24 8)
/-- BUF of a slot. -/
def slotBuf (a : Nat) : Nat := bitsOf a 16 5
/-- KIND of a slot: 1 EXCLUSIVE, 2 FREE. -/
def slotKind (a : Nat) : Nat := bitsOf a 22 2
/-- 2^REPEAT of a slot. -/
def slotRepeat (b : Nat) : Nat := 2 ^ min 6 (bitsOf b 6 3)

/-- A slot applies in basic cycle count `i` (R434). -/
def slotApplies (b i : Nat) : Bool := i % slotRepeat b == bitsOf b 0 6 % slotRepeat b

/-- The windows of two slots overlap in some basic cycle in which both apply (R434). -/
def slotsOverlap (m : Nat) (x y : Nat × Nat × Nat) : Bool :=
  decide (slotStart x.2.1 < slotStart y.2.1 + slotWin y.2.1 ∧ slotStart y.2.1 < slotStart x.2.1 + slotWin x.2.1)
    && (List.range m).any (fun i => slotApplies x.2.2 i && slotApplies y.2.2 i)

/-- The valid entries of a slot table, and the first invalid one (R434). -/
def validSlots (w : Nat) (l : List (Nat × Nat × Nat)) : List (Nat × Nat × Nat) × Option Nat :=
  l.foldl (fun (a : List (Nat × Nat × Nat) × Option Nat) e =>
    if slotKind e.2.1 = 0 ∨ slotKind e.2.1 = 3 then a
    else if cycleLen w < slotStart e.2.1 + slotWin e.2.1 || a.1.any (slotsOverlap (matrixLen w) e) then
      (a.1, if a.2.isSome then a.2 else some e.1)
    else (a.1 ++ [e], a.2)) ([], none)

/-- The schedule and slot table as applied take effect (R434). -/
def State.canLoad (s : State) (n : Nat) : State :=
  let p := canPg n
  let w := (s.word p 0x10C).toNat
  let l := (List.range 64).map (fun k => (k, (s.word p (0x800 + 8 * k)).toNat, (s.word p (0x804 + 8 * k)).toNat))
  let (ok, bad) := validSlots w l
  let s := s.setCan n { s.canSt n with sched := w, slots := ok, schedNew := false }
  match bad with
  | some k => ((s.wr p CAN_SCHED_STAT_ERR_INDEX k).wr p CAN_SCHED_STAT_ERR 1).irq p 10
  | none => (s.wr p CAN_SCHED_STAT_ERR_INDEX 0).wr p CAN_SCHED_STAT_ERR 0

/-- The next multiple of `len` past `phase` that lies at `t` or later. -/
def boundary (t len phase : Nat) : Nat :=
  if t ≤ phase then phase else phase + (t - phase + len - 1) / len * len

/-- CAN_CYCLE_START: a basic cycle begins, which runs where the Governor is locked; a new schedule is loaded at the start of a matrix
cycle and begins with its own first cycle (R433, R434, R437). -/
def execCanCycleStart (port : Nat) (s : State) : Res :=
  let p := canPg port
  let x := s.canSt port
  let off := !bitAt x.sched 0
  let w := if off then (s.word p 0x10C).toNat else x.sched
  if !(decide (port < 8) && (s.locked || !off) && s.enabled p && bitAt w 0 && (!off || x.schedNew)) then .next s
  else
    let len := cycleLen w
    let from_ := match x.cycle with
      | some c => if off then s.ringNow else max s.ringNow (c + 1)
      | none => s.ringNow
    let t := if off then boundary from_ (len * matrixLen w) (schedPhase w) else boundary from_ len (schedPhase w)
    let s := s.passRing t
    let i := (t - schedPhase w) / len % matrixLen w
    let s := if x.schedNew && i == 0 && s.locked then s.canLoad port else s
    let x := s.canSt port
    let w := x.sched
    if bitAt w 0 && decide ((t - schedPhase w) % cycleLen w ≠ 0) then .next (s.setCan port { x with cycle := none, win := none })
    else if bitAt w 0 then
      let s := s.setCan port { x with cycle := some t }
      .next ((s.wr p CAN_SCHED_STAT_RUNNING (b2n s.locked)).wr p CAN_SCHED_STAT_CYCLE_CNT
        ((t - schedPhase w) / cycleLen w % matrixLen w))
    else .next ((s.setCan port { x with cycle := none, win := none }).wr p CAN_SCHED_STAT_RUNNING 0)

/-- The buffers that EXCLUSIVE entries of the schedule name. -/
def CanSt.exclusive (x : CanSt) : List Nat := (x.slots.filter (fun e => slotKind e.2.1 == 1)).map (fun e => slotBuf e.2.1)

/-- The injected buffer that claims a FREE window beginning at `t`: the earliest TIME, then the lower buffer; none that an EXCLUSIVE entry
names (R435). -/
def CanSt.claim (x : CanSt) (t : Nat) : Option Nat :=
  (x.buf.foldl (fun (a : Option (Nat × Nat)) e =>
    match e.2.inj with
    | some u =>
      if e.2.st = 1 ∧ u ≤ t ∧ !x.exclusive.contains e.1 then match a with
        | some y => if u < y.2 then some (e.1, u) else a
        | none => some (e.1, u)
      else a
    | none => a) none).map (·.1)

/-- CAN_WINDOW_START: the window of a slot of the current basic cycle begins (R435, R437). -/
def execCanWindowStart (port slot : Nat) (s : State) : Res :=
  let p := canPg port
  let x := s.canSt port
  match x.cycle, x.slots.find? (fun e => e.1 == slot) with
  | some c, some (_, a, b) =>
    if !bitAt x.sched 0 || !slotApplies b ((c - schedPhase x.sched) / cycleLen x.sched % matrixLen x.sched) then .next s
    else
      let s := s.passRing (c + slotStart a)
      let talks := slotKind a != 1 && s.zoneTalks port
      if !s.locked || !s.on p CAN_SCHED_STAT_RUNNING || !(s.zoneOpen port || talks) then .next (s.count p 9)
      else
        let till := c + slotStart a + slotWin a
        if slotKind a = 1 then
          let v := x.bufAt (slotBuf a)
          let s := if bitAt v.ctl 7 && v.st == 0 && !s.badFrame port v then s.canPend port (slotBuf a) none else s
          let x := s.canSt port
          .next (s.setCan port { x with win := some { slot := slot, till := till, buf := some (slotBuf a), claimed := true } })
        else
          let q := if talks then none else x.claim (c + slotStart a)
          .next (s.setCan port { x with win := some { slot := slot, till := till, buf := q, claimed := q.isSome } })
  | _, _ => .next s

/-- A slot is missed (R436). -/
def State.canMiss (s : State) (n b : Nat) : State :=
  let x := s.canSt n
  let v := x.bufAt b
  let s := s.setCan n { x.setBuf b { v with misses := min 255 (v.misses + 1) } with
    missCount := (x.missCount + 1) % 2 ^ 32 }
  (s.count (canPg n) 8).irq (canPg n) 8

/-- CAN_WINDOW_END: the open window ends; the slot is missed where its frame waits (R436). -/
def execCanWindowEnd (port : Nat) (s : State) : Res :=
  let x := s.canSt port
  match x.win with
  | none => .next s
  | some w =>
    let s := s.passRing w.till
    let s := s.setCan port { x with win := none }
    match w.buf with
    | some b => if w.claimed && !w.sent && (x.bufAt b).st == 1 then .next (s.canMiss port b) else .next s
    | none => .next s

/-! ## Attempts -/

/-- The frame of a zone-manager frame. -/
def ZoneFrame.frame (f : ZoneFrame) : CanFrame := { idw := f.id % 2 ^ 11, dlc := f.data.length, data := f.data }

/-- The pending buffer of `l` that would win arbitration against every other (R430). -/
def bestBuf (x : CanSt) (l : List Nat) : Option Nat :=
  l.foldl (fun (a : Option Nat) b => match a with
    | some y => if arbKey (x.bufAt b).frame < arbKey (x.bufAt y).frame then some b else a
    | none => some b) none

/-- The port may start a frame (R419, R421, R439, R446). -/
def State.canSends (s : State) (n : Nat) : Bool :=
  s.enabled (canPg n) && s.node == nsSERVICE && !s.cold && (s.canMode n == 0 || s.canMode n == 4)
    && decide (s.canState n < 2) && (s.canSt n).act.isNone && !s.on (canPg n) CAN_STAT_STANDBY
    && !s.on (canPg n) CAN_STAT_PARTIAL && s.zState n != zsASLEEP && !s.canDark n

/-- The attempt that the port offers now: a buffer, or the first zone-manager frame (R430, R435, R437). -/
def State.canOffer (s : State) (n : Nat) : Option (Option Nat × Option ZoneFrame × Option Nat) :=
  let x := s.canSt n
  let pend (p : Nat → CanBuf → Bool) : List Nat :=
    (x.buf.filter (fun e => e.2.st == 1 && !e.2.bad && p e.1 e.2)).map (·.1)
  let free (l : List Nat) : Option (Option Nat × Option ZoneFrame × Option Nat) :=
    match bestBuf x l, x.zq.head? with
    | some b, some z => if arbKey z.frame < arbKey (x.bufAt b).frame then some (none, some z, none)
        else some (some b, none, none)
    | some b, none => some (some b, none, none)
    | none, some z => some (none, some z, none)
    | none, none => none
  if !bitAt x.sched 0 then
    free (pend (fun _ v => v.inj.all (fun t => decide (t ≤ s.ringNow))))
  else if !s.locked then
    if bitAt x.sched 1 then free (pend (fun b v => v.inj.isNone && !x.exclusive.contains b)) else none
  else match x.win with
    | none => none
    | some w =>
      if w.till ≤ s.ringNow ∨ !(s.zoneOpen n || s.zoneTalks n) ∨ !s.on (canPg n) CAN_SCHED_STAT_RUNNING then none
      else match w.buf with
        | some b =>
          let fits := slotKind ((x.slots.find? (fun e => e.1 == w.slot)).elim 0 (·.2.1)) == 1
            || decide (s.ringNow + s.canDur n (x.bufAt b).frame ≤ w.till)
          if s.zoneOpen n ∧ (x.bufAt b).st = 1 ∧ !(x.bufAt b).bad ∧ fits then some (some b, none, some w.slot) else none
        | none => match x.zq.head? with
          | some z => if s.ringNow + s.canDur n z.frame ≤ w.till then some (none, some z, some w.slot) else none
          | none =>
            match bestBuf x (pend (fun b v => s.zoneOpen n && v.inj.isNone && !x.exclusive.contains b)) with
            | some b => if s.ringNow + s.canDur n (x.bufAt b).frame ≤ w.till then some (some b, none, some w.slot) else none
            | none => none

/-- CAN_ATTEMPT_START: the start of frame of the chosen frame is driven, a CAN FD frame of an ERROR_PASSIVE port with ESI 1; for SLEEP_CMD
commit it is SLEEP_COMMIT (R418, R430, R435, R444). -/
def execCanAttemptStart (port : Nat) (s : State) : Res :=
  if !(decide (port < 8) && s.canSends port) then .next s
  else match s.canOffer port with
    | none => .next s
    | some (some b, _, w) =>
      let x := s.canSt port
      let v := x.bufAt b
      let f := v.frame
      .next (s.setCan port { x.setBuf b { v with st := 2 } with
        act := some { buf := some b, ctl := v.ctl, frame := { f with esi := f.fdf && s.canState port == 1 }, at_ := s.canBack 0, locked := s.locked, slot := w } })
    | some (none, z, w) =>
      let x := s.canSt port
      match z with
      | none => .next s
      | some f =>
        let s := s.setCan port { x with act := some {
          buf := none, zone := some f, frame := f.frame, at_ := s.canBack 0, locked := s.locked, slot := w } }
        if f.kind = 1 ∧ s.zState port = zsCOMMITTING then .next (s.setZone port { s.zoneSt port with committed := true })
        else .next s

/-- A zone-manager frame was sent: AGREE_WIN or ENTER starts (R443). -/
def State.zSent (s : State) (z : Nat) (f : ZoneFrame) : State :=
  if f.kind = 0 ∧ s.zState z = zsAGREEING then
    s.setZone z { s.zoneSt z with till := some (s.now + 1000000 * max 1 (s.zRd z ZONEz_TIMING_AGREE_WIN)) }
  else if f.kind = 1 ∧ s.zState z = zsCOMMITTING then
    let s := s.zMove z zsENTERING
    s.setZone z { s.zoneSt z with till := some (s.now + 1000000 * max 1 (s.zRd z ZONEz_CFG_ENTER)), committed := true }
  else s

/-- An apply that waited for bus idle takes effect (R422). -/
def State.canLater (s : State) (n : Nat) : State :=
  match (s.canSt n).later with
  | none => s
  | some ws =>
    let s := ws.foldl (fun s w => s.setWord (canPg n) w.1 (BitVec.ofNat 32 w.2)) s
    let x := s.canSt n
    let slots := x.schedNew || ws.any (fun w => w.1 == 0x10C || decide (0x800 ≤ w.1))
    ((s.canIntegrate n).setCan n { x with later := none, schedNew := slots }).applyDone (canPg n)

/-- TEC after an error in transmission; past 255 the port is bus-off (R438). -/
def State.canTecErr (s : State) (n : Nat) : State :=
  let p := canPg n
  let t := s.rd p CAN_ERR_TEC + 8
  if 255 < t then
    let s := ((s.wr p CAN_ERR_TEC 255).wr p CAN_ERR_RECOV 0).setCanState n 2
    (s.count p 7).fault p 0x23 0 0
  else (s.wr p CAN_ERR_TEC t).canConfine n

/-- A buffer's attempt with CAN_TXB_CTL `ctl` failed: retried, or ended by ONE_SHOT; a latched request makes it PENDING (R429, R430). -/
def CanBuf.failed (v : CanBuf) (ctl : Nat) : CanBuf :=
  if v.latched then { v with st := 1, latched := false, last := if bitAt ctl 5 then 3 else v.last }
  else if bitAt ctl 5 then { v with st := 0, last := 3, inj := none }
  else { v with st := 1 }

/-- ID_CLASH_LIM consecutive clash errors put the buffer in CLASH, with the identifier of the frame `f` that was sent (R440). -/
def State.canClash (s : State) (n b : Nat) (f : CanFrame) : State :=
  let p := canPg n
  let x := s.canSt n
  let v := x.bufAt b
  let c := min 15 (v.clash + 1)
  let lim := s.rd p CAN_CTRL_ID_CLASH_LIM
  if lim ≠ 0 ∧ lim ≤ c then
    let s := s.setCan n (x.setBuf b { v with st := 3, last := 4, clash := c, latched := false, inj := none })
    let s := ((s.wr p CAN_CLASH_ID_ID f.id).wr p CAN_CLASH_ID_IDE (b2n f.ide)).wr p CAN_CLASH_BUF_BUF b
    (s.irq p 7).count p 10
  else s.setCan n (x.setBuf b { v with clash := c })

/-- CAN_ATTEMPT_END: the attempt on the bus ends: 0 success, 1 arbitration lost, 2 an error with its LEC code; `clash` where it ended
between the arbitration field and the ACK slot in a bit error or another node's error flag; `exempt` where ISO 11898-1 leaves TEC. A
buffer that is PENDING again wakes its zone. Only in SERVICE and QUIET does the port drive the bus: elsewhere the attempt is never
completed (R419, R429, R430, R436, R438, R440, R443, R445). -/
def execCanAttemptEnd (port outcome lec : Nat) (clash exempt : Bool) (s : State) : Res :=
  let p := canPg port
  let x := s.canSt port
  match (if s.node = nsSERVICE ∨ s.node = nsQUIET then x.act else none) with
  | none => .next s
  | some a =>
    let s := s.setCan port { x with act := none }
    let wake (s : State) (b : Nat) : State :=
      if ((s.canSt port).bufAt b).st = 1 ∧ s.zRd port ZONEz_CFG_WAKE_ON_TX = 1 then s.zWake port 4 else s
    let own (s : State) : State :=
      let s := s.count p 3
      let s := if s.canFrozen port then s else (s.wr p CAN_ERR_TEC (s.rd p CAN_ERR_TEC - 1)).canConfine port
      let s := if s.canMode port = 4 then s else s.emit (.can port a.frame.idw a.frame.ctlWord (leWords 16 a.frame.data))
      if s.on p CAN_CTRL_SELF_RX || s.canMode port == 4 then s.canTake port a.at_ a.frame true a.locked else s
    let failed (s : State) : State :=
      if outcome = 1 then s.count p 4
      else
        let s := (s.count p 5).wr p CAN_ERR_LEC (lec % 8)
        if exempt || s.canFrozen port then s else s.canTecErr port
    match a.buf, a.zone with
    | some b, _ =>
      let x := s.canSt port
      let v := x.bufAt b
      if outcome = 0 then
        let v' := { v with st := b2n v.latched, latched := false, last := 1, misses := 0, clash := 0, inj := none }
        let s := s.setCan port { x.setBuf b v' with win := x.win.map (fun w => if w.buf = some b then { w with sent := true } else w) }
        let s := (s.wr p CAN_TX_DONE_DONE (setBits (s.rd p CAN_TX_DONE_DONE) b 1 1)).irq p 5
        let s := if bitAt a.ctl 6 then s.txStamp a.at_ a.locked port 1 (bitsOf a.ctl 16 16) else s
        .next ((wake (own s) b).canLater port)
      else
        let s := s.setCan port (x.setBuf b (v.failed a.ctl))
        let s := failed s
        let s := if outcome = 2 ∧ clash then s.canClash port b a.frame else s
        let open_ := (s.canSt port).win.any (fun w => some w.slot == a.slot)
        let kind := slotKind ((x.slots.find? (fun e => some e.1 == a.slot)).elim 0 (·.2.1))
        let s := if a.slot.isSome && !open_ && (kind == 1 || v.inj.isSome) && ((s.canSt port).bufAt b).st == 1
          then s.canMiss port b else s
        .next ((wake s b).canLater port)
    | none, some f =>
      if outcome = 0 then
        let s := s.setCan port { s.canSt port with zq := (s.canSt port).zq.erase f }
        .next (((own s).zSent port f).canLater port)
      else
        let s := failed s
        let s := if (f.kind = 1 ∧ s.zState port ≠ zsCOMMITTING) ∨ (f.kind = 0 ∧ s.zState port ≠ zsAGREEING) then
          s.setCan port { s.canSt port with zq := (s.canSt port).zq.erase f } else s
        .next (s.canLater port)
    | none, none => .next s

/-! ## Pins -/

/-- The pins of a port and of its zone are high impedance: before start-up step 4, and on a bank without supply (R87, R417, R704). -/
def State.canHiZ (s : State) (n : Nat) : Bool := decide (s.rd pgPWRST PWRST_STATE_STEP < 4) || s.canDark n

/-- CAN_TXn: recessive, which is high, but for an attempt on the bus (R417, R419, R421). -/
def State.canTx (s : State) (n : Nat) : Pin :=
  if s.canHiZ n then .hiZ
  else if (s.canSt n).act.isSome && s.canMode n != 4 && (s.node == nsSERVICE || s.node == nsQUIET) then .signal
  else .level true

/-- CAN_STBn: high selects standby; in HOLD it follows SAFE_STB (R417, R419, R446). -/
def State.canStb (s : State) (n : Nat) : Pin :=
  if s.canHiZ n then .hiZ
  else .level (if s.node = nsHOLD then s.on (canPg n) CAN_CTRL_SAFE_STB else s.on (canPg n) CAN_STAT_STANDBY)

/-- WAKEn_N: open-drain, low during a wake pulse, released in HOLD (R417, R419, R445). -/
def State.canWake (s : State) (n : Nat) : Pin :=
  if s.canHiZ n then .hiZ
  else if (s.zoneSt n).pulse && s.node != nsHOLD then .level false else .openDrain

end Sys2Proof.Machine
end

