-- ==== Sys2Proof/Machine/Launch.lean ====
section
/-!
DEFINITION. The launch queue (R312 to R318, R328 to R330): insertion, staging, execution and the exception log.
-/
namespace Sys2Proof.Machine

/-- OP of bytes 8 to 11 of an entry (R312). -/
def opOf (w : Nat) : Nat := bitsOf w 0 4
/-- LATE_POL. -/
def latePol (w : Nat) : Nat := bitsOf w 4 2
/-- VALID. -/
def opValid (w : Nat) : Bool := bitAt w 7
/-- TARGET. -/
def opTarget (w : Nat) : Nat := bitsOf w 8 24

def opDO_SET : Nat := 1
def opDO_CLEAR : Nat := 2
def opDO_PULSE : Nat := 3
def opLANE_START : Nat := 4
def opCOG_START : Nat := 5
def opPOINT_WRITE : Nat := 6
def opCAN_INJECT : Nat := 7

/-- Slot `i` of the queue. -/
def State.launchAt (s : State) (i : Nat) : LaunchEnt := s.trk.slot.get (fun _ => {}) i

/-- The valid entries, with their slots. -/
def State.launches (s : State) : List (Nat × LaunchEnt) := s.trk.slot.filter (fun e => opValid e.2.opword)

/-- The entry that executes first: the earliest TIME, then the earlier insertion (R314). -/
def firstLaunch (l : List (Nat × LaunchEnt)) : Option (Nat × LaunchEnt) :=
  l.foldl (fun (a : Option (Nat × LaunchEnt)) e => match a with
    | some y => if e.2.time < y.2.time ∨ (e.2.time = y.2.time ∧ e.2.order < y.2.order) then some e else a
    | none => some e) none

/-- Writes a slot; LNCH_STAT and LNCH_NEXT follow (R329). -/
def State.setLaunch (s : State) (i : Nat) (x : LaunchEnt) : State :=
  let s := { s with trk := { s.trk with slot := s.trk.slot.set (fun _ => {}) i x } }
  let n := s.launches.length
  let s := (s.wr pgLNCH LNCH_STAT_FILL n).wr pgLNCH LNCH_STAT_FULL (b2n (n == 4096))
  s.wr64 pgLNCH LNCH_NEXT_LO_TIME LNCH_NEXT_HI_TIME ((firstLaunch s.launches).elim ones64 (·.2.time))

/-- An entry leaves the queue; its slot keeps its bytes with VALID at 0. -/
def State.dropLaunch (s : State) (i : Nat) (ran : Bool) : State :=
  let x := s.launchAt i
  s.setLaunch i { x with opword := setBits x.opword 7 1 0, ran := ran, staged := false }

/-- An entry of the exception log of 32 (R318). -/
def State.launchExc (s : State) (e : LaunchEnt) (result : Nat) : State :=
  let v := e.time % 2 ^ 64 + e.opword % 2 ^ 32 * 2 ^ 64
    + (result + (match e.win with | some w => w % 1024 * 2 ^ 16 + 2 ^ 31 | none => 0)) * 2 ^ 96
  if 32 ≤ s.trk.exc.length then
    let s := (s.wr pgLNCH LNCH_EXC_STAT_OVF 1).wr pgLNCH LNCH_EXC_STAT_OVF_COUNT
      (satInc 0xFFFF (s.rd pgLNCH LNCH_EXC_STAT_OVF_COUNT))
    s.irq pgLNCH 4
  else
    let s := { s with trk := { s.trk with exc := s.trk.exc ++ [v] } }
    (s.wr pgLNCH LNCH_EXC_STAT_FILL s.trk.exc.length).irq pgLNCH 2

/-- LNCH_EXC_POP removes the head entry. -/
def State.launchExcPop (s : State) : State :=
  match s.trk.exc with
  | [] => s
  | _ :: l => State.wr { s with trk := { s.trk with exc := l } } pgLNCH LNCH_EXC_STAT_FILL l.length

/-- At most 256 DO operations on one tick; each further one that was due by then, at ring time `t`, takes effect on the next tick with
room and is reported OVERRUN (R314). -/
def State.doSlot (s : State) (e : LaunchEnt) (t : Nat) : State :=
  let n := if s.trk.tick = s.now then s.trk.tickOps else 0
  let late (s : State) : State := (s.launchExc e 5).count pgLNCH 9
  if 256 ≤ n then
    let full := s.ringNow
    let s := late (s.pass 1)
    { s with trk := { s.trk with tick := s.now, tickOps := 1, fullAt := some full } }
  else
    let s := if n ≠ 0 ∧ s.trk.fullAt.any (fun u => decide (t ≤ u)) then late s else s
    { s with trk := { s.trk with tick := s.now, tickOps := n + 1 } }

/-- A failed entry is reported and counted (R316, R318, R330). -/
def State.launchFail (s : State) (e : LaunchEnt) (result : Nat) : State := (s.launchExc e result).count pgLNCH 5

/-- A DO operation due at ring time `t` on a line in LAUNCH mode (R313, R345). -/
def State.launchDo (s : State) (e : LaunchEnt) (t : Nat) (f : LineSt → LineSt) : State × Bool :=
  let k := opTarget e.opword
  if s.dioCfg k DIO_LINEj_CFG_OUT_MODE ≠ 1 then (s.launchFail e 4, false)
  else
    let s := s.doSlot e t
    ((s.setLine k (f (s.lineSt k))).driveLine k, true)

/-- The effect of an entry at `t`; the second component is false where it failed (R313, R316). -/
def State.launchEffect (s : State) (slot : Nat) (e : LaunchEnt) (t : Nat) : State × Bool :=
  let op := opOf e.opword
  let tgt := opTarget e.opword
  if s.node = nsHOLD ∨ s.node = nsRECOVERY then (s.count pgLNCH 5, false)
  else if op = opPOINT_WRITE then
    let (s, st) := s.demandLocal 4 slot tgt e.arg e.time
    if st = stNOT_OWNER then (s.launchFail e 4, false) else (s, true)
  else if s.node ≠ nsSERVICE then (s.launchFail e 3, false)
  else if op = opDO_SET then s.launchDo e t (fun x => { x with launch := true, pulseEnd := none })
  else if op = opDO_CLEAR then s.launchDo e t (fun x => { x with launch := false, pulseEnd := none })
  else if op = opDO_PULSE then
    s.launchDo e t (fun x => { x with launch := true, pulseEnd := some (t + max 8 (e.arg / 4 * 4)) })
  else if op = opLANE_START then (s.laneLaunch tgt t, true)
  else if op = opCOG_START then (s.cogMatch tgt, true)
  else match s.canInject tgt (e.arg % 256) t with
    | some s => (s, true)
    | none => (s.launchFail e 4, false)

/-- An entry executes late or in time; the executed entries are counted and traced (R315, R330, R686). -/
def State.launchRun (s : State) (slot : Nat) (e : LaunchEnt) (late : Bool) : State :=
  let s := s.dropLaunch slot true
  let (s, ok) := s.launchEffect slot e (if late then s.ringNow else e.time)
  if !ok then s
  else
    let s := (s.count pgLNCH 2).trace pgLNCH 4 (opOf e.opword) (slot % 4096 + opTarget e.opword % 256 * 2 ^ 12)
    if late then (s.launchExc e 1).count pgLNCH 3 else s

/-- A late entry executes at once or is discarded, by its policy or the default (R315). -/
def State.launchLate (s : State) (slot : Nat) (e : LaunchEnt) : State × Nat :=
  let discard := latePol e.opword == 2 || (latePol e.opword != 1 && s.on pgLNCH LNCH_CFG_LATE_POLICY)
  if discard then (((s.dropLaunch slot e.staged).launchExc e 2).count pgLNCH 4, 3)
  else (s.launchRun slot e true, 2)

/-- A reserved OP, a reserved bit or a TARGET out of its range (R312, R313). -/
def badLaunch (w : Nat) : Bool :=
  let op := opOf w
  let t := opTarget w
  op == 0 || decide (7 < op) || bitAt w 6 || (if op ≤ 3 then decide (256 ≤ t) else if op = 4 then decide (64 ≤ t)
    else if op = 5 then decide (32 ≤ t) else if op = 6 then decide (131072 ≤ t) else decide (8 ≤ t))

/-- The lowest free slot. -/
def State.freeSlot (s : State) : Nat :=
  let used := s.launches.map (·.1)
  used.foldl (fun a k => if k = a then a + 1 else a) 0

/-- The fields of an entry as a JOURNAL record carries them: TIME, byte 8, TARGET, ARG (R113, R312, R569). -/
def LaunchEnt.record (e : LaunchEnt) : List Byte :=
  beBytes 8 e.time ++ beBytes 1 (bitsOf e.opword 0 8) ++ beBytes 3 (opTarget e.opword) ++ beBytes 4 e.arg

/-- An entry of 16 bytes as a number, byte 0 lowest (R312). -/
def LaunchEnt.bytes (e : LaunchEnt) : Nat := e.time % 2 ^ 64 + e.opword % 2 ^ 32 * 2 ^ 64 + e.arg % 2 ^ 32 * 2 ^ 96

/-- Inserts an entry: the state, the result of LNCH_RES, and the slot (R315 to R317). -/
def State.launchInsert (s : State) (time opword arg : Nat) (win : Option Nat) : State × Nat × Nat :=
  if badLaunch opword then (s, 6, 0)
  else if 4096 ≤ s.launches.length then ((s.irq pgLNCH 3).count pgLNCH 6, 1, 0)
  else
    let i := s.freeSlot
    let e : LaunchEnt := { time := time % 2 ^ 64, opword := setBits (opword % 2 ^ 32) 7 1 1, arg := arg % 2 ^ 32,
                           order := s.trk.nextOrder, win := win }
    let s := State.setLaunch { s with trk := { s.trk with nextOrder := s.trk.nextOrder + 1 } } i e
    let s := s.count pgLNCH (if win.isSome then 1 else 0)
    if s.locked && decide (e.time < s.ringNow + 1000) then
      let (s, r) := s.launchLate i e
      (s, r, i)
    else (s.journal 0x06 (beBytes 2 i ++ beBytes 2 0 ++ e.record), 0, i)

/-- A launch entry of an initiator's LNCH_INS0 to LNCH_INS3 (R328). -/
def State.lnchIns (s : State) (ini : Initiator) (k : Nat) : Nat := s.rd pgLNCH LNCH_INSn_DATA k ini.num

/-- LNCH_RES of an initiator. -/
def State.lnchRes (s : State) (ini : Initiator) (result slot count : Nat) : State :=
  let s := (s.wr pgLNCH LNCH_RES_RESULT result 0 ini.num).wr pgLNCH LNCH_RES_SLOT slot 0 ini.num
  s.wr pgLNCH LNCH_RES_COUNT count 0 ini.num

/-- LNCH_INSERT: LNCH_CMD INSERT. -/
def execLnchInsert (ini : Initiator) (s : State) : Res :=
  if !(s.takes pgLNCH && s.enabled pgLNCH) then .next s
  else
    let (s, r, i) := s.launchInsert (s.lnchIns ini 0 + 2 ^ 32 * s.lnchIns ini 1) (s.lnchIns ini 2) (s.lnchIns ini 3) none
    .next (s.lnchRes ini r i 0)

/-- An entry is staged: 2 µs before its TIME (R314). -/
def State.isStaged (s : State) (e : LaunchEnt) : Bool := e.staged || s.locked && decide (e.time ≤ s.ringNow + 2000)

/-- A record of a cancelled or flushed entry (R569). -/
def State.lnchDel (s : State) (i : Nat) : State := s.journal 0x07 (beBytes 2 i ++ beBytes 2 0)

/-- LNCH_CANCEL: LNCH_CMD CANCEL (R317). -/
def execLnchCancel (ini : Initiator) (slot : Nat) (s : State) : Res :=
  if !s.takes pgLNCH then .next s
  else
    let e := s.launchAt slot
    if e.time % 2 ^ 32 ≠ s.lnchIns ini 0 then .next (s.lnchRes ini 5 0 0)
    else if opValid e.opword then
      if s.isStaged e then .next (s.lnchRes ini 4 0 0)
      else .next ((((s.dropLaunch slot false).lnchDel slot).count pgLNCH 7).lnchRes ini 0 0 0)
    else if e.ran then .next (s.lnchRes ini 4 0 0)
    else .next (s.lnchRes ini 5 0 0)

/-- FLUSH_TARGET: LNCH_CMD FLUSH_TARGET removes every unstaged entry of the OP and TARGET (R317). -/
def execFlushTarget (ini : Initiator) (s : State) : Res :=
  if !s.takes pgLNCH then .next s
  else
    let w := s.lnchIns ini 2
    let l := s.launches.filter (fun e => opOf e.2.opword == opOf w && opTarget e.2.opword == opTarget w && !s.isStaged e.2)
    let s := l.foldl (fun s e => (s.dropLaunch e.1 false).lnchDel e.1) s
    .next ((s.count pgLNCH 8 l.length).lnchRes ini 0 0 l.length)

/-- LAUNCH_STAGE: the engine stages the next entry 2 µs before its TIME (R314). -/
def execLaunchStage (s : State) : Res :=
  if !s.locked then .next s
  else match firstLaunch (s.launches.filter (fun e => !e.2.staged)) with
    | none => .next s
    | some (i, e) => .next ((s.passRing (e.time - 2000)).setLaunch i { e with staged := true })

/-- A Bedstone removes an entry whose TIME has passed; the level that it gives a line is what the line is expected to carry
(R567, R571). -/
def State.launchCold (s : State) (slot : Nat) (e : LaunchEnt) : State :=
  let s := s.dropLaunch slot true
  let k := opTarget e.opword
  let op := opOf e.opword
  if 3 < op ∨ s.dioCfg k DIO_LINEj_CFG_OUT_MODE ≠ 1 then s
  else s.setLine k { s.lineSt k with
    launch := op != opDO_CLEAR, pulseEnd := if op = opDO_PULSE then some (e.time + max 8 (e.arg / 4 * 4)) else none }

/-- The first entry executes at its TIME where its operation is `op`; on a Bedstone it is removed, and during a takeover it
waits to be late at first drive (R313, R314, R567, R573). -/
def State.launchDue (s : State) (op : Nat) : State :=
  if !(s.locked && s.enabled pgLNCH) then s
  else match firstLaunch s.launches with
    | none => s
    | some (i, e) =>
      if opOf e.opword ≠ op then s
      else
        let s := s.passRing e.time
        if !s.cold then s.launchRun i e false
        else if s.twin.phase = 0 then s.launchCold i e
        else s

/-- DO_SET at TIME. -/
def execDoSet (s : State) : Res := .next (s.launchDue opDO_SET)
/-- DO_CLEAR at TIME. -/
def execDoClear (s : State) : Res := .next (s.launchDue opDO_CLEAR)
/-- DO_PULSE at TIME. -/
def execDoPulse (s : State) : Res := .next (s.launchDue opDO_PULSE)
/-- LANE_START at TIME. -/
def execLaneStart (s : State) : Res := .next (s.launchDue opLANE_START)
/-- COG_START at TIME. -/
def execCogStart (s : State) : Res := .next (s.launchDue opCOG_START)
/-- POINT_WRITE at TIME, a demand with τ = TIME. -/
def execPointWrite (s : State) : Res := .next (s.launchDue opPOINT_WRITE)
/-- CAN_INJECT at TIME. -/
def execCanInject (s : State) : Res := .next (s.launchDue opCAN_INJECT)

/-- PULSE_END: the line of a DO_PULSE returns inactive at TIME + width (R313). -/
def execPulseEnd (line : Nat) (s : State) : Res :=
  match (s.lineSt line).pulseEnd with
  | none => .next s
  | some t =>
    let s := s.passRing t
    .next ((s.setLine line { s.lineSt line with launch := false, pulseEnd := none }).driveLine line)

/-- At the first lock every entry whose TIME has passed is late (R316). -/
def State.launchLock : Nat → State → State
  | 0, s => s
  | k + 1, s => match firstLaunch (s.launches.filter (fun e => decide (e.2.time < s.ringNow))) with
    | none => s
    | some (i, e) =>
      State.launchLock k (if s.cold then s.launchCold i e
        else if s.node = nsHOLD then (s.dropLaunch i e.staged).count pgLNCH 5
        else (s.launchLate i e).1)

/-- A step that may lock the Governor: overdue launches follow where it did (R316). -/
def afterLock (old : State) (r : Res) : Res :=
  match r with
  | .next s => if s.locked && !old.locked then .next (State.launchLock (s.launches.length + 1) s) else .next s
  | x => x

/-- TIME_SYNC_TX, with the overdue launches where it locks the Governor (R316). -/
def execTimeSyncTx (s : State) : Res := afterLock s (stepTimeSyncTx s)

/-- TIME_SYNC_RX, with the overdue launches where it locks the Governor (R316). -/
def execTimeSyncRx (s : State) : Res := afterLock s (stepTimeSyncRx s)

/-- SYNC_DECISION, with the overdue launches where it locks the Governor (R316). -/
def execSyncDecision (seq : Nat) (s : State) : Res := afterLock s (stepSyncDecision seq s)

/-- TIME_ANNOUNCE_TX, with the overdue launches where it locks the Governor (R316). -/
def execTimeAnnounceTx (s : State) : Res := afterLock s (stepTimeAnnounceTx s)

/-- TIME_ANNOUNCE_RX, with the overdue launches where it locks the Governor (R316). -/
def execTimeAnnounceRx (s : State) : Res := afterLock s (stepTimeAnnounceRx s)

/-- GM_DROP, with the overdue launches where it locks the Governor (R316). -/
def execGmDrop (s : State) : Res := afterLock s (stepGmDrop s)

/-- HOLDOVER_EXPIRY, with the overdue launches where it locks the Governor (R316). -/
def execHoldoverExpiry (s : State) : Res := afterLock s (stepHoldoverExpiry s)

/-- PPS_IN_EDGE, with the overdue launches where it locks the Governor (R316). -/
def execPpsInEdge (s : State) : Res := afterLock s (stepPpsInEdge s)

end Sys2Proof.Machine
end

