-- ==== Sys2Proof/Machine/Tracking.lean ====
section
/-!
DEFINITION. Belt axes, axis references and tracking windows (R292 to R311, R319 to R327).
-/
namespace Sys2Proof.Machine

/-! ## Axes -/

/-- Axis `a` beyond its registers. -/
def State.axisSt (s : State) (a : Nat) : AxisSt := s.trk.axis.get (fun _ => {}) a

/-- Writes an axis. -/
def State.setAxis (s : State) (a : Nat) (x : AxisSt) : State :=
  { s with trk := { s.trk with axis := s.trk.axis.set (fun _ => {}) a x } }

/-- AXISn_CFG.SRC: 1 QUAD, 2 SSI, else OFF. -/
def State.axisSrc (s : State) (a : Nat) : Nat := s.rd pgAXIS AXISn_CFG_SRC a

/-- The axis is valid (R295). -/
def State.axisValid (s : State) (a : Nat) : Bool :=
  s.enabled pgAXIS && match s.axisSrc a with
    | 1 => s.locked
    | 2 => s.on pgAXIS AXISn_STAT_VALID a
    | _ => false

/-- The axis takes a position from ring time `t` on; positions of the last 33 ms are kept (R297). -/
def State.axisSet (s : State) (a t pos : Nat) : State :=
  let x := s.axisSt a
  let h := (t, pos % 2 ^ 32) :: x.hist.filter (fun e => decide (e.1 < t))
  let recent := h.takeWhile (fun e => decide (t ≤ e.1 + 33000000))
  let h := recent ++ (h.drop recent.length).take 1
  (s.setAxis a { x with hist := h }).wr pgAXIS AXISn_POS_POS (pos % 2 ^ 32) a

/-- The position that the axis held at ring time `t`. -/
def AxisSt.posAt (x : AxisSt) (t : Nat) : Nat :=
  match x.hist.find? (fun e => decide (e.1 ≤ t)) with
  | some e => e.2
  | none => (x.hist.getLast?.map (·.2)).getD 0

/-- VEL_WIN in ns. -/
def State.velWin (s : State) (a : Nat) : Nat := 250000 * 2 ^ s.rd pgAXIS AXISn_TIMING_VEL_WIN a

/-- The newest sample of an axis: the 1 µs boundary of ring time that passed last, and the position there. -/
def State.axisNewest (s : State) (a : Nat) : Nat × Nat :=
  let b := s.ringNow / 1000 * 1000
  (b, (s.axisSt a).posAt b)

/-- How far the axis went over the last VEL_WIN, in 1/256 counts. -/
def State.axisDp (s : State) (a : Nat) : Int :=
  let (b, p) := s.axisNewest a
  signed 32 (p + 2 ^ 32 - (s.axisSt a).posAt (b - s.velWin a))

/-- The position of a local axis at ring time `t` (R297). -/
def State.localPos (s : State) (a t : Nat) : Option Nat :=
  if !s.axisValid a then none
  else
    let x := s.axisSt a
    let (b, p) := s.axisNewest a
    let b0 := t / 1000 * 1000
    let between : Option Nat :=
      if s.ringNow ≤ t + 64000 ∧ t ≤ b then
        let p0 := x.posAt b0
        let p1 := x.posAt (b0 + 1000)
        some (unsigned 32 (p0 + signed 32 (p1 + 2 ^ 32 - p0) * ((t - b0 : Nat) : Int) / 1000))
      else none
    match between with
    | some v => some v
    | none => match x.caps.find? (fun e => e.1 == t) with
      | some e => some e.2
      | none => some (unsigned 32 (p + s.axisDp a * ((t : Int) - b) / s.velWin a))

/-- Reference `r` (R298). -/
def State.refSt (s : State) (r : Nat) : RefSt := s.trk.ref.get (fun _ => {}) r

/-- The two records a reference is evaluated from: (T₁, P₁) the oldest of epochs V − SPAN to V − 1, (T₂, P₂) that of V
(R299). -/
def State.refLine (s : State) (r : Nat) : Option ((Nat × Nat) × (Nat × Nat)) :=
  let h := (s.refSt r).hist
  let v := s.commitEpoch
  let span := s.rd pgAXIS AXIS_REFr_A_SPAN r + 1
  match h.find? (fun e => e.1 == v), (h.filter (fun e => decide (v ≤ e.1 + span ∧ e.1 < v))).getLast? with
  | some e2, some e1 => some ((e1.2.2, e1.2.1), (e2.2.2, e2.2.1))
  | _, _ => none

/-- EXTRAP_MAX in ns. -/
def State.extrapMax (s : State) : Nat := 1000000 * max 1 (s.rd pgAXIS AXIS_CFG_EXTRAP_MAX)

/-- The position of reference `r` at ring time `t`; none while it is invalid (R299). -/
def State.refPos (s : State) (r t : Nat) : Option Nat :=
  if !(s.enabled pgAXIS && s.on pgAXIS AXIS_REFr_A_EN r) then none
  else match s.refLine r with
    | some ((t1, p1), (t2, p2)) =>
      if t ≤ t2 + s.extrapMax then
        some (unsigned 32 (p2 + signed 32 (p2 + 2 ^ 32 - p1) * ((t : Int) - t2) / ((t2 : Int) - t1)))
      else none
    | none => none

/-- A change of a reference's validity sets INVALID_CHG (R299, R322). -/
def State.refSync (s : State) (r : Nat) : State :=
  let v := (s.refPos r s.ringNow).isSome
  let x := s.refSt r
  if x.valid = v then s
  else
    let s := { s with trk := { s.trk with ref := s.trk.ref.set (fun _ => {}) r { x with valid := v } } }
    let s := s.irq pgAXIS 2
    if v then s else s.count pgAXIS 17

/-- The committed axis record of a reference: its history takes it, or an invalid record empties it (R298). -/
def State.refCommit (s : State) (r n p tlo : Nat) (stale : Bool) : State :=
  let x := s.refSt r
  let t := nearest 32 tlo (s.tS n)
  let later := match x.hist.head? with
    | some e => decide (e.2.2 < t)
    | none => true
  let h := if tlo = 0 ∨ stale ∨ !later then [] else ((n, p, t) :: x.hist).take 8
  State.refSync { s with trk := { s.trk with ref := s.trk.ref.set (fun _ => {}) r { x with hist := h } } } r

/-- EXTRAP_MAX_EXPIRY: ring time passes T₂ + EXTRAP_MAX and the reference is invalid (R299). -/
def execExtrapMaxExpiry (ref : Nat) (s : State) : Res :=
  match s.refLine ref with
  | some (_, (t2, _)) =>
    if (s.refSt ref).valid then .next ((s.passRing (t2 + s.extrapMax + 1)).refSync ref) else .next s
  | none => .next s

/-- The position a window watches, at ring time `t`: AXSEL 0 to 15 a local axis, 16 to 47 a reference (R302). -/
def State.selPos (s : State) (sel t : Nat) : Option Nat := if sel < 16 then s.localPos sel t else s.refPos (sel - 16) t

/-- The ring time at which the selected axis reaches position `p`; none while its velocity is zero or negative (R310). -/
def State.crossing (s : State) (sel p : Nat) : Option Nat :=
  let at_ (t2 p2 : Nat) (dp : Int) (dt : Nat) : Option Nat :=
    if dp ≤ 0 then none
    else
      let need : Int := signed 32 (p + 2 ^ 32 - p2) * dt
      some ((t2 : Int) - (-need) / dp).toNat
  if sel < 16 then
    let (b, p2) := s.axisNewest sel
    at_ b p2 (s.axisDp sel) (s.velWin sel)
  else match s.refLine (sel - 16) with
    | some ((t1, p1), (t2, p2)) => at_ t2 p2 (signed 32 (p2 + 2 ^ 32 - p1)) (t2 - t1)
    | none => none

/-! ## Windows -/

def wsIDLE : Nat := 0
def wsLISTEN : Nat := 1
def wsARMED : Nat := 2
def wsOPEN : Nat := 3
def wsDEFER : Nat := 4
def wsDONE : Nat := 5

/-- STATE of WCTL (R302). -/
def Win.state (w : Win) : Nat := bitsOf w.ctl 0 3
/-- DOMAIN: position. -/
def Win.isPos (w : Win) : Bool := bitAt w.ctl 4
/-- REARM. -/
def Win.rearm (w : Win) : Bool := bitAt w.ctl 5
/-- AXSEL. -/
def Win.axsel (w : Win) : Nat := bitsOf w.ctl 8 6
/-- ARM_KIND. -/
def Win.armKind (w : Win) : Nat := bitsOf w.ctl 16 4
/-- HIT_KIND. -/
def Win.hitKind (w : Win) : Nat := bitsOf w.ctl 20 4
/-- POOL. -/
def Win.pool (w : Win) : Nat := bitsOf w.ctl 24 4
/-- The window is ARMED, OPEN or DEFER. -/
def Win.active (w : Win) : Bool := decide (wsARMED ≤ w.state ∧ w.state ≤ wsDEFER)

/-- The eight words of a window entry (R301). -/
def Win.words (w : Win) : List Nat := [w.ctl, w.arm, w.hit, w.openOff, w.closeOff, w.act, w.base, w.hitc]

/-- Window `i`. -/
def State.winAt (s : State) (i : Nat) : Win := s.trk.win.get (fun _ => {}) i

/-- Writes a window; TRK_STAT follows (R325). -/
def State.setWin (s : State) (i : Nat) (w : Win) : State :=
  let s := { s with trk := { s.trk with win := s.trk.win.set (fun _ => {}) i w } }
  let s := s.wr pgTRK TRK_STAT_LISTEN (s.trk.win.filter (fun e => e.2.state == wsLISTEN)).length
  s.wr pgTRK TRK_STAT_ACTIVE (s.trk.win.filter (fun e => e.2.active)).length

/-- A window with STATE, OUTCOME and ACT_FAIL replaced. -/
def Win.put (w : Win) (state outcome : Nat) (fail : Bool) : Win :=
  { w with ctl := setBits (setBits (setBits w.ctl 0 3 state) 14 2 outcome) 28 1 (b2n fail) }

/-- OUTCOME of WCTL: 1 HIT, 2 MISS, 3 LOST. -/
def Win.outcome (w : Win) : Nat := bitsOf w.ctl 14 2

/-- open and close: in the position domain modulo 2^32, in the time domain as full ring times (R304). -/
def Win.openC (w : Win) : Nat :=
  let c := (w.base + w.openOff) % 2 ^ 32
  if w.isPos then c else nearest 32 c w.armAt
/-- close (R304). -/
def Win.closeC (w : Win) : Nat :=
  let c := (w.base + w.closeOff) % 2 ^ 32
  if w.isPos then c else nearest 32 c w.armAt

/-- An outcome log entry, or its discard while the log of 64 is full (R311). -/
def State.outcomeLog (s : State) (i : Nat) (w : Win) : State :=
  let hitc := if w.outcome = 3 then 0 else w.hitc
  let e := w.base % 2 ^ 32 + hitc % 2 ^ 32 * 2 ^ 32
    + (i % 1024 + (w.outcome + 3) % 4 * 2 ^ 10 + bitsOf w.ctl 28 1 * 2 ^ 12 + bitsOf w.act 16 16 * 2 ^ 16) * 2 ^ 64
    + s.ringNow % 2 ^ 32 * 2 ^ 96
  if 64 ≤ s.trk.log.length then
    let s := (s.wr pgTRK TRK_LOG_STAT_OVF 1).wr pgTRK TRK_LOG_STAT_OVF_COUNT
      (satInc 0xFFFF (s.rd pgTRK TRK_LOG_STAT_OVF_COUNT))
    s.irq pgTRK 6
  else
    let s := { s with trk := { s.trk with log := s.trk.log ++ [e] } }
    (s.wr pgTRK TRK_LOG_STAT_FILL s.trk.log.length).irq pgTRK 2

/-- TRK_LOG_POP removes the head entry. -/
def State.outcomePop (s : State) : State :=
  match s.trk.log with
  | [] => s
  | _ :: l => State.wr { s with trk := { s.trk with log := l } } pgTRK TRK_LOG_STAT_FILL l.length

/-- A window ends: logged, journalled, traced, then LISTEN or DONE (R304, R311, R569, R686). -/
def State.winEnd (s : State) (i : Nat) (w : Win) : State :=
  let s := if bitAt w.ctl 7 then s.outcomeLog i w else s
  let st := if w.rearm then wsLISTEN else wsDONE
  let s := s.journal 0x04 (beBytes 2 i ++ beBytes 1 w.outcome ++ beBytes 1 (b2n w.rearm))
  let s := s.trace pgTRK 5 (w.outcome - 1) (i % 1024 + bitsOf w.act 16 16 * 2 ^ 16)
  s.setWin i { w with ctl := setBits w.ctl 0 3 st, closeAt := none }

/-- A window is lost: no action (R308). -/
def State.winLost (s : State) (i : Nat) (w : Win) : State :=
  let s := (s.irq pgTRK 4).count pgTRK 3
  s.winEnd i (w.put w.state 3 (bitAt w.ctl 28))

/-- Inserts a window's launch and ends the window (R310). -/
def State.winLaunch (s : State) (i : Nat) (w : Win) (time opword arg : Nat) : State :=
  let (s, r, _) := s.launchInsert time opword arg (some i)
  if r = 1 ∨ r = 6 then
    s.irq pgTRK 5 |>.count pgTRK 6 |>.winEnd i (w.put w.state w.outcome true)
  else (s.count pgTRK 5).winEnd i w

/-- A hit or a miss at coordinate `c`, its outcome event at ring time `t`: the template's launch is inserted, or the
window defers it to a position (R306, R307, R310).  A reserved ANCHOR is refused. -/
def State.winOutcome (s : State) (i : Nat) (w : Win) (outcome c t : Nat) : State :=
  let s := s.count pgTRK outcome
  let w := { w.put w.state outcome false with hitc := c % 2 ^ 32 }
  let a := bitsOf w.act (if outcome = 1 then 0 else 8) 8
  if !bitAt a 6 then s.winEnd i w
  else
    let tp (k : Nat) : Nat := s.rd pgTRK TRK_TPLj_WORD (4 * (a % 64) + k)
    let off := signed 32 (tp 2)
    let anchor := tp 3 % 4
    let arg := match bitsOf (tp 3) 2 2 with
      | 0 => tp 1
      | 1 => w.base
      | 2 => w.hitc
      | _ => t % 2 ^ 32
    if anchor = 3 then (s.irq pgTRK 5).count pgTRK 6 |>.winEnd i (w.put w.state outcome true)
    else if anchor = 2 then s.winLaunch i w ((s.ringNow : Int) + off).toNat (tp 0) arg
    else if w.isPos then
      let p := unsigned 32 (((if anchor = 0 then w.base else w.hitc) : Nat) + off)
      s.setWin i { w.put wsDEFER outcome false with target := p, opword := tp 0, arg := arg }
    else
      let b := if anchor = 0 then w.armAt else c
      s.winLaunch i w ((b : Int) + off).toNat (tp 0) arg

/-- LEAD in ns (R323). -/
def State.lead (s : State) : Nat := 10000 * min 1000 (max 10 (s.rd pgTRK TRK_CFG_LEAD))

/-- The coordinate of a window at ring time `t`. -/
def State.winCoord (s : State) (w : Win) (t : Nat) : Option Nat := if w.isPos then s.selPos w.axsel t else some t

/-- Coordinate `c` has reached `d`. -/
def Win.reached (w : Win) (c d : Nat) : Bool :=
  if w.isPos then decide (0 ≤ signed 32 (c + 2 ^ 32 - d)) else decide (d ≤ c)

/-- A deferred action: its launch is inserted once t* is within LEAD (R310). -/
def State.winDefer (s : State) (i : Nat) (w : Win) : State :=
  match s.crossing w.axsel w.target with
  | some t => if t ≤ s.ringNow + s.lead then s.winLaunch i w t w.opword w.arg else s
  | none => s

/-- One evaluation of a window (R304, R306 to R308, R310).  `commit` is t_s of the epoch being committed, for a window
whose hit kind is POINT_CHG. -/
def State.winEval (s : State) (i : Nat) (commit : Option Nat) : State :=
  let w := s.winAt i
  if !w.active then s
  else match s.winCoord w s.ringNow with
    | none => s.winLost i w
    | some c =>
      if w.state = wsDEFER then s.winDefer i w
      else
        let opens := w.state == wsARMED && w.reached c w.openC
        let w := if opens then w.put wsOPEN 0 false else w
        let s := if opens then s.setWin i w else s
        if w.state ≠ wsOPEN then s
        else if w.hitKind = 0 then s.winOutcome i w 1 w.openC s.ringNow
        else
          let w := if w.closeAt.isNone && w.reached c w.closeC then { w with closeAt := some s.ringNow } else w
          let s := s.setWin i w
          match w.closeAt with
          | none => s
          | some t =>
            let miss := if w.hitKind = 4 then commit.any (fun u => decide (t ≤ u)) else decide (t + 2000 ≤ s.ringNow)
            if miss then s.winOutcome i w 2 w.closeC t else s

/-- The tracking engine works: enabled, and on a twin hub driving (R567). -/
def State.trkOn (s : State) : Bool := s.enabled pgTRK && !s.cold

/-- Every active window is evaluated, in ascending index (R307). -/
def State.winEvalAll (s : State) (commit : Option Nat) : State :=
  if !s.trkOn then s else (s.trk.win.map (·.1)).foldl (fun s i => s.winEval i commit) s

/-- WINDOW_EVALUATE: the engine evaluates every active window. -/
def execWindowEvaluate (s : State) : Res := .next (s.winEvalAll none)

/-- An event's condition: DIO_EDGE 1 rising 2 falling, POINT_CHG the new value; other kinds only 0b00 (R303). -/
def condMatch (kind cond info : Nat) : Bool :=
  match kind with
  | 1 => bitAt cond info
  | 4 => match cond with
    | 0 => true
    | 1 => info != 0
    | 2 => info == 0
    | _ => false
  | _ => cond == 0

/-- A selector word matches the event of kind `kind` (R301, R303). -/
def selMatch (k kind word sel info : Nat) : Bool :=
  k == kind && bitsOf word 0 17 == sel && condMatch kind (bitsOf word 17 2) info

/-- A window arms at an event of ring time `t`; `value` is the point's new value under VALUE_AS_POS (R304, R305). -/
def State.winArm (s : State) (i t : Nat) (value : Option Nat) : State :=
  let w := s.winAt i
  let coord := s.winCoord w t
  let base := match value with
    | some v => if bitAt w.ctl 6 && w.isPos then some v else coord
    | none => coord
  let w := { w.put wsARMED 0 false with base := base.getD 0 % 2 ^ 32, hitc := 0, armAt := t, closeAt := none }
  let s := (s.setWin i w).count pgTRK 0
  let s := s.journal 0x03 (beBytes 2 i ++ beBytes 2 0 ++ beBytes 4 w.base ++ beBytes 8 t)
  if w.isPos && coord.isNone then s.winLost i w else s.winEval i none

/-- An event is offered to the windows in ascending index: it arms some and hits others (R303, R305, R306, R309). -/
def State.trkEvent (s : State) (kind sel info t : Nat) (value : Option Nat) : State :=
  if !s.trkOn then s
  else
    let arms (w : Win) : Bool := bitAt w.ctl 3 && selMatch w.armKind kind w.arm sel info
    let ws := s.trk.win.map (·.1)
    let step (a : State × List Nat) (i : Nat) : State × List Nat :=
      let (s, pools) := a
      let w := s.winAt i
      if (w.state = wsARMED ∨ w.state = wsOPEN) ∧ selMatch w.hitKind kind w.hit sel info ∧ w.armAt ≤ t then
        match s.winCoord w t with
        | none => (s.winLost i w, pools)
        | some c =>
          let inside := if w.isPos then
              decide ((c + 2 ^ 32 - w.openC) % 2 ^ 32 < (w.closeC + 2 ^ 32 - w.openC) % 2 ^ 32)
            else decide (w.openC ≤ c ∧ c < w.closeC)
          if inside then (s.winOutcome i w 1 c t, pools) else (s, pools)
      else if w.state = wsLISTEN ∧ arms w ∧ !(w.pool ≠ 0 ∧ pools.contains w.pool) then
        (s.winArm i t value, if w.pool = 0 then pools else w.pool :: pools)
      else (s, pools)
    let had := (s.trk.win.filter (fun e => arms e.2)).map (·.2.pool)
    let (s, used) := ws.foldl step (s, [])
    (List.range 15).foldl (fun s k =>
      if had.contains (k + 1) ∧ !used.contains (k + 1) then (s.irq pgTRK 3).count pgTRK 4 else s) s

/-- Every window on a selected axis ends LOST (R308, R321). -/
def State.loseWindows (s : State) (sel : Nat) : State :=
  (s.trk.win.filter (fun e => e.2.active && e.2.isPos && e.2.axsel == sel)).foldl (fun s e => s.winLost e.1 (s.winAt e.1)) s

/-- TRK_WRES of an initiator: 1 BUSY, 2 BAD_RANGE, 3 BAD_FIELD, 4 NOT_LISTEN (R324). -/
def State.trkRes (s : State) (ini : Initiator) (r : Nat) : State := s.wr pgTRK TRK_WRES_RESULT r 0 ini.num

/-- The window an initiator's TRK_SEL names. -/
def State.trkSel (s : State) (ini : Initiator) : Nat := s.rd pgTRK TRK_SEL_WINDOW 0 ini.num

/-- TRK_READ: TRK_WCMD READ copies the window into TRK_WIN0 to TRK_WIN7. -/
def execTrkRead (ini : Initiator) (s : State) : Res :=
  if !s.takes pgTRK then .next s
  else
    let ws := (s.winAt (s.trkSel ini)).words
    let s := (List.range 8).foldl (fun s k => s.wr pgTRK TRK_WINn_DATA (ws.getD k 0) k ini.num) s
    .next (s.trkRes ini 0)

/-- The fields of an entry as a JOURNAL record carries them: the words, of which the sixth is HIT_ACT, MISS_ACT and TAG (R113, R301,
R569). -/
def Win.record (w : Win) : List Byte :=
  [w.ctl, w.arm, w.hit, w.openOff, w.closeOff].flatMap (beBytes 4)
    ++ beBytes 1 (bitsOf w.act 0 8) ++ beBytes 1 (bitsOf w.act 8 8) ++ beBytes 2 (bitsOf w.act 16 16)
    ++ beBytes 4 w.base ++ beBytes 4 w.hitc

/-- A record of a window's entry (R569). -/
def State.winRecord (s : State) (i : Nat) : State := s.journal 0x05 (beBytes 2 i ++ beBytes 2 0 ++ (s.winAt i).record)

/-- What a window entry written by software fails (R304): 0 nothing, 2 BAD_RANGE, 3 BAD_FIELD. -/
def winError (w : Win) : Nat :=
  let d := signed 32 w.closeOff - signed 32 w.openOff
  if w.armKind > 4 ∨ w.hitKind > 4 ∨ (w.isPos ∧ 48 ≤ w.axsel) ∨ bitsOf w.ctl 29 3 ≠ 0 ∨ bitsOf w.arm 19 13 ≠ 0
      ∨ bitsOf w.hit 19 13 ≠ 0 ∨ bitAt w.act 7 ∨ bitAt w.act 15 then 3
  else if 1 ≤ d ∧ d ≤ 2 ^ 31 - 1 then 0
  else 2

/-- TRK_WRITE: TRK_WCMD WRITE writes the window in one step, or is refused (R304, R324). -/
def execTrkWrite (ini : Initiator) (s : State) : Res :=
  if !s.takes pgTRK then .next s
  else
    let i := s.trkSel ini
    let d (k : Nat) : Nat := s.rd pgTRK TRK_WINn_DATA k ini.num
    let w : Win := { ctl := d 0, arm := d 1, hit := d 2, openOff := d 3, closeOff := d 4, act := d 5 }
    let old := s.winAt i
    let bad := if old.active then 1 else winError w
    if bad ≠ 0 then .next ((s.count pgTRK 7).trkRes ini bad)
    else
      let w := { w.put (if bitAt w.ctl 3 then wsLISTEN else wsIDLE) old.outcome (bitAt old.ctl 28) with
        base := old.base, hitc := old.hitc }
      .next (((s.setWin i w).winRecord i).trkRes ini 0)

/-- TRK_DISARM: TRK_WCMD DISARM returns a window to IDLE without an action (R304). -/
def execTrkDisarm (ini : Initiator) (s : State) : Res :=
  if !s.takes pgTRK then .next s
  else
    let i := s.trkSel ini
    let w := s.winAt i
    let s := if w.state = wsIDLE then s
      else (s.setWin i { w with ctl := setBits w.ctl 0 3 wsIDLE, closeAt := none }).winRecord i
    .next (s.trkRes ini 0)

/-- ARM_SOFT: TRK_WCMD ARM_SOFT arms a window in LISTEN (R304, R324). -/
def execArmSoft (ini : Initiator) (s : State) : Res :=
  if !s.takes pgTRK then .next s
  else if (s.winAt (s.trkSel ini)).state ≠ wsLISTEN then .next (s.trkRes ini 4)
  else .next ((s.trkRes ini 0).winArm (s.trkSel ini) s.ringNow none)

/-! ## Axis commands -/

/-- A line's filtered electrical level, as the decoders take it (R293, R333). -/
def State.rawLevel (s : State) (k : Nat) : Bool := s.dioBit k DIO_RAW_W

/-- The decoder of an axis sees the present levels of its lines: where it begins to count (R293). -/
def State.axisLoad (s : State) (a : Nat) : State :=
  let at_ (f : Field) : Bool := s.rawLevel (s.rd pgAXIS f a)
  s.setAxis a { s.axisSt a with a := at_ AXISn_CFG_SRC_A, b := at_ AXISn_CFG_SRC_B }

/-- AXIS_QUAD_COUNT: the decoder compares A and B with what it saw last (R292, R293). -/
def execAxisQuadCount (axis : Nat) (s : State) : Res :=
  let x := s.axisSt axis
  let a := s.rawLevel (s.rd pgAXIS AXISn_CFG_SRC_A axis)
  let b := s.rawLevel (s.rd pgAXIS AXISn_CFG_SRC_B axis)
  if 16 ≤ axis then .next s
  else if !(s.enabled pgAXIS && s.axisSrc axis == 1) || s.node == nsQUIET then .next (s.axisLoad axis)
  else
    let s := s.axisLoad axis
    if x.a ≠ a ∧ x.b ≠ b then .next (((s.wr pgAXIS AXISn_STAT_QERR 1 axis).irq pgAXIS 3).count pgAXIS axis)
    else if x.a = a ∧ x.b = b then .next s
    else
      let lead := if x.a ≠ a then a != b else a == b
      let up := lead != s.on pgAXIS AXISn_CFG_DIR axis
      let pos := s.rd pgAXIS AXISn_POS_POS axis
      .next (s.axisSet axis s.ringNow (if up then pos + 256 else pos + 2 ^ 32 - 256))

/-- AXIS_SSI_START: at a multiple of SSI_PERIOD µs the axis starts a read on its lane (R294, R358). -/
def execAxisSsiStart (axis : Nat) (s : State) : Res :=
  if !(s.enabled pgAXIS && decide (axis < 16) && s.axisSrc axis == 2) then .next s
  else
    let per := 1000 * max 10 (s.rd pgAXIS AXISn_TIMING_SSI_PERIOD axis)
    let s := s.passRing ((s.ringNow + per - 1) / per * per)
    .next (s.ssiStart (s.rd pgAXIS AXISn_CFG_SRC_A axis % 64) (some axis))

/-- The binary value of a Gray code of up to 32 bits (R294). -/
def grayDecode (v : Nat) : Nat :=
  let a := v ^^^ (v / 2 ^ 1)
  let a := a ^^^ (a / 2 ^ 2)
  let a := a ^^^ (a / 2 ^ 4)
  let a := a ^^^ (a / 2 ^ 8)
  a ^^^ (a / 2 ^ 16)

/-- An SSI read for an axis ends: a failure, or a value unwrapped across the encoder's rollover (R294, R295). -/
def State.axisSsi (s : State) (a t : Nat) (value : Option Nat) : State :=
  let x := s.axisSt a
  match value with
  | none =>
    let f := satInc 15 (s.rd pgAXIS AXISn_STAT_FAILS a)
    let s := ((s.wr pgAXIS AXISn_STAT_SSI_ERR 1 a).wr pgAXIS AXISn_STAT_FAILS f a).irq pgAXIS 4
    let s := s.count pgAXIS 16
    if max 1 (s.rd pgAXIS AXISn_TIMING_FAIL_LIM a) ≤ f then s.wr pgAXIS AXISn_STAT_VALID 0 a else s
  | some v =>
    let bits := max 7 (s.rd pgAXIS AXISn_CFG_SSI_BITS a) + 1
    let v := v % 2 ^ bits
    let v := if s.on pgAXIS AXISn_CFG_GRAY a then grayDecode v else v
    let d : Int := match x.raw with
      | some r => signed bits (v + 2 ^ bits - r)
      | none => v
    let d := if s.on pgAXIS AXISn_CFG_DIR a then -d else d
    let from_ := match x.raw with
      | some _ => s.rd pgAXIS AXISn_POS_POS a
      | none => 0
    let pos := unsigned 32 (from_ + d * 256)
    let s := s.setAxis a { x with raw := some v, sample := some (t, pos) }
    ((s.axisSet a t pos).wr pgAXIS AXISn_STAT_VALID 1 a).wr pgAXIS AXISn_STAT_FAILS 0 a

/-- AXIS_PRESET: AXIS_CMD PRESET arms a preset for the first t_s at least 1 µs later (R320). -/
def execAxisPreset (axis : Nat) (s : State) : Res :=
  if s.takes pgAXIS && decide (axis < 16) then
    let x := s.axisSt axis
    let s := s.setAxis axis { x with preset := some (s.rd pgAXIS AXIS_PRESET_VALUE, s.ringNow + 1000) }
    .next (s.wr pgAXIS AXISn_STAT_PRESET_PEND 1 axis)
  else .next s

/-- A preset that is due takes effect at t_s(N) = `t`: the position, and every window on the axis is LOST; the second
component says whether one took effect (R296, R308, R320). -/
def State.axisPresetAt (s : State) (a t : Nat) : State × Bool :=
  let x := s.axisSt a
  match x.preset with
  | some (v, from_) =>
    if from_ ≤ t then
      let s := s.setAxis a { x with preset := none, hist := [], sample := x.sample.map (fun e => (e.1, v)) }
      let s := (s.axisSet a t v).wr pgAXIS AXISn_STAT_PRESET_PEND 0 a
      (((s.irq pgAXIS 5).count pgAXIS 18).loseWindows a, true)
    else (s, false)
  | none => (s, false)

/-- The axis record of epoch N at t_s = `t`: POS and T_LO; the capture is kept (R296, R297). -/
def State.axisRecord (s : State) (a t : Nat) : State × Nat × Nat :=
  let (s, preset) := s.axisPresetAt a t
  let x := s.axisSt a
  let (time, pos) := match s.axisSrc a, x.sample with
    | 2, some e => e
    | _, _ => (t, x.posAt t)
  let s := s.setAxis a { x with caps := ((t, pos) :: x.caps).take 8, cut := false }
  let lo := if time % 2 ^ 32 = 0 then 1 else time % 2 ^ 32
  (s, pos, if s.axisValid a && s.locked && !preset && !x.cut then lo else 0)

end Sys2Proof.Machine
end

