-- ==== Sys2Proof/Machine/Dio.lean ====
section
/-!
DEFINITION. Discrete lines (R331 to R354): the glitch filter, debounce, edges and events, edge counters, CHATTER, STUCK,
read-back and the HOST outputs.
-/
namespace Sys2Proof.Machine

/-- A line's pin is sampled: not while the hub is held in reset, and an input not in QUIET (R73, R92); an output's read-back goes on
there (R347). -/
def State.sampling (s : State) (k : Nat) : Bool :=
  s.held.isEmpty && (s.node != nsQUIET || s.dioCfg k DIO_LINEj_CFG_DIR == 1)

/-- FILT × 4 ns (R333). -/
def State.filtNs (s : State) (k : Nat) : Nat := 4 * max 1 (s.dioCfg k DIO_LINEj_CFG_FILT)

/-- The debounce time in ns (R334). -/
def State.debNs (s : State) (k : Nat) : Nat :=
  let d := s.dioCfg k DIO_LINEj_CFG_DEB
  if d = 0 then 0 else 1000 * 2 ^ (d - 1)

/-- The page's event FIFO. -/
def State.dioPage (s : State) (b : Nat) : DioPage := s.dio.get (fun _ => {}) b

/-- An event entry of 16 bytes as a number, byte 0 lowest (R343). -/
def dioEntry (time line : Nat) (level : Bool) (kind : Nat) (locked : Bool) (seq : Nat) : Nat :=
  time % 2 ^ 64 + (line % 32 + b2n level * 32 + kind * 64 + b2n locked * 256) * 2 ^ 64 + seq % 2 ^ 32 * 2 ^ 96

/-- Puts an entry among others in stamp order (R343). -/
def stampSort (e : Nat) : List Nat → List Nat
  | [] => [e]
  | x :: l => if e % 2 ^ 64 < x % 2 ^ 64 then e :: x :: l else x :: stampSort e l

/-- Puts an entry in the FIFO in stamp order behind the head, which stays as it is until a POP (R198, R343). -/
def stampInsert (e : Nat) : List Nat → List Nat
  | [] => [e]
  | x :: l => x :: stampSort e l

/-- An event of a line, stamped with ring time `time` and local time `lt`: 0 EDGE, 1 CHATTER_START, 2 CHATTER_END, 3 STUCK; none from a
disabled page or on a twin hub that does not drive (R343, R344, R567). -/
def State.dioEvent (s : State) (k kind time lt : Nat) (level : Bool) : State :=
  let p := dioPg k
  if !s.enabled p || s.cold then s
  else
    let d := s.dioPage (k / 32)
    let seq := (d.seq + 1) % 2 ^ 32
    if 64 ≤ d.q.length then
      let s := { s with dio := s.dio.set (fun _ => {}) (k / 32) { d with seq := seq } }
      let s := (s.wr p DIO_EVT_STAT_OVF 1).wr p DIO_EVT_STAT_OVF_COUNT (satInc 0xFFFF (s.rd p DIO_EVT_STAT_OVF_COUNT))
      (s.irq p 4).count p 1
    else
      let e := dioEntry time (k % 32) level kind (s.lockedAt lt) d.seq
      let s := { s with dio := s.dio.set (fun _ => {}) (k / 32) { q := stampInsert e d.q, seq := seq } }
      let n := d.q.length + 1
      let s := ((s.wr p DIO_EVT_STAT_FILL n).irq p 2).count p 0
      if n = min 64 (max 1 (s.rd p DIO_EVT_WEIR_LEVEL)) then s.irq p 3 else s

/-- DIO_EVT_POP removes the head entry (R344). -/
def State.dioPop (s : State) (b : Nat) : State :=
  let d := s.dioPage b
  match d.q with
  | [] => s
  | _ :: l => State.wr { s with dio := s.dio.set (fun _ => {}) b { d with q := l } } (pgDIO + b) DIO_EVT_STAT_FILL l.length

/-- CHAT_WIN in ns. -/
def State.chatWin (s : State) (k : Nat) : Nat := 1000000 * max 1 (s.rd (dioPg k) DIO_CHAT_CHAT_WIN)

/-- The level that the filter gives a line, after polarity (R332). -/
def State.filtered (s : State) (k : Nat) : Bool := s.dioBit k DIO_RAW_W != (s.dioCfg k DIO_LINEj_CFG_POL == 1)

/-- A filtered edge is counted in its chatter window while CHAT_EN is set; the edge that takes the count above CHAT_LIM puts the line
into CHATTER (R340).  Without a
debounce the edge is the line's level at once. -/
def State.chatEdge (s : State) (k : Nat) : State :=
  let p := dioPg k
  let x := s.lineSt k
  if s.dioCfg k DIO_LINEj_CFG_CHAT_EN = 0 then s.setLine k { x with lastEdge := s.now }
  else
    let w := s.ringNow / s.chatWin k
    let n := (if x.winIdx = w then x.winCnt else 0) + 1
    let s := s.setLine k { x with winIdx := w, winCnt := n, lastEdge := s.now }
    if n = max 2 (s.rd p DIO_CHAT_CHAT_LIM) + 1 ∧ !s.dioBit k DIO_CHATTER_W then
      let s := ((s.setDioBit k DIO_CHATTER_W true).irq p 6).count p 3
      s.dioEvent k 1 x.stamp x.stampAt (if s.debNs k = 0 then s.filtered k else s.dioBit k DIO_IN_W)
    else s

/-- The filter gives a line a level; the start of a read-back difference is kept (R333, R347). -/
def State.rawTake (s : State) (k : Nat) (level : Bool) : State :=
  let x := s.lineSt k
  let differs := match x.rb with
    | some b => b != level
    | none => false
  (s.setDioBit k DIO_RAW_W level).setLine k { x with filtAt := s.now, diffAt := if differs then s.now else x.diffAt }

/-- DIO_FILTERED_CHANGE: the pin is sampled; where it has held its level for FILT ticks the filter accepts it, stamped with the tick
that sampled it first (R333, R335, R338, R340). -/
def execDioFilteredChange (line : Nat) (x : LineSample) (s : State) : Res :=
  let level := x.level
  let p := dioPg line
  if !(decide (line < 256) && s.sampling line) || (level && s.lineOff line) then .next s
  else
    let s := s.setLine line { s.lineSt line with pin := level }
    if !x.held || s.dioBit line DIO_RAW_W == level then .next s
    else
      let n := s.filtNs line / 4 - 1
      let s := s.setLine line { s.lineSt line with
        stamp := (s.time.ring - n * tickInc s.time.f) / 2 ^ 32, stampAt := s.now - 4 * n }
      let s := s.rawTake line level
      let c := s.dioCfg line DIO_LINEj_CFG_CNT_EDGE
      let s := if c = 2 ∨ (c = 0 ∧ level) ∨ (c = 1 ∧ !level) then
        s.wr p DIO_CNTj_COUNT ((s.rd p DIO_CNTj_COUNT (line % 32) + 1) % 2 ^ 32) (line % 32) else s
      .next (s.chatEdge line)

/-- The line's level takes a new value, with its stamp in ring time and in local time (R335, R339, R341). -/
def State.lineLevel (s : State) (k stamp lt : Nat) (level : Bool) : State :=
  let s := s.setDioBit k DIO_IN_W level
  let s := s.setLine k { s.lineSt k with activeAt := if level then some s.now else none }
  let s := if level then s else s.setDioBit k DIO_STUCK_W false
  if s.dioBit k DIO_CHATTER_W then s
  else
    let s := if bitAt (s.dioCfg k DIO_LINEj_CFG_EVT) (if level then 0 else 1) then s.dioEvent k 0 stamp lt level else s
    if s.enabled (dioPg k) then s.trkEvent 1 k (if level then 0 else 1) stamp none else s

/-- DIO_EDGE: the filtered level has held its new value for the debounce time (R334, R335). -/
def execDioEdge (line : Nat) (s : State) : Res :=
  let level := s.filtered line
  if !(decide (line < 256) && s.sampling line) || s.dioBit line DIO_IN_W == level then .next s
  else
    let s := s.passTo ((s.lineSt line).filtAt + s.debNs line)
    .next (s.lineLevel line (s.lineSt line).stamp (s.lineSt line).stampAt level)

/-- An apply that changes DIR, POL, FILT or DEB restarts the filter and debounce from the present pin level (R337).  What the restart
itself changes is no edge to the edge counter or the chatter detector (DESIGN CHOICE, log entry 90). -/
def State.lineRestart (s : State) (k : Nat) : State :=
  let s := s.rawTake k ((s.lineSt k).pin && !s.lineOff k)
  let level := s.filtered k
  if s.dioBit k DIO_IN_W == level then s else s.lineLevel k s.ringNow s.now level

/-- CHATTER_WINDOW: the page's chatter window ends and the next begins (R340). -/
def execChatterWindow (page : Nat) (s : State) : Res :=
  s.awake <|
  let k := 32 * page
  let w := s.ringNow / s.chatWin k + 1
  let s := s.passRing (w * s.chatWin k)
  .next ((List.range 32).foldl (fun s j =>
    let x := s.lineSt (k + j)
    if x.winCnt = 0 ∧ x.winIdx = 0 then s else s.setLine (k + j) { x with winIdx := w, winCnt := 0 }) s)

/-- CHATTER_END: CHAT_QUIET has passed without a filtered edge (R342). -/
def execChatterEnd (line : Nat) (s : State) : Res :=
  if !(decide (line < 256) && s.dioBit line DIO_CHATTER_W) then .next s
  else
    let q := s.rd (dioPg line) DIO_CHAT_CHAT_QUIET
    let s := s.passTo ((s.lineSt line).lastEdge + (if q = 0 then 1000000 * 10 else 10000000 * q))
    let s := s.setDioBit line DIO_CHATTER_W false
    .next (s.dioEvent line 2 s.ringNow s.now (s.dioBit line DIO_IN_W))

/-- DIO_STUCK: an input has been active for STUCK_MAX (R339). -/
def execDioStuck (line : Nat) (s : State) : Res :=
  let p := dioPg line
  match (s.lineSt line).activeAt with
  | none => .next s
  | some t =>
    if s.dioCfg line DIO_LINEj_CFG_STUCK_EN = 1 ∧ s.dioCfg line DIO_LINEj_CFG_DIR = 0 ∧ !s.dioBit line DIO_STUCK_W
        ∧ s.sampling line then
      let s := s.passTo (t + 1000000 * max 1 (s.rd p DIO_TIMING_STUCK_MAX))
      let s := ((s.setDioBit line DIO_STUCK_W true).irq p 5).count p 2
      .next (s.dioEvent line 3 s.ringNow s.now true)
    else .next s

/-- RB_FAIL: the filtered level differs from the level driven for longer than RB_DELAY (R347, R569). -/
def execRbFail (line : Nat) (s : State) : Res :=
  let p := dioPg line
  let x := s.lineSt line
  match x.rb with
  | none => .next s
  | some e =>
    if s.held.isEmpty ∧ s.dioCfg line DIO_LINEj_CFG_RB_EN = 1 ∧ e ≠ s.dioBit line DIO_RAW_W ∧ !s.dioBit line DIO_RB_FAIL_W then
      let s := s.passTo (max x.drvAt x.diffAt + 1000 * max 1 (s.rd p DIO_TIMING_RB_DELAY))
      let s := ((s.setDioBit line DIO_RB_FAIL_W true).irq p 7).count p 4
      let s := s.fault p 0x1F 1 (s.globalAddr (p * 0x1000 + 0x100 + 4 * (line % 32)))
      .next (s.journal 0x09 (beBytes 1 (line / 32) ++ beBytes 3 0 ++ beBytes 4 (s.rd p DIO_RB_FAIL_W)))
    else .next s

/-- DIO_OUT_HOST takes a value; HOST-mode lines drive it on the next CLK_IO edge (R345, R350, R569). -/
def State.outHost (s : State) (b v : Nat) : State :=
  let p := pgDIO + b
  if s.rd p DIO_OUT_HOST_W = v then s
  else
    let s := (s.wr p DIO_OUT_HOST_W v).journal 0x08 (beBytes 1 b ++ beBytes 3 0 ++ beBytes 4 v)
    (List.range 32).foldl (fun s j => s.driveLine (32 * b + j)) s

/-- DIO_OUT_HOST_WRITE: a write to DIO_OUT_HOST. -/
def execDioOutHostWrite (page value : Nat) (s : State) : Res :=
  if page < 8 && s.openTo (pgDIO + page) then .next (s.outHost page (value % 2 ^ 32)) else .next s

/-- DIO_OUT_SET: each 1 sets the bit of DIO_OUT_HOST. -/
def execDioOutSet (page value : Nat) (s : State) : Res :=
  if page < 8 && s.takes (pgDIO + page) then
    .next (s.outHost page (s.rd (pgDIO + page) DIO_OUT_HOST_W ||| value % 2 ^ 32))
  else .next s

/-- DIO_OUT_CLR: each 1 clears the bit of DIO_OUT_HOST. -/
def execDioOutClr (page value : Nat) (s : State) : Res :=
  if page < 8 && s.takes (pgDIO + page) then
    let h := s.rd (pgDIO + page) DIO_OUT_HOST_W
    .next (s.outHost page (h - (h &&& value % 2 ^ 32)))
  else .next s

/-- DIO_CNT_CLR: each 1 clears the line's edge counter (R338). -/
def execDioCntClr (page value : Nat) (s : State) : Res :=
  if page < 8 && s.takes (pgDIO + page) then
    .next ((List.range 32).foldl (fun s j => if bitAt value j then s.wr (pgDIO + page) DIO_CNTj_COUNT 0 j else s) s)
  else .next s

end Sys2Proof.Machine
end

