-- ==== Sys2Proof/Machine/Lanes.lean ====
section
/-!
DEFINITION. The receive side of a lane, the ends of frames, and LANE_CMD (R357 to R372), and the movers (R374 to R378).
-/
namespace Sys2Proof.Machine

/-! ## Received words and packets -/

/-- The flag bits of a received word (R361). -/
def flPARITY : Nat := 2 ^ 16
def flFRAMING : Nat := 2 ^ 17
def flBREAK : Nat := 2 ^ 18
def flNACK : Nat := 2 ^ 19
def flNO_RSP : Nat := 2 ^ 20
def flTIMING : Nat := 2 ^ 21
def flLOST : Nat := 2 ^ 22
def flSTATUS_ONLY : Nat := 2 ^ 23

/-- RX_SINK routes packets to the mailboxes. -/
def State.sinkMbx (s : State) (n : Nat) : Bool :=
  s.laneRd n LANE_MBX_CFG_RX_SINK == 1 || s.laneRd n LANE_MBX_CFG_RX_SINK == 2

/-- Increments a receive mailbox that counts (R370). -/
def State.mbxInc (s : State) (n m : Nat) : State :=
  s.wr (lanePg n) LANE_RXMBXm_VALUE ((s.rd (lanePg n) LANE_RXMBXm_VALUE m + 1) % 2 ^ 32) m

/-- The mode's words carry flags (R361). -/
def State.laneFlags (s : State) (n : Nat) : Bool := let m := s.laneMode n; m == 0 || m == 2 || m == 4

/-- The receive FIFO of a lane becomes `l`, which is no longer than before: an ended word that waited enters, an SPI or I2C controller that
was paused goes on with its next character, an SSI read that waited starts (R366). -/
def State.rxTake (s : State) (n : Nat) (l : List LaneWord) : State :=
  let s := s.laneSync n
  let paused := s.lanePaused n
  let x := s.laneSt n
  let (l, hold) := match x.hold with
    | some w => if w.fin && decide (l.length < 256) then (l ++ [w], none) else (l, x.hold)
    | none => (l, none)
  let on (f : LaneSend) : LaneSend := let g := s.laneHold n f; { g with edge := max s.now g.edge }
  let s := s.setLane n { x with rx := l, hold := hold, send := if paused then x.send.map on else x.send }
  if x.ssiWait && decide (l.length < 256) && s.laneOn n && !s.laneGated then
    (s.setLane n { s.laneSt n with ssiWait := false }).ssiStart n none
  else s

/-- Words enter the receive FIFO; RX_WEIR occurs where its fill reaches the Weir (R384). -/
def State.rxPut (s : State) (n : Nat) (l : List LaneWord) : State :=
  let x := s.laneSt n
  let weir := min 256 (max 1 (s.rd (lanePg n) LANE_WEIR_RX_WEIR))
  let s := s.setLane n { x with rx := x.rx ++ l }
  if decide (x.rx.length < weir ∧ weir ≤ x.rx.length + l.length) then s.irq (lanePg n) 2 else s

/-- Only a gap or the next word shows whether a received word ends its packet: with GAP in UART mode, and in IO-Link mode (R362). -/
def State.rxUnsure (s : State) (n : Nat) : Bool :=
  s.laneMode n == 0 && s.laneRd n LANE_TIMING_GAP != 0 || s.laneMode n == 4

/-- A word arrives: into the packet, and into the FIFO, with its end mark where it is the last of its packet; a word of which that is
not known yet waits for the next one (DESIGN CHOICE, log entry 136).  A UART or IO-Link character that finds the FIFO full is discarded,
an I2C status word waits for room (R361, R362, R366, R369, R370). -/
def State.rxWord (s : State) (n w : Nat) (last : Bool) : State :=
  let p := lanePg n
  let s := s.count p 1
  let s := if s.laneFlags n && decide (w / 2 ^ 16 % 64 ≠ 0) then s.mbxInc n 5 else s
  let x := s.laneSt n
  let s := s.setLane n { x with pkt := x.pkt ++ [w], lastChar := s.now }
  if !s.sinkFifo n || s.dropPend n then s
  else
    let x := s.laneSt n
    let full := decide (256 ≤ x.rx.length + x.hold.toList.length)
    if full && s.laneMode n != 2 then ((s.setLane n { x with lost := true }).laneErr n LANE_ERR_RX_OVF).count p 4
    else
      let e : LaneWord := { data := if x.lost && s.laneFlags n then w ||| flLOST else w, fin := last }
      let wait := full || !last && s.rxUnsure n
      let s := s.setLane n { x with lost := false, hold := if wait then some e else none }
      s.rxPut n (if wait then x.hold.toList else x.hold.toList ++ [e])

/-- Marks the last word of a FIFO. -/
def markLast (l : List LaneWord) : List LaneWord :=
  match l.reverse with
  | [] => []
  | w :: r => (({ w with fin := true }) :: r).reverse

/-- The packet being received ends: end mark, mailboxes, interrupt and LANE_PKT event (R362, R370, R384). -/
def State.rxEnd (s : State) (n : Nat) : State :=
  let x := s.laneSt n
  if x.pkt.isEmpty then s
  else
    let p := lanePg n
    let drop := s.dropPend n
    let mark := s.sinkFifo n && !drop
    let s := s.setLane n { x with rx := if mark && x.hold.isNone then markLast x.rx else x.rx, pkt := [], lost := false }
    let s := match x.hold with
      | some w =>
        if !mark || w.fin then s
        else State.rxPut (s.setLane n { s.laneSt n with hold := none }) n [{ w with fin := true }]
      | none => s
    let s := if drop then s.wr p LANE_STAT_DROP_PEND 0 else s
    let s := s.mbxInc n 4
    let s := if s.sinkMbx n then
        let s := (List.range 4).foldl (fun s k => s.wr p LANE_RXMBXm_VALUE (x.pkt.getD k 0) k) s
        s.wr p LANE_RXMBXm_VALUE x.pkt.length 6
      else s
    let s := (s.irq p 4).count p 2
    s.trkEvent 2 n 0 s.ringNow none

/-- A STATUS_ONLY word with a flag, which ends its packet (R357, R359, R360). -/
def State.rxStatus (s : State) (n flag : Nat) : State := (s.rxWord n (flSTATUS_ONLY ||| flag) true).rxEnd n

/-- A launch will start the complete frame held at the head within DE_LEAD, so that DE is asserted already (R357, R313). -/
def State.laneLeading (s : State) (n : Nat) : Bool :=
  let x := s.laneSt n
  x.send.isNone && s.headHeld n x.tx && x.tx.any (·.fin) && s.launches.any (fun e =>
    opOf e.2.opword == opLANE_START && opTarget e.2.opword == n && decide (s.ringNow < e.2.time ∧ e.2.time ≤ s.ringNow + s.laneLead n))

/-- DE, or the IO-Link transceiver enable, is asserted: from DE_LEAD before a frame until DE_LAG after it (R357). -/
def State.laneDe (s : State) (n : Nat) : Bool :=
  (s.laneMode n == 0 || s.laneMode n == 4) && ((s.laneSt n).send.isSome || decide (s.now < (s.laneSt n).deTill) || s.laneLeading n)

/-- The lane receives: its mode logic works, RX_EN, not while DE is asserted without ECHO; a stopped lane ends the word in progress
(R92, R357, R372, R379). -/
def State.rxOpen (s : State) (n : Nat) : Bool :=
  let rest := (s.laneSt n).offAt.any (fun t => decide (s.now < t + s.laneBitsNs n (s.charBits n)))
  (s.laneOn n && !s.laneGated || rest && s.laneRd n LANE_STAT_CLAIMED == 0) && s.laneRd n LANE_MODE_RX_EN == 1
    && !(s.laneDe n && s.laneRd n LANE_FMT_ECHO == 0)

/-- A word that an SPI or I2C controller receives: the next of the frame being sent, or of the bytes that it reads, when its last bit is
in; the last of its packet where the frame, or the read, ends with it (R362, R363, R366). -/
def State.rxController (s : State) (n data : Nat) : State :=
  let s := s.laneSync n
  let x := s.laneSt n
  match x.send with
  | none => s
  | some f =>
    let spi := s.laneMode n == 1
    let rd := bitsOf f.desc 26 6
    let all := s.laneAvail n f x.tx
    let i := if spi then f.got else all - rd + f.got
    if s.laneRd n LANE_MODE_RX_EN == 0 || s.lanePaused n || decide (all ≤ i) || !spi && rd == 0
        || (f.halt || f.under) && decide (f.chars ≤ i) then s
    else
      let s := if i < f.base then s else s.passTo (s.charAt n f (i + 1))
      let s := s.laneBegin n (max f.chars (i + 1))
      let x := s.laneSt n
      let keep := s.laneDesc n && bitAt f.desc 18
      let whole := x.send.any (fun g => g.whole && g.words.length == f.got + 1)
      let s := s.setLane n { x with send := x.send.map (fun g => { g with got := g.got + 1 }) }
      s.rxWord n data (if spi then whole && !keep else f.got + 1 == rd)

/-- LANE_RX_CHAR: a character or word was received, with its line errors; `late` for an IO-Link octet that begins late
(R357, R359, R361, R362, R366).  On a bank without supply the pins read 0 (R704). -/
def execLaneRxChar (lane data : Nat) (perr ferr brk late : Bool) (s : State) : Res :=
  let ch := (if s.laneDark lane then 0 else data) % 2 ^ s.laneBits lane
  let m := s.laneMode lane
  let p := lanePg lane
  if 64 ≤ lane || m == 3 || decide (4 < m) then .next s
  else if m = 1 ∨ m = 2 then .next (s.rxController lane ch)
  else if !s.rxOpen lane then .next s
  else
    let x := s.laneSt lane
    let s := if perr then (s.laneErr lane LANE_ERR_PARITY).count p 5 else s
    let s := if ferr || brk then (s.laneErr lane LANE_ERR_FRAMING).count p 6 else s
    if brk then .next ((s.setLane lane { s.laneSt lane with rsp := 0 }).rxStatus lane flBREAK)
    else
      let answer := m == 4 && x.send.isNone && decide (0 < x.rsp)
      let late := late && answer
      let w := ch + (if perr then flPARITY else 0) + (if ferr then flFRAMING else 0) + (if late then flTIMING else 0)
      let s := if late then s.laneErr lane LANE_ERR_TIMING else s
      let last := m == 0 && decide (x.pkt.length + 1 = min 256 (s.rd p LANE_RXPKT_PKT_LEN)) || answer && x.rsp == 1
      let s := s.rxWord lane w last
      let s := if answer then s.setLane lane { s.laneSt lane with rsp := x.rsp - 1, rspAt := s.now } else s
      .next (if last then s.rxEnd lane else s)

/-- LANE_PACKET_END: a UART gap of GAP bit times, an IO-Link gap longer than 10 bit times, or the end of an SPI or I2C
transaction (R359, R362). -/
def execLanePacketEnd (lane : Nat) (s : State) : Res :=
  let m := s.laneMode lane
  let x := s.laneSt lane
  if !s.laneOn lane || x.pkt.isEmpty then .next s
  else if m = 0 then
    let g := s.laneRd lane LANE_TIMING_GAP
    if g = 0 then .next s else .next ((s.passTo (x.lastChar + s.laneBitsNs lane g)).rxEnd lane)
  else if m = 4 then
    if x.send.isSome then .next s
    else
      let s := s.passTo ((if x.rsp = 0 then x.lastChar else x.rspAt) + s.laneBitsNs lane 10)
      .next ((s.setLane lane { s.laneSt lane with rsp := 0 }).rxEnd lane)
  else if x.send.isNone then .next (s.rxEnd lane)
  else .next s

/-- IOL_NO_RESPONSE: no response octet began within 10 bit times (R359). -/
def execIolNoResponse (lane : Nat) (s : State) : Res :=
  let x := s.laneSt lane
  if s.laneOn lane && s.laneMode lane == 4 && decide (x.rsp ≠ 0 ∧ x.rsp = x.rspLen) then
    let s := s.passTo (x.rspAt + s.laneBitsNs lane 10)
    let s := s.setLane lane { s.laneSt lane with rsp := 0 }
    .next (((s.laneErr lane LANE_ERR_NO_RSP).count (lanePg lane) 9).rxStatus lane flNO_RSP)
  else .next s

/-! ## Ends of frames -/

/-- An apply of the frame settings that waited for the words in progress takes effect; a new MODE empties the FIFOs and
clears the mailboxes (R372). -/
def State.laneReset (s : State) (n : Nat) : State :=
  let p := lanePg n
  let s := s.setLane n { s.laneSt n with
    rx := [], hold := none, tx := [], pkt := [], send := none, release := none, lost := false, rsp := 0, ssiWait := false, cs := false }
  let s := (List.range 8).foldl (fun s k => s.wr p LANE_RXMBXm_VALUE 0 k) s
  let s := (List.range 4).foldl (fun s k => s.wr p LANE_TXMBXm_VALUE 0 k) s
  (s.wr p LANE_STAT_DROP_PEND 0).laneDrain 256 n

/-- Writes the frame settings; a change of MODE resets the FIFOs (R372). -/
def State.laneConfig (s : State) (n : Nat) (ws : List (Nat × Nat)) : State :=
  let old := s.laneMode n
  let s := ws.foldl (fun s w => s.setWord (lanePg n) w.1 (BitVec.ofNat 32 w.2)) s
  let s := s.setLane n { s.laneSt n with later := none }
  if s.laneMode n = old then s else s.laneReset n

/-- What waited for the lane to fall idle happens. -/
def State.laneLater (s : State) (n : Nat) : State :=
  match (s.laneSt n).later with
  | some ws => if (s.laneSt n).send.isNone ∧ (s.laneSt n).ssi.isNone then (s.laneConfig n ws).applyDone (lanePg n) else s
  | none => s

/-- A frame ended: DONE, its stamp, the words that leave the pin, and what its descriptor asks for next (R196, R357, R359,
R362, R384). -/
def State.frameEnd (s : State) (n : Nat) (f : LaneSend) : State :=
  let p := lanePg n
  let s := (s.laneOut n (s.laneWire n f)).count p 3
  let s := s.irq p 5
  let s := if s.laneDesc n && bitAt f.desc 16 then s.txStamp f.at_ f.locked n 0 (bitsOf f.desc 0 16) else s
  let x := { s.laneSt n with deTill := s.now + s.laneBitsNs n (s.laneRd n LANE_TIMING_DE_LAG) }
  match s.laneMode n with
  | 0 => s.setLane n x
  | 1 => if s.laneDesc n && bitAt f.desc 18 then s else (s.setLane n { s.laneSt n with cs := false }).rxEnd n
  | 2 => s.rxEnd n
  | 4 => s.setLane n { x with rsp := bitsOf f.desc 18 6, rspLen := bitsOf f.desc 18 6, rspAt := s.now }
  | _ => s

/-- The frame being sent ends after `c` characters, which leave the hub; the rest of it leaves the FIFO unsent (R360, R369). -/
def State.laneAbort (s : State) (n c : Nat) : State :=
  let x := s.laneSt n
  match x.send with
  | none => s
  | some f =>
    let s := s.laneOut n (s.laneCut n f x.tx c)
    s.setLane n { x with send := none, tx := if f.whole then x.tx else afterFrame x.tx, cs := false }

/-- The receiver has taken the bytes that an I2C frame reads, where it receives (R363). -/
def State.laneReadDone (s : State) (n : Nat) (f : LaneSend) : Bool :=
  s.laneMode n != 2 || s.laneRd n LANE_MODE_RX_EN == 0 || decide (bitsOf f.desc 26 6 ≤ f.got)

/-- LANE_FRAME_DONE: the frame being sent finishes, or waits for its next word; `nack` where an I2C target does not
acknowledge the byte in progress.  Not while it is stopped, waits for a word, is paused or has bytes still to read (R92, R360, R363,
R364, R366). -/
def execLaneFrameDone (lane : Nat) (nack : Bool) (s : State) : Res :=
  let s := s.laneNow lane
  let x := s.laneSt lane
  match x.send with
  | none => .next s
  | some f =>
    let all := s.laneAvail lane f x.tx
    if f.halt || (f.under && x.tx.isEmpty) || s.lanePaused lane && decide (f.chars < all) then .next s
    else if s.laneMode lane = 2 ∧ nack then
      let c := max 1 f.chars
      let s := (s.passTo (s.charAt lane f c)).laneAbort lane c
      let s := ((s.laneErr lane LANE_ERR_NACK).count (lanePg lane) 7).rxStatus lane flNACK
      .next ((s.laneDrain 256 lane).laneLater lane)
    else if !s.laneReadDone lane f then .next s
    else
      let s := (s.passTo (s.charAt lane f all)).laneSync lane
      if !(f.whole || x.tx.any (·.fin)) then .next (s.laneDrain 256 lane)
      else
        let y := s.laneSt lane
        let s := s.setLane lane { y with send := none }
        .next (((s.frameEnd lane (y.send.getD f)).laneDrain 256 lane).laneLater lane)

/-- I2C_STRETCH_TIMEOUT: a target held SCL low for 25 ms; nine clock pulses and a stop condition follow (R360). -/
def execI2cStretchTimeout (lane : Nat) (s : State) : Res :=
  let s := s.laneNow lane
  let x := s.laneSt lane
  match x.send with
  | some f =>
    if s.laneMode lane = 2 ∧ !f.halt then
      let s := (s.pass 6250000).laneAbort lane f.chars
      let s := if s.laneDark lane then s else s.emit (.laneClocks lane 9)
      .next ((((s.laneErr lane LANE_ERR_TIMING).rxStatus lane flTIMING).laneDrain 256 lane).laneLater lane)
    else .next s
  | none => .next s

/-- SSI_READ_DONE: an SSI read ends with the level of DATA before the first edge, the data bits, the parity bit and the
further bit (R294, R295, R358, R366); on a bank without supply all of them read 0 (R704). -/
def execSsiReadDone (lane : Nat) (high : Bool) (value : Nat) (par zero : Bool) (s : State) : Res :=
  let p := lanePg lane
  let x := s.laneSt lane
  match x.ssi with
  | none => .next s
  | some (axis, t) =>
    let bits := s.laneBits lane
    let dark := s.laneDark lane
    let v := if dark then 0 else value % 2 ^ bits
    let (high, par, zero) := (high && !dark, par && !dark, zero && !dark)
    let ones := (List.range bits).foldl (fun a i => a + b2n (bitAt v i)) (b2n par)
    let odd := s.laneRd lane LANE_FMT_PARITY == 2
    let fail := !high || (s.lanePar lane && (ones % 2 == 1) != odd) || (s.laneRd lane LANE_FMT_ZERO_CHK == 1 && zero)
    let rx := s.laneRd lane LANE_MODE_RX_EN == 1
    let n := bits + b2n (s.lanePar lane) + s.laneRd lane LANE_FMT_ZERO_CHK
    let s := s.passRing (t + s.laneBitsNs lane n)
    let s := s.setLane lane { s.laneSt lane with
      ssi := none, monoEnd := s.now + 1000 * max 1 (s.laneRd lane LANE_TIMING_MONO) }
    let s := if fail then (s.laneErr lane LANE_ERR_SSI_FAIL).count p 8
      else if rx then
        if s.sinkFifo lane && decide (256 ≤ x.rx.length) then s.count p 4
        else (s.rxWord lane v true).rxEnd lane
      else s
    let s := match axis with
      | some a => s.axisSsi a t (if fail then none else some v)
      | none => s
    .next (s.laneLater lane)

/-! ## Reading and commands -/

/-- A FIFO word of a lane fails its parity check: ADDR is its byte offset in the FIFO, whose place there the spec leaves open (R368, R401,
R541; log entry 3). -/
def State.fifoPerr (s : State) (n : Nat) : State :=
  (((s.laneErr n LANE_ERR_FIFO_PERR).count (lanePg n) 13).fault (lanePg n) 0x20 1 (4 * (s.freeVal % 256))).drawn

/-- Damages word `i` of a list. -/
def badAt (l : List LaneWord) (i : Nat) : List LaneWord := l.mapIdx (fun j w => if j = i then { w with bad := true } else w)

/-- A FIFO cell of a lane fails: word `w` from the head of the receive FIFO, or `w` − 256 from that of the transmit FIFO; its parity
check fails when the word is read (R368, R401). -/
def State.fifoUpset (s : State) (n w : Nat) : State :=
  let x := s.laneSt n
  s.setLane n (if w < 256 then { x with rx := badAt x.rx w } else { x with tx := badAt x.tx (w - 256) })

/-- A pop of the receive FIFO: the word with its status; a parity failure is reported (R368).  `perr` is the parity check
of the head word. -/
def State.rxPop (s : State) (n : Nat) (perr : Bool) : State × Nat × Nat :=
  let x := s.laneSt n
  match x.rx with
  | [] => (s, 0, 0)
  | w :: l =>
    let bad := perr || w.bad
    let s := s.rxTake n l
    let s := if bad then s.fifoPerr n else s
    (s, w.data, 1 + 2 * b2n w.fin + 4 * b2n bad)

/-- LANE_RX_POP: a read of LANE_RXW_LO, with its high word where `wide`, pops the head word (R368). -/
def execLaneRxPop (ini : Initiator) (lane : Nat) (wide perr : Bool) (s : State) : Res :=
  s.awake <|
  let (s, d, st) := if s.on (lanePg lane) PAGE_STAT_READY then s.rxPop lane perr else (s, 0, 0)
  .next (s.rsp ini stOK (if wide then [d, st] else [d]))

/-- RX_FLUSH: empties the receive FIFO and clears a pending drop (R369). -/
def execRxFlush (lane : Nat) (s : State) : Res :=
  if !s.takes (lanePg lane) then .next s
  else .next ((State.rxTake (s.setLane lane { s.laneSt lane with hold := none }) lane []).wr (lanePg lane) LANE_STAT_DROP_PEND 0)

/-- TX_FLUSH: empties the transmit FIFO; a frame being sent stops after its word in progress: CS_N rises, or DE is released DE_LAG bit times
after that word (R369). -/
def execTxFlush (lane : Nat) (s : State) : Res :=
  if !s.takes (lanePg lane) then .next s
  else
    let s := s.laneSync lane
    let x := s.laneSt lane
    let s := match x.send with
      | some f =>
        let stop := if s.now < f.edge ∧ f.chars = f.base then s.now else max s.now (s.charAt lane f f.chars)
        let s := s.laneAbort lane f.chars
        let s := s.setLane lane { s.laneSt lane with deTill := stop + s.laneBitsNs lane (s.laneRd lane LANE_TIMING_DE_LAG) }
        if s.laneMode lane = 1 then s.rxEnd lane else s
      | none => s
    let s := s.setLane lane { s.laneSt lane with tx := [], release := none }
    .next ((s.laneDrain 256 lane).laneLater lane)

/-- RX_DROP_REST: discards through the first end mark, or all words and what arrives through the next one (R369). -/
def execRxDropRest (lane : Nat) (s : State) : Res :=
  if !s.takes (lanePg lane) then .next s
  else
    let x := s.laneSt lane
    if x.rx.any (·.fin) then .next (s.rxTake lane (afterFrame x.rx))
    else
      let s := (s.setLane lane { x with hold := none }).rxTake lane []
      .next (if x.hold.any (·.fin) then s else s.wr (lanePg lane) LANE_STAT_DROP_PEND 1)

/-- TX_DROP_HEAD: removes the head frame where it has not started (R369). -/
def execTxDropHead (lane : Nat) (s : State) : Res :=
  if !s.takes (lanePg lane) then .next s
  else
    let x := s.laneSt lane
    if x.send.isSome then .next s
    else .next ((s.setLane lane { x with tx := afterFrame x.tx, release := none }).laneDrain 256 lane)

/-! ## Pins -/

/-- What pin LP4n + `j` of lane `n` does: the engine's while it claims the lane; else the function of MODE, high impedance where the pin is
unused, the mode reserved or EN 0, before step 4, without supply, and on a twin hub that does not drive (R87, R355, R357, R389, R390,
R567, R704). -/
def State.lanePin (s : State) (n j : Nat) : Pin :=
  let x := s.laneSt n
  let e := s.laneRd n LANE_STAT_CLAIM_ENG
  if decide (s.rd pgPWRST PWRST_STATE_STEP < 4) || s.laneDark n || s.cold then .hiZ
  else if s.laneRd n LANE_STAT_CLAIMED = 1 then
    if bitAt (s.cogRd e COGe_PINS_DIR) j then .level (bitAt (s.cogRd e COGe_PINS_OUT) j) else .input
  else if !s.enabled (lanePg n) then .hiZ
  else match s.laneMode n, j with
    | 0, 0 => .signal
    | 0, 1 => .input
    | 0, 2 => .level (s.laneDe n)
    | 1, 0 => .signal
    | 1, 1 => .signal
    | 1, 2 => .input
    | 1, 3 => .level (!x.cs)
    | 2, 0 => .openDrain
    | 2, 1 => .openDrain
    | 3, 0 => .signal
    | 3, 1 => .input
    | 4, 0 => .signal
    | 4, 1 => .input
    | 4, 2 => .level (s.laneDe n)
    | 4, 3 => .level (x.wurqEnd.any (fun t => decide (s.now < t)))
    | _, _ => .hiZ

/-! ## Mailbox frames -/

/-- A transmit mailbox takes a committed value; the mailboxes of a claimed lane are idle (R371, R389). -/
def State.laneMbx (s : State) (n m v : Nat) : State :=
  if s.laneRd n LANE_STAT_CLAIMED = 1 then s else s.wr (lanePg n) LANE_TXMBXm_VALUE v m

/-- The lane queues a mailbox frame at a commit, or skips it where the FIFO lacks room (R371). -/
def State.mbxFrame (s : State) (n : Nat) (changed : Bool) : State :=
  let p := lanePg n
  let mode := s.rd p LANE_MBX_CFG_TX_MBX_MODE
  if !(mode == 2 || mode == 1 && changed) || s.node == nsQUIET || s.node == nsHOLD || !s.enabled p then s
  else
    let s := s.laneNow n
    let k := s.rd p LANE_MBX_CFG_TX_MBX_LEN + 1
    let vs := (List.range k).map (fun m => s.rd p LANE_TXMBXm_VALUE m)
    let ws := (if s.laneDesc n then [s.rd p LANE_MBX_DESC_DESC] else []) ++ vs
    if 256 < (s.laneSt n).tx.length + ws.length then (s.irq p 7).count p 12
    else (List.range ws.length).foldl (fun s i => s.lanePush n (ws.getD i 0) (i + 1 == ws.length)) s

/-! ## Movers -/

/-- Mover `m` beyond its registers. -/
def State.moverSt (s : State) (m : Nat) : MoverSt := s.mov.get (fun _ => {}) m

/-- Writes a mover's state; MOVED follows. -/
def State.setMover (s : State) (m : Nat) (x : MoverSt) : State :=
  let s := { s with mov := s.mov.set (fun _ => {}) m x }
  s.wr pgMOV MOVn_STAT_MOVED (x.pos % 2 ^ 24) m

/-- MOVn_STAT.STATE: 0 IDLE, 1 RUNNING, 2 DONE, 3 ERROR. -/
def State.movState (s : State) (m : Nat) : Nat := s.rd pgMOV MOVn_STAT_STATE m

/-- Sets bit `m` of a pair of 48-bit mask registers. -/
def State.movFlag (s : State) (lo hi : Field) (m irq : Nat) : State :=
  s.wr64 pgMOV lo hi (setBits (s.rd64 pgMOV lo hi) m 1 1) |>.irq pgMOV irq

/-- A mover ends in DONE. -/
def State.movDone (s : State) (m : Nat) : State :=
  (s.wr pgMOV MOVn_STAT_STATE 2 m).movFlag MOV_DONE_LO_DONE MOV_DONE_HI_DONE m 2

/-- A mover ends in ERROR: 1 PCIE_ERR, 2 UNMAPPED, 3 BAD_KIND (R378, R387). -/
def State.movError (s : State) (m err : Nat) : State :=
  let s := (s.wr pgMOV MOVn_STAT_STATE 3 m).wr pgMOV MOVn_STAT_ERR err m
  (s.movFlag MOV_ERR_LO_ERR MOV_ERR_HI_ERR m 3).count pgMOV 2

/-- The image copy channel that names mover `m` (R377). -/
def State.copyOf (s : State) (m : Nat) : Option Nat :=
  (List.range 4).find? (fun c => s.on pgIMG IMG_COPYn_A_EN c && s.rd pgIMG IMG_COPYn_A_MOVER c == m)

/-- The kinds of a mover's ends are permitted there (R374). -/
def kindsOk (src dst : Nat) : Bool := (src == 0 || src == 1 || src == 3 || src == 5) && (dst == 0 || dst == 1 || dst == 2 || dst == 4)

/-- MOVER_START (R374, R377, R378): an image source belongs to a copy channel. -/
def execMoverStart (mover : Nat) (s : State) : Res :=
  if !(s.takes pgMOV && s.enabled pgMOV && decide (mover < 48)) || s.movState mover == 1 then .next s
  else
    let src := s.rd pgMOV MOVn_CFG_SRC_KIND mover
    let dst := s.rd pgMOV MOVn_CFG_DST_KIND mover
    let s := (s.setMover mover {}).wr pgMOV MOVn_STAT_ERR 0 mover
    let ok := match s.copyOf mover with
      | some _ => src == 5 && dst == 0
      | none => kindsOk src dst && src != 5
    if ok then .next (s.wr pgMOV MOVn_STAT_STATE 1 mover) else .next (s.movError mover 3)

/-- MOVER_STOP takes effect after the word in progress (R378). -/
def execMoverStop (mover : Nat) (s : State) : Res :=
  if s.takes pgMOV ∧ mover < 48 ∧ s.movState mover = 1 then .next (s.wr pgMOV MOVn_STAT_STATE 0 mover) else .next s

/-- MOVER_BACKOFF_END: BACKOFF passes and the mover may retry its burst (R499). -/
def execMoverBackoffEnd (mover : Nat) (s : State) : Res :=
  match (s.moverSt mover).backoff with
  | none => .next s
  | some t =>
    let s := s.passTo t
    .next (s.setMover mover { s.moverSt mover with backoff := none })

/-- The lane requests this mover's burst (R375). -/
def State.movAsked (s : State) (m : Nat) : Bool :=
  let l := s.rd pgMOV MOVn_CFG_REQ_LANE m
  let x := s.laneSt l
  match s.rd pgMOV MOVn_CFG_REQ_KIND m with
  | 1 => decide (min 256 (max 1 (s.rd (lanePg l) LANE_WEIR_RX_WEIR)) ≤ x.rx.length) || x.rx.any (·.fin)
  | 2 => decide (min 256 (max 1 (s.rd (lanePg l) LANE_WEIR_TX_WEIR)) ≤ 256 - x.tx.length)
  | _ => true

end Sys2Proof.Machine
end

