-- ==== Sys2Proof/Machine/Cog.lean ====
section
/-!
DEFINITION. The cog engines (R388 to R416): the instructions, waiting, COG_CMD, the program store, tokens and claims.
-/
namespace Sys2Proof.Machine

/-! ## An engine's registers -/

/-- General register `g` of engine `e` (R399). -/
def State.cogG (s : State) (e g : Nat) : Nat :=
  s.cogRd e (match g % 4 with
    | 0 => COGe_G01_G0
    | 1 => COGe_G01_G1
    | 2 => COGe_G23_G2
    | _ => COGe_G23_G3)

/-- Writes general register `g`. -/
def State.setCogG (s : State) (e g v : Nat) : State :=
  s.cogWr e (match g % 4 with
    | 0 => COGe_G01_G0
    | 1 => COGe_G01_G1
    | 2 => COGe_G23_G2
    | _ => COGe_G23_G3) (v % 2 ^ 16)

/-- SR of an engine. -/
def State.cogSR (s : State) (e : Nat) : Nat := s.cogRd e COGe_SR_SR

/-- Writes SR and SC. -/
def State.setSR (s : State) (e sr sc : Nat) : State := (s.cogWr e COGe_SR_SR (sr % 2 ^ 32)).cogWr e COGe_PINS_SC (min 63 sc)

/-- A field of level `k` of an engine's loop stack (R400, R415). -/
def State.loopRd (s : State) (e k : Nat) (f : Field) : Nat := s.rd (cogPg e) f (2 * (e % 4) + k)

/-- Writes a field of a loop level. -/
def State.loopWr (s : State) (e k : Nat) (f : Field) (v : Nat) : State := s.wr (cogPg e) f v (2 * (e % 4) + k)

/-- The level of the innermost open loop. -/
def State.loopTop (s : State) (e : Nat) : Option Nat :=
  if s.loopRd e 1 COGe_LOOPk_VALID = 1 then some 1
  else if s.loopRd e 0 COGe_LOOPk_VALID = 1 then some 0
  else none

/-- The innermost loop closes. -/
def State.loopClose (s : State) (e : Nat) : State :=
  match s.loopTop e with
  | some k => s.loopWr e k COGe_LOOPk_VALID 0
  | none => s

/-- Token `t` of an engine's group (R403). -/
def State.token (s : State) (e t : Nat) : Nat := bitsOf (s.rd (cogPg e) COG_TOKENS_TOKENS) (4 * t) 4

/-- A token on this tick. -/
def State.tokenNow (s : State) (e t : Nat) : TokSt :=
  let x := s.tok.get (fun _ => {}) (4 * (e / 4) + t)
  if x.at_ = s.now then x else { at_ := s.now, avail := s.token e t }

/-- Writes a token on this tick: the takes act first, then the gives and clears in their order (R403). -/
def State.setToken (s : State) (e t : Nat) (x : TokSt) : State :=
  let v := x.ops.foldl (fun v o => match o with
    | some n => min 15 (v + n)
    | none => 0) x.avail
  let s := { s with tok := s.tok.set (fun _ => {}) (4 * (e / 4) + t) x }
  s.wr (cogPg e) COG_TOKENS_TOKENS (setBits (s.rd (cogPg e) COG_TOKENS_TOKENS) (4 * t) 4 v)

/-- The lane an engine claims (R389). -/
def State.cogLane (s : State) (e : Nat) : Nat := s.cogRd e COGe_CLAIM_LANE

/-- The claim of an engine is established. -/
def State.cogClaimed (s : State) (e : Nat) : Bool := s.cogRd e COGe_STAT_CLAIM_OK == 1

/-- The word that the program counter names. -/
def State.cogWord (s : State) (e : Nat) : Nat := s.rd (cogPg e) COG_STOREa_WORD (s.cogRd e COGe_STAT_PC)

/-! ## Instructions: fetch and completion -/

/-- A word that R394 calls illegal, at address `pc`. -/
def cogIllegal (w pc : Nat) : Bool :=
  match bitsOf w 20 4 with
  | 0x0 => bitsOf w 13 2 == 3
  | 0x5 => bitsOf w 0 2 == 3
  | 0x6 => bitsOf w 0 6 == pc
  | 0x7 => decide (0xC ≤ bitsOf w 6 4)
  | op => decide (0xB ≤ op)

/-- An engine enters FAULT: 1 ILLEGAL, 2 STORE_PARITY, 3 LOOP_DEPTH; it keeps all state as STOP does (R410). -/
def State.cogFault (s : State) (e code : Nat) : State :=
  let p := cogPg e
  let s := (s.cogUnstall e).cogWr e COGe_STAT_STATE 5
  let s := (s.cogWr e COGe_STAT_FAULT code).cogWr e COGe_STAT_DELAY_LEFT 0
  ((s.irq p 2).irq p 3).count p 10

/-- The post-delay field in ns. -/
def State.cogDelay (s : State) (e w : Nat) : Nat := bitsOf w 15 5 * s.cogCycle e

/-- An instruction completed: the next one, at `next`, executes at local time `due` (R392). -/
def State.cogGo (s : State) (e next due : Nat) : State :=
  let d := bitsOf (s.cogWord e) 15 5
  let s := (s.cogUnstall e).cogWr e COGe_STAT_STATE 1
  let s := (s.cogWr e COGe_STAT_PC (next % 64)).setCogSt e { s.cogSt e with due := due, delay := d }
  s.count (cogPg e) (e % 4)

/-- The address after the word at the program counter, with the end of the innermost loop recognised there, whose pass ends with the
word's post-delay (R400). -/
def State.cogEnd (s : State) (e : Nat) : State × Nat :=
  let pc := s.cogRd e COGe_STAT_PC
  match s.loopTop e with
  | some k =>
    if s.loopRd e k COGe_LOOPk_END = pc then
      (s.setCogSt e { s.cogSt e with ending := true },
        if s.loopRd e k COGe_LOOPk_REMAIN ≤ 1 then pc + 1 else s.loopRd e k COGe_LOOPk_START)
    else (s, pc + 1)
  | none => (s, pc + 1)

/-- The post-delay of an END word is over: REMAIN of its loop decreases, and at 0 the loop closes (R400). -/
def State.cogPass (s : State) (e : Nat) : State :=
  if !(s.cogSt e).ending || s.cogRd e COGe_STAT_STATE != 1 || decide (s.now < (s.cogSt e).due) then s
  else
    let s := s.setCogSt e { s.cogSt e with ending := false }
    match s.loopTop e with
    | some k =>
      let r := s.loopRd e k COGe_LOOPk_REMAIN - 1
      let s := s.loopWr e k COGe_LOOPk_REMAIN r
      if r = 0 then s.loopClose e else s
    | none => s

/-- An instruction completes at local time `due` less its own time, and execution goes on behind it. -/
def State.cogNext (s : State) (e due : Nat) : State :=
  let (s, n) := s.cogEnd e
  s.cogGo e n due

/-- When the next instruction executes after one that did not wait (R392). -/
def State.cogDue (s : State) (e w : Nat) : Nat := s.now + s.cogCycle e + s.cogDelay e w

/-- A waiting instruction that does not complete at its cycle start: WAITING, or STALLED on a FIFO (R392, R401). -/
def State.cogWait (s : State) (e : Nat) (stall matched : Bool) : State :=
  let s := s.cogWr e COGe_STAT_STATE (if stall then 3 else 2)
  s.setCogSt e { s.cogSt e with base := s.now, evalAt := s.now, stallAt := s.now, prev := matched }

/-- The engine's pins are sampled: `levels` on its inputs; on a bank without supply all read 0 (R390, R704). -/
def State.cogLook (s : State) (e levels : Nat) : State :=
  s.cogWr e COGe_PINS_LEVEL (if s.laneDark (s.cogLane e) then 0 else s.cogSeen e levels)

/-- The engine fetches the word at its program counter when that is due and executes it where its opcode is `op`;
`perr` is the word's parity check, `levels` the input pins as the synchroniser shows them (R390, R392, R394, R410). -/
def State.cogFetch (s : State) (e : Nat) (perr : Bool) (levels op : Nat) (body : State → Nat → State) : State :=
  if s.cogRd e COGe_STAT_STATE ≠ 1 then s
  else
    let w := s.cogWord e
    let bad := cogIllegal w (s.cogRd e COGe_STAT_PC)
    if !perr && !bad && bitsOf w 20 4 != op then s
    else
      let s := ((s.passTo (s.cogSt e).due).cogPass e).cogLook e levels
      if perr then (s.cogFault e 2).fault (cogPg e) 0x21 1
          (s.globalAddr (cogPg e * 0x1000 + COG_STOREa_WORD.off (s.cogRd e COGe_STAT_PC)))
      else if bad then s.cogFault e 1
      else body s w

/-! ## DRIVE, SAMPLE, EMIT -/

/-- COG_DRIVE: pins of MASK change level and, with SET_DIR, direction (R395). -/
def State.cogDrive (s : State) (e w : Nat) : State :=
  let v := bitsOf w 0 4
  let out := s.cogRd e COGe_PINS_OUT
  let dir := s.cogRd e COGe_PINS_DIR
  let pick (p old new : Nat) : Nat := if bitAt w (4 + p) then new else bitsOf old p 1
  let new (p : Nat) : Nat := match bitsOf w 13 2 with
    | 0 => bitsOf v p 1
    | 1 => 1 - bitsOf out p 1
    | _ => bitsOf (s.cogSR e) p 1
  let out' := (List.range 4).foldl (fun a p => a + pick p out (new p) * 2 ^ p) 0
  let dir' := (List.range 4).foldl (fun a p => a + pick p dir (bitsOf w (8 + p) 1) * 2 ^ p) 0
  s.cogPins e out' (if bitAt w 12 then dir' else dir)

/-- The CLK operand acts on the clock pin (R396). -/
def State.cogClk (s : State) (e w : Nat) : State :=
  let p := s.cogRd e COGe_CFG_CLK_PIN
  let idle := s.cogRd e COGe_CFG_CLK_IDLE
  let out := s.cogRd e COGe_PINS_OUT
  let dir := s.cogRd e COGe_PINS_DIR
  if s.cogRd e COGe_CFG_CLK_EN = 0 then s
  else match bitsOf w 4 2 with
    | 0 => s
    | 1 => s.cogPins e (setBits out p 1 idle) dir
    | 2 => s.cogPins e (setBits out p 1 (1 - idle)) dir
    | _ => s.cogPins e (setBits out p 1 (1 - bitsOf out p 1)) dir

/-- COG_SAMPLE: WIDTH pin levels shift into SR (R396). -/
def State.cogSample (s : State) (e w : Nat) : State :=
  let k := bitsOf w 2 2 + 1
  let level (j : Nat) : Nat := bitsOf (s.cogRd e COGe_PINS_LEVEL) ((bitsOf w 0 2 + j) % 4) 1
  let sr := s.cogSR e
  let msb := s.cogRd e COGe_CFG_MSB_FIRST = 1
  let sr' := if msb then
      (List.range k).foldl (fun a j => a + level j * 2 ^ (k - 1 - j)) (sr * 2 ^ k % 2 ^ 32)
    else (List.range k).foldl (fun a j => a + level j * 2 ^ (32 - k + j)) (sr / 2 ^ k)
  (s.setSR e sr' (s.cogRd e COGe_PINS_SC + k)).cogClk e w

/-- COG_EMIT: WIDTH bits of SR shift onto output levels; a data bit wins over the clock (R395, R396). -/
def State.cogEmit (s : State) (e w : Nat) : State :=
  let k := bitsOf w 2 2 + 1
  let sr := s.cogSR e
  let msb := s.cogRd e COGe_CFG_MSB_FIRST = 1
  let s := s.cogClk e w
  let out := (List.range k).foldl (fun a j =>
    setBits a ((bitsOf w 0 2 + j) % 4) 1 (if msb then bitsOf sr (31 - j) 1 else bitsOf sr j 1)) (s.cogRd e COGe_PINS_OUT)
  (s.cogPins e out (s.cogRd e COGe_PINS_DIR)).setSR e (if msb then sr * 2 ^ k else sr / 2 ^ k) (s.cogRd e COGe_PINS_SC + k)

/-- COG_DRIVE. -/
def execCogDrive (e : Nat) (perr : Bool) (levels : Nat) (s : State) : Res :=
  .next (s.cogFetch e perr levels 0x0 (fun s w => (s.cogDrive e w).cogNext e (s.cogDue e w)))

/-- COG_SAMPLE. -/
def execCogSample (e : Nat) (perr : Bool) (levels : Nat) (s : State) : Res :=
  .next (s.cogFetch e perr levels 0x1 (fun s w => (s.cogSample e w).cogNext e (s.cogDue e w)))

/-- COG_EMIT. -/
def execCogEmit (e : Nat) (perr : Bool) (levels : Nat) (s : State) : Res :=
  .next (s.cogFetch e perr levels 0x2 (fun s w => (s.cogEmit e w).cogNext e (s.cogDue e w)))

/-! ## TAKE and GIVE -/

/-- A TAKE finds a word: it is popped into SR or a general register; a failed parity check is reported and the word is
loaded all the same (R395, R401). -/
def State.cogTake (s : State) (e w : Nat) (perr : Bool) : Option State :=
  let n := s.cogLane e
  let x := s.laneSt n
  if !s.cogClaimed e then none
  else match x.tx with
    | [] => none
    | d :: l =>
      let s := (s.setLane n { x with tx := l }).count (lanePg n) 0
      let s := if perr || d.bad then s.fifoPerr n else s
      let s := s.cogWr e COGe_STAT_END (b2n d.fin)
      let s := if bitAt w 0 then s.setCogG e (bitsOf w 1 2) d.data else s.setSR e d.data 0
      some (s.laneDrain 256 n)

/-- The engine writes a word to the receive FIFO of its lane, where there is room; an end mark raises a LANE_PKT event
(R401). -/
def State.cogPut (s : State) (e v : Nat) (fin : Bool) : Option State :=
  let n := s.cogLane e
  let p := lanePg n
  let x := s.laneSt n
  if !s.cogClaimed e || decide (256 ≤ x.rx.length) && !s.dropPend n then none
  else
    let s := s.count p 1
    let s := if s.dropPend n then (if fin then s.wr p LANE_STAT_DROP_PEND 0 else s)
      else s.rxPut n [{ data := v % 2 ^ 32, fin := fin }]
    if fin then some (((s.irq p 4).count p 2).trkEvent 2 n 0 s.ringNow none) else some s

/-- A GIVE, where it need not wait (R395). -/
def State.cogGive (s : State) (e w : Nat) : Option State :=
  let fromG := bitAt w 5
  let v := if fromG then s.cogG e (bitsOf w 6 2) else s.cogSR e
  let clear (s : State) : State := if fromG || bitAt w 4 then s else s.setSR e 0 0
  if bitAt w 1 then
    let m := bitsOf w 2 2
    let i := 4 * (e % 4) + m
    let x := s.cogSt e
    let old := if (x.rxOld.get (fun _ => (0, 0)) m).1 = s.now then x.rxOld
      else x.rxOld.set (fun _ => (0, 0)) m (s.now, s.rd (cogPg e) COG_RXMBXe_m_VALUE i)
    some (clear ((s.setCogSt e { x with rxOld := old }).wr (cogPg e) COG_RXMBXe_m_VALUE v i))
  else (s.cogPut e v (bitAt w 0)).map clear

/-- COG_TAKE; `ferr` is the parity check of the FIFO word. -/
def execCogTake (e : Nat) (perr : Bool) (levels : Nat) (ferr : Bool) (s : State) : Res :=
  .next (s.cogFetch e perr levels 0x3 (fun s w =>
    match s.cogTake e w ferr with
    | some t => t.cogNext e (s.cogDue e w)
    | none => s.cogWait e true false))

/-- COG_GIVE. -/
def execCogGive (e : Nat) (perr : Bool) (levels : Nat) (s : State) : Res :=
  .next (s.cogFetch e perr levels 0x4 (fun s w =>
    match s.cogGive e w with
    | some t => t.cogNext e (s.cogDue e w)
    | none => s.cogWait e true false))

/-! ## AWAIT, LOOP, BRANCH, LOAD -/

/-- Every masked pin is seen at its level of VALUE (R397). -/
def State.cogPattern (s : State) (e w : Nat) : Bool :=
  (List.range 4).all (fun p => !bitAt w (2 + p) || bitAt (s.cogRd e COGe_PINS_LEVEL) p == bitAt w (6 + p))

/-- How many engines of lower number in the group wait for token `t` and have not been evaluated on this tick, or reach an AWAIT for it on
this tick (R403). -/
def State.tokenAhead (s : State) (e t : Nat) : Nat :=
  ((List.range (e % 4)).filter (fun k =>
    let f := e / 4 * 4 + k
    let v := s.cogWord f
    let st := s.cogRd f COGe_STAT_STATE
    (st == 2 && decide ((s.cogSt f).evalAt < s.now) || st == 1 && decide ((s.cogSt f).due ≤ s.now))
      && bitsOf v 20 4 == 5 && bitsOf v 0 2 == 2 && bitsOf v 2 2 == t)).length

/-- The condition of an AWAIT holds; `start` at its cycle start (R397). -/
def State.awaitHolds (s : State) (e w : Nat) (start : Bool) : Bool :=
  match bitsOf w 0 2 with
  | 0 => s.cogPattern e w
  | 1 => !start && bitsOf w 2 4 != 0 && s.cogPattern e w && !(s.cogSt e).prev
  | _ => decide (s.tokenAhead e (bitsOf w 2 2) < (s.tokenNow e (bitsOf w 2 2)).avail)

/-- An AWAIT completes by its condition; a TOKEN one takes a token. -/
def State.awaitDone (s : State) (e w : Nat) : State :=
  let s := s.cogWr e COGe_STAT_TIMEOUT 0
  let x := s.tokenNow e (bitsOf w 2 2)
  if bitsOf w 0 2 = 2 then s.setToken e (bitsOf w 2 2) { x with avail := x.avail - 1 } else s

/-- COG_AWAIT. -/
def execCogAwait (e : Nat) (perr : Bool) (levels : Nat) (s : State) : Res :=
  .next (s.cogFetch e perr levels 0x5 (fun s w =>
    if s.awaitHolds e w true then (s.awaitDone e w).cogNext e (s.cogDue e w)
    else s.cogWait e false (s.cogPattern e w)))

/-- COG_LOOP opens a loop over the words after it up to END, skips the body, or faults with both levels in use (R400). -/
def State.cogLoop (s : State) (e w : Nat) : State :=
  let pc := s.cogRd e COGe_STAT_PC
  let n := if bitAt w 6 then min 1023 (s.cogG e (bitsOf w 7 2))
    else if bitsOf w 7 8 = 0 then 256 else bitsOf w 7 8
  let due := s.cogDue e w
  if n = 0 then s.cogGo e (bitsOf w 0 6 + 1) due
  else match s.loopTop e with
    | some 1 => s.cogFault e 3
    | top =>
      let k := if top.isSome then 1 else 0
      let s := (s.loopWr e k COGe_LOOPk_START ((pc + 1) % 64)).loopWr e k COGe_LOOPk_END (bitsOf w 0 6)
      let s := (s.loopWr e k COGe_LOOPk_REMAIN n).loopWr e k COGe_LOOPk_VALID 1
      s.cogGo e (pc + 1) due

/-- COG_LOOP. -/
def execCogLoop (e : Nat) (perr : Bool) (levels : Nat) (s : State) : Res :=
  .next (s.cogFetch e perr levels 0x6 (fun s w => s.cogLoop e w))

/-- The COND of a BRANCH (R398). -/
def State.cogCond (s : State) (e w : Nat) : Bool :=
  let sel := bitsOf w 10 2
  let x := s.laneSt (s.cogLane e)
  match bitsOf w 6 4 with
  | 0x0 => true
  | 0x1 => bitAt (s.cogRd e COGe_PINS_LEVEL) sel
  | 0x2 => s.cogG e sel == 0
  | 0x3 => s.cogG e sel == s.cogSR e % 2 ^ 16
  | 0x4 => s.cogRd e COGe_PINS_SC == s.cogG e sel % 64
  | 0x5 => s.cogRd e COGe_STAT_TIMEOUT == 1
  | 0x6 => s.cogRd e COGe_STAT_END == 1
  | 0x7 => bitAt (s.cogSR e) (if s.cogRd e COGe_CFG_MSB_FIRST = 1 then 31 else 0)
  | 0x8 => x.tx.isEmpty
  | 0x9 => decide (256 ≤ x.rx.length)
  | 0xA => bitAt (s.cogSt e).mbxNew sel
  | _ => decide (1 ≤ s.token e sel)

/-- COG_BRANCH: a jump, which with EXIT closes the innermost loop first, or none (R398). -/
def State.cogBranch (s : State) (e w : Nat) : State :=
  let due := s.cogDue e w
  if s.cogCond e w != bitAt w 12 then (if bitAt w 13 then s.loopClose e else s).cogGo e (bitsOf w 0 6) due
  else s.cogNext e due

/-- COG_BRANCH. -/
def execCogBranch (e : Nat) (perr : Bool) (levels : Nat) (s : State) : Res :=
  .next (s.cogFetch e perr levels 0x7 (fun s w => s.cogBranch e w))

/-- COG_LOAD; from a mailbox on the tick of a commit that wrote it, the value held before (R399, R404). -/
def State.cogLoad (s : State) (e w : Nat) : State :=
  let g := bitsOf w 0 2
  let imm := bitsOf w 5 10
  match bitsOf w 2 3 with
  | 0 => s.setCogG e g imm
  | 1 => s.setCogG e g (s.cogG e g + imm)
  | 2 => s.setCogG e g (s.cogG e g + 2 ^ 16 - imm)
  | 3 => s.setSR e imm 0
  | 4 =>
    let x := s.cogSt e
    let old := x.txOld.get (fun _ => (0, 0)) g
    if old.1 = s.now ∧ x.txOld.any (fun q => q.1 == g) then s.setSR e old.2 0
    else
      let s := s.setSR e (s.rd (cogPg e) COG_TXMBXe_m_VALUE (4 * (e % 4) + g)) 0
      s.setCogSt e { s.cogSt e with mbxNew := setBits (s.cogSt e).mbxNew g 1 0 }
  | 5 => s.setCogG e g (s.cogSR e)
  | 6 => s.setSR e (s.cogG e g) 0
  | _ => s.setCogG e g (s.cogRd e COGe_PINS_SC)

/-- COG_LOAD. -/
def execCogLoad (e : Nat) (perr : Bool) (levels : Nat) (s : State) : Res :=
  .next (s.cogFetch e perr levels 0x8 (fun s w => (s.cogLoad e w).cogNext e (s.cogDue e w)))

/-! ## MARK and SIGNAL -/

/-- Writes the captured words that a MARK still holds while there is room (R402). -/
def State.cogMarkPut : Nat → State → Nat → State
  | 0, s, _ => s
  | k + 1, s, e =>
    match (s.cogSt e).mark with
    | [] => s
    | (v, fin) :: l =>
      match s.cogPut e v fin with
      | some t => State.cogMarkPut k (t.setCogSt e { t.cogSt e with mark := l }) e
      | none => s

/-- COG_MARK: captures ring time into the receive FIFO, or waits for a launch match (R402). -/
def execCogMark (e : Nat) (perr : Bool) (levels : Nat) (s : State) : Res :=
  .next (s.cogFetch e perr levels 0x9 (fun s w =>
    if bitAt w 0 then
      if s.cogRd e COGe_STAT_MATCH = 1 then (s.cogWr e COGe_STAT_MATCH 0).cogNext e (s.cogDue e w)
      else s.cogWait e false false
    else
      let due := s.cogDue e w
      let t := s.ringNow
      let ws := if bitAt w 1 then [(t % 2 ^ 32, false), (t / 2 ^ 32, bitAt w 2)] else [(t % 2 ^ 32, bitAt w 2)]
      let s := if (s.cogSt e).mark.isEmpty then s.setCogSt e { s.cogSt e with mark := ws } else s
      let s := s.cogMarkPut 2 e
      if (s.cogSt e).mark.isEmpty then s.cogNext e due else s.cogWait e true false))

/-- A give to a token; one that finds it at 15 is lost (R403). -/
def State.tokenGive (s : State) (e t n : Nat) : State :=
  let lost := s.token e t + n - 15
  let x := s.tokenNow e t
  let s := s.setToken e t { x with ops := x.ops ++ [some n] }
  if lost = 0 then s else (s.irq (cogPg e) 8).count (cogPg e) 13 lost

/-- COG_SIGNAL: a COG_SIG event, with IRQ an interrupt, with GIVE a token (R403). -/
def State.cogSignal (s : State) (e w : Nat) : State :=
  let p := cogPg e
  let x := s.cogSt e
  let s := (s.setCogSt e { x with sigs := (x.sigs + 1) % 2 ^ 32 }).count p 11
  let s := s.trkEvent 3 (e + 32 * bitsOf w 0 3) 0 s.ringNow none
  let s := if bitAt w 3 then s.irq p 4 else s
  if bitAt w 6 then s.tokenGive e (bitsOf w 4 2) 1 else s

/-- COG_SIGNAL. -/
def execCogSignal (e : Nat) (perr : Bool) (levels : Nat) (s : State) : Res :=
  .next (s.cogFetch e perr levels 0xA (fun s w => (s.cogSignal e w).cogNext e (s.cogDue e w)))

/-! ## Waiting -/

/-- The engine waits at a word of opcode `op`. -/
def State.cogWaits (s : State) (e op : Nat) : Bool :=
  let st := s.cogRd e COGe_STAT_STATE
  (st == 2 || st == 3) && bitsOf (s.cogWord e) 20 4 == op

/-- A wait completes on this tick (R392). -/
def State.cogWaited (s : State) (e w : Nat) : State := s.cogNext e (s.now + 4 + s.cogDelay e w)

/-- COG_WAIT_DONE: the waiting instruction is evaluated on this tick, or on the next where it was evaluated on this one, and completes where
its condition holds there (R392, R397, R401, R402, R403). -/
def execCogWaitDone (e levels : Nat) (ferr : Bool) (s : State) : Res :=
  let w := s.cogWord e
  if s.cogWaits e 9 && bitAt w 0 then
    if s.cogRd e COGe_STAT_MATCH = 1 then
      let at_ := (s.cogSt e).matchAt
      .next ((s.cogWr e COGe_STAT_MATCH 0).cogNext e (at_ + s.cogDelay e w))
    else .next s
  else if !(s.cogWaits e 3 || s.cogWaits e 4 || s.cogWaits e 5 || s.cogWaits e 9) then .next s
  else
    let s := ((s.passTo ((s.cogSt e).evalAt + 4)).cogUnstall e).cogLook e levels
    let s := s.setCogSt e { s.cogSt e with evalAt := s.now }
    match bitsOf w 20 4 with
    | 3 => match s.cogTake e w ferr with
      | some s => .next (s.cogWaited e w)
      | none => .next s
    | 4 => match s.cogGive e w with
      | some s => .next (s.cogWaited e w)
      | none => .next s
    | 5 =>
      if s.awaitHolds e w false then .next ((s.awaitDone e w).cogWaited e w)
      else .next (s.setCogSt e { s.cogSt e with prev := s.cogPattern e w })
    | _ =>
      let s := s.cogMarkPut 2 e
      if (s.cogSt e).mark.isEmpty then .next (s.cogWaited e w) else .next s

/-- AWAIT_TIMEOUT: the AWAIT completes TIMEOUT × 256 engine cycles after its cycle start, by its condition where that holds then (R397). -/
def execAwaitTimeout (e : Nat) (s : State) : Res :=
  let w := s.cogWord e
  let t := bitsOf w 10 5
  if s.cogWaits e 5 && t != 0 then
    let s := (s.passTo ((s.cogSt e).base + t * 256 * s.cogCycle e)).cogLook e (s.cogRd e COGe_PINS_LEVEL)
    .next ((if s.awaitHolds e w false then s.awaitDone e w else s.cogWr e COGe_STAT_TIMEOUT 1).cogWaited e w)
  else .next s

/-! ## COG_CMD -/

/-- COG_RES of engine `e`. -/
def State.cogRes (s : State) (e r : Nat) : State :=
  s.wr (cogPg e) (match e % 4 with
    | 0 => COG_RES_RESULT0
    | 1 => COG_RES_RESULT1
    | 2 => COG_RES_RESULT2
    | _ => COG_RES_RESULT3) r

/-- A command is refused with a result (R406). -/
def State.cogRefuse (s : State) (e r : Nat) : State := ((s.cogRes e r).irq (cogPg e) 7).count (cogPg e) 12

/-- A command is refused for a reason that R406 gives no code: the code is open (log entry 3). -/
def State.cogRefuseOpen (s : State) (e : Nat) : State := (s.cogRefuse e (1 + s.freeVal % 6)).drawn

/-- Applies a command to the engines that a mask of a page names. -/
def State.cogMask (s : State) (page mask : Nat) (f : State → Nat → State) : State :=
  if !(decide (page < 8) && s.takes (pgCOG + page)) then s
  else (List.range 4).foldl (fun s k => if bitAt mask k then f s (4 * page + k) else s) s

/-- START of one engine (R406); refused as in QUIET on a twin hub that does not drive (R567). -/
def State.cogStart (s : State) (e : Nat) : State :=
  if s.node = nsQUIET ∨ s.node = nsHOLD ∨ s.cold then s.cogRefuse e 4
  else if s.node = nsBOOT ∨ s.node = nsJOIN then s.cogRefuse e 6
  else if s.node = nsRECOVERY then s.cogRefuseOpen e
  else if s.cogActive e then s.cogRefuse e 1
  else if !s.enabled (cogPg e) then s.cogRefuse e 5
  else if !s.cogClaimed e then s.cogRefuse e 2
  else
    let s := [COGe_STAT_END, COGe_STAT_TIMEOUT, COGe_STAT_MATCH, COGe_STAT_DELAY_LEFT, COGe_STAT_RESUME_OK,
      COGe_STAT_FAULT].foldl (fun s f => s.cogWr e f 0) s
    let s := (List.range 4).foldl (fun s g => s.setCogG e g 0) (s.setSR e 0 0)
    let s := (List.range 2).foldl (fun s k => s.setWord (cogPg e) (COGe_LOOPk_VALID.off (2 * (e % 4) + k)) 0) s
    let s := (s.cogWr e COGe_STAT_PC (s.cogRd e COGe_CFG_ENTRY)).cogWr e COGe_STAT_STATE 1
    (s.setCogSt e { s.cogSt e with due := s.now, mark := [], ending := false }).cogRes e 0

/-- COG_CMD_START. -/
def execCogCmdStart (page mask : Nat) (s : State) : Res := .next (s.cogMask page mask State.cogStart)

/-- COG_CMD_STOP (R406, R407). -/
def execCogCmdStop (page mask : Nat) (s : State) : Res :=
  .next (s.cogMask page mask (fun s e =>
    if s.node = nsHOLD then s.cogRefuse e 4
    else if s.cogActive e then (s.cogStop e).cogRes e 0
    else s.cogRefuseOpen e))

/-- COG_CMD_RESUME (R406, R408). -/
def execCogCmdResume (page mask : Nat) (s : State) : Res :=
  .next (s.cogMask page mask (fun s e =>
    if s.node = nsQUIET ∨ s.node = nsHOLD ∨ s.cold then s.cogRefuse e 4
    else if s.node = nsBOOT ∨ s.node = nsJOIN then s.cogRefuse e 6
    else if s.node = nsRECOVERY then s.cogRefuseOpen e
    else if s.cogActive e then s.cogRefuse e 1
    else if !s.enabled (cogPg e) then s.cogRefuse e 5
    else if s.cogRd e COGe_STAT_STATE ≠ 4 then s.cogRefuseOpen e
    else if s.cogRd e COGe_STAT_RESUME_OK = 0 then s.cogRefuse e 3
    else
      let left := s.cogRd e COGe_STAT_DELAY_LEFT
      let s := ((s.cogWr e COGe_STAT_STATE 1).cogWr e COGe_STAT_DELAY_LEFT 0).cogRes e 0
      s.setCogSt e { s.cogSt e with due := s.now + left * s.cogCycle e }))

/-! ## Store, tokens, configuration, claims -/

/-- RESUME_OK of every engine of a page becomes 0 (R408). -/
def State.cogNoResume (s : State) (page : Nat) : State :=
  (List.range 4).foldl (fun s k => s.cogWr (4 * page + k) COGe_STAT_RESUME_OK 0) s

/-- The store generation increments. -/
def State.cogGen (s : State) (page : Nat) : State :=
  (s.wr (pgCOG + page) COG_STORE_STAT_GEN ((s.rd (pgCOG + page) COG_STORE_STAT_GEN + 1) % 2 ^ 16)).cogNoResume page

/-- A word is written into the store of a page, refused while an engine of it runs (R409). -/
def State.cogStoreWrite (s : State) (page addr value : Nat) : State :=
  let p := pgCOG + page
  if (List.range 4).any (fun k => s.cogActive (4 * page + k)) then
    let s := (s.wr p COG_STORE_STAT_REFUSED 1).wr p COG_STORE_STAT_REF_ADDR addr
    (s.irq p 5).count p 8
  else (s.wr p COG_STOREa_WORD value addr).cogGen page

/-- COG_STORE_WRITE (R409). -/
def execCogStoreWrite (page addr value : Nat) (s : State) : Res :=
  if page < 8 && addr < 64 && s.openTo (pgCOG + page) then .next (s.cogStoreWrite page addr value) else .next s

/-- COG_TOKEN_GIVE (R413). -/
def execCogTokenGive (page value : Nat) (s : State) : Res :=
  if !(decide (page < 8) && s.takes (pgCOG + page)) then .next s
  else .next ((List.range 4).foldl (fun s t => s.tokenGive (4 * page) t (bitsOf value (4 * t) 4)) s)

/-- Software sets a token to 0. -/
def State.tokenClear (s : State) (e t : Nat) : State :=
  let x := s.tokenNow e t
  s.setToken e t { x with ops := x.ops ++ [none] }

/-- COG_TOKEN_CLR (R413). -/
def execCogTokenClr (page value : Nat) (s : State) : Res :=
  if !(decide (page < 8) && s.takes (pgCOG + page)) then .next s
  else .next ((List.range 4).foldl (fun s t => if bitAt value t then s.tokenClear (4 * page) t else s) s)

/-- A claim is released: the pins become high impedance (R389). -/
def State.cogRelease (s : State) (e : Nat) : State :=
  if !s.cogClaimed e then s
  else
    let p := lanePg (s.cogLane e)
    let s := (s.wr p LANE_STAT_CLAIMED 0).wr p LANE_STAT_CLAIM_ENG 0
    (s.cogWr e COGe_STAT_CLAIM_OK 0).cogPins e 0 0

/-- A claim is established or not, with the reason; the lane's mode logic falls idle, its FIFOs keep their words (R373, R389). -/
def State.cogClaim (s : State) (e : Nat) : State :=
  let n := s.cogLane e
  let p := lanePg n
  if s.enabled p then (s.cogWr e COGe_STAT_CLAIM_OK 0).cogWr e COGe_STAT_CLAIM_ERR 1
  else if s.rd p LANE_STAT_CLAIMED = 1 then (s.cogWr e COGe_STAT_CLAIM_OK 0).cogWr e COGe_STAT_CLAIM_ERR 2
  else
    let x := s.laneSt n
    let s := s.setLane n { x with rx := x.rx ++ (if x.rx.length < 256 then x.hold.toList else []), hold := none, send := none,
                                  release := none, pkt := [], rsp := 0, ssiWait := false, cs := false, offAt := none }
    let s := (s.wr p LANE_STAT_CLAIMED 1).wr p LANE_STAT_CLAIM_ENG e
    let s := (s.cogWr e COGe_STAT_CLAIM_OK 1).cogWr e COGe_STAT_CLAIM_ERR 0
    s.cogPins e 0 0

/-- RESUME_OK after a write to COGe_CFG or COGe_CLAIM while STOPPED (R408). -/
def State.cogTouched (s : State) (e : Nat) : State :=
  if s.cogRd e COGe_STAT_STATE = 4 then s.cogWr e COGe_STAT_RESUME_OK 0 else s

/-- COGe_CLAIM is written, without effect while the engine runs (R389, R390). -/
def State.cogClaimWrite (s : State) (e value : Nat) : State :=
  if s.cogActive e then s
  else
    let keep := s.cogClaimed e && bitAt value 7 && bitsOf value 0 6 == s.cogLane e
    let s := if keep then s else s.cogRelease e
    let s := (s.cogWr e COGe_CLAIM_LANE (bitsOf value 0 6)).cogWr e COGe_CLAIM_EN (bitsOf value 7 1)
    let s := (s.cogWr e COGe_CLAIM_SAFE (bitsOf value 8 8)).cogTouched e
    if keep then s
    else if bitAt value 7 then s.cogClaim e
    else s.cogWr e COGe_STAT_CLAIM_ERR 0

/-- COG_CLAIM_WRITE (R389, R390). -/
def execCogClaimWrite (e value : Nat) (s : State) : Res :=
  if e < 32 && s.openTo (cogPg e) then .next (s.cogClaimWrite e value) else .next s

/-- COGe_CFG is written, without effect while the engine runs (R390). -/
def State.cogCfgWrite (s : State) (e value : Nat) : State :=
  if s.cogActive e then s
  else (s.setWord (cogPg e) (COGe_CFG_DIV.off (e % 4)) (BitVec.ofNat 32 (value % 2 ^ 27))).cogTouched e

/-- COG_CFG_WRITE (R390). -/
def execCogCfgWrite (e value : Nat) (s : State) : Res :=
  if e < 32 && s.openTo (cogPg e) then .next (s.cogCfgWrite e value) else .next s

/-! ## PAGE_CTRL of a COG page -/

/-- PAGE_CTRL.EN of a COG page is written 0: its engines stop (R411). -/
def State.cogDisable (s : State) (page : Nat) : State :=
  (List.range 4).foldl (fun s k => s.cogStop (4 * page + k)) s

/-- What a soft reset of a COG page ends: the engines' waits and claims; the SIGNAL counts go on (R404, R411). -/
def State.cogSoft (s : State) (page : Nat) : State :=
  (List.range 4).foldl (fun s k =>
    let e := 4 * page + k
    let s := (s.cogUnstall e).cogRelease e
    s.setCogSt e { sigs := (s.cogSt e).sigs })
    { s with tok := s.tok.filter (fun q => q.1 / 4 != page) }

/-! ## What registers and points show of an engine -/

/-- COGe_STAT with the cycles that remain of a post-delay (R404, R414). -/
def State.cogStat (s : State) (e : Nat) : Nat :=
  let w := (s.word (cogPg e) (COGe_STAT_STATE.off (e % 4))).toNat
  if s.cogRd e COGe_STAT_STATE = 1 then
    setBits w COGe_STAT_DELAY_LEFT.lo COGe_STAT_DELAY_LEFT.width
      (min (s.cogSt e).delay (((s.cogSt e).due - s.now) / s.cogCycle e))
  else w

/-- COGe_PINS.LEVEL: what the engine drives, and on its inputs, whose levels no command brings between instructions, free values; 0 where
the engine has no pins or their bank no supply (R390, R414, R704; log entry 120). -/
def State.cogLevel (s : State) (e : Nat) : Nat :=
  if !s.cogClaimed e || s.laneDark (s.cogLane e) then 0 else s.cogSeen e (s.freeVal % 16)

/-- A receive mailbox at t_s: a GIVE on that very tick is for the next epoch (R404). -/
def State.cogMbx (s : State) (e m : Nat) : Nat :=
  let x := (s.cogSt e).rxOld
  let old := x.get (fun _ => (0, 0)) m
  if old.1 = s.now ∧ x.any (fun q => q.1 == m) then old.2 else s.rd (cogPg e) COG_RXMBXe_m_VALUE (4 * (e % 4) + m)

/-- A committed value enters a transmit mailbox; MBX_NEW is set where it changes (R404). -/
def State.cogMbxSet (s : State) (e m v : Nat) : State :=
  let i := 4 * (e % 4) + m
  let x := s.cogSt e
  let old := s.rd (cogPg e) COG_TXMBXe_m_VALUE i
  let s := s.setCogSt e { x with txOld := x.txOld.set (fun _ => (0, 0)) m (s.now, old),
                                 mbxNew := if old = v then x.mbxNew else setBits x.mbxNew m 1 1 }
  s.wr (cogPg e) COG_TXMBXe_m_VALUE v i

/-- A counter as it reads now: the ticks of a stall that still lasts with it (R57, R416). -/
def State.counterNow (s : State) (p k : Nat) : Nat :=
  let e := 4 * (p - pgCOG) + (k - 4)
  if pgCOG ≤ p ∧ p < pgCOG + 8 ∧ 4 ≤ k ∧ k < 8 ∧ s.cogRd e COGe_STAT_STATE = 3 then
    s.counter p k + (s.now - (s.cogSt e).stallAt) / 4
  else s.counter p k

end Sys2Proof.Machine
end

