-- ==== Sys2Proof/Machine/Power.lean ====
section
/-!
DEFINITION. The sluices and the power die (R459 to R483).  The tamper alarm is in Keys.lean.
-/
namespace Sys2Proof.Machine

/-! ## Protection -/

/-- A fault message of a power-die page, sent while the logic die hears the die link. -/
def State.pfault (s : State) (p kind cls : Nat) : State := if s.dieHeard then s.fault p kind cls 0 else s

/-- A sluice enters FAULT with a CAUSE: 1 TIMER, 2 SHORT, 3 RAMP_TIMEOUT, 5 THERMAL; it latches where the retries are used
up, and a latched one stays latched (R465, R466, R467, R472, R483). -/
def State.sluFault (s : State) (n cause : Nat) : State :=
  let p := sluPg n
  let s := (s.sluTo n 3).wr p SLU_STAT_CAUSE cause
  let s := match cause with
    | 1 => s.pcount p 2
    | 2 => s.pcount p 3
    | 3 => s.pcount p 4
    | _ => s
  let x := s.sluSt n
  let lim := s.rd p SLU_RETRY_RETRY_MAX
  let latch := s.on p SLU_STAT_LATCHED || (n != 0 && lim != 15 && decide (lim ≤ s.rd p SLU_STAT_RETRIES))
  let s := s.setSluSt n { x with trips := x.trips + 1, retryAt := if latch then none else some s.now }
  let s := s.wr p SLU_STAT_LATCHED (b2n latch)
  (s.pirq p 3).pfault p 0x28 0

/-- SLU_LIMIT_ENTRY: the current limit begins to regulate in RAMP or ON; in mode STRICT power-good drops (R464, R466,
R468). -/
def execSluLimitEntry (sluice : Nat) (s : State) : Res :=
  let p := sluPg sluice
  let st := s.sluState sluice
  if sluice < 8 ∧ (st = 1 ∨ st = 2) ∧ !s.on p SLU_STAT_LIMIT then
    let s := ((s.sluTick sluice).wr p SLU_STAT_LIMIT 1).pcount p 1
    let s := s.pirq p 7
    let s := s.setSluSt sluice { s.sluSt sluice with qualAt := s.now }
    .next (if s.on p SLU_CFG_PG_MODE then s.sluPgDrop sluice false else s)
  else .next s

/-- SLU_LIMIT_EXIT: LIMIT returns to 0; qualification restarts (R466, R468). -/
def execSluLimitExit (sluice : Nat) (s : State) : Res :=
  let p := sluPg sluice
  if s.on p SLU_STAT_LIMIT then
    let s := (s.sluTick sluice).wr p SLU_STAT_LIMIT 0
    .next (s.setSluSt sluice { s.sluSt sluice with qualAt := s.now + 1000 })
  else .next s

/-- SLU_SHORT_TRIP: the fast comparator at twice ILIM, in any state (R465). -/
def execSluShortTrip (sluice : Nat) (s : State) : Res :=
  if sluice < 8 then .next (s.sluFault sluice 2) else .next s

/-- SLU_TIMER_TRIP: the fault timer reaches TIMER × 100 µs (R466). -/
def execSluTimerTrip (sluice : Nat) (s : State) : Res :=
  let p := sluPg sluice
  if s.on p SLU_STAT_LIMIT then
    let lim := max 1 (s.rd p SLU_CFG_TIMER) * 100
    let s := s.passTo ((s.sluSt sluice).ftAt + (lim - s.rd p SLU_FTIMER_COUNT) * 1000)
    .next (s.sluFault sluice 1)
  else .next s

/-- SLU_RAMP_DONE: VOUT reaches VIN − PG_DROP, with which power-good begins to qualify (R467, R468). -/
def execSluRampDone (sluice : Nat) (s : State) : Res :=
  if s.sluState sluice = 1 then
    let s := s.sluTo sluice 2
    .next (s.setSluSt sluice { s.sluSt sluice with qualAt := s.now })
  else .next s

/-- SLU_RAMP_TIMEOUT: the ramp has not ended within 4 × RAMP (R467). -/
def execSluRampTimeout (sluice : Nat) (s : State) : Res :=
  if s.sluState sluice = 1 then
    let x := s.sluSt sluice
    .next ((s.passTo (x.rampAt + 4 * x.rampMs * 1000000)).sluFault sluice 3)
  else .next s

/-- SLU_PG_QUALIFY: PG_QUAL consecutive good ticks assert power-good; in RAMP VOUT has not yet reached VIN − PG_DROP (R467, R468). -/
def execSluPgQualify (sluice : Nat) (s : State) : Res :=
  let p := sluPg sluice
  if s.sluState sluice = 2 ∧ !s.on p SLU_STAT_LIMIT ∧ !s.on p SLU_STAT_PG then
    let s := s.passTo ((s.sluSt sluice).qualAt + max 1 (s.rd p SLU_CFG2_PG_QUAL) * 100000)
    let s := (s.wr p SLU_STAT_PG 1).pirq p 4
    .next (s.setSluSt sluice { s.sluSt sluice with pgAt := s.now })
  else .next s

/-- VOUT_BELOW_PG_FLOOR: power-good drops, or its qualification restarts (R468). -/
def execVoutBelowPgFloor (sluice : Nat) (s : State) : Res :=
  if sluice < 8 then .next (s.sluPgDrop sluice false) else .next s

/-- A further retry is allowed: fewer than RETRY_MAX were made in a row, 15 and SLU0 without limit (R472, R473). -/
def State.sluMayRetry (s : State) (n : Nat) : Bool :=
  let lim := s.rd (sluPg n) SLU_RETRY_RETRY_MAX
  n == 0 || lim == 15 || decide (s.rd (sluPg n) SLU_STAT_RETRIES < lim)

/-- SLU_RETRY: RETRY_DELAY passes and a faulted sluice ramps again while retries are left; THERMAL also waits for the power die to
cool, and after an undervoltage every one for VIN (R461, R472). -/
def execSluRetry (sluice : Nat) (s : State) : Res :=
  let p := sluPg sluice
  match (s.sluSt sluice).retryAt with
  | some t =>
    let waits := s.pwd.waitVin || s.rd p SLU_STAT_CAUSE == 5 && s.on pgPWD PWD_STAT_THERMAL
    if s.sluState sluice = 3 ∧ s.on p SLU_STAT_LEVEL ∧ s.sluMayRetry sluice ∧ !waits then
      let s := s.passTo (t + max 1 (s.rd p SLU_RETRY_RETRY_DELAY) * 100000000)
      let s := (s.wr p SLU_STAT_RETRIES (satInc 15 (s.rd p SLU_STAT_RETRIES))).pcount p 5
      .next (s.sluRamp sluice)
    else .next s
  | none => .next s

/-- SLU_RETRY_COUNT_CLEAR: PG has been held for 1 s (R472). -/
def execSluRetryCountClear (sluice : Nat) (s : State) : Res :=
  if s.on (sluPg sluice) SLU_STAT_PG then
    .next ((s.passTo ((s.sluSt sluice).pgAt + 1000000000)).wr (sluPg sluice) SLU_STAT_RETRIES 0)
  else .next s

/-- SLU_FET_SHORT_DETECT: VOUT above 2.0 V with the gate off (R474). -/
def execSluFetShortDetect (sluice : Nat) (s : State) : Res :=
  let p := sluPg sluice
  let st := s.sluState sluice
  if sluice < 8 ∧ (st = 0 ∨ st = 3) then
    let s := (s.sluTo sluice 5).wr p SLU_STAT_CAUSE 6
    .next (((s.pirq p 5).pcount p 6).pfault p 0x29 1)
  else .next s

/-- SLU_FET_SHORT_CLEAR: VOUT has stayed below 2.0 V for 10 ms (R474). -/
def execSluFetShortClear (sluice : Nat) (s : State) : Res :=
  if s.sluState sluice = 5 then .next (s.sluTo sluice 0) else .next s

/-! ## Commands -/

/-- A command reaches its sluice: the page takes it, EN is 1, and the die link runs (R462, R475). -/
def State.sluTakes (s : State) (n : Nat) : Bool :=
  decide (n < 8) && s.takes (sluPg n) && s.enabled (sluPg n) && !s.pwd.silent

/-- ON and OFF act with SRC at HOST on SLU1 to SLU7 (R470). -/
def State.sluHost (s : State) (n : Nat) (v : Bool) : State :=
  let p := sluPg n
  if !s.sluTakes n then s
  else if n = 0 ∨ !s.on p SLU_CFG_SRC ∨ s.sluSafeSrc ∨ s.sluState n = 5 then s.irq p 6
  else s.sluLevel n v

/-- SLU_ON. -/
def execSluOn (sluice : Nat) (s : State) : Res := .next (s.sluHost sluice true)

/-- SLU_OFF. -/
def execSluOff (sluice : Nat) (s : State) : Res := .next (s.sluHost sluice false)

/-- SLU_CLEAR ends a FAULT: RAMP where LEVEL is 1, else OFF (R470). -/
def execSluClear (sluice : Nat) (s : State) : Res :=
  let p := sluPg sluice
  if !s.sluTakes sluice then .next s
  else if s.sluState sluice = 5 then .next (s.irq p 6)
  else if s.sluState sluice = 3 then .next (if s.on p SLU_STAT_LEVEL then s.sluRamp sluice else s.sluTo sluice 0)
  else .next s

/-- An SLU_CMD binding takes a committed value; with SRC at HOST, and in FET_SHORT, the command is refused (R269, R277, R470). -/
def State.sluImage (s : State) (n : Nat) (v : Bool) : State :=
  if n = 0 ∨ !s.sluTakes n ∨ s.sluSafeSrc then s
  else if s.on (sluPg n) SLU_CFG_SRC ∨ s.sluState n = 5 then s.irq (sluPg n) 6
  else if s.on (sluPg n) SLU_STAT_LEVEL = v then s
  else s.sluLevel n v

/-- SLU0_STARTUP_RAMP: VIN has stayed above 16.5 V for 50 ms after a power-on reset (R473). -/
def execSlu0StartupRamp (s : State) : Res :=
  if s.sluState 0 = 0 ∧ s.pwd.offTill.isNone ∧ !s.pwd.waitVin then
    .next (((s.passTo (s.pwd.vinAt + 50000000)).wr pgPWD PWD_STAT_VIN_OK 1).sluRamp 0)
  else .next s

/-- SLU0 is turned off, but not in FET_SHORT, where the hub cannot turn it off (R473, R474). -/
def State.sluOffForCycle (s : State) : State := if s.sluState 0 = 5 then s else s.sluTo 0 0

/-- POWER_CYCLE with the fields OFF_TIME and KEY of PWD_CMD (R473, R479). -/
def execPowerCycle (offTime key : Nat) (s : State) : Res :=
  if !s.takes pgPWD || s.pwd.silent then .next s
  else if key ≠ 0xC3 then .next (s.irq pgPWD 7)
  else
    let s := (s.count pgPWD 4).sluOffForCycle
    .next { s with pwd := { s.pwd with offTill := some (s.now + max 1 (offTime % 256) * 100000000) } }

/-- POWER_CYCLE_RAMP: OFF_TIME passes and SLU0 ramps again, unless it is in FET_SHORT (R473, R474). -/
def execPowerCycleRamp (s : State) : Res :=
  match s.pwd.offTill with
  | none => .next s
  | some t =>
    let s := s.passTo t
    let s := { s with pwd := { s.pwd with offTill := none } }
    .next (if s.sluState 0 = 5 then s else s.sluRamp 0)

/-- CLEAR_MIN resets VIN_MIN (R479). -/
def execClearMin (s : State) : Res :=
  if !s.takes pgPWD || s.pwd.silent then .next s else .next (s.wr pgPWD PWD_VIN_VIN_MIN 0xFFFF)

/-! ## VIN, temperature, the die link -/

/-- VIN_UNDERVOLT: every gate is turned off, and the power die waits for VIN to rise through 16.5 V (R461); where the gate is off
already the state stays, a FAULT with it (R472). -/
def execVinUndervolt (s : State) : Res :=
  let s := (List.range 8).foldl (fun s n => if s.sluState n = 1 ∨ s.sluState n = 2 then s.sluTo n 0 else s) s
  .next (State.wr { s with pwd := { s.pwd with waitVin := true } } pgPWD PWD_STAT_VIN_OK 0)

/-- Every sluice with OV_OFF is suspended, but for one in FET_SHORT and a latched FAULT, whose ends R472 and R474 give (R461; DESIGN
CHOICE, log entry 134). -/
def State.overvoltOff (s : State) : State :=
  (List.range 8).foldl (fun s n =>
    if s.on (sluPg n) SLU_CFG_OV_OFF ∧ s.sluState n ≠ 5 ∧ !s.on (sluPg n) SLU_STAT_LATCHED then
      (s.sluTo n 4).wr (sluPg n) SLU_STAT_CAUSE 4
    else s) s

/-- VIN_OVERVOLT: VIN above 40.0 V for 2 µs; the sluices with OV_OFF are suspended (R461). -/
def execVinOvervolt (s : State) : Res :=
  if s.on pgPWD PWD_STAT_OV then .next s
  else
    let s := ((s.wr pgPWD PWD_STAT_OV 1).pirq pgPWD 4).pcount pgPWD 2
    .next (s.pfault pgPWD 0x26 1).overvoltOff

/-- VIN_OV_RECOVER: suspended sluices with LEVEL 1 ramp again (R461). -/
def execVinOvRecover (s : State) : Res :=
  if !s.on pgPWD PWD_STAT_OV && (List.range 8).all (fun n => s.sluState n != 4) then .next s
  else .next ((List.range 8).foldl (fun s n =>
    if s.sluState n = 4 ∧ s.on (sluPg n) SLU_STAT_LEVEL then s.sluRamp n else s) (s.wr pgPWD PWD_STAT_OV 0))

/-- PWD_THERMAL: the power die exceeds 135 °C and every sluice enters FAULT (R461). -/
def execPwdThermal (s : State) : Res :=
  if s.on pgPWD PWD_STAT_THERMAL then .next s
  else
    let s := ((s.wr pgPWD PWD_STAT_THERMAL 1).pirq pgPWD 6).pcount pgPWD 5
    let s := s.pfault pgPWD 0x27 1
    .next ((List.range 8).foldl (fun s n => s.sluFault n 5) s)

/-- PWD_THERMAL_CLEAR: the power die falls below 115 °C (R472, R479). -/
def execPwdThermalClear (s : State) : Res := .next (s.wr pgPWD PWD_STAT_THERMAL 0)

/-- The block registers of the power die's pages as they are: the 16 words from 0x100 of each. -/
def State.diePages (s : State) : SMap Nat :=
  (List.range 144).foldl (fun (m : SMap Nat) i =>
    let p := pgPWD + i / 16
    let off := 0x100 + 4 * (i % 16)
    let v := if off = 0x118 ∧ pgPWD < p then min 0xFFFF (s.sluTimer (p - pgSLU)) else (s.word p off).toNat
    m.set (fun _ => 0) (0x1000 * p + off) v) []

/-- DIE_LINK_SILENCE: no die-link frame for 100 µs (R475). -/
def execDieLinkSilence (s : State) : Res :=
  if s.pwd.silent then .next s
  else
    let s := if s.held.isEmpty then s.fault pgPWD 0x25 1 0 else s
    .next { s with pwd := { s.pwd with silent := true, sampleAt := none, view := s.diePages } }

/-- PFW_ASSERT: PFW0_N (0) or PFW1_N (1) asserts (R476, R480). -/
def execPfwAssert (pin : Nat) (s : State) : Res :=
  let f := if pin = 0 then PWD_STAT_PFW0 else PWD_STAT_PFW1
  if 2 ≤ pin ∨ s.on pgPWD f then .next s
  else
    let s := ((s.wr pgPWD f 1).pirq pgPWD (2 + pin)).pcount pgPWD pin
    .next (if pin = 0 then { s with pwd := { s.pwd with pfwCount := (s.pwd.pfwCount + 1) % 2 ^ 32 } } else s)

/-- PFW_DEASSERT (R476). -/
def execPfwDeassert (pin : Nat) (s : State) : Res :=
  if 2 ≤ pin then .next s else .next (s.wr pgPWD (if pin = 0 then PWD_STAT_PFW0 else PWD_STAT_PFW1) 0)

/-- Item `u` of instance 0xA0 + `n` now (R478). -/
def State.dieItem (s : State) (n u : Nat) : Nat :=
  let flags := [PWD_STAT_PFW0, PWD_STAT_PFW1, PWD_STAT_OV, PWD_STAT_THERMAL]
  let p := sluPg (n - 1)
  let v := match n, u with
    | 0, 0 => s.rd pgPWD PWD_VIN_VIN
    | 0, 1 => (List.range 4).foldl (fun a j => a + s.rd pgPWD (flags.getD j PWD_STAT_OV) * 2 ^ j) 0
    | 0, 2 => s.rd pgPWD PWD_TEMP_TEMP
    | 0, _ => s.pwd.pfwCount
    | _, 0 => s.rd p SLU_MEAS_VOUT
    | _, 1 => (s.sluSt (n - 1)).current
    | _, 2 => s.rd p SLU_STAT_STATE + s.rd p SLU_STAT_PG * 2 ^ 3 + s.rd p SLU_STAT_LIMIT * 2 ^ 4
        + s.rd p SLU_STAT_CAUSE * 2 ^ 5
    | _, _ => (s.sluSt (n - 1)).trips
  v % 2 ^ 31

/-- The logic die receives a complete sample: every item of R478 as it is now. -/
def State.dieSample (s : State) : State :=
  let items := (List.range 36).foldl (fun (m : SMap Nat) i => m.set (fun _ => 0) i (s.dieItem (i / 4) (i % 4))) []
  { s with pwd := { s.pwd with sampleAt := some s.now, items := items } }

/-- The current in mA that a sense voltage in µV gives: without the offset TRIM, through RSENSE (R482, R589; DEDUCED, log entry 135). -/
def State.sluCurrent (s : State) (n sense : Nat) : Nat :=
  (((sense : Int) - signed 16 (s.rd (sluPg n) SLU_SENSE_TRIM)).toNat * 100) / min 10000 (max 50 (s.rd (sluPg n) SLU_SENSE_RSENSE))

/-- A sample of one sluice, which repeats the previous values in place of a zeroing phase (R590): VOUT, the current, and where VOUT lies
below VIN − PG_DROP while power-good is not asserted its qualification restarts (R468, R478, R482). -/
def State.sluSample (s : State) (n vin vout sense : Nat) : State :=
  let p := sluPg n
  if (s.sluSt n).zeroing then s.setSluSt n { s.sluSt n with zeroing := false }
  else
  let s := s.wr p SLU_MEAS_VOUT (min 0xFFFF vout)
  let i := s.sluCurrent n sense
  let s := s.wr p SLU_MEAS_CURRENT (min 0xFFFF i)
  let x := { s.sluSt n with current := i }
  let low := decide (vout + 100 * max 1 (s.rd p SLU_CFG2_PG_DROP) < vin) && !s.on p SLU_STAT_PG
  s.setSluSt n (if low then { x with qualAt := s.now } else x)

/-- PWD_TELEMETRY_SAMPLE: VIN in mV, the temperature in 0.1 °C, and VOUT in mV and the sense voltage in µV of each sluice
(R478, R482). -/
def execPwdTelemetrySample (vin temp : Nat) (vout sense : List Nat) (s : State) : Res :=
  let s := match s.pwd.sampleAt with
    | some t => s.passTo (t + 100000)
    | none => s
  let s := (s.wr pgPWD PWD_VIN_VIN (min 0xFFFF vin)).wr pgPWD PWD_TEMP_TEMP temp
  let s := s.wr pgPWD PWD_VIN_VIN_MIN (min (min 0xFFFF vin) (s.rd pgPWD PWD_VIN_VIN_MIN))
  let s := s.wr pgPWD PWD_STAT_VIN_OK (b2n (decide (15500 < vin)))
  let s := (List.range 8).foldl (fun s n => s.sluSample n vin (vout.getD n 0) (sense.getD n 0)) s
  .next (if s.pwd.silent then s else s.dieSample)

/-- A soft reset of a SLU page (R462). -/
def State.sluSoft (s : State) (n : Nat) : State :=
  let p := sluPg n
  let s := if n = 0 ∨ s.sluState n = 5 then s else s.sluTo n 0
  let s := if n = 0 then s else s.wr p SLU_STAT_LEVEL 0
  let s := [0x100, 0x104, 0x108].foldl (fun s o => (s.setWord p o (regDefault (regKey 0 p o))).setShadow p o
    (regDefault (regKey 0 p o))) s
  s.wr p SLU_SENSE_RSENSE 0x1F4

end Sys2Proof.Machine
end

