-- ==== Sys2Proof/Machine/Keys.lean ====
section
/-!
DEFINITION. Keys (R647 to R672): the key slots and their records, KEY_CMD, tamper, key numbers and the link-master switch.
-/
namespace Sys2Proof.Machine

def usWRAP : Nat := 1
def usLINK_MASTER : Nat := 2
def usUPD_DECRYPT : Nat := 3
def usUPD_VERIFY : Nat := 4
def usSERVICE_AUTH : Nat := 5

/-! ## Slots -/

/-- Key slot `i` as loaded. -/
def State.slotKey (s : State) (i : Nat) : KeySlot := s.keySlot.get (fun _ => {}) i

/-- Writes a key slot; LINK_VALID follows (R670). -/
def State.setSlotKey (s : State) (i : Nat) (k : KeySlot) : State :=
  let s := { s with keySlot := s.keySlot.set (fun _ => {}) i k }
  s.wr pgKEY KEY_STAT_LINK_VALID (b2n s.linkMaster.isSome)

/-- A slot is VALID with a usage. -/
def State.slotIs (s : State) (i usage : Nat) : Bool := (s.slotKey i).st == 1 && (s.slotKey i).usage == usage

/-- The valid children of a slot (R653, R670). -/
def State.children (s : State) (i : Nat) : List Nat :=
  (List.range 32).filter (fun j => (s.slotKey j).st == 1 && (s.slotKey j).parent == i)

/-- KW(p), the wrapping key under a parent: the Keystone, or a valid WRAP slot (R652, R653). -/
def State.wrapKey (s : State) (parent : Nat) : Option (List Byte) :=
  if parent = 0xFF then some (kdf (beBytes 16 Config.keystone.toNat) "WRAP" [])
  else if parent < 32 ∧ s.slotIs parent usWRAP then some (kdf (s.slotKey parent).key "WRAP" [])
  else none

/-- The ancestors of a slot, from its parent up; an EMPTY slot has none (R653). -/
def State.ancestors (s : State) : Nat → Nat → List Nat
  | 0, _ => []
  | k + 1, p => if p = 0xFF then [] else p :: (if (s.slotKey p).st = 0 then [] else State.ancestors s k (s.slotKey p).parent)

/-- The length of key material by usage (R650). -/
def materialLen (usage : Nat) : Nat := if usage = usUPD_VERIFY then 64 else 16

/-- Bytes 0 to 27 of a slot record, with its NONCE (R651). -/
def KeyRec.head (r : KeyRec) : List Byte :=
  leBytes 4 0x4B4B5952 ++ leBytes 1 (if r.tomb then 2 else 1) ++ leBytes 1 r.slot ++ leBytes 1 r.parent ++ leBytes 1 r.usage
    ++ leBytes 4 r.gen ++ leBytes 4 0 ++ r.nonce

/-- A record of every slot, oldest first. -/
def State.keyRecs (s : State) (i : Nat) : List KeyRec := s.flash.keys.filter (fun r => r.slot == i)

/-- The record of the highest GEN of a slot. -/
def newestRec (l : List KeyRec) : Option KeyRec :=
  l.foldl (fun (a : Option KeyRec) r => match a with
    | some b => if b.gen < r.gen then some r else a
    | none => some r) none

/-- The material of a record under its parent, where TAG verifies (R652). -/
def State.unwrapRec (s : State) (r : KeyRec) : Option (List Byte) := do
  let kw ← s.wrapKey r.parent
  let p ← Config.gcmOpen kw r.nonce r.head r.wrapped (BitVec.ofNat 128 (beNat r.tag))
  return p.take (materialLen r.usage)

/-- A record is valid: no 0 in DEAD, its parent valid and loaded, TAG verifies (R652). -/
def State.recValid (s : State) (r : KeyRec) : Bool := r.dead == 0xFFFFFFFF && (s.unwrapRec r).isSome

/-- Reports KEY_SLOT_BAD (R542, R654, R672). -/
def State.slotBad (s : State) : State := (s.irq pgKEY 4).fault pgKEY 0x0B 1 0

/-- A chain through `parent` may hold one slot more: at most 4 stand below the Keystone (R653). -/
def State.chainOk (s : State) (parent : Nat) : Bool := decide ((s.ancestors 5 parent).length < 4)

/-- Loads slot `i` from its records; one whose chain would hold more than 4 slots has no valid parent (R653, R654). -/
def State.loadSlot (s : State) (i : Nat) : State :=
  match newestRec (s.keyRecs i) with
  | none => s.setSlotKey i {}
  | some r =>
    if r.dead ≠ 0xFFFFFFFF ∨ (r.tomb ∧ s.recValid r) then s.setSlotKey i { st := 4, usage := r.usage, parent := r.parent, gen := r.gen }
    else if (s.wrapKey r.parent).isNone ∨ !s.chainOk r.parent then
      (s.setSlotKey i { st := 2, usage := r.usage, parent := r.parent, gen := r.gen }).irq pgKEY 5
    else
      match newestRec ((s.keyRecs i).filter (fun q => !q.tomb && s.recValid q)) with
      | some v =>
        let s := s.setSlotKey i { st := 1, usage := v.usage, parent := v.parent, gen := v.gen, key := (s.unwrapRec v).getD [] }
        if v.gen < r.gen then s.slotBad else s
      | none => (s.setSlotKey i { st := 3, usage := r.usage, parent := r.parent, gen := r.gen }).slotBad

/-- The depth at which a slot loads: 1 below the Keystone; more than 4 where its chain is longer or broken (R653, R654). -/
def State.slotDepth (s : State) : Nat → Nat → Nat
  | 0, _ => 5
  | k + 1, i => match newestRec (s.keyRecs i) with
    | none => 1
    | some r => if r.parent = 0xFF then 1 else 1 + State.slotDepth s k r.parent

/-- Every slot loads, Keystone children first (R654). -/
def State.loadSlots (s : State) : State :=
  (List.range 9).foldl (fun s d =>
    (List.range 32).foldl (fun t i => if s.slotDepth 8 i = d + 1 then t.loadSlot i else t) s) s

/-! ## Link keys lost and found -/

/-- Every link SA of both ports is zeroised and the protected ports enter NO_KEY, but for a SerDes port that SD_LOS holds in DOWN (R106,
R656, R660, R666). -/
def State.dropSas (s : State) (reason : Nat) : State :=
  [0, 1].foldl (fun s p =>
    let s := s.setProt p { s.protSt p with txT := none, rxT := none, oldRx := none, search := none, failing := none }
    if s.protected p && s.enabled (pgLINK + p) && s.rd (pgLINK + p) LINK_CFG_MEDIUM != 3
        && decide (4 ≤ s.rd pgPWRST PWRST_STATE_STEP) && s.rd (pgLINK + p) LINK_STAT_STATE != 7
        && !(s.lstate p == 0 && s.serdes p && (s.lnk p).los)
    then s.noKey p reason else s) s

/-- A port in NO_KEY whose cause has cleared leaves it through DOWN (R666). -/
def State.keyRetry (s : State) : State :=
  [0, 1].foldl (fun s p =>
    let r := s.rd pgKEY KEY_PORTp_STAT_REASON p
    if s.rd (pgLINK + p) LINK_STAT_STATE = 7 ∧ (r = 1 ∨ r = 2) ∧ s.noKeyReason p = 0 then
      (s.wr pgKEY KEY_PORTp_STAT_REASON 0 p).linkDown p else s) s

/-- Authentication of the service port ends; a nonce that waits for its response stays (R533, R661). -/
def State.authEnd (s : State) : State := s.wr pgUSB USB_STAT_AUTH 0

/-- The slot whose key the service port uses: the lowest valid SERVICE_AUTH slot (R650). -/
def State.authSlot (s : State) : Option Nat :=
  if s.on pgKEY KEY_STAT_ZEROISED then none else (List.range 32).find? (fun i => s.slotIs i usSERVICE_AUTH)

/-- A slot's key is lost: its children become ORPHAN with it, and authentication ends where it hung on one of them (R660,
R661). -/
def State.orphan : Nat → State → Nat → State
  | 0, s, _ => s
  | k + 1, s, i =>
    (s.children i).foldl (fun s j =>
      let x := s.slotKey j
      let s := (s.setSlotKey j { x with st := 2, key := [] }).irq pgKEY 5
      let s := if x.usage = usSERVICE_AUTH then s.authEnd else s
      State.orphan k s j) s

/-! ## KEY_CMD -/

/-- KEY_RES of an initiator. -/
def State.keyRes (s : State) (ini : Initiator) (r : Nat) : State := s.wr pgKEY KEY_RES_RESULT r 0 ini.num

/-- KEY_DATA of an initiator and the key register are set to 0 when a command completes (R655). -/
def State.keyClear (s : State) (ini : Initiator) : State :=
  (List.range 32).foldl (fun s n => s.wr pgKEY KEY_DATAn_DATA 0 n ini.num) { s with key := { s.key with reg := [] } }

/-- Bytes of KEY_DATA. -/
def State.keyData (s : State) (ini : Initiator) (o n : Nat) : List Byte :=
  (((List.range 32).flatMap (fun k => leBytes 4 (s.rd pgKEY KEY_DATAn_DATA k ini.num))).drop o).take n

/-- A command is refused; an operation in progress keeps the key register (R655, R658, R672). -/
def State.keyRefuse (s : State) (ini : Initiator) (r : Nat) : State :=
  let t := ((s.keyRes ini r).count pgKEY 1).keyClear ini
  if s.key.op.isSome then { t with key := { t.key with reg := s.key.reg } } else t

/-- An operation starts. -/
def State.keyStart (s : State) (op : KeyOp) (reg : List Byte) : State :=
  State.wr { s with key := { s.key with op := some op, reg := reg } } pgKEY KEY_STAT_BUSY 1

/-- The KEY page takes a command. -/
def State.keyTakes (s : State) : Bool := s.takes pgKEY

/-- Why an operation on a slot is refused before its own conditions: ZEROISED, BUSY, BAD_SLOT; 0 for none (R658, R662). -/
def State.keyBlocked (s : State) (slot key : Nat) : Nat :=
  if s.on pgKEY KEY_STAT_ZEROISED then 0xA
  else if s.key.op.isSome then 1
  else if 32 ≤ slot ∨ key ≠ 0xA7 then 2
  else 0

/-- Why an installation is refused: BAD_SLOT, CHAIN, HAS_CHILDREN; 0 for none (R653, R658). -/
def State.installBad (s : State) (slot parent usage : Nat) : Nat :=
  if usage = 0 ∨ 5 < usage ∨ (32 ≤ parent ∧ parent ≠ 0xFF) then 2
  else
    let up := s.ancestors 5 parent
    if (s.wrapKey parent).isNone ∨ up.contains slot ∨ !s.chainOk parent then 3
    else if !(s.children slot).isEmpty then 4
    else 0

/-- The word of a KEY_CMD write. -/
def keyWord (cmd slot parent key : Nat) (force : Bool) : Nat :=
  cmd + 16 * b2n force + 2 ^ 8 * (slot % 32) + 2 ^ 16 * (parent % 256) + 2 ^ 24 * (key % 256)

/-- INSTALL_CLEAR: the key in KEY_DATA (R657). -/
def execInstallClear (ini : Initiator) (slot parent key : Nat) (s : State) : Res :=
  if !s.keyTakes then .next s
  else if s.hkPaused then .next (s.hkDefer ini pgKEY 0x100 (keyWord 1 slot parent key false))
  else
    let usage := s.rd pgKEY KEY_ARG_USAGE 0 ini.num
    let b := s.keyBlocked slot key
    let c := s.installBad slot parent usage
    if b ≠ 0 then .next (s.keyRefuse ini b)
    else if c ≠ 0 then .next (s.keyRefuse ini c)
    else if ini = .bridge then .next (s.keyRefuse ini 6)
    else if s.key.noEntropy then .next (s.keyRefuse ini 0xC)
    else if s.on pgDRS DRS_WEARr_A_EXHAUSTED 2 then .next (s.keyRefuse ini 8).flashWorn
    else .next (s.keyStart { ini := ini, destroy := false, slot := slot, parent := parent, usage := usage }
      (s.keyData ini 0 (materialLen usage)))

/-- INSTALL_WRAPPED: the key in KEY_DATA, unwrapped under WRAP_SLOT (R657). -/
def execInstallWrapped (ini : Initiator) (slot parent key : Nat) (s : State) : Res :=
  if !s.keyTakes then .next s
  else if s.hkPaused then .next (s.hkDefer ini pgKEY 0x100 (keyWord 2 slot parent key false))
  else
    let usage := s.rd pgKEY KEY_ARG_USAGE 0 ini.num
    let b := s.keyBlocked slot key
    let c := s.installBad slot parent usage
    let m := (s.wrapKey (s.rd pgKEY KEY_ARG_WRAP_SLOT 0 ini.num)).bind (fun kw =>
      Config.gcmOpen kw (s.keyData ini 0 12) (beBytes 1 slot ++ beBytes 1 usage) (s.keyData ini 12 64)
        (BitVec.ofNat 128 (beNat (s.keyData ini 76 16))))
    if b ≠ 0 then .next (s.keyRefuse ini b)
    else if c ≠ 0 then .next (s.keyRefuse ini c)
    else match m with
      | none => .next (s.keyRefuse ini 7)
      | some p =>
        if s.key.noEntropy then .next (s.keyRefuse ini 0xC)
        else if s.on pgDRS DRS_WEARr_A_EXHAUSTED 2 then .next (s.keyRefuse ini 8).flashWorn
        else .next (s.keyStart { ini := ini, destroy := false, slot := slot, parent := parent, usage := usage }
          (p.take (materialLen usage)))

/-- GENERATE: 16 bytes from the DRBG, for USAGE WRAP (R657). -/
def execGenerate (ini : Initiator) (slot parent key : Nat) (s : State) : Res :=
  if !s.keyTakes then .next s
  else if s.hkPaused then .next (s.hkDefer ini pgKEY 0x100 (keyWord 3 slot parent key false))
  else
    let usage := s.rd pgKEY KEY_ARG_USAGE 0 ini.num
    let b := s.keyBlocked slot key
    let c := if usage = usWRAP then s.installBad slot parent usage else 2
    if b ≠ 0 then .next (s.keyRefuse ini b)
    else if c ≠ 0 then .next (s.keyRefuse ini c)
    else if s.key.noEntropy then .next (s.keyRefuse ini 0xC)
    else if s.on pgDRS DRS_WEARr_A_EXHAUSTED 2 then .next (s.keyRefuse ini 8).flashWorn
    else
      let (k, s) := s.randBytes 16
      .next (s.keyStart { ini := ini, destroy := false, slot := slot, parent := parent, usage := usage } k)

/-- DESTROY: the loaded key is zeroised at once; the records follow (R658, R660, R661). -/
def execDestroy (ini : Initiator) (slot key : Nat) (force : Bool) (s : State) : Res :=
  if !s.keyTakes then .next s
  else if s.hkPaused then .next (s.hkDefer ini pgKEY 0x100 (keyWord 4 slot 0 key force))
  else
    let b := s.keyBlocked slot key
    let link := s.rd pgKEY KEY_STAT_LINK_SLOT
    let uses (l : Nat) : Bool :=
      l == slot || (s.slotKey l).st != 0 && (s.ancestors 5 (s.slotKey l).parent).contains slot
    let inUse := uses link || uses (s.rd pgKEY KEY_STAT_NEXT_SLOT)
    if b ≠ 0 then .next (s.keyRefuse ini b)
    else if inUse && !force then .next (s.keyRefuse ini 5)
    else if s.key.noEntropy then .next (s.keyRefuse ini 0xC)
    else
      let hadLink := s.linkMaster.isSome
      let x := s.slotKey slot
      let s := State.orphan 5 s slot
      let s := s.setSlotKey slot { x with st := 4, key := [] }
      let s := if x.usage = usSERVICE_AUTH then s.authEnd else s
      let s := if hadLink && s.linkMaster.isNone then s.dropSas 1 else s
      .next (s.keyStart { ini := ini, destroy := true, slot := slot, parent := x.parent, usage := x.usage } [])

/-- The next GEN of a slot (R659). -/
def State.nextGen (s : State) (slot : Nat) : Nat := (s.keyRecs slot).foldl (fun a r => max a r.gen) 0 + 1

/-- An ORPHAN slot whose parent is usable again loads from its records (R660). -/
def State.adopt : Nat → State → State
  | 0, s => s
  | k + 1, s => State.adopt k ((List.range 32).foldl (fun s i =>
      if (s.slotKey i).st = 2 ∧ (s.wrapKey (s.slotKey i).parent).isSome ∧ s.chainOk (s.slotKey i).parent then s.loadSlot i
      else s) s)

/-- An installation completes: wrapped, written with the next GEN, loaded (R659); a key of another usage in LINK_SLOT leaves the protected
ports no link key (R106, R666). -/
def State.installDone (s : State) (op : KeyOp) : State :=
  if s.on pgDRS DRS_WEARr_A_EXHAUSTED 2 then (s.keyRes op.ini 8).flashWorn
  else
  match s.wrapKey op.parent with
  | none => s.keyRes op.ini 3
  | some kw =>
    let (nonce, s) := s.randBytes 12
    let r0 : KeyRec := { tomb := false, slot := op.slot, parent := op.parent, usage := op.usage, gen := s.nextGen op.slot,
                         nonce := nonce, wrapped := [], tag := [] }
    let m := s.key.reg ++ List.replicate (64 - s.key.reg.length) 0
    let (ct, tag) := Config.gcmSeal kw nonce r0.head m
    let r := { r0 with wrapped := ct, tag := beBytes 16 tag.toNat }
    let hadLink := s.linkMaster.isSome
    let s := { s with flash := { s.flash with keys := s.flash.keys ++ [r] } }
    let s := s.setSlotKey op.slot { st := 1, usage := op.usage, parent := op.parent, gen := r.gen, key := s.key.reg }
    let s := if hadLink && s.linkMaster.isNone then s.dropSas 1 else s
    ((State.adopt 4 s).keyRes op.ini 0).keyRetry

/-- The records of a slot are destroyed and a TOMBSTONE with the next GEN is written (R660). -/
def State.destroyRecs (s : State) (slot parent usage : Nat) : State :=
  let gen := s.nextGen slot
  let (nonce, s) := s.randBytes 12
  let r0 : KeyRec := { tomb := true, slot := slot, parent := parent, usage := usage, gen := gen, nonce := nonce,
                       wrapped := List.replicate 64 0, tag := [] }
  let tag := match s.wrapKey parent with
    | some kw => (Config.gcmSeal kw nonce r0.head []).2
    | none => 0
  let l := s.flash.keys.map (fun r => if r.slot = slot then { r with dead := 0 } else r)
  { s with flash := { s.flash with keys := l ++ [{ r0 with tag := beBytes 16 tag.toNat }] } }

/-- KEY_OP_DONE: the operation in progress completes; the key register and KEY_DATA are cleared; one that ends otherwise than OK
is counted as aborted (R655, R659, R660, R672). -/
def execKeyOpDone (s : State) : Res :=
  match s.key.op with
  | none => .next s
  | some op =>
    let s := if op.destroy then
        let s := (s.destroyRecs op.slot op.parent op.usage).count pgKEY 2
        (s.setSlotKey op.slot { s.slotKey op.slot with st := 4, gen := s.nextGen op.slot - 1 }).keyRes op.ini 0
      else s.installDone op
    let s := ({ s with key := { s.key with op := none } }).keyClear op.ini
    .next (((s.wr pgKEY KEY_STAT_BUSY 0).irq pgKEY 2).count pgKEY (b2n (s.rd pgKEY KEY_RES_RESULT 0 op.ini.num != 0)))

/-- ENTROPY_HEALTH_FAIL: the entropy source fails its health test (R649). -/
def execEntropyHealthFail (s : State) : Res := s.awake <| .next { s with key := { s.key with noEntropy := true } }

/-! ## Key load and tamper -/

/-- Zeroisation: every working key is set to 0; records in flash stay (R656, R662). -/
def State.zeroise (s : State) : State :=
  let dark := s.keySlot.map (fun (e : Nat × KeySlot) => (e.1, { e.2 with key := [] }))
  let s := { s with keySlot := dark, key := { s.key with reg := [] } }
  let s := (s.wr pgKEY KEY_STAT_ZEROISED 1).wr pgKEY KEY_STAT_LINK_VALID 0
  (s.dropSas 5).authEnd

/-- The response to the tamper alarm in the logic die (R662). -/
def State.tamperAct (s : State) : State :=
  let s := match s.key.op with
    | some op =>
      if op.destroy then s
      else
        let s := (s.keyRes op.ini 9).keyClear op.ini
        let s := State.wr { s with key := { s.key with op := none } } pgKEY KEY_STAT_BUSY 0
        (s.irq pgKEY 2).count pgKEY 1
    | none => s
  ((s.zeroise.irq pgKEY 3).usbWake 3).fault pgKEY 0x0A 1 0

/-- TAMPER_ALARM: TAMPER_N low for 10 µs raises the alarm, held until power-on reset (R477, R662). -/
def execTamperAlarm (s : State) : Res :=
  if s.on pgPWD PWD_STAT_TAMPER then .next s
  else
    let s := s.wr pgPWD PWD_STAT_TAMPER 1
    .next (if s.dieHeard then s.tamperAct else { s with pwd := { s.pwd with alarm := s.pwd.alarm || s.pwd.silent } })

/-- DIE_LINK_RESUMED: frames resume; the events counted meanwhile are added, SAFE acts where it replaces the command source, and the
logic die responds to a tamper alarm raised meanwhile (R460, R471, R475, R477). -/
def execDieLinkResumed (s : State) : Res :=
  if !s.pwd.silent then .next s
  else
    let alarm := s.pwd.alarm && s.held.isEmpty
    let s := { s with pwd := { s.pwd with silent := false, view := [], alarm := false } }
    let s := ((s.missedCounts.pirq pgPWD 5).pcount pgPWD 3).sluSafeAll
    .next (if alarm then s.tamperAct else s)

/-- The next start-up finishes the missing steps of an interrupted destruction (R660). -/
def State.finishDestroy (s : State) : State :=
  (List.range 32).foldl (fun s i =>
    match newestRec (s.keyRecs i) with
    | some r => if !r.tomb && r.dead != 0xFFFFFFFF then s.destroyRecs i r.parent r.usage else s
    | none => s) s

/-- The tag of a PAIR record over its bytes 0 to 91 (R664). -/
def pairTag (port entry gen serial txRes rxMark : Nat) : List Byte :=
  let b := leBytes 4 0x4B4B5952 ++ leBytes 1 3 ++ leBytes 1 port ++ leBytes 1 entry ++ leBytes 1 0 ++ leBytes 4 gen
    ++ leBytes 4 0 ++ leBytes 8 serial ++ leBytes 4 txRes ++ leBytes 4 rxMark ++ List.replicate 60 0
  beBytes 16 (Config.cmac (kdf (beBytes 16 Config.keystone.toNat) "PAIR" []) b).toNat

/-- Writes a PAIR record of a port's entry, replacing the older one of the same serial (R651, R664). -/
def State.pairWrite (s : State) (port : Nat) (p : PairEnt) : State :=
  let old := s.flash.pairs.find? (fun r => r.port == port && r.serial == p.serial)
  let gen := (old.map (·.gen)).getD 0 + 1
  let entry := (s.protSt port).pairs.findIdx (fun q => q.serial == p.serial)
  let r : PairRec := { port := port, serial := p.serial, gen := gen, txRes := p.txRes, rxMark := p.rxMark,
                       tag := pairTag port entry gen p.serial p.txRes p.rxMark }
  let l := s.flash.pairs.filter (fun q => !(q.port == port && q.serial == p.serial))
  State.count { s with flash := { s.flash with pairs := l ++ [r] } } pgKEY 10

/-- The pair tables at key load: numbers go on above every reserved one, with TX_RES raised by 16 (R664). -/
def State.loadPairs (s : State) : State :=
  s.flash.pairs.foldl (fun s r =>
    let p : PairEnt := { serial := r.serial, nextT := (r.txRes + 1) % 2 ^ 32, txRes := (r.txRes + 16) % 2 ^ 32, rxMark := r.rxMark }
    (s.setProt r.port ((s.protSt r.port).setPair p)).pairWrite r.port p) s

/-- KEY_LOAD: from step 3, or in RECOVERY, the key slots load; with the tamper alarm raised boot stops instead (R654,
R662). -/
def execKeyLoad (s : State) : Res :=
  if s.on pgKEY KEY_STAT_LOADED || !(s.hkUp || s.node == nsRECOVERY) then .next s
  else if s.on pgPWD PWD_STAT_TAMPER then .next s.tamperAct
  else .next ((s.finishDestroy.loadSlots.loadPairs).wr pgKEY KEY_STAT_LOADED 1).keyRetry

/-! ## Key numbers and searches -/

/-- SA_REKEY: PN reaches 0xC0000000 and a new transmit SA starts (R664). -/
def execSaRekey (port : Nat) (s : State) : Res :=
  if port < 2 ∧ s.linkUp port ∧ 0xC0000000 ≤ (s.protSt port).txPn ∧ !(s.protSt port).txWait then .next (s.txSaStart port)
  else .next s

/-- PAIR_RECORD_WRITE: the write of the neighbour's PAIR record that is due completes: it reserves 16 more key numbers where T has
reached TX_RES, or keeps a new RX_MARK; a transmitter that waited goes on (R664). -/
def execPairRecordWrite (port : Nat) (s : State) : Res :=
  let x := s.protSt port
  match x.pairs.find? (fun q => q.serial == s.neighSerial port) with
  | none => .next s
  | some p =>
    let raise_ := x.txWait || decide (p.txRes < p.nextT)
    let marked := s.flash.pairs.any (fun r => r.port == port && r.serial == p.serial && r.rxMark == p.rxMark)
    if !raise_ && marked then .next s
    else
    let p' := if raise_ then { p with txRes := (p.txRes + 16) % 2 ^ 32 } else p
    let s := (s.setProt port { x.setPair p' with txWait := false }).pairWrite port p'
    if x.txWait ∧ (x.txT = none ∨ p.txRes < p.nextT) ∧ s.linkUp port then .next (s.txSaStart port) else .next s

/-- A search has found the key number `t`: it becomes the receive SA (R665). -/
def State.searchHit (s : State) (port t : Nat) (sak : List Byte) (pn : Nat) : State :=
  let s := s.rxVerified port t pn
  s.setProt port { s.protSt port with rxSak := sak }

/-- KEY_SEARCH: one candidate key number is tried, 1 µs each; the first that verifies the frame becomes the receive SA
(R665, R668). -/
def execKeySearch (port : Nat) (s : State) : Res :=
  let x := s.protSt port
  match x.search, s.linkMaster with
  | some (an, n, f), some k =>
    let mark := ((x.pairs.find? (fun q => q.serial == s.neighSerial port)).map (·.rxMark)).getD 0xFFFFFFFF
    let first := (mark + 1) % 2 ^ 32
    let t := (first + (an + 4 - first % 4) % 4 + 4 * n) % 2 ^ 32
    let s := (s.pass 250).count pgKEY 7
    let sak := s.rxSakOf port k t
    match s.openWith port sak f with
    | some _ => .next (s.searchHit port t sak ((f.sec.map (·.pn)).getD 0))
    | none =>
      if 16383 ≤ n then .next ((s.setProt port { x with search := none }).noKey port 3)
      else .next (s.setProt port { x with search := some (an, n + 1, f) })
  | _, _ => .next s

/-- NO_VERIFY_TIMEOUT: no frame has verified for 10 ms while frames keep failing (R666). -/
def execNoVerifyTimeout (port : Nat) (s : State) : Res :=
  let x := s.protSt port
  match x.failing with
  | none => .next s
  | some t =>
    if s.protected port ∧ s.linkUp port then
      .next ((s.passTo (max x.lastOk t + 10000000)).noKey port 4)
    else .next s

/-! ## The link-master switch -/

/-- LINK_ARM: arms a link-master switch at KEY_LINK_AT (R668, R669). -/
def execLinkArm (ini : Initiator) (key : Nat) (s : State) : Res :=
  if !s.keyTakes then .next s
  else if s.hkPaused then .next (s.hkDefer ini pgKEY 0x100 (keyWord 5 0 0 key false))
  else
    let e := s.rd64 pgKEY KEY_LINK_AT_LO_EPOCH KEY_LINK_AT_HI_EPOCH
    let b := s.keyBlocked 0 key
    if b ≠ 0 then .next (s.keyRefuse ini b)
    else if s.epoch = ones64 ∨ e < s.epoch + s.settle_ + 2 then .next (s.keyRefuse ini 0xB)
    else if !s.slotIs (s.rd pgKEY KEY_STAT_NEXT_SLOT) usLINK_MASTER then .next (s.keyRefuse ini 3)
    else
      let s := State.wr { s with key := { s.key with at_ := some e } } pgKEY KEY_STAT_ARMED 1
      .next ((((s.keyRes ini 0).irq pgKEY 2).count pgKEY 0).keyClear ini)

/-- LINK_DISARM cancels an armed switch (R669). -/
def execLinkDisarm (ini : Initiator) (key : Nat) (s : State) : Res :=
  if !s.keyTakes then .next s
  else if s.hkPaused then .next (s.hkDefer ini pgKEY 0x100 (keyWord 6 0 0 key false))
  else
    let b := s.keyBlocked 0 key
    if b ≠ 0 then .next (s.keyRefuse ini b)
    else
      let s := State.wr { s with key := { s.key with at_ := none } } pgKEY KEY_STAT_ARMED 0
      .next ((((s.keyRes ini 0).irq pgKEY 2).count pgKEY 0).keyClear ini)

/-- The switch takes effect at commit instant `n` where it is due: the new slot, empty pair tables, a new transmit SA on
each UP port; the old receive SA serves 1 ms more; a port in NO_KEY trains again, whatever its cause, for the new master clears it
(R666, R668). -/
def State.linkSwitch (s : State) (n : Nat) : State :=
  match s.key.at_ with
  | none => s
  | some e =>
    if n < e then s
    else
      let s := State.wr { s with key := { s.key with at_ := none } } pgKEY KEY_STAT_ARMED 0
      let s := s.wr pgKEY KEY_STAT_LINK_SLOT (s.rd pgKEY KEY_STAT_NEXT_SLOT)
      let s := s.wr pgKEY KEY_STAT_LINK_VALID (b2n s.linkMaster.isSome)
      let s := { s with flash := { s.flash with pairs := [] } }
      let s := [0, 1].foldl (fun s p =>
        let x := s.protSt p
        let s := s.setProt p { x with pairs := [], txT := none, rxT := none, search := none,
                                      oldRx := x.rxT.map (fun t => (t, x.rxSak, s.now + 1000000, x.rxPn)) }
        if s.linkUp p && s.protected p && s.linkMaster.isSome then s.txSaStart p else s) s
      let s := (s.irq pgKEY 6).count pgKEY 11
      if s.linkMaster.isNone then s.dropSas 1
      else [0, 1].foldl (fun (s : State) p =>
        if s.rd (pgLINK + p) LINK_STAT_STATE = 7 ∧ s.noKeyReason p = 0 then
          (s.wr pgKEY KEY_PORTp_STAT_REASON 0 p).linkDown p else s) s

end Sys2Proof.Machine
end

