-- ==== Sys2Proof/Machine/Faults.lean ====
section
/-!
DEFINITION. Faults and data integrity (R540 to R560): fault messages with the containment of memory errors, the closing of
records, heartbeats, CLACK, and housekeeping restarts.
-/
namespace Sys2Proof.Machine

/-! ## Containment of an uncorrectable memory error -/

/-- Which cell of the cell buffer a failing word holds: a buffer entry, or a REPLAY copy by its epoch (R148, R542). -/
def State.loseCell (s : State) (replay : Bool) (id : Nat) : State :=
  if replay then
    State.replaySync { s with sw := { s.sw with
      replay := s.sw.replay.filter (fun e => e.epoch != id),
      replayBroken := if s.sw.replay.any (fun e => e.epoch == id) && !s.sw.replayBroken.contains id
        then s.sw.replayBroken ++ [id] else s.sw.replayBroken } }
  else
    let e := s.sw.buf.get (fun _ => {}) id
    let s := [0, 1].foldl (fun s p => (List.range 4).foldl (fun s c =>
      s.setTxq p c ((s.txq p c).filter (fun t => t.buf != id))) s) s
    let s := (List.range 5).foldl (fun s c =>
      s.setConsQ c ((s.consQ c).filter (fun r => r.buf != id))) s
    let s := { s with rsq := s.rsq.map (fun (x : Nat × DdtEnt) =>
      (x.1, { x.2 with held := x.2.held.filter (fun r => r.buf != id) })) }
    if e.refs = 0 then s else s.release id e.refs

/-- A shard is repaired with KIND SHARD (R230): its epoch is that of the next commit. -/
def State.repairShard (s : State) (o : Nat) : State :=
  if o = 0 ∨ o = s.shardId then s
  else
    let n := (s.commitEpoch + 1) % 2 ^ 64
    let sh := s.shard o
    let s := s.setShard o { sh with states := sh.states.filter (fun v => decide (v.epoch < n)) }
    if sh.pend && sh.states.isEmpty then s else s.askRepair o n 1 0 0 sh.src

/-- An uncorrectable error in word `w` of the Cistern, contained by the role of its bank (R546): in VISIBLE the word reads 0 and the bank
is no base for change sets; in SHADOW the shards of the word fail verification, and no epoch is committed until each is repaired (that
failure counts as a digest mismatch; DESIGN CHOICE, log entry 142). -/
def State.cisternBad (s : State) (w : Nat) : State :=
  let bank := w / 65536
  let p := 2 * (w % 65536)
  if bank = s.rd pgIMG IMG_BANK_VISIBLE then
    let x := s.bankAt bank
    s.setBank bank { vals := setVal (setVal x.vals p 0) (p + 1) 0, epoch := none }
  else if bank = s.rd pgIMG IMG_BANK_SHADOW then
    let l := [pointOwner s.img.cur p, pointOwner s.img.cur (p + 1)].dedup.filter (fun o =>
      o != 0 && !((s.shard o).pend && (s.shard o).states.isEmpty))
    let s := l.foldl (fun s o => ((s.count pgIMG 6).irq pgIMG 6).repairShard o) s
    { s with img := { s.img with upset := (s.img.upset ++ l).dedup } }
  else s

/-- Containment of an uncorrectable error of a memory: its kind, the failing 64-bit word, and for the cell buffer what that
word holds, for the endpoint buffers the endpoint (R425, R542, R546). -/
def State.contain (s : State) (page kind w : Nat) (replay : Bool) (victim : Nat) : State :=
  match kind with
  | 0x10 => s.loseCell replay victim
  | 0x13 => { s with mir := { s.mir with ring := s.mir.ring.set (fun _ => 0) (w / 4 % 4096) 0 } }
  | 0x14 =>
    let i := w / 2 % 16384
    let r := s.obs.trace.get (fun _ => 0) i
    { s with obs := { s.obs with trace := s.obs.trace.set (fun _ => 0) i (setBits r (64 * (w % 2)) 64 0) } }
  | 0x16 => s.cisternBad w
  | 0x17 => s.repairShard (w / 8 % 2048)
  | 0x1C =>
    let i := w / 4 % 1024
    let x := s.winAt i
    if x.state = wsIDLE ∨ x.state = wsDONE then s else s.winLost i x
  | 0x1D =>
    let i := w / 2 % 4096
    if opValid (s.launchAt i).opword then (s.dropLaunch i false).lnchDel i else s
  | 0x1E => if victim = 3 then { s with usb := { s.usb with halted := if s.usb.halted.contains 3 then s.usb.halted
      else s.usb.halted ++ [3] } } else s
  | 0x22 =>
    let n := page - pgCAN
    let x := s.canSt n
    let r := w % 2848
    if r < 2560 then
      s.setCan n { x with ring := x.ring.mapIdx (fun i e => if i = r / 10 then { e with ecc := true } else e) }
    else s.setCan n (x.setBuf ((r - 2560) / 9) { x.bufAt ((r - 2560) / 9) with bad := true })
  | _ => s

/-- The kinds whose class reads "CE / UC" or "CE / FATAL" (R542). -/
def eccKinds : List Nat := [0x01, 0x04, 0x10, 0x13, 0x14, 0x16, 0x17, 0x1C, 0x1D, 0x1E, 0x22]

/-- ADDR of a memory error: the global address in the memory's window, or the byte offset in the memory (R541). -/
def State.wordAddr (s : State) (kind w : Nat) : Nat :=
  match kind with
  | 0x13 => s.globalAddr (0x04040000 + 8 * (w % 16384))
  | 0x14 => s.globalAddr (0x04000000 + 8 * (w % 32768))
  | 0x16 => s.globalAddr (0x01000000 + 8 * (w % 65536))
  | 0x17 => s.globalAddr (0x02000000 + 8 * (w % 16384))
  | 0x1D => s.globalAddr (0x05000000 + 16 * (w / 2 % 4096))
  | _ => 8 * w % 2 ^ 29

/-- A memory error is found: reported with its class, and contained where it is uncorrectable. -/
def State.memError (s : State) (source kind w : Nat) (uc replay : Bool) (victim : Nat) : State :=
  let cls := if !uc then 0 else if kind = 0x01 then 2 else 1
  let s := if uc then s.contain (healthPage source) kind w replay victim else s
  s.fault source kind cls (s.wordAddr kind w)

/-! ## Messages and records -/

/-- The next access of the register word at local address `a` is the one whose parity fails (R542, R554). -/
def State.parityAt (s : State) (a : Nat) : State := { s with flt := { s.flt with parity := some a } }

/-- FAULT_MESSAGE: a block reports a fault it finds (R540 to R545).  Memory errors are contained; every other kind's
containment belongs to the command whose event it is.  With `uc`, kind LANE_FIFO_PARITY is the failure of a FIFO cell, which is reported
when its word is read; REG_PARITY makes the next access of its address the one that fails (log entry 138).  A message that R542 does not
have changes nothing. -/
def execFaultMessage (source kind : Nat) (uc : Bool) (addr word : Nat) (replay : Bool) (victim : Nat) (s : State) : Res :=
  s.awake <|
  match pageKind? (healthPage source) with
  | none => .next s
  | some k =>
    match (kindRows k).find? (fun r => r.kind == kind) with
    | none => .next s
    | some r =>
      if r.hk != (source == 0x3F0) then .next s
      else if eccKinds.contains kind then .next (s.memError source kind word uc replay victim)
      else if kind = 0x0F ∧ source ≠ pgLINK then .next s
      else if kind = 0x20 ∧ uc then .next (s.fifoUpset (source - pgLANE) word)
      else
        let s := if kind = 0x02 ∧ inPages (addr % 2 ^ 29) then s.parityAt (addr % 2 ^ 29) else s
        .next (s.fault source kind r.forcedCls (addr % 2 ^ 40))

/-- FAULT_RECORD_CLOSE: the source reports the containment complete, at least 100 µs after the record was made; at the
latest the record closes after 1 s (R547). -/
def execFaultRecordClose (seq : Nat) (s : State) : Res :=
  let s := s.fltExpire
  match (s.flt.log ++ s.flt.popped).find? (fun r => r.seq == seq && r.isOpen) with
  | none => .next s
  | some r =>
    let s := s.passTo (r.made + 100000)
    let s := { s with flt := { s.flt with
      log := s.flt.log.map (fun (x : FltRec) => if x.seq = seq then { x with isOpen := false } else x),
      popped := s.flt.popped.filter (fun (x : FltRec) => x.seq != seq) } }
    .next (s.fltSync.setHealth (healthPage r.source))

/-- HEALTH_CE_EXPIRY: 1 s after the last corrected error of a page (R50, R543). -/
def execHealthCeExpiry (page : Nat) (s : State) : Res :=
  let t := s.flt.ceUntil.get (fun _ => 0) page
  if t = 0 then .next s
  else
    let s := s.passTo t
    .next (State.setHealth { s with flt := { s.flt with ceUntil := s.flt.ceUntil.set (fun _ => 0) page 0 } } page)

/-- FLT_LASTFATAL_CLR (R559). -/
def execFltLastfatalClr (s : State) : Res :=
  if s.takes pgFLT then .next ((List.range 8).foldl (fun s i => s.wr pgFLT FLT_LASTFATALn_ENTRY 0 i) s) else .next s

/-! ## Heartbeats and CLACK -/

/-- HK_HEARTBEAT: the housekeeping core's heartbeat, 500 µs after the last one while it ran on; the first one after a restart ends a grace
period (R550, R552). -/
def execHkHeartbeat (s : State) : Res :=
  if !s.hkUp then .next s
  else
    let s := match s.flt.lastBeat with
      | some t => s.passTo (t + 500000)
      | none => s
    let stale := match s.flt.lastBeat with
      | some t => decide (t + 2000000 < s.now)
      | none => true
    let s := { s with flt := { s.flt with
      lastBeat := some s.now, beats := if stale then 1 else s.flt.beats + 1, graceEnd := none } }
    .next (s.wr pgFLT FLT_CLACK_GRACE 0)

/-- The next 1 ms boundary of the CLACK counter, counted from t_0, after the last toggle (R550). -/
def State.clackBoundary (s : State) : Nat :=
  let u := max (s.now - s.t0) (s.flt.lastToggle + 1 - s.t0)
  s.t0 + (u + 999999) / 1000000 * 1000000

/-- A heartbeat has arrived within the last 2 ms (R550). -/
def State.beating (s : State) : Bool := match s.flt.lastBeat with
  | some t => decide (s.now ≤ t + 2000000)
  | none => false

/-- CLACK may run (R550, R551). -/
def State.clackMay (s : State) : Bool :=
  decide (4 ≤ s.rd pgPWRST PWRST_STATE_STEP) && !s.flt.clackFatal && decide (s.node < nsHOLD)

/-- At a boundary: a running CLACK toggles, one whose heartbeat is lost stops, a stopped one resumes as R551 has it. -/
def State.clackTick (s : State) : State :=
  if s.on pgFLT FLT_CLACK_RUN then
    if !s.beating && s.flt.graceEnd.isNone then s.clackStop 4
    else { s with flt := { s.flt with clackHigh := !s.flt.clackHigh, lastToggle := s.now } }
  else if s.clackMay && s.beating
      && (s.rd pgFLT FLT_CLACK_STOP_CAUSE == 1 || s.rd pgFLT FLT_CLACK_STOP_CAUSE == 4 && decide (2 ≤ s.flt.beats)) then
    let s := (s.wr pgFLT FLT_CLACK_RUN 1).wr pgFLT FLT_CLACK_STOP_CAUSE 0
    { s with flt := { s.flt with clackHigh := true, lastToggle := s.now } }
  else { s with flt := { s.flt with lastToggle := s.now } }

/-- CLACK_TOGGLE: the next 1 ms boundary (R550, R551). -/
def execClackToggle (s : State) : Res := s.awake <| .next (s.passTo s.clackBoundary).clackTick

/-- HEARTBEAT_LOSS: no heartbeat for 2 ms and no grace: CLACK stops at the next boundary (R551). -/
def execHeartbeatLoss (s : State) : Res :=
  match s.flt.lastBeat with
  | none => .next s
  | some t =>
    if s.flt.graceEnd.isSome || !s.on pgFLT FLT_CLACK_RUN then .next s
    else
      let s := s.passTo (t + 2000004)
      .next (s.passTo s.clackBoundary).clackTick

/-- CLACK_GRACE_EXPIRY: 64 ms pass without a heartbeat: CLACK stops at the next boundary and HK_WATCHDOG is recorded
(R552). -/
def execClackGraceExpiry (s : State) : Res :=
  match s.flt.graceEnd with
  | none => .next s
  | some e =>
    let s := s.passTo e
    let s := State.wr { s with flt := { s.flt with graceEnd := none } } pgFLT FLT_CLACK_GRACE 0
    let s := s.passTo s.clackBoundary
    let s := if s.on pgFLT FLT_CLACK_RUN then s.clackStop 4 else s
    .next (s.fault 0x3F0 0x03 1 0)

/-- HK_RESTART: the housekeeping core restarts for the fault of kind 3 HK_WATCHDOG, 4 HK_RAM_ECC or 5 HK_EXCEPTION; the
data paths go on (R21, R542).  The failing word of its RAM is a free value (R541; log entry 3). -/
def execHkRestart (kind : Nat) (s : State) : Res :=
  s.awake <|
  if kind = 3 then .next (s.fault 0x3F0 kind 1 0)
  else if kind = 4 then .next (s.drawn.fault 0x3F0 kind 1 (8 * (s.freeVal % 2 ^ 26)))
  else if kind = 5 then .next (s.fault 0x3F0 5 2 0)
  else .next s

end Sys2Proof.Machine
end

