-- ==== Sys2Proof/Machine/Dress.lean ====
section
/-!
DEFINITION. Dressing (R585 to R605): scrubbing, calibration, flash wear, the event ledger and logic-die telemetry.
-/
namespace Sys2Proof.Machine

/-! ## Scrubbing -/

/-- Words of memory `m` (R586). -/
def scrubWords (m : Nat) : Nat :=
  [196608, 262144, 16384, 65536, 8192, 16384, 32768, 8192, 4096, 2048, 22784, 512].getD m 0

/-- The source page and the kind that memory `m` reports (R542, R586). -/
def scrubKind (m w : Nat) : Nat × Nat :=
  match m with
  | 0 => (pgIMG, 0x16)
  | 1 => (pgSWC, 0x10)
  | 2 => (pgIMG, 0x17)
  | 3 => (0x3F0, 0x04)
  | 4 => (pgSYS, 0x01)
  | 5 => (pgMIR, 0x13)
  | 6 => (pgOBS, 0x14)
  | 7 => (pgLNCH, 0x1D)
  | 8 => (pgTRK, 0x1C)
  | 9 => (pgUSB, 0x1E)
  | 10 => (pgCAN + w / 2848, 0x22)
  | _ => (pgCOG + w / 64, 0x21)

/-- The period of a pass in ns (R597). -/
def State.scrubPeriod (s : State) (m : Nat) : Nat := 10 ^ 7 * 10 ^ s.rd pgDRS DRS_SCRUBm_PERIOD m

/-- What the scrubber finds in a word: 0 it is good, 1 a corrected error, 2 an uncorrectable one or a parity failure, 3 a
corrected error whose write-back a foreground write cancels (R587, R588). -/
def State.scrubFound (s : State) (m w found : Nat) (replay : Bool) (victim : Nat) : State :=
  let (page, kind) := scrubKind m w
  match found with
  | 1 => if m = 11 then s else (s.count pgDRS m).memError page kind (w % 2 ^ 29) false replay victim
  | 2 =>
    let s := (s.count pgDRS 12).irq pgDRS 2
    if m = 11 then
      s.fault page kind 1 (s.globalAddr (page * 0x1000 + COG_STOREa_WORD.off (w % 64)))
    else s.memError page kind w true replay victim
  | 3 => s.count pgDRS 13
  | _ => s

/-- LATE where the pass of memory `m` overruns its period (R588). -/
def State.scrubLate (s : State) (m : Nat) : State :=
  if s.rst.passAt.get (fun _ => 0) m + s.scrubPeriod m < s.now ∧ !s.on pgDRS DRS_SCRUBm_LATE m then
    (s.wr pgDRS DRS_SCRUBm_LATE 1 m).irq pgDRS 3
  else s

/-- A pass of memory `m` has read its last word (R588, R597). -/
def State.scrubPass (s : State) (m : Nat) : State :=
  s.wr pgDRS DRS_SCRUBm_PASSES ((s.rd pgDRS DRS_SCRUBm_PASSES m + 1) % 2 ^ 16) m

/-- SCRUB_STEP: the scrubber of memory `m` reads a word.  It reads the words in address order: those between its last word and
this one were good, and a word that lies behind it belongs to the next pass, so the pass before it has ended.  A pass ends with
the last word, and one that overruns its period sets LATE (R586 to R588). -/
def execScrubStep (m word found : Nat) (replay : Bool) (victim : Nat) (s : State) : Res :=
  if !(s.enabled pgDRS && decide (m < 12 ∧ word < scrubWords m) && s.on pgDRS DRS_SCRUBm_EN m) then .next s
  else
    let nxt := s.rst.scrubNext.get (fun _ => 0) m
    let s := if word < nxt then (s.scrubLate m).scrubPass m else s
    let start := if nxt = 0 ∨ word < nxt then s.now else s.rst.passAt.get (fun _ => 0) m
    let s := { s with
      rst := { s.rst with passAt := s.rst.passAt.set (fun _ => 0) m start,
                          scrubNext := s.rst.scrubNext.set (fun _ => 0) m ((word + 1) % scrubWords m) } }
    let s := (s.scrubFound m word found replay victim).scrubLate m
    .next (if word + 1 = scrubWords m then s.scrubPass m else s)

/-! ## Calibration -/

/-- A value moved towards a target by at most `d`. -/
def towards (old target d : Int) : Int := max (old - d) (min (old + d) target)

/-- A measurement fails: its FAIL bit, CAL_FAIL, counter 15; the previous result stays (R590). -/
def State.calFail (s : State) (f : Field) : State := ((s.wr pgDRS f 1).irq pgDRS 5).count pgDRS 15

/-- The time between two periodic calibrations of a quantity in ns (R589). -/
def calPeriod (quantity : Nat) : Nat := if quantity = 0 then 10 ^ 9 else 10 ^ 10

/-- The calibration of a quantity and path runs now: a periodic one when its time since the last has passed, one that RUN_NOW,
a training, a power-on reset or step 3 starts at once; a sluice's takes the place of its next telemetry sample (R589, R590,
R598). -/
def State.calRuns (s : State) (quantity i : Nat) (training : Bool) : State :=
  let k := 8 * quantity + i
  let s := match s.rst.calAt.lookup k with
    | some t => if training ∨ s.on pgDRS DRS_CAL_STAT_BUSY then s else s.passTo (t + calPeriod quantity)
    | none => s
  let s := { s with rst := { s.rst with calAt := s.rst.calAt.set (fun _ => 0) k s.now } }
  if quantity = 2 then s.setSluSt i { s.sluSt i with zeroing := true } else s

/-- CALIBRATION of quantity 0 time-stamp delay of path `i`, 1 asymmetry of port `i`, 2 sense offset of sluice `i`, 3 the power
die's converters (`i` = 0) or the logic die's monitors (1).  `training` says that it is not the periodic one: it belongs to a link
training, a power-on reset or step 3, and runs also while the page is disabled; the logic die's monitors are calibrated by the
housekeeping core, which pauses for a restart (R585, R589, R590). -/
def execCalibration (quantity i : Nat) (training ok : Bool) (value : Int) (s : State) : Res :=
  let runs := (s.enabled pgDRS || training) && decide (quantity < 4 ∧ i < [4, 2, 8, 2].getD quantity 0)
    && (quantity != 1 || training) && !(decide (quantity = 3 ∧ i = 1) && s.hkPaused)
  if !runs then .next s
  else
    let s := s.calRuns quantity i training
    match quantity with
    | 0 =>
      if !ok then .next (s.calFail DRS_CAL_STAT_TS_FAIL)
      else .next ((s.wr pgDRS DRS_TSDLYp_DELAY (towards (s.rd pgDRS DRS_TSDLYp_DELAY i) value 62).toNat i).count pgDRS 14)
    | 1 =>
      if !ok then .next (s.calFail DRS_CAL_STAT_ASYM_FAIL)
      else
        let v := if s.rd (pgLINK + i) LINK_CFG_MEDIUM = 0 then value else 0
        .next ((s.wr pgDRS DRS_ASYM_ASYM (unsigned 32 v) i).count pgDRS 14)
    | 2 =>
      if !ok then .next (s.calFail DRS_CAL_STAT_SENSE_FAIL)
      else
        let old := signed 16 (s.rd (sluPg i) SLU_SENSE_TRIM)
        .next ((s.wr (sluPg i) SLU_SENSE_TRIM (unsigned 16 (towards old value 100))).count pgDRS 14)
    | 3 => if ok then .next (s.count pgDRS 14) else .next (s.calFail DRS_CAL_STAT_MON_FAIL)
    | _ => .next s

/-- CAL_RUN_NOW: every periodic calibration starts at once (R598); none while the page is disabled (R585). -/
def execCalRunNow (s : State) : Res :=
  if s.takes pgDRS && s.enabled pgDRS then .next (s.wr pgDRS DRS_CAL_STAT_BUSY 1) else .next s

/-- CAL_DONE: a RUN_NOW calibration finishes (R598, R600). -/
def execCalDone (s : State) : Res :=
  if s.on pgDRS DRS_CAL_STAT_BUSY then .next ((s.wr pgDRS DRS_CAL_STAT_BUSY 0).irq pgDRS 4) else .next s

/-! ## Flash wear and the ledger -/

/-- The wear-managed region of a flash region (R591, R602). -/
def wearOf (region : Nat) : Option Nat := [none, none, some 1, some 2, some 0].getD region none

/-- The ledger's capacity in records (R595). -/
def State.ledgerCap (s : State) : Nat := 63 * s.rd pgDRS DRS_WEARr_A_IN_SERVICE 0

/-- A sector is retired: from the reserve, or the ledger shrinks, or writes to the region are refused from now on
(R592 to R594). -/
def State.retire (s : State) (r : Nat) : State :=
  let s := (s.irq pgDRS 6).count pgDRS 16
  let left := s.rd pgDRS DRS_WEARr_A_RESERVE r
  if 0 < left then s.wr pgDRS DRS_WEARr_A_RESERVE (left - 1) r
  else if r = 0 then
    let old := s.flash.ledger.length
    let s := (s.wr pgDRS DRS_WEARr_A_IN_SERVICE (s.rd pgDRS DRS_WEARr_A_IN_SERVICE 0 - 1) 0).irq pgDRS 7
    let gone := min old 63
    let s := State.count { s with flash := { s.flash with ledger := s.flash.ledger.drop gone } } pgDRS 18 gone
    if s.rd pgDRS DRS_WEARr_A_IN_SERVICE 0 < 64 ∧ !s.on pgDRS DRS_WEARr_A_EXHAUSTED 0 then
      (((s.wr pgDRS DRS_WEARr_A_EXHAUSTED 1 0).irq pgDRS 8).irq pgFLASH 4).fault pgFLASH 0x08 1 0
    else s
  else if s.on pgDRS DRS_WEARr_A_EXHAUSTED r then s
  else (s.wr pgDRS DRS_WEARr_A_EXHAUSTED 1 r).flashWorn

/-- The wear registers as the flash has them: MAX_ERASE over the sectors in service (R599). -/
def State.wearSync (s : State) (region r : Nat) : State :=
  let live := s.flash.erase.filter (fun e => e.1 / 4096 == region && !s.flash.retired.contains e.1)
  s.wr pgDRS DRS_WEARr_B_MAX_ERASE (live.foldl (fun a e => max a e.2) 0) r

/-- An erase (2) or a program (1) of a sector completes and is verified, or 4 KiB were read (0); a failed or worn sector of a
wear-managed region is retired (R592, R605). -/
def State.flashOp (s : State) (region sector op : Nat) (ok : Bool) : State :=
  if 5 ≤ region ∨ s.rd pgFLASH FLASH_REGIONr_SECTORS region ≤ sector ∨ 3 ≤ op then s
  else if op = 0 then s.count pgFLASH 4
  else
    let s := s.count pgFLASH (if op = 2 then 0 else 1)
    let s := if ok then s else (s.count pgFLASH (if op = 2 then 2 else 3)).irq pgFLASH 2
    match wearOf region with
    | none => s
    | some r =>
      let k := 4096 * region + sector
      if s.flash.retired.contains k then s
      else
        let n := SMap.get (fun _ => 0) s.flash.erase k + (if op = 2 then 1 else 0)
        let s := { s with flash := { s.flash with erase := SMap.set (fun _ => 0) s.flash.erase k n } }
        let worn := decide (1000 * max 1 (s.rd pgDRS DRS_WEAR_CFG_LIMIT) ≤ n)
        let s := if !ok || worn then
            State.retire { s with flash := { s.flash with retired := s.flash.retired ++ [k] } } r else s
        s.wearSync region r

/-- The wear registers at step 2: every retirement that the flash holds has taken a reserve sector or shrunk the ledger
(R591 to R594). -/
def State.wearLoad (s : State) : State :=
  [(2, 1), (3, 2), (4, 0)].foldl (fun s (region, r) =>
    let gone := (s.flash.retired.filter (fun k => k / 4096 == region)).length
    let res := s.rd pgDRS DRS_WEARr_A_RESERVE r
    let s := s.wr pgDRS DRS_WEARr_A_RESERVE (res - gone) r
    let s := if r = 0 then s.wr pgDRS DRS_WEARr_A_IN_SERVICE (s.rd pgDRS DRS_WEARr_A_IN_SERVICE 0 - (gone - res)) 0 else s
    let out := if r = 0 then decide (s.rd pgDRS DRS_WEARr_A_IN_SERVICE 0 < 64) else decide (res < gone)
    (s.wr pgDRS DRS_WEARr_A_EXHAUSTED (b2n out) r).wearSync region r) s

/-- LEDGER_WRITE: the oldest waiting record is written to flash; the ledger is circular (R591, R595). -/
def execLedgerWrite (s : State) : Res :=
  match s.hk.ledger with
  | [] => .next s
  | r :: l =>
    if !s.hkUp || s.on pgDRS DRS_WEARr_A_EXHAUSTED 0 then .next s
    else
      let old := s.flash.ledger
      let keep := if s.ledgerCap ≤ old.length then old.drop 63 else old
      let s := { s with hk := { s.hk with ledger := l }, flash := { s.flash with ledger := keep ++ [r] } }
      .next ((s.wr pgDRS DRS_LEDGER_RAM_HELD l.length).count pgDRS 17)

/-! ## Telemetry -/

/-- LOGIC_TELEMETRY_SAMPLE: every 1 ms: temperature in 0.1 °C, VDD_CORE, the 0.80 V and 1.8 V rails of VDD_PHY and the 32
VDDIO items, all in mV (R596). -/
def execLogicTelemetrySample (temp : Int) (core phy08 phy18 : Nat) (vddio : List Nat) (s : State) : Res :=
  s.awake <|
  let s := match s.rst.telemAt with
    | some t => s.passTo (t + 1000000)
    | none => s
  let put (m : SMap Nat) (e : Nat × Nat) : SMap Nat := m.set (fun _ => 0) e.1 (e.2 % 2 ^ 31)
  let items := [(0, unsigned 16 temp), (1, core), (2, phy08), (3, phy18)]
    ++ ((vddio.take 32).mapIdx (fun i v => (64 + i, v)))
  .next { s with rst := { s.rst with telem := items.foldl put s.rst.telem, telemAt := some s.now } }

/-- The item of a TELEM binding of INST 0x00 or 0x01 (R596). -/
def State.logicItem (s : State) (inst sub : Nat) : Nat :=
  let stale := match s.rst.telemAt with
    | some t => b2n (decide (t + 10000000 < s.now))
    | none => 1
  let sampled (k : Nat) : Nat := s.rst.telem.get (fun _ => 0) k + stale * 2 ^ 31
  if inst = 1 then (if sub < 32 then sampled (64 + sub) else 0)
  else
    match sub with
    | 0 | 1 | 2 | 3 => sampled sub
    | 4 => s.rd pgIMG IMG_SETTLE_MARGIN_MIN2
    | 5 => s.rd pgIMG IMG_STAT_LAG_DEPTH
    | 6 => s.rd pgLINK LINK_STAT_SQI + 2 ^ 8 * s.rd (pgLINK + 1) LINK_STAT_SQI
    | 7 => unsigned 16 (satSigned 16 (signed 32 (s.rd pgTIME TIME_OFFSET_THETA)))
    | 8 => s.rd pgDRS DRS_WEARr_A_IN_SERVICE 0 + 2 ^ 16 * s.rd pgDRS DRS_WEARr_A_RESERVE 1
        + 2 ^ 24 * s.rd pgDRS DRS_WEARr_A_RESERVE 2
    | 9 => (List.range 12).foldl (fun a k => a + s.counter pgDRS k) 0 % 2 ^ 31
    | _ => 0

end Sys2Proof.Machine
end

