-- ==== Sys2Proof/Machine/Update.lean ====
section
/-!
DEFINITION. Firmware update (R628 to R646): images and their checks, sessions, distribution, activation, trial.  Step 2 and
the running firmware are in Reset.lean.
-/
namespace Sys2Proof.Machine

/-! ## Images -/

/-- BODY_LEN of a header. -/
def hdrBodyLen (h : List Byte) : Nat := leAt h 16 4

/-- VERSION of a header. -/
def hdrVersion (h : List Byte) : Nat := leAt h 8 4

/-- The image digest (R629). -/
def imageDigest (h : List Byte) : BitVec 256 := Config.sha256 (h.take 448)

/-- The keys under which an update signature may verify: every valid UPD_VERIFY slot, as loaded, or before key load as the
records give them (R629, R650). -/
def State.verifyKeys (s : State) : List (List Byte) :=
  let t := if s.on pgKEY KEY_STAT_LOADED then s else s.loadSlots
  if s.on pgKEY KEY_STAT_ZEROISED then []
  else ((List.range 32).filter (fun i => t.slotIs i usUPD_VERIFY)).map (fun i => (t.slotKey i).key)

/-- Checks 1 to 5 of R634 on a header, in order; 0 where all pass.  `keys` is false for the ROM's checks 1 to 4 (R641). -/
def State.hdrBad (s : State) (h : List Byte) (keys : Bool) : Nat :=
  let n := hdrBodyLen h
  if leAt h 0 4 ≠ 0x4B555044 ∨ leAt h 4 1 / 16 ≠ 1 ∨ leAt h 12 1 / 64 ≠ 0 ∨ leAt h 13 3 ≠ 0
      ∨ (slice h 68 380).any (· != 0) ∨ n < 16 ∨ 458752 < n ∨ n % 16 ≠ 0 then 4
  else if leAt h 5 1 ≠ s.rd pgSYS SYS_FAMILY_FAMILY ∨ leAt h 6 1 % 16 ≠ s.rd pgSYS SYS_FAMILY_MEMBER
      ∨ s.rd pgSYS SYS_FAMILY_STEPPING < leAt h 6 1 / 16 then 5
  else if !s.verifyKeys.any (fun k => Config.ecdsaVerify k (h.take 448) (slice h 448 64)) then 7
  else if leAt h 12 1 % 64 < s.rd pgUPD UPD_ROLLBACK_COUNTER then 6
  else if keys && !(!s.on pgKEY KEY_STAT_ZEROISED && s.slotIs (leAt h 7 1) usUPD_DECRYPT) then 8
  else 0

/-- The body of a slot has the digest its header gives (R628). -/
def FwSlot.bodyOk (x : FwSlot) : Bool :=
  x.body.length == hdrBodyLen x.header && (Config.sha256 x.body).toNat == beNat (slice x.header 36 32)

/-- A slot that the ROM may start: not BLANK, ERASING, WRITING or BAD, and its header passes checks 1 to 4 (R641). -/
def State.startable (s : State) (n : Nat) : Bool :=
  decide (3 ≤ (s.fwSlot n).st ∧ (s.fwSlot n).st ≤ 5) && s.hdrBad (s.fwSlot n).header false == 0

/-- The hub is in RECOVERY. -/
def State.inRecovery (s : State) : Bool := s.node == nsRECOVERY

/-- The slot that an update writes: the one that does not run; in RECOVERY the one not startable first, or that of the lower
sequence (R632, R642). -/
def State.updSlot (s : State) : Nat :=
  match s.upd.run with
  | some r => 1 - r
  | none =>
    match s.upd.erasing with
    | some n => n
    | none =>
      if (s.fwSlot 0).st = 0 ∧ (s.fwSlot 1).st ≠ 0 then 0
      else if (s.fwSlot 1).st = 0 ∧ (s.fwSlot 0).st ≠ 0 then 1
      else if !s.startable 0 then 0 else if !s.startable 1 then 1
      else if (s.fwSlot 0).seq ≤ (s.fwSlot 1).seq then 0 else 1

/-! ## Sessions -/

/-- The source of a port's session (R633); none for the housekeeping core and the bridge. -/
def updSource (ini : Initiator) : Option Nat :=
  match ini with
  | .pcie => some 1
  | .qsh => some 2
  | .usb => some 3
  | _ => none

/-- The initiator of a session source, whose UPD_RES has its result; none for the ring. -/
def sourceIni (src : Nat) : Option Initiator :=
  match src with
  | 1 => some .pcie
  | 2 => some .qsh
  | 3 => some .usb
  | _ => none

/-- A source's header buffer. -/
def State.updHdr (s : State) (src : Nat) : UpdHdr := s.upd.hdr.get (fun _ => {}) src

/-- UPD_SESS and UPD_SESS_BYTES follow the sessions (R644). -/
def State.updSync (s : State) : State :=
  let hdrs := s.upd.hdr.filter (fun e => e.2.open_)
  match s.upd.sess with
  | some x =>
    let n := if x.source = 8 then x.held.foldl (fun a e => a + e.2.length) 0 else x.header.length + x.body.length
    let s := ((s.wr pgUPD UPD_SESS_STATE 2).wr pgUPD UPD_SESS_SOURCE x.source).wr pgUPD UPD_SESS_SRC_NODE x.node
    (s.wr pgUPD UPD_SESS_BYTES_BYTES n).wr pgUPD UPD_SESS_FREE (if s.upd.erasing.isSome then 0 else 1024 - x.buf)
  | none =>
    let s := (s.wr pgUPD UPD_SESS_STATE (b2n (!hdrs.isEmpty))).wr pgUPD UPD_SESS_SOURCE 0
    let s := (s.wr pgUPD UPD_SESS_SRC_NODE 0).wr pgUPD UPD_SESS_BYTES_BYTES
      (hdrs.foldl (fun a e => max a e.2.bytes.length) 0)
    s.wr pgUPD UPD_SESS_FREE (if s.upd.erasing.isSome && s.inRecovery then 0 else 1024)

/-- Writes a source's header buffer. -/
def State.setUpdHdr (s : State) (src : Nat) (x : UpdHdr) : State :=
  State.updSync { s with upd := { s.upd with hdr := s.upd.hdr.set (fun _ => {}) src x } }

/-- UPD_RES of a source's initiator, naming the owner where a session owns the slot and the result is BUSY or MATCH
(R634, R643). -/
def State.updRes (s : State) (ini : Initiator) (r : Nat) : State :=
  let own := if r = 1 ∨ r = 2 then s.upd.sess else none
  let s := (s.wr pgUPD UPD_RES_RESULT r 0 ini.num).wr pgUPD UPD_RES_OWNER ((own.map (·.source)).getD 0) 0 ini.num
  let s := s.wr pgUPD UPD_RES_OWNER_NODE ((own.map (·.node)).getD 0) 0 ini.num
  s.wr pgUPD UPD_RES_VER_VERSION ((own.map (fun x => hdrVersion x.header)).getD 0) 0 ini.num

/-- A refusal of a source, a ring source's distributor with it (R634, R644, R646). -/
def State.updRefused (s : State) (src node r : Nat) : State :=
  let s := ((s.wr pgUPD UPD_LAST_REFUSED_RESULT r).wr pgUPD UPD_LAST_REFUSED_SOURCE src).wr pgUPD UPD_LAST_REFUSED_NODE node
  (s.irq pgUPD 4).count pgUPD 3

/-- A command is refused. -/
def State.updRefuse (s : State) (ini : Initiator) (r : Nat) : State :=
  (s.updRes ini r).updRefused ((updSource ini).getD 0) 0 r

/-- Endpoint `ep` halts. -/
def State.epHalt (s : State) (ep : Nat) : State :=
  if s.usb.halted.contains ep then s else { s with usb := { s.usb with halted := s.usb.halted ++ [ep] } }

/-- A slot's erase begins (R632). -/
def State.eraseStart (s : State) (n : Nat) : State :=
  State.updSync (State.setFw { s with upd := { s.upd with erasing := some n } } n { st := 1 })

/-- Writes to UPD_DATA that wait for the source of a session that has ended: later data has no effect, and the writes complete
(R508, R634). -/
def State.updLater (s : State) (src : Nat) : State :=
  let (mine, rest) := s.upd.waits.partition (fun w => updSource w.ini == some src)
  mine.foldl (fun (s : State) w => s.waitDone w stOK) { s with upd := { s.upd with waits := rest } }

/-- A source's session ends in failure; where it owned the slot, the slot is erased (R632, R635). -/
def State.sessFail (s : State) (src r : Nat) : State :=
  let s := match sourceIni src with
    | some i => s.updRes i r
    | none => s
  let s := (s.irq pgUPD 3).count pgUPD 2
  let s := s.setUpdHdr src { s.updHdr src with open_ := false }
  match s.upd.sess with
  | some x =>
    if x.source = src then (State.eraseStart { s with upd := { s.upd with sess := none } } x.slot).updLater src else s
  | none => s

/-- Checks 6 to 8 of R634; 0 where all pass. -/
def State.ownBad (s : State) (h : List Byte) : Nat :=
  let running := match s.upd.run with
    | some r => decide (imageDigest h = imageDigest (s.fwSlot r).header)
    | none => false
  if running && !s.inRecovery then 0xF
  else match s.upd.sess with
    | some x => if imageDigest h = imageDigest x.header then 2 else 1
    | none => if (s.fwSlot s.updSlot).st = 0 then 0 else 3

/-- A header is complete: the session owns the slot, or ends with the result of the check that fails (R634). -/
def State.hdrDone (s : State) (src : Nat) (h : List Byte) (node session chunks : Nat) (held : SMap (List Byte)) : State :=
  let b := s.hdrBad h true
  let r := if b ≠ 0 then b else s.ownBad h
  let s := s.setUpdHdr src { s.updHdr src with open_ := false }
  if r ≠ 0 then
    let s := match sourceIni src with
      | some i => s.updRes i r
      | none => s
    let s := s.updRefused src node r
    if src = 3 then s.epHalt 3 else s
  else
    let n := s.updSlot
    let x : UpdSess := { source := src, node := node, session := session, chunks := chunks, slot := n, header := h,
                         held := held, at_ := s.now }
    let s := s.setFw n { s.fwSlot n with st := 2, header := h }
    State.updSync (State.count { s with upd := { s.upd with sess := some x } } pgUPD 0)

/-- All of the body is held: STAGED where its digest matches, else the session fails (R635). -/
def State.bodyDone (s : State) (x : UpdSess) (body : List Byte) : State :=
  if (Config.sha256 body).toNat = beNat (slice x.header 36 32) then
    let s := match sourceIni x.source with
      | some i => s.updRes i 0
      | none => s
    let s := s.setFw x.slot { st := 3, header := x.header, body := body }
    let s := (State.updSync { s with upd := { s.upd with sess := none } }).updLater x.source
    (s.irq pgUPD 2).count pgUPD 1
  else s.sessFail x.source 0xA

/-- Bytes of a port source: the header buffer first, then the body; the digest is compared once all of it is held (R633, R635). -/
def State.updFeed (s : State) (src : Nat) (l : List Byte) : State :=
  let h := s.updHdr src
  let (s, l) := if h.open_ then
      let all := h.bytes ++ l
      let s := s.setUpdHdr src { h with bytes := all.take 512, at_ := s.now }
      (if all.length < 512 then s else s.hdrDone src (all.take 512) 0 0 0 [], all.drop 512)
    else (s, l)
  match s.upd.sess with
  | some x =>
    if x.source ≠ src ∨ l.isEmpty then s
    else
      let body := (x.body ++ l).take (hdrBodyLen x.header)
      let x := { x with body := body, at_ := s.now, buf := min 1024 (x.buf + (l.length + 3) / 4) }
      let s := State.updSync { s with upd := { s.upd with sess := some x } }
      if body.length = hdrBodyLen x.header then s.bodyDone x body else s
  | none => s

/-- The page's commands run while it is enabled; in RECOVERY no Foundation has enabled it (R642). -/
def State.updOn (s : State) : Bool := s.enabled pgUPD || s.inRecovery

/-- The UPD page takes a write. -/
def State.updTakes (s : State) : Bool := s.takes pgUPD

/-- UPD_OPEN (R633); in RECOVERY it erases the slot that will be written (R642). -/
def execUpdOpen (ini : Initiator) (s : State) : Res :=
  if !s.updTakes then .next s
  else if s.hkPaused then .next (s.hkDefer ini pgUPD 0x104 1)
  else match updSource ini with
    | none => .next s
    | some src =>
      if !s.updOn then .next (s.updRefuse ini 0xE)
      else if s.upd.sess.any (fun x => x.source == src) then .next s
      else
        let s := (s.updRes ini 0).setUpdHdr src { open_ := true, at_ := s.now }
        .next (if s.inRecovery && s.upd.sess.isNone && s.upd.erasing.isNone then s.eraseStart s.updSlot else s)

/-- UPD_ABORT: ends the session of the command's source with ABORTED (R635). -/
def execUpdAbort (ini : Initiator) (s : State) : Res :=
  if !s.updTakes then .next s
  else if s.hkPaused then .next (s.hkDefer ini pgUPD 0x104 2)
  else match updSource ini with
    | none => .next s
    | some src =>
      if (s.updHdr src).open_ || s.upd.sess.any (fun x => x.source == src) then .next (s.sessFail src 0xD) else .next s

/-- UPD_PREPARE: erases the non-running slot unless it is TRIAL (R632); none while a session owns it. -/
def execUpdPrepare (ini : Initiator) (s : State) : Res :=
  if !s.updTakes then .next s
  else if s.hkPaused then .next (s.hkDefer ini pgUPD 0x104 3)
  else if s.upd.sess.isSome || s.upd.erasing.isSome || (s.fwSlot s.updSlot).st == 4 then .next s
  else .next ((s.updRes ini 0).eraseStart s.updSlot)

/-- The buffer has no room for `n` bytes of a source: it is full, or in RECOVERY the erase has not ended (R635, R642). -/
def State.updFull (s : State) (src n : Nat) : Bool :=
  s.upd.sess.any (fun x => x.source == src && decide (1024 < x.buf + (n + 3) / 4)) || s.inRecovery && s.upd.erasing.isSome

/-- A word at UPD_DATA must wait: its buffer has no room, or an earlier word of the same port waits (R508, R635). -/
def State.updBusy (s : State) (ini : Initiator) (src : Nat) : Bool := s.updFull src 4 || s.upd.waits.any (fun w => w.ini == ini)

/-- A write waits at UPD_DATA (R508, R635). -/
def State.updWait (s : State) (w : LaneWait) : State := { s with upd := { s.upd with waits := s.upd.waits ++ [w] } }

/-- A word of UPD_DATA, or while the buffer is full a wait for room (R508, R635). -/
def State.updWord (s : State) (ini : Initiator) (src data : Nat) : State :=
  if s.updBusy ini src then s.updWait { ini := ini, data := data, fin := false, at_ := s.now, addr := pgUPD * 0x1000 + 0x110 }
  else (s.updFeed src (leBytes 4 data)).rsp ini stOK []

/-- The writes that wait at UPD_DATA are tried again, in order (R508, R635). -/
def State.updServe (s : State) : State :=
  s.upd.waits.foldl (fun (t : State) w =>
    match updSource w.ini with
    | some src => if t.updBusy w.ini src then t.updWait w else (t.updFeed src (leBytes 4 w.data)).waitDone w stOK
    | none => t.waitDone w stOK) { s with upd := { s.upd with waits := [] } }

/-- UPD_ERASE_DONE: within 10 s (R632); a session that waited for room goes on (R642). -/
def execUpdEraseDone (s : State) : Res :=
  match s.upd.erasing with
  | none => .next s
  | some n =>
    let s := State.setFw { s with upd := { s.upd with erasing := none } } n {}
    .next ((s.updSync.irq pgUPD 8).count pgUPD 8).updServe

/-- UPD_DATA_WRITE: appends 4 bytes, least significant first (R635, R643). -/
def execUpdDataWrite (ini : Initiator) (data : Nat) (s : State) : Res :=
  if !s.updTakes then .next s
  else if s.hkPaused then
    .next (let t := s.hkDefer ini pgUPD 0x110 data; if s.hk.queue.length < 16 then t.rsp ini stOK [] else t)
  else match updSource ini with
    | none => .next (s.rsp ini stOK [])
    | some 3 => .next (s.rsp ini stOK [])
    | some src => .next (s.updWord ini src data)

/-- UPD_USB_DATA: data on endpoint 0x03; without authentication it is discarded and the endpoint halts; `bad` where the
endpoint buffer has an uncorrectable error (R534, R542, R633, R635). -/
def execUpdUsbData (data : List Byte) (bad : Bool) (s : State) : Res :=
  if s.rd pgUSB USB_STAT_STATE ≠ 3 ∨ s.usb.halted.contains 3 then .next s
  else if bad then .next ((s.drawn.epHalt 3).fault pgUSB 0x1E 1 (8 * (s.freeVal % 2 ^ 26)))
  else if !s.on pgUSB USB_STAT_AUTH then .next (s.epHalt 3)
  else if s.hkPaused || s.updFull 3 data.length then .next s
  else .next ((s.usbMoved 3 data.length).updFeed 3 data)

/-- FLASH_OP_DONE: an erase or program completes; a page of 256 bytes programmed into the slot frees room in the session's
buffer, and a program that does not verify ends the session with FLASH_ERR (R592, R635). -/
def execFlashOpDone (region sector op : Nat) (ok : Bool) (s : State) : Res :=
  s.awake <|
  let t := s.flashOp region sector op ok
  if 2 ≤ region ∨ 128 ≤ sector ∨ op ≠ 1 then .next t
  else match t.upd.sess with
    | none => .next t
    | some x =>
      if x.slot ≠ region then .next t
      else if !ok then .next (t.sessFail x.source 0xB)
      else
        .next (State.updSync { t with upd := { t.upd with sess := some { x with buf := x.buf - 64 } } }).updServe

/-- LOCAL_WRITE_EXPIRED: a local write has waited 100 µs, at a lane, or at UPD_DATA for `lane` 64 (R508). -/
def execLocalWriteExpired (lane : Nat) (s : State) : Res :=
  if lane ≠ 64 then laneExpired lane s
  else match s.upd.waits with
    | [] => .next s
    | w :: l =>
      let s := s.passTo (w.at_ + 100000)
      .next (State.waitDone { s with upd := { s.upd with waits := l } } w stWAIT_EXPIRED)

/-- UPD_SESSION_TIMEOUT: 10 s without data end a source's session (R635, R636). -/
def execUpdSessionTimeout (src : Nat) (s : State) : Res :=
  let h := s.updHdr src
  if h.open_ then .next ((s.passTo (h.at_ + 10 ^ 10)).sessFail src 0xC)
  else match s.upd.sess with
    | some x => if x.source = src then .next ((s.passTo (x.at_ + 10 ^ 10)).sessFail src 0xC) else .next s
    | none => .next s

/-! ## Distribution -/

/-- The chunks of an image (R636). -/
def imageChunks (len : Nat) : Nat := (len + 223) / 224

/-- The bytes of a slot's image. -/
def FwSlot.image (x : FwSlot) : List Byte := x.header ++ x.body

/-- UPD_DISTRIBUTE: the slot must be STAGED, TRIAL or GOOD (R636). -/
def execUpdDistribute (ini : Initiator) (s : State) : Res :=
  if !s.updTakes then .next s
  else if s.hkPaused then .next (s.hkDefer ini pgUPD 0x104 6)
  else
    let n := s.rd pgUPD UPD_DIST_SLOT
    let st := (s.fwSlot n).st
    if !s.enabled pgUPD || decide (st < 3 ∨ 5 < st) || s.upd.dist.isSome then .next (s.updRefuse ini 0xE)
    else
      let d : UpdDist := { slot := n, session := s.upd.nextSession, due := s.now }
      let s := { s with upd := { s.upd with dist := some d, nextSession := (s.upd.nextSession + 1) % 2 ^ 16 } }
      .next (((s.updRes ini 0).wr pgUPD UPD_DIST_BUSY 1).wr pgUPD UPD_DIST_ROUND 1)

/-- UPD_DIST_CELL_TX: every DIST_GAP the next chunk is sent, to the group or to every hub (R636). -/
def execUpdDistCellTx (s : State) : Res :=
  match s.upd.dist with
  | none => .next s
  | some d =>
    if !s.hkUp then .next s
    else
      let s := s.passTo d.due
      let img := (s.fwSlot d.slot).image
      let n := imageChunks img.length
      let data := slice img (224 * d.chunk) 224
      let p := beBytes 2 d.session ++ beBytes 2 n ++ beBytes 4 d.chunk ++ beBytes 2 data.length ++ beBytes 1 d.round
        ++ beBytes 5 0 ++ data
      let bc := s.on pgUPD UPD_DIST_BCAST
      let s := (s.originate (if bc then 2 else 1) (if bc then 0 else s.rd pgUPD UPD_DIST_GROUP) tUPD_DATA p).count pgUPD 7
      let due := d.due + 1000 * max 100 (s.rd pgUPD UPD_CFG_DIST_GAP)
      if d.chunk + 1 < n then .next { s with upd := { s.upd with dist := some { d with chunk := d.chunk + 1, due := due } } }
      else if d.round < max 1 (s.rd pgUPD UPD_DIST_ROUNDS) then
        let s := { s with upd := { s.upd with dist := some { d with chunk := 0, round := d.round + 1, due := due } } }
        .next (s.wr pgUPD UPD_DIST_ROUND (d.round + 1))
      else
        let s := { s with upd := { s.upd with dist := none } }
        .next (((s.wr pgUPD UPD_DIST_BUSY 0).wr pgUPD UPD_DIST_ROUND 0).irq pgUPD 9)

/-- A chunk for the ring session in its header phase: chunks 0 to 2 hold the header (R633, R636). -/
def State.ringHdr (s : State) (h : UpdHdr) (k : Nat) (data : List Byte) : State :=
  if 3 ≤ k then s.setUpdHdr 8 { h with at_ := s.now }
  else
    let held := if (h.held.any (fun e => e.1 == k)) then h.held else h.held.ins k data
    let s := s.setUpdHdr 8 { h with held := held, at_ := s.now }
    if held.length < 3 then s
    else s.hdrDone 8 ((held.flatMap (·.2)).take 512) h.node h.session h.chunks held

/-- UPD_DATA_RX: a chunk of a distribution (R633, R636). -/
def execUpdDataRx (s : State) : Res :=
  if !s.hkUp then .next s
  else match s.takeCell 4 tUPD_DATA with
    | none => .next s
    | some (r, s) =>
      let s := s.count pgUPD 6
      let p := r.cell.payload
      let len := beAt p 8 2
      let (session, chunks, k) := (beAt p 0 2, beAt p 2 2, beAt p 4 4)
      let data := p.drop 16
      if len = 0 ∨ 224 < len ∨ p.length ≠ 16 + len ∨ chunks ≤ k ∨ !s.updOn then .next s
      else
        let h := s.updHdr 8
        match s.upd.sess with
        | some x =>
          if x.source = 8 then
            if x.session ≠ session ∨ x.node ≠ r.cell.src then .next s
            else
              let more := !x.held.any (fun e => e.1 == k) && decide (k < imageChunks (512 + hdrBodyLen x.header))
              let x := { x with held := if more then x.held.ins k data else x.held, at_ := s.now }
              let s := State.updSync { s with upd := { s.upd with sess := some x } }
              if x.held.length < imageChunks (512 + hdrBodyLen x.header) then .next s
              else .next (s.bodyDone x (slice (x.held.flatMap (·.2)) 512 (hdrBodyLen x.header)))
          else if h.open_ ∧ h.session = session ∧ h.node = r.cell.src then .next (s.ringHdr h k data)
          else if h.open_ ∨ (h.session = session ∧ h.node = r.cell.src ∧ h.chunks ≠ 0) then .next s
          else .next (s.ringHdr { open_ := true, node := r.cell.src, session := session, chunks := chunks } k data)
        | none =>
          if h.open_ ∧ h.session = session ∧ h.node = r.cell.src then .next (s.ringHdr h k data)
          else if h.open_ ∨ (h.session = session ∧ h.node = r.cell.src ∧ h.chunks ≠ 0) then .next s
          else .next (s.ringHdr { open_ := true, node := r.cell.src, session := session, chunks := chunks } k data)

/-! ## Activation and trial -/

/-- The next sequence number of a TRIAL mark. -/
def State.nextSeqMark (s : State) : Nat := max (s.fwSlot 0).seq (s.fwSlot 1).seq + 1

/-- UPD_ACTIVATE (R637, R638); in RECOVERY it marks the STAGED slot and resets the hub (R642). -/
def execUpdActivate (ini : Initiator) (slot key : Nat) (s : State) : Res :=
  if !s.updTakes ∨ key ≠ 0x69 ∨ 2 ≤ slot then .next s
  else if s.hkPaused then .next (s.hkDefer ini pgUPD 0x104 (4 + 16 * slot + 0x69 * 2 ^ 24))
  else
    let x := s.fwSlot slot
    if s.inRecovery then
      if x.st ≠ 3 then .next (s.updRefuse ini 0xE)
      else
        let s := (s.updRes ini 0).setFw slot { x with st := 4, tried := false, seq := s.nextSeqMark }
        .next { s with rst := { s.rst with due := (s.now, false) :: s.rst.due } }
    else
      let may := x.st == 3 || x.st == 5 && s.upd.run != some slot
      let bad := !s.enabled pgUPD || !may || s.hdrBad x.header true != 0
        || s.upd.run.any (fun r => (s.fwSlot r).st == 4)
        || s.flt.restarts.any (fun t => decide (s.now < t + 10 ^ 9))
        || s.node == nsBOOT || s.node == nsHOLD
      if bad then .next (s.updRefuse ini 0xE)
      else
        let s := ((s.updRes ini 0).count pgUPD 4).hkRestart 2
        let s := s.setFw slot { x with st := 4, tried := true, seq := s.nextSeqMark }
        let s := { s with hk := { s.hk with starting := some (slot, false) },
                          flt := { s.flt with graceEnd := some (s.now + 64000000) } }
        .next (s.wr pgFLT FLT_CLACK_GRACE 1)

/-- The trial slot is confirmed GOOD; the rollback counter advances (R630, R639). -/
def State.updConfirm (s : State) : State :=
  match s.upd.trialAt, s.trialSlot with
  | some _, some n =>
    let s := s.setFw n { s.fwSlot n with st := 5 }
    let r := leAt (s.fwSlot n).header 12 1 % 64
    let s := { s with upd := { s.upd with trialAt := none } }
    (s.wr pgUPD UPD_ROLLBACK_COUNTER (max r (s.rd pgUPD UPD_ROLLBACK_COUNTER))).irq pgUPD 6
  | _, _ => s

/-- UPD_CONFIRM (R639). -/
def execUpdConfirm (ini : Initiator) (s : State) : Res :=
  if !s.updTakes then .next s
  else if s.hkPaused then .next (s.hkDefer ini pgUPD 0x104 5)
  else if s.upd.trialAt.isSome then .next (s.updRes ini 0).updConfirm
  else .next s

/-- UPD_AUTO_CONFIRM: CONFIRM_TMO passes: with AUTO_CONFIRM and no FATAL record meanwhile the trial is confirmed; without
AUTO_CONFIRM it fails (R639, R640). -/
def execUpdAutoConfirm (s : State) : Res :=
  match s.upd.trialAt with
  | none => .next s
  | some t =>
    let s := s.passTo (t + 10 ^ 9 * max 1 (s.rd pgUPD UPD_CFG_CONFIRM_TMO))
    if !s.on pgUPD UPD_CFG_AUTO_CONFIRM then .next (s.hkRestart 2)
    else if s.upd.fatals = 0 then .next s.updConfirm
    else .next s

end Sys2Proof.Machine
end

