-- ==== Sys2Proof/Machine/Twin.lean ====
section
/-!
DEFINITION. Twin hubs (R561 to R584): roles, the journal and the Bedstone's copy, and the seals by which a Runner is deposed.
Takeover is in Takeover.lean.
-/
namespace Sys2Proof.Machine

/-! ## Roles -/

/-- TWIN_STAT.ROLE: 0 NONE, 1 RUNNER, 2 BEDSTONE, 3 DEPOSED (R563). -/
def State.role (s : State) : Nat := s.rd pgTWIN TWIN_STAT_ROLE

/-- The hub is a twin board's Bedstone and no takeover is in progress. -/
def State.isBedstone (s : State) : Bool := s.enabled pgTWIN && s.role == 2 && s.twin.phase == 0

/-- The node ID across the twin link (R581). -/
def State.peerId (s : State) : Nat := s.rd (pgLINK + s.peerPort) LINK_STAT_NEIGH_ID

/-- TWIN_STAT.SYNC; a change sets SYNC_CHG (R570, R584). -/
def State.twinSync (s : State) (v : Nat) : State :=
  if s.rd pgTWIN TWIN_STAT_SYNC = v then s else (s.wr pgTWIN TWIN_STAT_SYNC v).irq pgTWIN 4

/-- CKPT_REQ is sent and SYNC is SYNCING (R570). -/
def State.ckptReq (s : State) : State :=
  let s := s.sendJournal 1 0x0A []
  State.twinSync { s with twin := { s.twin with check := false } } 1

/-- The hub no longer drives the shared lines nor sources cells of the shard; TWIN_ACT falls (R566, R567). -/
def State.twinRelease (s : State) (role : Nat) : State :=
  let drop (w : WaitCell) : Bool := [tCHANGE, tSEAL, tREFRESH].contains w.cell.typ
  let s := { s with twin := { s.twin with driving := false, jseq := 0, jnext := none, check := false, owed := false,
                                          phase := 0, enter := false, lateFrom := none, first := none },
                    sw := { s.sw with waiting := s.sw.waiting.filter (fun w => !drop w) } }
  let s := ((s.wr pgTWIN TWIN_STAT_ROLE role).wr pgTWIN TWIN_STAT_ACT 0).twinSync 0
  let s := (s.wr pgIMG IMG_OWN_OWNER 0).wr pgIMG IMG_STAT_PUBLISHING 0
  (s.lanesHalt.cogStopAll false).driveSync

/-- The hub takes BEDSTONE and requests a full checkpoint (R564, R570). -/
def State.takeBedstone (s : State) (late : Bool) : State :=
  let s := s.twinRelease 2
  State.ckptReq { s with twin := { s.twin with lateFrom := if late then some s.epoch else none } }

/-- The hub takes RUNNER by R564, under tenure T + 1 and with a FULL epoch first (R565, R724). -/
def State.takeRunner (s : State) : State :=
  let o := s.rd pgTWIN TWIN_SHARD_OWNER
  let r := s.img.recs.get (fun _ => {}) o
  let t := if r.st = 3 then 255 else r.tenure
  let s := { s with twin := { s.twin with driving := true, driveAt := s.now, jseq := 0, owed := false, phase := 0, cause := 0, first := none,
                                          enter := false, lateFrom := none },
                    img := { s.img with forceFull := true, lastPub := none, dem := [] } }
  let s := ((s.wr pgTWIN TWIN_STAT_ROLE 1).wr pgTWIN TWIN_STAT_ACT 1).wr pgTWIN TWIN_STAT_LAST_CAUSE 4
  let s := (s.wr pgIMG IMG_OWN_OWNER o).wr pgIMG IMG_OWN_TENURE ((t + 1) % 256)
  (s.twinSync 0).driveSync

/-- The hub becomes DEPOSED (R566). -/
def State.depose (s : State) : State := (s.twinRelease 3).irq pgTWIN 3

/-- A seal of the twin shard from another SRC was accepted in epoch `n` or a later one (R564). -/
def State.peerSealed (s : State) (n : Nat) : Bool :=
  let sh := s.shard (s.rd pgTWIN TWIN_SHARD_OWNER)
  sh.src != 0 && sh.src != s.nodeId && sh.heard.any (fun k => decide (n ≤ k))

/-- The first role, at a commit (or with `commit` false at the start of an epoch): once the shard's owner record is not
PENDING, or 256 epochs after lock (R564). -/
def State.twinEntry (s : State) (commit : Bool) : State :=
  let known := commit && (s.img.recs.get (fun _ => {}) (s.rd pgTWIN TWIN_SHARD_OWNER)).st != 3
  let late := s.twin.lockedAt.any (fun n => decide (s.epoch ≠ ones64 ∧ n + 256 ≤ s.epoch))
  if !(s.enabled pgTWIN && s.twin.enter && (known || late)) then s
  else if s.on pgTWIN TWIN_STAT_PEER_ACT || s.peerSealed (s.epoch - 2) then s.takeBedstone false
  else if s.twin.pref then s.takeBedstone true
  else s.takeRunner

/-- TWIN_LATE_RUNNER: 64 further epochs with no seal of the shard from another SRC (R564). -/
def execTwinLateRunner (s : State) : Res :=
  match s.twin.lateFrom with
  | some n =>
    if s.isBedstone && !s.peerSealed n then .next (s.passRing (s.tS (n + 64))).takeRunner else .next s
  | none => .next s

/-- TWIN_PEER_RISE: the level of TWIN_PEER; a Runner is deposed, or where both rose within one tick the higher node ID
takes BEDSTONE (R562, R564, R566). -/
def execTwinPeerRise (level : Bool) (s : State) : Res :=
  let rise := level && !s.on pgTWIN TWIN_STAT_PEER_ACT
  let s := s.wr pgTWIN TWIN_STAT_PEER_ACT (b2n level)
  if !(rise && s.isRunner) then .next s
  else if s.now ≤ s.twin.driveAt + 4 then
    .next (if s.peerId < s.nodeId then s.takeBedstone false else s)
  else .next s.depose

/-! ## The tables of the journal -/

/-- COG_RUN: bit e is set while engine e is RUNNING, WAITING or STALLED (R569). -/
def State.cogRun (s : State) : Nat := (List.range 32).foldl (fun a e => a + b2n (s.cogActive e) * 2 ^ e) 0

/-- TBL_SUM over the windows and the valid launch slots (R569). -/
def State.tblSum (s : State) : Nat :=
  crc32c ((List.range 1024).flatMap (fun i =>
      let w := s.winAt i
      ((w.words.drop 1).take 6).flatMap (leBytes 4) ++ [BitVec.ofNat 8 (b2n w.active)])
    ++ s.launches.flatMap (fun e => leBytes 16 e.2.bytes))

/-- The points of the shard that take demands (R271). -/
def State.demandPoints (s : State) : List (Nat × Nat) :=
  let pts := shardPoints s.img.cur s.shardId
  ((List.range pts.length).zip pts).filterMap (fun e => if s.hasInput e.2.1 then none else some (e.1, e.2.1))

/-- The CKPT record of a commit (R569). -/
def State.sendCkpt (s : State) : State :=
  if !s.isRunner then s
  else
    let e := s.commitEpoch
    let s := s.journal 0x01 (beBytes 8 e ++ beBytes 1 s.node ++ beBytes 3 0 ++ beBytes 4 s.cogRun ++ beBytes 4 s.tblSum)
    (s.wr pgTWIN TWIN_JSTAT_CKPT_EPOCH (e % 2 ^ 16)).count pgTWIN 2

/-- FULL_CHECKPOINT_TX: the Runner sends what a full checkpoint consists of, within 4 epochs of the request (R569). -/
def execFullCheckpointTx (s : State) : Res :=
  if !(s.isRunner && s.twin.owed) then .next s
  else
    let e := s.commitEpoch
    let s := { s with twin := { s.twin with owed := false } }
    let s := s.journal 0x0B (beBytes 8 e)
    let s := s.demandPoints.foldl (fun s p =>
      let d := s.demandOf p.2
      s.journal 0x02 (beBytes 2 p.1 ++ beBytes 2 d.writer ++ beBytes 8 d.tau
        ++ beBytes 4 (if d.known then d.value else s.startValue s.pubId p.2))) s
    let s := (s.trk.win.filter (fun e => bitAt e.2.ctl 3)).foldl (fun s e =>
      let s := s.journal 0x05 (beBytes 2 e.1 ++ beBytes 2 0 ++ e.2.record)
      if e.2.active then s.journal 0x03 (beBytes 2 e.1 ++ beBytes 2 0 ++ beBytes 4 e.2.base ++ beBytes 8 e.2.armAt) else s) s
    let s := s.launches.foldl (fun s e => s.journal 0x06 (beBytes 2 e.1 ++ beBytes 2 0 ++ e.2.record)) s
    let s := (List.range 8).foldl (fun s b =>
      let s := s.journal 0x08 (beBytes 1 b ++ beBytes 3 0 ++ beBytes 4 (s.rd (pgDIO + b) DIO_OUT_HOST_W))
      s.journal 0x09 (beBytes 1 b ++ beBytes 3 0 ++ beBytes 4 (s.rd (pgDIO + b) DIO_RB_FAIL_W))) s
    .next ((s.journal 0x0C (beBytes 8 e)).count pgTWIN 7)

/-! ## The Bedstone's copy -/

/-- A journal gap: reported, and a full checkpoint is requested (R570). -/
def State.twinGap (s : State) : State :=
  if !s.isBedstone then s
  else (((s.irq pgTWIN 5).count pgTWIN 3).fault pgTWIN 0x0D 1 0).ckptReq

/-- The records of a JOURNAL payload: TYPE and body (R568). -/
def journalRecords : Nat → List Byte → List (Nat × List Byte)
  | 0, _ => []
  | k + 1, l =>
    if l.length < 2 then []
    else (beAt l 0 1, slice l 2 (beAt l 1 1)) :: journalRecords k (l.drop (2 + beAt l 1 1))

/-- The window that the 32 bytes of a record spell (R113, R301). -/
def winOf (l : List Byte) (old : Win) : Win :=
  let w (k : Nat) : Nat := beAt l (4 * k) 4
  { old with ctl := w 0, arm := w 1, hit := w 2, openOff := w 3, closeOff := w 4,
             act := beAt l 20 1 + beAt l 21 1 * 2 ^ 8 + beAt l 22 2 * 2 ^ 16, base := w 6, hitc := w 7, closeAt := none }

/-- The Bedstone applies one record to its copy (R567, R569, R570).  A full checkpoint replaces the launch entries held. -/
def State.applyRecord (s : State) (typ : Nat) (b : List Byte) : State :=
  let i := beAt b 0 2
  match typ with
  | 0x01 =>
    let e := beAt b 0 8
    let s := { s with twin := { s.twin with ckpt := some (e, beAt b 8 1, beAt b 12 4, beAt b 16 4) } }
    let s := (s.wr pgTWIN TWIN_JSTAT_CKPT_EPOCH (e % 2 ^ 16)).count pgTWIN 2
    let same := decide (s.tblSum = beAt b 16 4)
    if s.rd pgTWIN TWIN_STAT_SYNC = 1 then
      if !s.twin.check then s
      else if same then State.twinSync { s with twin := { s.twin with check := false } } 2
      else s.twinGap
    else if same then s
    else s.twinGap
  | 0x02 =>
    match (shardPoints s.img.cur s.shardId)[i]? with
    | some q =>
      let old := s.twin.demands.get (fun _ => {}) q.1
      let d := s.newDemand old (beAt b 12 4) (beAt b 4 8) (beAt b 2 2)
      { s with twin := { s.twin with demands := s.twin.demands.set (fun _ => {}) q.1 d } }
    | none => s
  | 0x03 => s.setWin i { (s.winAt i).put wsARMED 0 false with base := beAt b 4 4, hitc := 0, armAt := beAt b 8 8, closeAt := none }
  | 0x04 =>
    let w := (s.winAt i).put (if beAt b 3 1 = 1 then wsLISTEN else wsDONE) (beAt b 2 1) false
    s.setWin i { w with closeAt := none }
  | 0x05 => s.setWin i (winOf (b.drop 4) (s.winAt i))
  | 0x06 =>
    let e : LaunchEnt := { time := beAt b 4 8, opword := beAt b 12 1 + beAt b 13 3 * 2 ^ 8, arg := beAt b 16 4,
                           order := s.trk.nextOrder }
    State.setLaunch { s with trk := { s.trk with nextOrder := s.trk.nextOrder + 1 } } i e
  | 0x07 => s.dropLaunch i false
  | 0x08 => { s with twin := { s.twin with hostOut := s.twin.hostOut.set (fun _ => 0) (beAt b 0 1) (beAt b 4 4) } }
  | 0x09 => { s with twin := { s.twin with rbFail := s.twin.rbFail.set (fun _ => (0, 0)) (beAt b 0 1) (beAt b 4 4, s.now) } }
  | 0x0B => s.launches.foldl (fun s e => s.dropLaunch e.1 false) s
  | 0x0C => { s with twin := { s.twin with check := true } }
  | _ => s

/-- JOURNAL_RX: the Bedstone applies the Runner's records and checks JSEQ; the Runner takes a CKPT_REQ (R568 to R570,
R573). -/
def execJournalRx (s : State) : Res :=
  match s.takeCell 3 tJOURNAL with
  | none => .next s
  | some (r, s) =>
    let p := r.cell.payload
    let recs := journalRecords 128 (p.drop 8)
    let n := beAt p 0 4
    if bitAt (beAt p 7 1) 0 then
      if !s.isRunner then .next s
      else .next (recs.foldl (fun s x =>
        let s := s.count pgTWIN 0
        if x.1 = 0x0A then { s with twin := { s.twin with owed := true } } else s) s)
    else if !s.isBedstone then .next s
    else
      let s := if s.twin.jnext.any (fun m => m != n) then s.twinGap else s
      let s := { s with twin := { s.twin with jnext := some ((n + 1) % 2 ^ 32) } }
      let s := s.wr pgTWIN TWIN_JSTAT_JSEQ ((n + 1) % 2 ^ 16)
      .next (recs.foldl (fun s x => (s.count pgTWIN 0).applyRecord x.1 x.2) s)

/-! ## Seals -/

/-- SEAL_RX: a seal, which carries all of its epoch number, is checked and held, TIME_EPOCH reading all ones too; a higher tenure of its
own shard deposes a Runner (R213, R219, R222, R223, R566). -/
def execSealRx (s : State) : Res :=
  match s.takeCell 0 tSEAL with
  | none => .next s
  | some (r, s) =>
    let s := s.count pgIMG 3
    let p := r.cell.payload
    let s := s.holdSeal p r.cell.src (some r.ring)
    let own := s.isRunner && decide (beAt p 8 2 % 2048 = s.shardId ∧ r.cell.src ≠ s.nodeId)
    let high := match (s.shard s.shardId).tenure with
      | some t => tenureHigher t (s.rd pgIMG IMG_OWN_TENURE)
      | none => false
    .next (if own && high then s.depose else s)

/-! ## Commands -/

/-- A TWIN_CMD is refused (R579, R584). -/
def State.twinRefuse (s : State) : State := s.irq pgTWIN 7

/-- The hub is to enter a role, with the settings in effect now (R564, R580). -/
def State.enterRole (s : State) : State :=
  { s with twin := { s.twin with enter := true, port := s.rd pgTWIN TWIN_CFG_PEER_PORT, pref := s.on pgTWIN TWIN_CFG_ROLE_PREF } }

/-- TWIN_RESYNC: a Bedstone sends CKPT_REQ; a wrong KEY is refused (R583). -/
def execTwinResync (key : Nat) (s : State) : Res :=
  if !s.takes pgTWIN then .next s
  else if key ≠ 0x96 then .next s.twinRefuse
  else .next (if s.isBedstone then s.ckptReq else s)

/-- TWIN_REJOIN: a DEPOSED hub enters a role again at its next commit; a wrong KEY is refused (R564, R579, R583). -/
def execTwinRejoin (key : Nat) (s : State) : Res :=
  if !s.takes pgTWIN then .next s
  else if key ≠ 0x96 then .next s.twinRefuse
  else .next (if s.enabled pgTWIN && s.role == 3 then s.enterRole else s)

/-- PAGE_CTRL.EN of the TWIN page changed: role entry follows, or the hub leaves its role (R563, R580). -/
def State.twinEnable (s : State) : State :=
  if s.enabled pgTWIN then (State.enterRole { s with twin := { s.twin with driving := false } }).driveSync
  else (s.twinRelease 0).wr pgIMG IMG_OWN_OWNER (if s.on pgIMG IMG_STAT_PUBLISHING then s.nodeId else 0)

end Sys2Proof.Machine
end

