-- ==== Sys2Proof/Machine/Apply.lean ====
section
/-!
DEFINITION. How configuration takes effect: the shadowed fields of a page and an apply (R56, R59 to R61), what each block
does when its settings or its PAGE_CTRL.EN change, the binding table (R268 to R271, R290), and soft resets (R48).
-/
namespace Sys2Proof.Machine

/-! ## Shadowed words -/

/-- The bits of the word at `off` that fields of type `ty` hold. -/
def typeMask (fs : List Field) (ty : Access) (off : Nat) : Nat :=
  fs.foldl (fun a f => if f.ty = ty ∧ (f.idx? off).isSome then a ||| ((2 ^ f.width - 1) * 2 ^ f.lo) else a) 0

/-- The offsets of the words of a kind of page that hold RWS fields. -/
def rwsOffsets (k : Kind) : List Nat :=
  (((k.fields.filter (fun f => f.ty == .rws)).map (fun f => (f.base, f.stride, f.count))).eraseDups).flatMap
    (fun r => (List.range r.2.2).map (fun i => r.1 + r.2.1 * i))

/-- `w` with the bits of `mask` taken from `v`. -/
def mergeBits (w v mask : Nat) : Nat := (w - (w &&& mask)) + (v &&& mask)

/-- The words of a page that an apply would change, with the value each takes (R59). -/
def State.shadowWords (s : State) (p : Nat) : List (Nat × Nat) :=
  match pageKind? p with
  | none => []
  | some k => (rwsOffsets k).filterMap (fun off =>
      let w := (s.word p off).toNat
      let v := mergeBits w (s.shadowWord p off).toNat (typeMask k.fields .rws off)
      if v = w then none else some (off, v))

/-- Words take effect. -/
def State.takeWords (s : State) (p : Nat) (ws : List (Nat × Nat)) : State :=
  ws.foldl (fun s w => s.setWord p w.1 (BitVec.ofNat 32 w.2)) s

/-- A list of words with newer ones put over older ones. -/
def overWords (old new : List (Nat × Nat)) : List (Nat × Nat) :=
  old.filter (fun w => !new.any (fun v => v.1 == w.1)) ++ new

/-- A word of a list, or the one in effect. -/
def State.wordIn (s : State) (p : Nat) (ws : List (Nat × Nat)) (off : Nat) : Nat :=
  ((ws.find? (fun w => w.1 == off)).map (·.2)).getD (s.word p off).toNat

/-! ## Bindings -/

/-- The codes of R270. -/
def beNOT_OWNED : Nat := 1
def beWIDTH : Nat := 2
def beINSTANCE : Nat := 3
def beDUPLICATE : Nat := 4
def beKIND : Nat := 5

/-- An input kind (R269). -/
def isInput (k : Nat) : Bool := decide (1 ≤ k ∧ k ≤ 8)

/-- An output kind (R269). -/
def isOutput (k : Nat) : Bool := decide (0x10 ≤ k ∧ k ≤ 0x14)

/-- Reserved bits of an entry, INVERT where the kind has none, or a reserved KIND (R268, R269). -/
def badKind (e : Nat) : Bool :=
  let k := bKIND e
  bitsOf e 17 7 != 0 || bitsOf e 29 2 != 0 || bitsOf e 49 15 != 0 || (bINVERT e && k != 1 && k != 0x10)
    || !(k == 0 || isInput k || isOutput k)

/-- W of an entry breaks the kind table (R269). -/
def badWidth (e w : Nat) : Bool :=
  match bKIND e with
  | 1 | 0x10 => decide (32 < bSUB e + w)
  | 2 => w == 1
  | 3 | 4 => w != 32
  | 0x14 => w != 1
  | _ => false

/-- INST or SUB beyond what the block has (R269). -/
def badInstance (e : Nat) : Bool :=
  let i := bINST e
  let u := bSUB e
  match bKIND e with
  | 1 | 2 | 0x10 => decide (7 < i ∨ 31 < u)
  | 3 => decide (7 < i ∨ 1 < u)
  | 4 => decide (15 < i ∨ 0 < u)
  | 5 => decide (63 < i ∨ 7 < u)
  | 6 => decide (31 < i ∨ 7 < u)
  | 7 => decide (7 < i)
  | 0x11 => decide (63 < i ∨ 3 < u)
  | 0x12 => decide (31 < i ∨ 3 < u)
  | 0x13 => decide (7 < i ∨ 7 < u)
  | 0x14 => decide (i = 0 ∨ 7 < i ∨ 0 < u)
  | _ => false

/-- The points an entry binds (R269). -/
def bPoints (e : Nat) : List Nat := if bKIND e = 4 then [bPOINT e, bPOINT e + 1] else [bPOINT e]

/-- Two output entries have the same target, with the widths of their points (R270). -/
def sameTarget (e w f v : Nat) : Bool :=
  bKIND e == bKIND f && bINST e == bINST f
    && (if bKIND e = 0x10 then overlap (bSUB e) w (bSUB f) v else bSUB e == bSUB f)

/-- What an entry with EN 1 fails, in the order KIND, NOT_OWNED, WIDTH, INSTANCE, DUPLICATE; `earlier` are the entries
already taken, with their widths (R270). -/
def State.bindError (s : State) (e : Nat) (earlier : List (Nat × Nat)) : Nat × Nat :=
  let own (i : Nat) : Option Nat := match pointEntry s.img.cur i with
    | some (o, t) => if o = s.shardId ∧ o ≠ 0 then some t else none
    | none => none
  if badKind e then (beKIND, 0)
  else if bKIND e = 0 then (0, 0)
  else match own (bPOINT e), (bPoints e).all (fun i => (own i).isSome) with
    | some t, true =>
      let w := segWidth t
      if badWidth e w || (bKIND e == 4 && own (bPOINT e + 1) != some t) then (beWIDTH, w)
      else if badInstance e then (beINSTANCE, w)
      else
        let clash (f : Nat × Nat) : Bool :=
          let share := (bPoints e).any (fun i => (bPoints f.1).contains i)
          bKIND f.1 != 0 && (if isInput (bKIND e) then share
            else (share && isInput (bKIND f.1)) || (isOutput (bKIND f.1) && sameTarget e w f.1 f.2))
        (if earlier.any clash then beDUPLICATE else 0, w)
    | _, _ => (beNOT_OWNED, 0)

/-- The checks over a table in index order: the entries as they take effect, and the failures with their entries (R270). -/
def State.bindCheck (s : State) (t : SMap Nat) : SMap Nat × List (Nat × Nat) :=
  let step (a : SMap Nat × List (Nat × Nat) × List (Nat × Nat)) (x : Nat × Nat) :=
    let (live, bad, seen) := a
    if !bEN x.2 then (live ++ [x], bad, seen)
    else
      let (err, w) := s.bindError x.2 seen
      if err = 0 then (live ++ [x], bad, seen ++ [(x.2, w)])
      else (live ++ [(x.1, setBits x.2 31 1 0)], bad ++ [(err, x.1)], seen)
  let r := t.foldl step ([], [], [])
  (r.1.filter (fun x => x.2 != 0), r.2.1)

/-- BIND_STAT.ACTIVE follows the entries in effect (R290). -/
def State.bindActive (s : State) : State := s.wr pgBIND BIND_STAT_ACTIVE (s.img.bindLive.filter (fun x => bEN x.2)).length

/-- BIND_STAT.ERROR and ERR_INDEX of the last apply or VALIDATE (R290). -/
def State.bindResult (s : State) (bad : List (Nat × Nat)) : State :=
  let f := bad.head?.getD (0, 0)
  (s.wr pgBIND BIND_STAT_ERROR f.1).wr pgBIND BIND_STAT_ERR_INDEX f.2

/-- A binding table takes effect, entry by entry as the checks pass (R270). -/
def State.bindTakeOf (s : State) (t : SMap Nat) : State :=
  let (live, bad) := s.bindCheck t
  let s := State.bindActive { s with img := { s.img with bindLive := live } }
  let s := s.bindResult bad
  if bad.isEmpty then s else (s.count pgBIND 0 bad.length).irq pgBIND 2

/-- An apply of the binding table (R270). -/
def State.bindTake (s : State) : State := s.bindTakeOf s.img.bindSh

/-- BIND_VALIDATE: BIND_CMD VALIDATE starts the checks (R290). -/
def execBindValidate (s : State) : Res :=
  if s.takes pgBIND then .next { s with img := { s.img with bindBusy := true } } else .next s

/-- BIND_VALIDATE_DONE: within 1 ms (R290, R291). -/
def execBindValidateDone (s : State) : Res :=
  if !s.img.bindBusy then .next s
  else
    let s := { s with img := { s.img with bindBusy := false } }
    .next (((s.bindResult (s.bindCheck s.img.bindSh).2).irq pgBIND 4).count pgBIND 2)

/-- CLEAR_SHADOW: BIND_CMD CLEAR_SHADOW; without effect while an apply pends, which fixes the shadows (R59, R290). -/
def execClearShadow (s : State) : Res :=
  let x := s.pageSt pgBIND
  if s.takes pgBIND && !x.applyPend && !x.armed then .next { s with img := { s.img with bindSh := [] } } else .next s

/-- At a map advance an entry whose point left the shard becomes NONE (R271). -/
def State.bindOrphans (s : State) : State :=
  let gone (e : Nat) : Bool := bEN e && bKIND e != 0 && (bPoints e).any (fun i => pointOwner s.img.cur i != s.shardId)
  let n := (s.img.bindLive.filter (fun x => gone x.2)).length
  if n = 0 then s
  else
    let live := s.img.bindLive.map (fun x => if gone x.2 then (x.1, setBits x.2 31 1 0) else x)
    ((State.bindActive { s with img := { s.img with bindLive := live.filter (fun x => x.2 != 0) } }).count pgBIND 1 n).irq
      pgBIND 3

/-! ## What a change of settings does -/

/-- The frame settings of a lane (R372). -/
def laneSettings : List Nat := [0x100, 0x104, 0x108, 0x10C, 0x110]

/-- Words take effect on a lane, or wait for the words in progress (R372).  The second component says whether they did. -/
def State.effectLane (s : State) (n : Nat) (ws : List (Nat × Nat)) : State × Bool :=
  let x := s.laneSt n
  let changes (w : Nat × Nat) : Bool := laneSettings.contains w.1 && (s.word (lanePg n) w.1).toNat != w.2
  let wait := (x.send.isSome || x.ssi.isSome) && ws.any changes
  if wait || x.later.isSome then (s.setLane n { x with later := some (overWords (x.later.getD []) ws) }, false)
  else (s.laneConfig n ws, true)

/-- Words take effect on a CAN port, or wait for bus idle (R422, R434). -/
def State.effectCan (s : State) (n : Nat) (ws : List (Nat × Nat)) : State × Bool :=
  let x := s.canSt n
  let timing := ws.any (fun w => (w.1 == 0x100 || w.1 == 0x104 || w.1 == 0x108) && (s.word (canPg n) w.1).toNat != w.2)
  if (timing && x.act.isSome) || x.later.isSome then
    (s.setCan n { x with later := some (overWords (x.later.getD []) ws) }, false)
  else
    let s := s.takeWords (canPg n) ws
    let s := if timing then s.canIntegrate n else s
    let slots := ws.any (fun w => w.1 == 0x10C || decide (0x800 ≤ w.1))
    (s.setCan n { x with schedNew := x.schedNew || slots }, true)

/-- A zone returns to OFF: the transceiver out of standby, the wake line released (R443). -/
def State.zoneOff (s : State) (z : Nat) : State :=
  let p := canPg z
  let was := s.on p CAN_STAT_STANDBY || s.on p CAN_STAT_PARTIAL
  let s := (s.wr p CAN_STAT_STANDBY 0).wr p CAN_STAT_PARTIAL 0
  let x := s.canSt z
  let s := s.setCan z { x with zq := [] }
  let s := if was then s.canIntegrate z else s
  let s := (s.setZone z {}).zWr z ZONEz_STAT_WAKE_LATCHED 0
  if s.zState z = zsOFF then s else s.zMove z zsOFF

/-- Words take effect on the zones, each while it is OFF or AWAKE; EN 0 acts from any state (R443, R456). -/
def State.effectZone (s : State) (ws : List (Nat × Nat)) : State × Bool :=
  (List.range 8).foldl (fun (a : State × Bool) z =>
    let (s, done) := a
    let mine := ws.filter (fun w => decide (0x100 + 0x20 * z ≤ w.1 ∧ w.1 < 0x120 + 0x20 * z))
    let x := s.zoneSt z
    let en := bitAt (s.wordIn pgZONE (overWords (x.later.getD []) mine) (0x100 + 0x20 * z)) 0
    if mine.isEmpty then (s, done && x.later.isNone)
    else if !en then ((s.takeWords pgZONE (overWords (x.later.getD []) mine)).zoneOff z, done)
    else if s.zState z = zsOFF ∨ s.zState z = zsAWAKE then
      let s := s.takeWords pgZONE mine
      (if s.zState z = zsOFF then s.zMove z zsAWAKE else s, done)
    else (s.setZone z { x with later := some (overWords (x.later.getD []) mine) }, false)) (s, true)

/-- What changed settings of an axis or a reference do (R319, R321). -/
def State.axisApplied (old s : State) : State :=
  let s := (List.range 16).foldl (fun s a =>
    let cfg (t : State) : Nat := bitsOf (t.word pgAXIS (0x100 + 16 * a)).toNat 0 3 + bitsOf (t.word pgAXIS (0x100 + 16 * a)).toNat 16 16 * 8
    if cfg old = cfg s then s
    else
      let src := old.axisSrc a ≠ s.axisSrc a ∨ old.rd pgAXIS AXISn_CFG_SRC_A a ≠ s.rd pgAXIS AXISn_CFG_SRC_A a
      let x := s.axisSt a
      let x := { x with hist := [], cut := true, raw := if src then none else x.raw, sample := if src then none else x.sample }
      let s := if src then s.wr pgAXIS AXISn_STAT_VALID 0 a else s
      (((s.setAxis a x).axisLoad a).axisSet a s.ringNow (s.rd pgAXIS AXISn_POS_POS a)).loseWindows a) s
  (List.range 32).foldl (fun s r =>
    let s := if old.rd pgAXIS AXIS_REFr_A_POINT r = s.rd pgAXIS AXIS_REFr_A_POINT r then s
      else
        let x := s.refSt r
        State.loseWindows { s with trk := { s.trk with ref := s.trk.ref.set (fun _ => {}) r { x with hist := [] } } } (16 + r)
    s.refSync r) s

/-- What changed settings of a page's lines do (R337, R345, R347). -/
def State.dioApplied (old s : State) (p : Nat) : State :=
  let b := p - pgDIO
  let s := (List.range 32).foldl (fun s j =>
    let k := 32 * b + j
    let same (f : Field) : Bool := old.dioCfg k f == s.dioCfg k f
    let s := if same DIO_LINEj_CFG_DIR && same DIO_LINEj_CFG_POL && same DIO_LINEj_CFG_FILT && same DIO_LINEj_CFG_DEB then s
      else s.lineRestart k
    if s.dioCfg k DIO_LINEj_CFG_STUCK_EN == 0 || s.dioCfg k DIO_LINEj_CFG_DIR == 1 then s.setDioBit k DIO_STUCK_W false else s) s
  s.driveSync

/-- Settings take effect on a page; the second component is false where the block named a boundary that they wait for
(R59): on a page of the power die the next frame of the die link while that is silent (R475; DESIGN CHOICE, log entry 133). -/
def State.effect (s : State) (p : Nat) (ws : List (Nat × Nat)) : State × Bool :=
  if s.dieSilent p then (s, false) else match pageKind? p with
  | some .lane => s.effectLane (p - pgLANE) ws
  | some .can => s.effectCan (p - pgCAN) ws
  | some .zone => s.effectZone ws
  | some .bind => ((s.takeWords p ws).bindTake, true)
  | some .link => (State.linkApplied s (s.takeWords p ws) p, true)
  | some .timeP => (State.timeApplied s (s.takeWords p ws), true)
  | some .axis => (State.axisApplied s (s.takeWords p ws), true)
  | some .dio => (State.dioApplied s (s.takeWords p ws) p, true)
  | some .slu => ((s.takeWords p ws).sluSafe (p - pgSLU), true)
  | _ => (s.takeWords p ws, true)

/-- PAGE_CTRL.EN of a page changed. -/
def State.enableHook (s : State) (p : Nat) : State :=
  match pageKind? p with
  | some .link => s.linkEnable p
  | some .dio => s.driveSync
  | some .slu => s.sluSafe (p - pgSLU)
  | some .lane => if s.enabled p then s.laneGo (p - pgLANE) else s.laneHalt (p - pgLANE)
  | some .cog => if s.enabled p then s else s.cogDisable (p - pgCOG)
  | some .twin => s.twinEnable
  | some .pcie => s.portsSync
  | some .usb => s.portsSync
  | some .axis =>
    (List.range 32).foldl (fun s r => s.refSync r)
      (if s.enabled p then (List.range 16).foldl (fun s a => s.axisLoad a) s else s)
  | some .can =>
    let n := p - pgCAN
    if s.enabled p then s.canIntegrate n
    else
      let x := s.canSt n
      let x := match x.act.bind (·.buf) with
        | some b => x.setBuf b { x.bufAt b with st := 1 }
        | none => x
      let s := s.setCan n { x with act := none, win := none, cycle := none }
      (s.wr p CAN_SCHED_STAT_RUNNING 0).canLater n
  | _ => s

/-- Writes PAGE_CTRL.EN; fixed on some pages, and a claimed lane cannot be enabled (R46, R47, R373). -/
def State.setEnable (s : State) (p : Nat) (en : Bool) : State :=
  match pageKind? p with
  | none => s
  | some k =>
    if k.fixedOn || s.enabled p == en then s
    else if k == .lane && en && s.on p LANE_STAT_CLAIMED then s
    else (s.wr p PAGE_CTRL_EN (b2n en)).enableHook p

/-! ## Applies -/

/-- A write to the header of a page: none where the hub does not implement the page, and queued while the housekeeping core that serves
it restarts (R38, R638); else what the write does. -/
def State.atPage (s : State) (p off v : Nat) (r : Res) : Res :=
  if (s.kindAt p).isNone then .next s
  else if s.hkPaused && servedByHk p then .next (s.hkDefer .hk p off v)
  else r

/-- A copy of the page waits for the boundary its block names. -/
def State.copyWaits (s : State) (p : Nat) : Bool :=
  s.dieSilent p || match pageKind? p with
  | some .lane => (s.laneSt (p - pgLANE)).later.isSome
  | some .can => (s.canSt (p - pgCAN)).later.isSome
  | some .zone => s.zone.any (fun e => e.2.later.isSome)
  | _ => false

/-- APPLY: PAGE_CTRL.APPLY; an armed apply is carried out at once instead (R59, R61, R63). -/
def execApply (page : Nat) (s : State) : Res :=
  let x := s.pageSt page
  s.atPage page 0x008 (4 + b2n (s.enabled page)) (if s.on page PAGE_CTRL_LOCK ∨ x.applyPend then .next s
    else .next (s.setPageSt page { x with applyPend := true, armed := false }))

/-- APPLY_AT_COMMIT: the copy is armed for the first commit instant at least 1 µs later (R60, R61, R63). -/
def execApplyAtCommit (page : Nat) (s : State) : Res :=
  let x := s.pageSt page
  s.atPage page 0x008 (8 + b2n (s.enabled page)) (if s.on page PAGE_CTRL_LOCK ∨ x.applyPend ∨ x.armed then .next s
    else .next (s.setPageSt page { x with armed := true, armedAt := s.now }))

/-- APPLY_COPY: a pending apply copies its shadows into effect, or begins to wait for its block's boundary (R59). -/
def execApplyCopy (page : Nat) (s : State) : Res :=
  if !(s.pageSt page).applyPend || s.copyWaits page then .next s
  else
    let (s, done) := s.effect page (s.shadowWords page)
    .next (if done then s.applyDone page else s)

/-! ## Soft resets -/

/-- The block registers of a page return to their reset values, with their shadows (R46). -/
def State.clearBlock (s : State) (p : Nat) : State :=
  let mine (k : Nat) : Bool := k % 2 ^ 24 / 0x1000 == p && decide (0x100 ≤ k % 0x1000)
  { s with regs := s.regs.keep (fun k => !mine k), shadow := s.shadow.keep (fun k => !mine k) }

/-- A map without its entries from key `a` to key `b`. -/
def dropRange {α : Type} (m : SMap α) (a b : Nat) : SMap α := m.keep (fun k => decide (k < a ∨ b < k))

/-- A block's internal state returns to its reset value (R46, R48). -/
def State.softState (s : State) (p : Nat) : State :=
  if s.dieSilent p then s else match pageKind? p with
  | some .lane =>
    let n := p - pgLANE
    let claimed := s.on p LANE_STAT_CLAIMED
    let eng := s.rd p LANE_STAT_CLAIM_ENG
    let s := { s.clearBlock p with lane := s.lane.set (fun _ => {}) n { wait := (s.laneSt n).wait } }
    let s := s.laneDrain 256 n
    if claimed then (s.wr p LANE_STAT_CLAIMED 1).wr p LANE_STAT_CLAIM_ENG eng else s
  | some .can =>
    let n := p - pgCAN
    let old := s.canSt n
    let x : CanSt := { rxCount := old.rxCount, missCount := old.missCount, seq := old.seq, zq := old.zq }
    let stb := s.rd p CAN_STAT_STANDBY
    let part := s.rd p CAN_STAT_PARTIAL
    let s := s.clearBlock p
    let s := ((s.wr p CAN_STAT_STANDBY stb).wr p CAN_STAT_PARTIAL part).setCan n x
    if s.enabled p then s.canIntegrate n else s
  | some .zone =>
    let s := (List.range 8).foldl (fun s z => if s.zState z = zsOFF then s else s.zoneOff z) s
    { s.clearBlock p with zone := [] }
  | some .dio =>
    let b := p - pgDIO
    let s := { s.clearBlock p with line := pinsOnly s.line (32 * b) (32 * b + 31),
                                   dio := s.dio.set (fun _ => {}) b { seq := (s.dioPage b).seq } }
    s.driveSync
  | some .cog =>
    let gen := s.rd p COG_STORE_STAT_GEN
    ((s.cogSoft (p - pgCOG)).clearBlock p).wr p COG_STORE_STAT_GEN ((gen + 1) % 2 ^ 16)
  | some .slu => s.sluSoft (p - pgSLU)
  | some .mov => { s.clearBlock p with mov := [], movLast := 47 }
  | some .link =>
    let port := p - pgLINK
    let wide := (List.range 0x30).map (fun k => (k, s.word p (0x200 + 4 * k)))
    let s := (s.setLink port 0).clearBlock p
    if port = 0 then wide.foldl (fun s w => s.setWord p (0x200 + 4 * w.1) w.2) s else s
  | some .mir => { s.clearBlock p with mir := {} }
  | some .txts => { s.clearBlock p with txts := { s.txts with q := [] } }
  | some .axis =>
    let s := (List.range 48).foldl (fun s k => s.loseWindows k) s
    let s := { s.clearBlock p with trk := { s.trk with axis := [], ref := [] } }
    if s.enabled p then (List.range 16).foldl (fun s a => s.axisLoad a) s else s
  | some .trk => { s.clearBlock p with trk := { s.trk with win := [], log := [] } }
  | some .lnch => { s.clearBlock p with trk := { s.trk with slot := [], exc := [] } }
  | some .bind => { s.clearBlock p with img := { s.img with bindSh := [], bindLive := [], bindBusy := false } }
  | some .pmap =>
    let gen := s.rd pgSWC SWC_MAPGEN_CURRENT
    let s := { s.clearBlock p with img := { s.img with stg := [], pmapBusy := false } }
    s.wr p PMAP_STAT_NEXT_GEN ((gen + 1) % 256)
  | some .twin =>
    let s := if s.enabled p then s.twinRelease 0 else s
    { s.clearBlock p with twin := { port := s.twin.port, pref := s.twin.pref, enter := s.enabled p } }
  | some .crs => { s.clearBlock p with crs := { s.crs with arm := none, store := none } }
  | some .upd =>
    let rb := s.rd p UPD_ROLLBACK_COUNTER
    let ws := s.upd.waits
    let s := { s.clearBlock p with upd := { s.upd with hdr := [], sess := none, waits := [], dist := none } }
    let s := ws.foldl (fun (s : State) w => s.waitDone w stOK) s
    (s.wr p UPD_ROLLBACK_COUNTER rb).fwSync
  | some .drs => (s.clearBlock p).wearLoad
  | some .usb =>
    let vbus := s.on p USB_STAT_VBUS
    let r := s.tunnelFlush.usb.reading
    State.wr { s.clearBlock p with usb := { reading := r } } p USB_STAT_VBUS (b2n vbus)
  | some .pcie => { s.clearBlock p with pcie := {}, msix := {} }
  | some .qsh => { s.clearBlock p with qsh := { waiting := s.qsh.waiting } }
  | _ => s.clearBlock p

/-- What a block whose page is still enabled does once its soft reset has cleared it: a ring port trains again (R46, R106), the USB port
attaches again (R527). -/
def State.softRestart (s : State) (p : Nat) : State :=
  match pageKind? p with
  | some .link => s.linkEnable p
  | some .usb => s.usbAttach
  | _ => s

/-- SOFT_RESET: PAGE_CTRL.SOFT_RESET returns the block to its reset values; READY is 0 and BUSY 1 until it is complete
(R46 to R48, R63).  INT_RAW is cleared after what the reset itself causes, as a RING_CHG of LINKE, and before the block starts again (R52,
R140; DESIGN CHOICE, log entry 150). -/
def execSoftReset (page : Nat) (s : State) : Res :=
  match pageKind? page with
  | none => .next s
  | some k =>
    s.atPage page 0x008 (2 + b2n (s.enabled page)) (if k.fixedOn ∨ s.on page PAGE_CTRL_LOCK then .next s
      else
        let s := (s.softState page).wr page INT_RAW_W 0
        .next (((s.wr page PAGE_STAT_READY 0).setPageSt page { softBusy := true }).softRestart page))

/-- SOFT_RESET_DONE: within 10 µs (R48, R55). -/
def execSoftResetDone (page : Nat) (s : State) : Res :=
  if !(s.pageSt page).softBusy then .next s
  else
    let s := (s.wr page PAGE_STAT_READY 1).setPageSt page { s.pageSt page with softBusy := false }
    .next (s.wr page CFG_GEN_W (s.rd page CFG_GEN_W + 1))

end Sys2Proof.Machine
end

