-- ==== Sys2Proof/Machine/Write.lean ====
section
/-!
DEFINITION. What a write to the RW and RWS fields of one register word does (R56), for software, the Foundation and
Courses alike: values go into effect or into the shadow, and the fields with a rule of their own follow it.
-/
namespace Sys2Proof.Machine

/-- The registers of a kind of page that are held separately for each initiator. -/
def perIniFields : Kind → List Field
  | .img => [IMG_PEEK_SEL_INDEX]
  | .trk => [TRK_SEL_WINDOW, TRK_WINn_DATA, TRK_WRES_RESULT]
  | .lnch => [LNCH_INSn_DATA, LNCH_RES_RESULT]
  | .can => [CAN_TXB_SEL_BUF, CAN_TXB_RES_RESULT]
  | .zone => [ZONE_RES_RESULT]
  | .brg => [BRG_TAG_TAG, BRG_MCW_CFG_GROUP, BRG_MCW_ADDR_ADDR, BRG_MCW_DATA_LO_DATA, BRG_MCW_DATA_HI_DATA,
      BRG_CREQ_ADDR_LO_ADDR, BRG_CREQ_ADDR_HI_ADDR, BRG_CREQ_CMD_LEN, BRG_CREQ_RES_RESULT, BRG_SLOT_SEL_SLOT]
  | .crs => [CRS_TARGET_LO_W, CRS_TARGET_HI_W, CRS_RES_RESULT]
  | .upd => [UPD_RES_RESULT, UPD_RES_VER_VERSION]
  | .key => [KEY_ARG_USAGE, KEY_RES_RESULT, KEY_DATAn_DATA]
  | .plumb => [PLUMB_RES_RESULT]
  | _ => []

/-- The copy of a word that an initiator reaches: its own where the register is held separately, else copy 0. -/
def iniCopy (k : Kind) (off ini : Nat) : Nat := if (perIniFields k).any (fun f => (f.idx? off).isSome) then ini else 0

/-- The fields of a word of a page, the Ashlar header among them. -/
def pageFields (k : Kind) : List Field := hdrFields ++ k.fields

/-- The bits of type `ty` of the word at `off` of page `p`; LINKW holds none of the ring-wide registers. -/
def pageMask (k : Kind) (p : Nat) (ty : Access) (off : Nat) : Nat :=
  if p = pgLINK + 1 ∧ 0x120 ≤ off then 0 else typeMask (pageFields k) ty off

/-- The MSI-X messages of every vector whose OR rose from zero (R68). -/
def State.msixAll (old s : State) : State :=
  (List.range 32).foldl (fun s v => if s.vectorOr v && !old.vectorOr v then s.sendMsix v else s) s

/-- One further message where a write to INT_RAW or INT_EN of a routed page leaves its vector's OR non-zero (R68). -/
def State.msixAgain (s : State) (p : Nat) : State :=
  if bitAt (s.mapByte p) 5 && s.vectorOr (s.mapByte p % 32) then s.sendMsix (s.mapByte p % 32) else s

/-- INT_EN of a page is written; its reserved bits stay 0 (R39, R51).  Where this takes the OR of the page's vector from zero, one
message goes out for the rise and one further for the write (R68). -/
def State.intEnWrite (s : State) (p v : Nat) : State :=
  (State.msixRise s (s.wr p INT_EN_W (v % 2 ^ 32 &&& intMask p)) p).msixAgain p

/-- A word of a transmit buffer's window is written; writing a buffer ends an uncorrectable error in it (R425, R428). -/
def State.txbWrite (s : State) (p off v ini : Nat) : State :=
  let n := p - pgCAN
  let x := s.canSt n
  let b := s.rd p CAN_TXB_SEL_BUF 0 ini
  let f := x.buf.get (fun _ => {}) b
  let w := v % 2 ^ 32
  let f := if off = 0x170 then { f with idw := w }
    else if off = 0x174 then { f with ctl := w &&& 0xFFFF00FF }
    else { f with data := f.data.set (fun _ => 0) ((off - 0x180) / 4) w }
  s.setCan n { x with buf := x.buf.set (fun _ => {}) b { f with bad := false } }

/-- One half of a 64-bit value replaced. -/
def putHalf (old : Nat) (hi : Bool) (v : Nat) : Nat := setBits old (if hi then 32 else 0) 32 v

/-- The staged entry that PMAP_SEL selects. -/
def State.stagedEntry (s : State) : Nat :=
  valAt s.img.stg (8 * s.rd pgPMAP PMAP_SEL_OWNER + s.rd pgPMAP PMAP_SEL_SEG)

/-- The RW and RWS fields of a word take a value by their access types alone (R56). -/
def State.putWord (s : State) (k : Kind) (p off v ini : Nat) : State :=
  let rw := pageMask k p .rw off
  let rws := pageMask k p .rws off
  let c := iniCopy k off ini
  let w := (s.word p off c).toNat
  let s := if rw = 0 then s else s.setWord p off (BitVec.ofNat 32 (mergeBits w v rw)) c
  if rws = 0 then s
  else s.setShadow p off (BitVec.ofNat 32 (mergeBits (s.shadowWord p off).toNat v rws))

/-- A write to the RW and RWS fields of the word at `off` of page `p` by initiator copy `ini`; RWS fields take it in their
shadow (R56).  The power die takes none while the die link is silent (R475). -/
def State.rwWrite (s : State) (p off v : Nat) (ini : Nat := 0) : State :=
  match pageKind? p with
  | none => s
  | some k =>
    if off = 0x008 then s.setEnable p (bitAt v 0)
    else if off = 0x014 then s.intEnWrite p v
    else if s.dieSilent p then s
    else match k with
      | .sys => State.msixAll s (s.putWord k p off v ini)
      | .link => (s.putWord k p off v ini).hopSync
      | .pmap =>
        if off = 0x108 ∨ off = 0x10C then s.pmapStageWrite 0 (putHalf s.stagedEntry (off == 0x10C) v)
        else if off = 0x110 ∨ off = 0x114 then
          s.pmapStageWrite 1 (putHalf (s.rd64 pgPMAP PMAP_MCAST_LO_MEMBER PMAP_MCAST_HI_MEMBER) (off == 0x114) v)
        else s.putWord k p off v ini
      | .bind =>
        if off = 0x108 ∨ off = 0x10C then
          let i := s.rd pgBIND BIND_SEL_INDEX
          { s with img := { s.img with bindSh := setVal s.img.bindSh i (putHalf (valAt s.img.bindSh i) (off == 0x10C) v) } }
        else s.putWord k p off v ini
      | .dio => if off = 0x198 then s.outHost (p - pgDIO) (v % 2 ^ 32) else s.putWord k p off v ini
      | .cog =>
        if 0x400 ≤ off ∧ off < 0x500 then s.cogStoreWrite (p - pgCOG) ((off - 0x400) / 4) v
        else if 0x140 ≤ off ∧ off < 0x1C0 ∧ off % 0x20 = 0 then s.cogCfgWrite (4 * (p - pgCOG) + (off - 0x140) / 0x20) v
        else if 0x140 ≤ off ∧ off < 0x1C0 ∧ off % 0x20 = 4 then s.cogClaimWrite (4 * (p - pgCOG) + (off - 0x140) / 0x20) v
        else s.putWord k p off v ini
      | .can => if 0x170 ≤ off ∧ off < 0x1C0 then s.txbWrite p off v ini else s.putWord k p off v ini
      | .mov =>
        if 0x100 ≤ off ∧ off < 0x700 ∧ s.rd pgMOV MOVn_STAT_STATE ((off - 0x100) / 0x20) = 1 then s
        else s.putWord k p off v ini
      | .axis =>
        let s := s.putWord k p off v ini
        if off = 0x208 then (List.range 32).foldl (fun s r => s.refSync r) s else s
      | .mir => State.mirMode (s.putWord k p off v ini)
      | .brg =>
        let s := s.putWord k p off v ini
        if 0x110 ≤ off ∧ off < 0x150 then { s with brg := { s.brg with pf := [] } } else s
      | .obs =>
        let s := (s.putWord k p off v ini).traceMode
        if s.on pgOBS OBS_TRC_CTRL_PINS_EN then s
        else State.wr { s with obs := { s.obs with pinQ := [] } } pgOBS OBS_TRC_STAT_PIN_FILL 0
      | _ => s.putWord k p off v ini

end Sys2Proof.Machine
end

