-- ==== Sys2Proof/Machine/Courses.lean ====
section
/-!
DEFINITION. Foundation and Courses (R606 to R622): images and their checks, the application of the Foundation, Course switches
and their cells, and the storing of images.  The switch itself takes place at a commit instant (Commit.lean).
-/
namespace Sys2Proof.Machine

/-! ## Images -/

/-- A record of an image (R609); `bad` where a reserved field is not 0 or COUNT is out of range. -/
structure CrsRec where
  typ : Nat
  page : Nat
  off : Nat
  node : Nat
  data : List Nat
  bad : Bool
  deriving DecidableEq, Repr

/-- The records of a body; none where they do not end exactly at its end (R609, R610). -/
def parseRecs : Nat → List Nat → Option (List CrsRec)
  | 0, l => if l.isEmpty then some [] else none
  | _ + 1, [] => some []
  | _ + 1, [_] => none
  | k + 1, a :: b :: l =>
    let n := bitsOf b 0 13
    if l.length < n then none
    else
      let bad := n == 0 || decide (4096 < n) || bitsOf a 12 4 != 0 || bitsOf b 13 3 != 0 || bitsOf b 27 5 != 0
        || bitsOf a 0 2 != 0
      let r : CrsRec := { typ := bitsOf a 28 4, page := bitsOf a 16 12, off := bitsOf a 0 12, node := bitsOf b 16 11,
                          data := l.take n, bad := bad }
      (parseRecs k (l.drop n)).map (r :: ·)

/-- LEN of an image header (R608). -/
def crsLen (l : List Byte) : Nat := leAt l 12 4

/-- GEN of an image header. -/
def crsGen (l : List Byte) : Nat := leAt l 8 4

/-- LINE_ID of an image header. -/
def crsLine (l : List Byte) : Nat := leAt l 16 2

/-- BODY_CRC of an image; 0 where there is none. -/
def crsSum (l : List Byte) : Nat := leAt l 56 4

/-- The records of an image, none where its body does not parse. -/
def crsRecs (l : List Byte) : Option (List CrsRec) :=
  let ws := leWords (crsLen l / 4) (l.drop 64)
  parseRecs (ws.length + 1) ws

/-- Check 1 of R610: MAGIC, HDR_CRC, KIND, reserved fields (R608). -/
def crsHeaderOk (kind : Nat) (l : List Byte) : Bool :=
  let id := leAt l 18 2
  leAt l 0 4 == 0x4B435253 && leAt l 60 4 == crc32c (l.take 60) && leAt l 4 1 == kind && leAt l 7 1 / 16 == 0
    && bitsOf id 14 2 == 0 && bitsOf id 11 1 == 0 && bitsOf (leAt l 20 2) 11 5 == 0 && bitsOf (leAt l 22 1) 5 3 == 0
    && leAt l 23 1 == 0 && (slice l 28 28).all (· == 0) && decide (leAt l 22 1 % 16 ≤ 8)
    && (!bitAt id 13 || id % 2048 == 1)
    && (kind == 0 || (leAt l 18 4 == 0 && leAt l 22 1 % 16 == 0))

/-- Check 2: BODY_CRC, and the records end exactly at LEN. -/
def crsBodyOk (l : List Byte) : Bool :=
  l.length == 64 + crsLen l && crsLen l % 4 == 0 && crsSum l == crc32c (l.drop 64) && (crsRecs l).isSome

/-- The fields a Course may write of the word at `off` of page `p`, as a mask; 0 for none (R606). -/
def courseMask (p off : Nat) : Nat :=
  match pageKind? p with
  | none => 0
  | some k =>
    let all := if 0x100 ≤ off then pageMask k p .rw off ||| pageMask k p .rws off else 0
    let en := b2n (off == 0x008)
    match k with
    | .img => if off = 0x104 then 0x773 else 0
    | .dio | .lane | .can | .zone => all + en
    | .axis | .bind => all
    | .slu => if p = pgSLU then 0 else if off = 0x100 ∨ off = 0x104 ∨ off = 0x108 then all else en
    | .cog => if 0x140 ≤ off ∧ off < 0x1C0 ∧ off % 0x20 = 4 then 0xFF00 else 0
    | .trk => if off = 0x100 ∨ 0x400 ≤ off ∧ off < 0x800 then all else 0
    | .lnch => if off = 0x100 then all else 0
    | .timeP => if off = 0x134 then all else 0
    | _ => 0

/-- Check 5: TYPE, PAGE, OFFSET and NODE of a record (R606, R609). -/
def recordOk (kind : Nat) (r : CrsRec) : Bool :=
  !r.bad && (if r.typ = 2 then kind == 0 && r.page == pgPMAP && r.off == 0 && r.node == 0
    else r.typ == 1 && (pageKind? r.page).isSome
      && (if r.off = 0x008 then r.data.all (fun w => decide (w < 2)) && r.data.length == 1
          else if r.off = 0x014 then kind == 0 && r.data.length == 1
          else decide (0x100 ≤ r.off ∧ r.off + 4 * r.data.length ≤ 0x1000))
      && (kind == 0 || (List.range r.data.length).all (fun i => courseMask r.page (r.off + 4 * i) != 0)))

/-- The entries of a SHARD_MAP record: key 8 × owner + segment and the entry as the shard table holds it (R609, R210). -/
def mapEntries : List Nat → List (Nat × Nat)
  | a :: b :: l =>
    let e := a + 2 ^ 32 * b
    (8 * bitsOf e 45 11 + bitsOf e 56 3, setBits e 45 14 0) :: mapEntries l
  | _ => []

/-- The shard map of a Foundation: its generation, the multicast membership, and the table; none where it fails R609 or
R254.  A Foundation without SHARD_MAP records has an empty table of generation 0. -/
def shardMap (rs : List CrsRec) : Option (Nat × Nat × SMap Nat) :=
  match rs.filter (fun r => r.typ == 2) with
  | [] => some (0, 0, [])
  | f :: l =>
    let first := f.data.getD 0 0
    let es := mapEntries (f.data.drop 3) ++ l.flatMap (fun r => mapEntries (r.data.drop 1))
    let ok := bitAt first 31 && decide (3 ≤ f.data.length) && f.data.length % 2 == 1
      && l.all (fun r => r.data.getD 0 1 == 0 && r.data.length % 2 == 1)
      && ascending (es.map (·.1)) && es.all (fun e => segCount e.2 != 0)
    if ok && (tableError es).isNone then some (first % 256, f.data.getD 1 0 + 2 ^ 32 * f.data.getD 2 0, es) else none

/-- The last IMG_EPOCH word among records that a hub of node ID `id` takes. -/
def epochWord (rs : List CrsRec) : Option Nat :=
  (rs.filter (fun r => r.typ == 1 && r.page == pgIMG && decide (r.off ≤ 0x104 ∧ 0x104 < r.off + 4 * r.data.length))).foldl
    (fun _ r => some (r.data.getD ((0x104 - r.off) / 4) 0)) none

/-- An IMG_EPOCH word lies within R212. -/
def epochOk (w : Nat) : Bool := decide (bitsOf w 0 3 ≤ 6 ∧ 1 ≤ bitsOf w 8 3) && w &&& 0x773 == w

/-- Check 6: IMG_EPOCH and the shard table. -/
def valuesOk (rs : List CrsRec) : Bool :=
  rs.all (fun r => !(r.typ == 1 && r.page == pgIMG && decide (r.off ≤ 0x104 ∧ 0x104 < r.off + 4 * r.data.length))
    || epochOk (r.data.getD ((0x104 - r.off) / 4) 0))
  && (shardMap rs).isSome

/-- The first failure of an image's checks, 0 where it is valid (R610); `line` is the Foundation's LINE_ID. -/
def imageError (kind : Nat) (l : List Byte) (line : Option Nat) : Nat :=
  if !crsHeaderOk kind l then 1
  else if !crsBodyOk l then 2
  else if leAt l 6 1 ≠ 0x4B ∨ leAt l 7 1 % 16 ≠ 3 then 3
  else if leAt l 5 1 / 16 ≠ 1 then 4
  else
    let rs := (crsRecs l).getD []
    if !rs.all (recordOk kind) then 5
    else if !valuesOk rs then 6
    else if (if kind = 0 then 98304 else 24576) < 64 + crsLen l then 7
    else if kind ≠ 0 ∧ line.any (fun x => x != crsLine l) then 8
    else 0

/-- The valid copy of an image with the highest GEN, and whether it is not the newest one (R607). -/
def State.pickImage (s : State) (kind : Nat) (line : Option Nat) : Option (List Byte × Bool) :=
  let copies := (s.flash.images.filter (fun c => c.kind == kind)).map (·.bytes)
  let best := (copies.filter (fun b => imageError kind b line == 0)).foldl (fun (a : Option (List Byte)) b => match a with
    | some x => if crsGen x < crsGen b then some b else a
    | none => some b) none
  best.map (fun b => (b, copies.head? != some b))

/-- CRS_STAT.PRESENT and CRS_SUMk for image k. -/
def State.crsHold (s : State) (k : Nat) (img : List Byte) : State :=
  let n := s.rd pgCRS CRS_STAT_PRESENT
  (s.wr pgCRS CRS_STAT_PRESENT (setBits n k 1 (b2n (!img.isEmpty)))).wr pgCRS CRS_SUMk_SUM (crsSum img) k

/-- Loads the Foundation and every Course from flash (R607, R611). -/
def State.loadImages (s : State) : State :=
  match s.pickImage 0 none with
  | none => s.crsHold 0 []
  | some (f, older) =>
    let s := State.crsHold { s with crs := { s.crs with fnd := f } } 0 f
    let s := s.wr pgCRS CRS_STAT_FND_OLDER (b2n older)
    (List.range 8).foldl (fun s i =>
      let k := i + 1
      let b := ((s.pickImage k (some (crsLine f))).map (·.1)).getD []
      State.crsHold { s with crs := { s.crs with course := s.crs.course.set (fun _ => []) k b } } k b) s

/-- The image of Course `k`, empty where it is absent. -/
def State.courseImg (s : State) (k : Nat) : List Byte := s.crs.course.get (fun _ => []) k

/-! ## What an image writes -/

/-- The words that an image writes on a hub of node ID `id`, in image order: page, offset, value (R609, R611). -/
def imgWrites (l : List Byte) (p : Nat → Bool) : List (Nat × Nat × Nat) :=
  (((crsRecs l).getD []).filter (fun r => r.typ == 1 && p r.node)).flatMap (fun r =>
    (List.range r.data.length).map (fun i => (r.page, r.off + 4 * i, r.data.getD i 0)))

/-- Where a write lands: the binding that BIND_SEL selects at 0x1000 + 8 × its index, the transmit buffer that CAN_TXB_SEL
selects at 0x8000 + 0x80 × its number, else the offset itself. -/
def landOff (k : Kind) (off sel : Nat) : Nat :=
  match k with
  | .bind => if off = 0x108 ∨ off = 0x10C then 0x1000 + 8 * sel + (off - 0x108) else off
  | .can => if 0x170 ≤ off ∧ off < 0x1C0 then 0x8000 + 0x80 * (sel % 32) + (off - 0x170) else off
  | _ => off

/-- The fields an image writes: by 2^20 × page + where they land, the mask and the value. -/
def assigned (ws : List (Nat × Nat × Nat)) : SMap (Nat × Nat) :=
  (ws.foldl (fun (a : SMap Nat × SMap (Nat × Nat)) w =>
    match pageKind? w.1 with
    | none => a
    | some k =>
      let sel := if (k == .bind && w.2.1 == 0x100) || (k == .can && w.2.1 == 0x158) then a.1.set (fun _ => 0) w.1 w.2.2
        else a.1
      let off := landOff k w.2.1 (sel.get (fun _ => 0) w.1)
      let m := courseMask w.1 w.2.1
      (sel, if m = 0 then a.2 else a.2.set (fun _ => (0, 0)) (2 ^ 20 * w.1 + off) (m, w.2.2 &&& m))) ([], [])).2

/-- What a place reads as after reset. -/
def landReset (key : Nat) : Nat :=
  if 0x1000 ≤ key % 2 ^ 20 then 0 else resetWordAt (key / 2 ^ 20) (key % 2 ^ 20)

/-- The fields that a switch from Course image `j` to Course image `k` over Foundation `f` sets: page, place, mask, value
(R612). -/
def courseChanges (f j k : SMap (Nat × Nat)) : List (Nat × Nat × Nat × Nat) :=
  let keys := (j.map (·.1) ++ k.map (·.1)).dedup
  keys.map (fun key =>
    let z : Nat → Nat × Nat := fun _ => (0, 0)
    let mj := (SMap.get z j key).1
    let (mk, vk) := SMap.get z k key
    let (mf, vf) := SMap.get z f key
    let base := mergeBits (landReset key) vf mf
    (key / 2 ^ 20, key % 2 ^ 20, mj ||| mk, mergeBits base vk mk))

/-- One word of an image goes into effect or shadow under no apply rule of software's: IMG_EPOCH is set at once (R609). -/
def State.imgWrite (s : State) (w : Nat × Nat × Nat) : State :=
  if w.1 = pgIMG ∧ w.2.1 = 0x104 then
    (s.setWord pgIMG 0x104 (BitVec.ofNat 32 (w.2.2 &&& 0x773))).wr pgIMG IMG_STAT_CFG_BAD 0
  else s.rwWrite w.1 w.2.1 w.2.2

/-- Writes of images, each of `pages` then applied once, then the EN bits; start-up sets CFG_GEN to 1 on the pages applied, whatever it
was (R55, R611). -/
def State.configure (s : State) (pages : List Nat) (ws : List (Nat × Nat × Nat)) : State :=
  let s := (ws.filter (fun w => w.2.1 != 0x008)).foldl (fun s w => s.imgWrite w) s
  let s := pages.foldl (fun s p => (s.effect p (s.shadowWords p)).1) s
  let s := (ws.filter (fun w => w.2.1 == 0x008)).foldl (fun s w => s.imgWrite w) s
  pages.foldl (fun s p => s.wr p CFG_GEN_W 1) s

/-- QUIET of a Course image; Course 0 counts as QUIET 0 (R608, R613). -/
def courseQuiet (c : List Byte) : Bool := bitAt (leAt c 22 1) 4

/-! ## Start-up -/

/-- The Foundation and the initial Course are applied, and the node enters JOIN (R84, R606, R611); with TEST_EN low the TAP's
disable fuse is blown (R718). -/
def State.applyFoundation (s : State) : State :=
  let f := s.crs.fnd
  let id := leAt f 18 2
  let pos := bitAt id 12
  let anchor := bitAt id 13
  let s := { s with ring := { s.ring with
    configured := true, planned := leAt f 20 2 % 2048,
    want := if s.ring.fixedNow then s.ring.want else if pos && !anchor then 0 else id % 2048 } }
  let s := ((s.wr pgLINK RING_LINE_LINE_ID (crsLine f)).wr pgLINK RING_ID_MODE (b2n (pos && !s.ring.fixedNow))).wr pgLINK RING_ID_ANCHOR (b2n anchor)
  let s := match shardMap ((crsRecs f).getD []) with
    | some (gen, mc, t) =>
      let s := { s with img := { s.img with cur := t.keep (fun k => decide (8 ≤ k)), prev := [], advAt := 0, heldFrom := 0 } }
      let s := (s.wr pgSWC SWC_MAPGEN_CURRENT gen).wr pgPMAP PMAP_STAT_NEXT_GEN ((gen + 1) % 256)
      s.wr64 pgSWC SWC_MCAST_CUR_LO_MEMBER SWC_MCAST_CUR_HI_MEMBER mc
    | none => s
  let k := leAt f 22 1 % 16
  let c := if k = 0 then [] else s.courseImg k
  let k := if c.isEmpty then 0 else k
  let s := s.configure allPages (imgWrites f (· == 0) ++ imgWrites c (· == 0))
  let s := State.wr { s with crs := { s.crs with active := c } } pgCRS CRS_STAT_COURSE k
  let s := if s.rd pgPWRST PWRST_STATE_DETAIL = 1 then s.wr pgPWRST PWRST_STATE_DETAIL 0 else s
  let s := { s with rst := { s.rst with fuse := s.rst.fuse || !s.rst.testEn } }
  let s := ((s.stepDone 4).setNode nsJOIN).detailSync
  let s := { s with rst := { s.rst with quiet := if courseQuiet c then some (true, s.now) else s.rst.quiet } }
  ((s.linkEnable pgLINK).linkEnable (pgLINK + 1)).portsSync

/-- Step 4 where start-up has reached it: the images are loaded; an absent or invalid Foundation leaves the hub in BOOT with
DETAIL NO_FOUNDATION (R86, R611). -/
def State.foundation (s : State) : State :=
  if s.node = nsBOOT ∧ s.hkUp ∧ s.rd pgPWRST PWRST_STATE_STEP = 3 then
    let s := s.loadImages
    if s.crs.fnd.isEmpty then s.wr pgPWRST PWRST_STATE_DETAIL 1 else s.applyFoundation
  else s

/-- FOUNDATION_APPLY (R611). -/
def execFoundationApply (s : State) : Res := .next s.foundation

/-- CLAIM_HELD: 10 ms after the first claim without a refusal the claim is HELD; the records that name this hub's ID are
applied, and the binding table again (R123, R611). -/
def execClaimHeld (s : State) : Res :=
  if s.rd pgLINK RING_ID_CLAIM = 1 ∧ s.node ≠ nsHOLD ∧ s.node ≠ nsRECOVERY then
    let s := s.claimHeld
    let mine (n : Nat) : Bool := n != 0 && n == s.nodeId
    let ws := imgWrites s.crs.fnd mine ++ imgWrites s.crs.active mine
    let s := (s.configure (ws.map (·.1)).dedup ws).bindTake
    .next (s.wr pgBIND CFG_GEN_W 1)
  else .next s

/-! ## A Course takes effect -/

/-- CRS_STAT and CRS_ARMED follow the armed switch. -/
def State.crsArm (s : State) (a : Option CrsArm) : State :=
  let s := { s with crs := { s.crs with arm := a } }
  let s := (s.wr pgCRS CRS_STAT_ARMED (b2n a.isSome)).wr pgCRS CRS_STAT_ARMED_COURSE ((a.map (·.course)).getD 0)
  s.wr64 pgCRS CRS_ARMED_LO_W CRS_ARMED_HI_W ((a.map (·.epoch)).getD ones64)

/-- The Course in force. -/
def State.course (s : State) : Nat := s.rd pgCRS CRS_STAT_COURSE

/-- The fields a switch to image `c` sets on this hub. -/
def State.changesTo (s : State) (c : List Byte) : List (Nat × Nat × Nat × Nat) :=
  let mine (n : Nat) : Bool := n == 0 || n == s.nodeId
  courseChanges (assigned (imgWrites s.crs.fnd mine)) (assigned (imgWrites s.crs.active mine)) (assigned (imgWrites c mine))

/-- IMG_EPOCH under a switch with these changes. -/
def State.epochUnder (s : State) (cs : List (Nat × Nat × Nat × Nat)) : Nat :=
  match cs.find? (fun c => c.1 == pgIMG && c.2.1 == 0x104) with
  | some c => c.2.2.2
  | none => (s.word pgIMG 0x104).toNat

/-- IMG_EPOCH is set by a Course: at once on a hub that is not locked; on a locked one from epoch E + SETTLE on, with a new
base where EPOCH_LEN or SETTLE changes (R213, R619). -/
def State.courseEpoch (s : State) (e : Option Nat) (w : Nat) : State :=
  let old := (s.word pgIMG 0x104).toNat
  let s := s.wr pgIMG IMG_STAT_CFG_BAD 0
  if old = w then s
  else match e with
    | none =>
      let s := s.setWord pgIMG 0x104 (BitVec.ofNat 32 w)
      if s.locked && decide (s.baseT ≤ s.ringNow) then s.setEpoch (s.baseN + (s.ringNow - s.baseT) / s.epochLen) else s
    | some n =>
      let base := if old % 256 = w % 256 then s.tS (n + s.settle_) else s.tC n + (s.settle_ - 1) * s.epochLen
      { s with time := { s.time with nextBase := some (n + s.settle_, base, w) } }

/-- One word of a Course goes to its shadow, or into effect where it is RW (R612). -/
def State.courseWord (s : State) (k : Kind) (p : Nat) (c : Nat × Nat × Nat) : State :=
  let (off, m, v) := c
  if 0x8000 ≤ off then
    let n := p - pgCAN
    let x := s.canSt n
    let b := (off - 0x8000) / 0x80
    let f := x.buf.get (fun _ => {}) b
    let i := (off - 0x8000) % 0x80 / 4
    let f := if i = 0 then { f with idw := mergeBits f.idw v m }
      else if i = 1 then { f with ctl := mergeBits f.ctl v m }
      else { f with data := f.data.set (fun _ => 0) (i - 4) (mergeBits (f.data.get (fun _ => 0) (i - 4)) v m) }
    s.setCan n { x with buf := x.buf.set (fun _ => {}) b { f with bad := false } }
  else
    let rws := pageMask k p .rws off
    s.rwWrite p off (mergeBits (mergeBits (s.word p off).toNat (s.shadowWord p off).toNat rws) v m)

/-- A Course's changes of one page take effect, EN last (R612, R617). -/
def State.coursePage (s : State) (p : Nat) (cs : List (Nat × Nat × Nat)) : State :=
  match pageKind? p with
  | none => s
  | some .img => s
  | some .cog => cs.foldl (fun s c => s.setWord p c.1 (BitVec.ofNat 32 (mergeBits (s.word p c.1).toNat c.2.2 c.2.1))) s
  | some .bind =>
    let put (t : SMap Nat) : SMap Nat := (cs.filter (fun c => decide (0x1000 ≤ c.1))).foldl (fun t c =>
      let i := (c.1 - 0x1000) / 8
      setVal t i (putHalf (valAt t i) (c.1 % 8 == 4) c.2.2)) t
    let s := (cs.filter (fun c => decide (c.1 < 0x1000))).foldl (fun s c => s.courseWord .bind p c) s
    State.bindTakeOf { s with img := { s.img with bindSh := put s.img.bindSh } } (put s.img.bindLive)
  | some k =>
    let plain := cs.filter (fun c => c.1 != 0x008)
    let s := plain.foldl (fun s c => s.courseWord k p c) s
    let ws := plain.filterMap (fun c =>
      let w := (s.word p c.1).toNat
      let v := mergeBits w c.2.2 (c.2.1 &&& pageMask k p .rws c.1)
      if 0x1000 ≤ c.1 ∨ v = w then none else some (c.1, v))
    let s := if ws.isEmpty then s else (s.effect p ws).1
    match cs.find? (fun c => c.1 == 0x008) with
    | some c => s.setEnable p (bitAt c.2.2 0)
    | none => s

/-- Course `k` with image `c` takes effect: every field at once, CFG_GEN and APPLIED on every page that the old or the new
Course writes or that `armed` lists, the Course in force since epoch `since`, SWITCHED (R612, R617).  `e` is the switch's
epoch on a locked hub. -/
def State.courseTake (s : State) (k : Nat) (c : List Byte) (since : Nat) (e : Option Nat) (armed : List Nat) : State :=
  let cs := s.changesTo c
  let pages := (cs.map (·.1)).dedup
  let s := if pages.contains pgIMG then s.courseEpoch e (s.epochUnder cs) else s
  let s := pages.foldl (fun s p => s.coursePage p ((cs.filter (fun x => x.1 == p)).map (·.2))) s
  let s := (pages ++ armed).dedup.foldl (fun s p => s.copied p) s
  let s := State.wr { s with crs := { s.crs with active := c } } pgCRS CRS_STAT_COURSE k
  ((s.wr64 pgCRS CRS_SINCE_LO_W CRS_SINCE_HI_W since).irq pgCRS 2).count pgCRS 0

/-- The hub does not follow a switch (R618). -/
def State.crsMismatch (s : State) : State := (s.wr pgCRS CRS_STAT_MISMATCH 1).irq pgCRS 4

/-- This hub's image of Course `k` where it has the sum that the switch names; Course 0 is no image (R618). -/
def State.courseFor (s : State) (k sum : Nat) : Option (List Byte) :=
  if k = 0 then some []
  else
    let c := s.courseImg k
    if c.isEmpty || crsSum c != sum then none else some c

/-! ## COURSE_SWITCH cells -/

/-- The payload of a COURSE_SWITCH cell (R615). -/
def switchPayload (epoch kind armedCourse course issuer sum stamp armedEpoch : Nat) : List Byte :=
  beBytes 8 epoch ++ beBytes 1 (kind + armedCourse * 16) ++ beBytes 1 course ++ beBytes 2 issuer ++ beBytes 4 sum
    ++ beBytes 8 stamp ++ beBytes 8 armedEpoch

/-- BODY_CRC of this hub's copy of a Course, 0 for Course 0 (R615). -/
def State.courseSum (s : State) (k : Nat) : Nat := if k = 0 then 0 else crsSum (s.courseImg k)

/-- Why CRS_CMD SWITCH is refused, 0 where it is accepted (R614). -/
def State.switchBad (s : State) (e k : Nat) : Nat :=
  let w := s.epochUnder (s.changesTo (if k = 0 then [] else s.courseImg k))
  let moves := decide (w % 256 ≠ (s.word pgIMG 0x104).toNat % 256)
  if s.crs.arm.isSome then 1
  else if k ≠ 0 ∧ (s.courseImg k).isEmpty then 2
  else if e < s.epoch + s.settle_ + 2 ∨ s.epoch + s.settle_ + 2 + 65536 < e
      ∨ (moves ∧ (s.tC e + (s.settle_ - 1) * s.epochLen) % 16000000 ≠ 0) then 3
  else if !(s.node == nsSERVICE || s.node == nsQUIET) || !s.locked then 4
  else if !s.enabled pgCRS then 5
  else 0

/-- CRS_SWITCH: CRS_CMD SWITCH with KEY 0x3C (R614, R625). -/
def execCrsSwitch (ini : Initiator) (course key : Nat) (s : State) : Res :=
  if !s.takes pgCRS then .next s else
  if s.hkPaused then .next (s.hkDefer ini pgCRS 0x120 (1 + course % 16 * 16 + key % 256 * 2 ^ 24))
  else if !s.takes pgCRS || key != 0x3C || decide (8 < course) then .next s
  else
    let e := s.rd64 pgCRS CRS_TARGET_LO_W CRS_TARGET_HI_W 0 ini.num
    let r := s.switchBad e course
    let s := s.wr pgCRS CRS_RES_RESULT r 0 ini.num
    if r ≠ 0 then .next s
    else
      let a : CrsArm := { epoch := e, course := course, sum := s.courseSum course, stamp := s.ringNow, issuer := s.nodeId }
      let p := switchPayload e 1 0 course s.nodeId a.sum a.stamp ones64
      let s := (s.crsArm (some a)).irq pgCRS 3
      let s := { s with crs := { s.crs with sends := some (p, 3, s.now + 1000000) } }
      .next (s.originate 2 0 tCOURSE_SWITCH p)

/-- COURSE_SWITCH_REPEAT: 1 ms after the one before, 4 in all (R614). -/
def execCourseSwitchRepeat (s : State) : Res :=
  match s.crs.sends with
  | none => .next s
  | some (p, n, at_) =>
    let s := s.passTo at_
    let s := { s with crs := { s.crs with sends := if n ≤ 1 then none else some (p, n - 1, at_ + 1000000) } }
    .next (s.originate 2 0 tCOURSE_SWITCH p)

/-- A switch arms, replaces the armed one, or is ignored (R616, R618). -/
def State.armSwitch (s : State) (a : CrsArm) : State :=
  if s.node = nsBOOT ∨ s.node = nsHOLD ∨ s.node = nsRECOVERY ∨ s.crs.arm = some a then s
  else if s.locked && decide (s.tC a.epoch < s.ringNow + 1000) then s.count pgCRS 2
  else match s.crs.arm with
    | none => (s.crsArm (some a)).irq pgCRS 3
    | some b =>
      if a.epoch < b.epoch ∨ (a.epoch = b.epoch ∧ (b.stamp < a.stamp ∨ (a.stamp = b.stamp ∧ b.issuer < a.issuer)))
      then ((s.crsArm (some a)).irq pgCRS 3).count pgCRS 3
      else s

/-- The STATE answer to a QUERY (R615, R621). -/
def State.answerQuery (s : State) (dest : Nat) : State :=
  let a := s.crs.arm
  let p := switchPayload (s.rd64 pgCRS CRS_SINCE_LO_W CRS_SINCE_HI_W) 3 ((a.map (·.course)).getD 0) s.course
    ((a.map (·.issuer)).getD s.nodeId) (s.courseSum s.course) ((a.map (·.stamp)).getD s.ringNow) ((a.map (·.epoch)).getD ones64)
  (s.originate 0 dest tCOURSE_SWITCH p).count pgCRS 6

/-- A STATE adopted by a hub that asked: the ring's Course at once where its own copy matches, and the armed switch (R621). -/
def State.adoptState (s : State) (p : List Byte) : State :=
  let k := beAt p 9 1 % 16
  let sum := beAt p 12 4
  let since := beAt p 0 8
  let s := { s with crs := { s.crs with answered := true } }
  let s := match s.courseFor k sum with
    | none => s.crsMismatch
    | some c =>
      if k = s.course ∧ c = s.crs.active then s.wr64 pgCRS CRS_SINCE_LO_W CRS_SINCE_HI_W since
      else
        let s := s.courseTake k c since none []
        { s with rst := { s.rst with quiet := some (courseQuiet c, s.now) } }
  let ae := beAt p 24 8
  if ae = ones64 then s
  else
    let ak := beAt p 8 1 / 16
    s.armSwitch { epoch := ae, course := ak, sum := s.courseSum ak, stamp := beAt p 16 8, issuer := beAt p 10 2 % 2048 }

/-- COURSE_SWITCH_RX: SWITCH arms, QUERY from a link neighbour is answered by a FULL hub, STATE is adopted (R616, R621). -/
def execCourseSwitchRx (s : State) : Res :=
  if !s.hkUp then .next s
  else match s.takeCell 4 tCOURSE_SWITCH with
    | none => .next s
    | some (r, s) =>
      let p := r.cell.payload
      let s := s.count pgCRS 1
      match beAt p 8 1 % 16 with
      | 1 => .next (s.armSwitch { epoch := beAt p 0 8, course := beAt p 9 1 % 16, sum := beAt p 12 4, stamp := beAt p 16 8,
                                  issuer := beAt p 10 2 % 2048 })
      | 2 =>
        let near := r.cell.src == s.rd pgLINK LINK_STAT_NEIGH_ID || r.cell.src == s.rd (pgLINK + 1) LINK_STAT_NEIGH_ID
        .next (if near && s.on pgIMG IMG_STAT_FULL then s.answerQuery r.cell.src else s)
      | 3 =>
        let joins := !s.crs.answered && s.crs.query.isSome && decide (nsJOIN ≤ s.node ∧ s.node ≤ nsQUIET)
        .next (if joins then s.adoptState p else s)
      | _ => .next s

/-- COURSE_QUERY_TX: a hub whose first link has come UP asks every 64 ms until it has a STATE; after an
activation pause it asks once (R621, R638). -/
def execCourseQueryTx (s : State) : Res :=
  if s.time.firstUp.isSome && s.hkUp && !s.crs.answered && !(s.crs.once && s.crs.query.isSome) && s.heldId && decide (nsJOIN ≤ s.node ∧ s.node ≤ nsQUIET) then
    let s := match s.crs.query with
      | some t => s.passTo (t + 64000000)
      | none => s
    let s := { s with crs := { s.crs with query := some s.now } }
    .next (s.originate 2 0 tCOURSE_SWITCH (switchPayload ones64 2 0 0 s.nodeId 0 s.ringNow ones64))
  else .next s

/-! ## Storing images -/

/-- CRS_STORE_STAT of a session, or with none. -/
def State.storeSync (s : State) : State :=
  let x := s.crs.store
  let s := s.wr pgCRS CRS_STORE_STAT_STATE (match x with
    | some y => if y.writing then 2 else 1
    | none => 0)
  let s := s.wr pgCRS CRS_STORE_STAT_OWNER ((x.map (·.ini.num)).getD 0)
  s.wr pgCRS CRS_STORE_STAT_WORDS (min 0xFFFF ((x.map (·.words.length)).getD 0))

/-- Writes the session. -/
def State.setStore (s : State) (x : Option CrsStore) : State := State.storeSync { s with crs := { s.crs with store := x } }

/-- A store fails: ERROR, STORE_FAIL, counter 5 (R622, R627). -/
def State.storeFail (s : State) (e : Nat) : State := ((s.wr pgCRS CRS_STORE_STAT_ERROR e).irq pgCRS 6).count pgCRS 5

/-- A store command is taken: the page takes commands and KEY is right (R626). -/
def State.storeTakes (s : State) (key : Nat) : Bool := s.takes pgCRS && key == 0x3C

/-- CRS_STORE_OPEN (R622). -/
def execCrsStoreOpen (ini : Initiator) (image key : Nat) (s : State) : Res :=
  if !s.takes pgCRS then .next s else
  if s.hkPaused then .next (s.hkDefer ini pgCRS 0x130 (1 + image % 16 * 16 + key % 256 * 2 ^ 24))
  else if !s.storeTakes key || decide (8 < image) then .next s
  else match s.crs.store with
    | some x =>
      if x.ini = ini ∧ !x.writing then
        .next ((s.wr pgCRS CRS_STORE_STAT_ERROR 0).setStore (some { ini := ini, image := image, at_ := s.now }))
      else .next (s.storeFail 9)
    | none => .next ((s.wr pgCRS CRS_STORE_STAT_ERROR 0).setStore (some { ini := ini, image := image, at_ := s.now }))

/-- CRS_STORE_DATA: the holder's write appends a word (R622, R626). -/
def execCrsStoreData (ini : Initiator) (data : Nat) (s : State) : Res :=
  if !s.takes pgCRS then .next s else
  if s.hkPaused then .next (s.hkDefer ini pgCRS 0x134 data)
  else match s.crs.store with
    | some x =>
      if s.takes pgCRS && x.ini == ini && !x.writing then
        .next (s.setStore (some { x with words := data % 2 ^ 32 :: x.words, at_ := s.now }))
      else .next s
    | none => .next s

/-- The bytes of a session's image. -/
def CrsStore.bytes (x : CrsStore) : List Byte := x.words.reverse.flatMap (leBytes 4)

/-- CRS_STORE_COMMIT: the image is validated and its write starts (R622). -/
def execCrsStoreCommit (ini : Initiator) (key : Nat) (s : State) : Res :=
  if !s.takes pgCRS then .next s else
  if s.hkPaused then .next (s.hkDefer ini pgCRS 0x130 (2 + key % 256 * 2 ^ 24))
  else match s.crs.store with
    | some x =>
      if !(s.storeTakes key && x.ini == ini && !x.writing) then .next s
      else
        let line := if s.crs.fnd.isEmpty then none else some (crsLine s.crs.fnd)
        let e := imageError x.image x.bytes line
        if e ≠ 0 then .next ((s.setStore none).storeFail e)
        else if s.on pgDRS DRS_WEARr_A_EXHAUSTED 1 then .next ((s.setStore none).flashWorn.storeFail 0xA)
        else .next (s.setStore (some { x with writing := true }))
    | none => .next s

/-- CRS_STORE_DONE: the copy is written; a stored Course is what the next switch takes, a stored Foundation takes effect at
the next hub reset, or at once in BOOT with NO_FOUNDATION (R607, R622). -/
def execCrsStoreDone (s : State) : Res :=
  match s.crs.store with
  | some x =>
    if !x.writing then .next s
    else
      let b := x.bytes
      let c : CrsCopy := { kind := x.image, bytes := b }
      let s := { s with flash := { s.flash with images := c :: s.flash.images.filter (fun y => y.kind != x.image) } }
      let s := (s.setStore none).crsHold x.image b
      let s := if x.image = 0 then s
        else { s with crs := { s.crs with course := s.crs.course.set (fun _ => []) x.image b } }
      let s := ((s.wr pgCRS CRS_STORE_STAT_ERROR 0).irq pgCRS 5).count pgCRS 4
      .next (if x.image = 0 ∧ s.rd pgPWRST PWRST_STATE_DETAIL = 1 then s.foundation else s)
  | none => .next s

/-- CRS_STORE_ABORT (R622). -/
def execCrsStoreAbort (ini : Initiator) (key : Nat) (s : State) : Res :=
  if !s.takes pgCRS then .next s else
  if s.hkPaused then .next (s.hkDefer ini pgCRS 0x130 (3 + key % 256 * 2 ^ 24))
  else match s.crs.store with
    | some x => .next (if s.storeTakes key && x.ini == ini && !x.writing then s.setStore none else s)
    | none => .next s

/-- CRS_STORE_TIMEOUT: 10 s without a data write (R622). -/
def execCrsStoreTimeout (s : State) : Res :=
  match s.crs.store with
  | some x => .next (if x.writing then s else (s.passTo (x.at_ + 10 ^ 10)).setStore none)
  | none => .next s

end Sys2Proof.Machine
end

