-- ==== Sys2Proof/Machine/Epoch.lean ====
section
/-!
DEFINITION. The start of an epoch (R194, R215 to R217, R242, R619): the time base, a point-map advance, the capture of owned
inputs, the change set that the owner will publish, and the private captures of a Bedstone (R567).
-/
namespace Sys2Proof.Machine

/-! ## Captures -/

/-- The low `n` bits of INT values as a sum. -/
def bitSum (n : Nat) (f : Nat → Bool) : Nat := (List.range n).foldl (fun a j => a + b2n (f j) * 2 ^ j) 0

/-- A point of DIO_COND: STUCK and CHATTER of 16 lines (R269). -/
def State.dioCond (s : State) (page sub : Nat) : Nat :=
  bitSum 32 (fun j =>
    let k := 32 * page + 16 * sub + j / 2
    if j % 2 = 0 then s.dioBit k DIO_STUCK_W else s.dioBit k DIO_CHATTER_W)

/-- The port status word of a CAN_MBX binding (R427). -/
def State.canStatus (s : State) (n : Nat) : Nat :=
  let p := canPg n
  s.rd p CAN_ERR_TEC + s.rd p CAN_ERR_REC * 2 ^ 8 + s.canState n * 2 ^ 16 + s.zState n * 2 ^ 18
    + s.rd p CAN_SCHED_STAT_RUNNING * 2 ^ 21

/-- A telemetry item of the power die (R22, R478): the one of the last sample received; bit 31 is STALE. -/
def State.powerItem (s : State) (inst sub : Nat) : Nat :=
  let fresh := match s.pwd.sampleAt with
    | some t => decide (s.now ≤ t + 100000)
    | none => false
  if 4 ≤ sub then 0 else s.pwd.items.get (fun _ => 0) (4 * (inst - 0xA0) + sub) + b2n (!fresh) * 2 ^ 31

/-- A telemetry item (R478, R596); items that the spec does not list read 0. -/
def State.telemItem (s : State) (inst sub : Nat) : Nat :=
  if inst ≤ 1 then s.logicItem inst sub
  else if 0xA0 ≤ inst ∧ inst ≤ 0xA8 then s.powerItem inst sub
  else 0

/-- What an input binding of another kind than AXIS supplies now, for a point of width `w` (R216, R269, R370, R404, R427). -/
def State.bound (s : State) (e w : Nat) : Nat :=
  let i := bINST e
  let u := bSUB e
  match bKIND e with
  | 1 => bitSum w (fun j => s.dioBit (32 * i + u + j) DIO_IN_W != bINVERT e)
  | 2 => s.rd (pgDIO + i) DIO_CNTj_COUNT u
  | 3 => s.dioCond i u
  | 5 => if u < 7 then s.rd (lanePg i) LANE_RXMBXm_VALUE u else 0
  | 6 => if u < 4 then s.cogMbx i u
      else if u = 4 then (s.cogSt i).sigs
      else if u = 5 then s.cogStat i
      else 0
  | 7 => if u < 16 then s.rd (canPg i) CAN_RMBXk_VAL_VALUE u
      else if u = 16 then (s.canSt i).rxCount
      else if u = 17 then s.canStatus i
      else if u = 18 then (s.canSt i).missCount
      else 0
  | 8 => s.telemItem i u
  | _ => 0

/-- The width of point `i` in a shard table. -/
def pointWidth (t : SMap Nat) (i : Nat) : Nat := ((pointEntry t i).map (fun e => segWidth e.2)).getD 32

/-- The axis records of every axis of an enabled AXIS page at t_s = `t`: position and T_LO by axis (R296). -/
def State.axisRecords (s : State) (t : Nat) : State × List (Nat × Nat) :=
  (List.range 16).foldl (fun (a : State × List (Nat × Nat)) k =>
    if s.enabled pgAXIS then
      let (u, pos, lo) := a.1.axisRecord k t
      (u, a.2 ++ [(pos, lo)])
    else (a.1, a.2 ++ [(a.1.rd pgAXIS AXISn_POS_POS k, 0)])) (s, [])

/-- The values that the input bindings supply, by point; a point bound to a discrete line keeps its value of `old` in QUIET
(R92, R216). -/
def State.captures (s : State) (old : SMap Nat) (axes : List (Nat × Nat)) : SMap Nat :=
  (s.bindings.filter (fun e => isInput (bKIND e))).foldl (fun m e =>
    let i := bPOINT e
    if bKIND e = 4 then
      let r := axes.getD (bINST e) (0, 0)
      setVal (setVal m i (r.1 % 2 ^ pointWidth s.img.cur i)) (i + 1) (r.2 % 2 ^ pointWidth s.img.cur (i + 1))
    else
      let w := pointWidth s.img.cur i
      let v := if s.node == nsQUIET && decide (bKIND e ≤ 3) then valAt old i else s.bound e w
      setVal m i (v % 2 ^ w)) []

/-! ## Publishing -/

/-- The value of a demand point for epoch `n`; its starting value counts as issued at τ = 0 by writer 0 (R724).  For a point
that comes into a shard in publication with no demand the spec states no value: a free value. -/
def State.demandValue (s : State) (n i w : Nat) (begins : Bool) : State × Nat :=
  let d := s.demandOf i
  match d.upTo n with
  | some v => (s, v % 2 ^ w)
  | none =>
    let (s, v) := if begins then (s, s.startValue s.pubId i) else (s.drawn, s.freeVal)
    let v := v % 2 ^ w
    (s.setDemand i (if d.known then { d with held := some v } else { value := v, epoch := n }), v)

/-- The values of the points of the published shard in epoch `n` (R216). -/
def State.pointValues (s : State) (n : Nat) (begins : Bool) (caps : SMap Nat) (pts : List (Nat × Nat)) : State × SMap Nat :=
  pts.foldl (fun (a : State × SMap Nat) q =>
    if a.1.hasInput q.1 then (a.1, setVal a.2 q.1 (valAt caps q.1 % 2 ^ q.2))
    else
      let (u, v) := a.1.demandValue n q.1 q.2 begins
      (u, setVal a.2 q.1 v)) (s, [])

/-- The change set against the values of the epoch before; every point in a FULL epoch (R217). -/
def changeSet (full : Bool) (old new : SMap Nat) (pts : List (Nat × Nat)) : List (Nat × Nat) :=
  ((List.range pts.length).zip pts).filterMap (fun e =>
    if full || valAt old e.2.1 != valAt new e.2.1 then some (e.1, valAt new e.2.1) else none)

/-- REPLAY copies of epochs published under another ID or tenure are freed (R724). -/
def State.replayFresh (s : State) (owner tenure : Nat) : State :=
  let mine (e : Nat) : Bool := s.img.own.any (fun x => x.epoch == e && x.owner == owner && x.tenure == tenure)
  State.replaySync { s with sw := { s.sw with replay := s.sw.replay.filter (fun r => mine r.epoch) } }

/-- The owner takes up epoch `n` with values `vals` (R214, R217, R219, R221). -/
def State.ownEpoch (s : State) (n : Nat) (full : Bool) (vals : SMap Nat) (pts : List (Nat × Nat)) : State :=
  let x : OwnEpoch := {
    epoch := n, owner := s.pubId, tenure := s.rd pgIMG IMG_OWN_TENURE, gen := s.genAt n, full := full,
    entries := changeSet full s.img.ownVals vals pts,
    digest := digestOf (pts.map (fun q => (q.1, valAt vals q.1))), vals := vals, pts := pts.map (·.1) }
  { s with img := { s.img with own := (x :: s.img.own.filter (fun y => y.epoch != n)).take 16, ownVals := vals,
                               forceFull := false } }

/-- The points whose capture a Bedstone keeps, with their width, and whether an offset applies (R567). -/
def State.privatePoints (s : State) : List (Nat × Nat × Bool) :=
  (s.bindings.filter (fun e => decide (1 ≤ bKIND e ∧ bKIND e ≤ 4))).flatMap (fun e =>
    let w := pointWidth s.img.cur (bPOINT e)
    if bKIND e = 4 then [(bPOINT e, 32, true), (bPOINT e + 1, 32, false)] else [(bPOINT e, w, bKIND e == 2)])

/-- The values of epoch E = `n` (R575): private captures with their offsets, the demand state as of t_s(E), and for every other
point its value in E − 1. -/
def State.takeoverVals (s : State) (n : Nat) : SMap Nat :=
  let o := s.shardId
  let prev := (((s.shard o).before? n).map (·.vals)).getD []
  let caps := (s.twin.caps.find? (fun c => c.1 == n)).map (·.2)
  let priv := s.privatePoints
  (shardPoints s.img.cur o).foldl (fun m q =>
    let old := valAt prev q.1
    let v := match priv.find? (fun p => p.1 == q.1), caps with
      | some p, some c => if p.2.2 then valAt c q.1 + valAt s.twin.offs q.1 else valAt c q.1
      | some _, none => old
      | none, _ =>
        if s.hasInput q.1 then old else ((s.demandOf q.1).upTo n).getD old
    setVal m q.1 (v % 2 ^ q.2)) []

/-- A demand point without a record keeps its value in E, as issued at τ = 0 by writer 0 (R724). -/
def State.takeoverDemands (s : State) (n : Nat) (vals : SMap Nat) : State :=
  (shardPoints s.img.cur s.shardId).foldl (fun s q =>
    if s.hasInput q.1 || (s.demandOf q.1).known then s
    else s.setDemand q.1 { value := valAt vals q.1, epoch := n }) s

/-- This hub publishes epoch `n` from here on; the first epoch after one that it did not publish is FULL (R214, R243, R249,
R724). -/
def State.beginPublish (s : State) (n : Nat) (axes : List (Nat × Nat)) : State :=
  let begins := s.img.lastPub ≠ some (n - 1) ∨ n = 0
  let s := s.wr pgIMG IMG_OWN_OWNER s.pubId
  let s := if begins then s.replayFresh s.pubId (s.rd pgIMG IMG_OWN_TENURE) else s
  let pts := shardPoints s.img.cur s.pubId
  if s.twin.first == some n then
    let vals := s.takeoverVals n
    State.ownEpoch { s.takeoverDemands n vals with twin := { s.twin with first := none } } n true vals pts
  else
    let (s, vals) := s.pointValues n begins (s.captures s.img.ownVals axes) pts
    s.ownEpoch n (begins || s.img.forceFull) vals pts

/-! ## A Bedstone's captures -/

/-- The offset of each counting binding, from the newest epoch that is verified and privately captured (R567). -/
def State.twinOffsets (s : State) : State :=
  let sh := s.shard s.shardId
  match s.twin.caps.find? (fun c => (sh.at? c.1).isSome) with
  | none => s
  | some (e, caps) =>
    let vals := ((sh.at? e).map (·.vals)).getD []
    let offs := (s.privatePoints.filter (fun p => p.2.2)).foldl (fun m p =>
      setVal m p.1 ((valAt vals p.1 + 2 ^ p.2.1 - valAt caps p.1 % 2 ^ p.2.1) % 2 ^ p.2.1)) []
    { s with twin := { s.twin with offs := offs } }

/-- The Bedstone's capture at t_s(n), held for 16 epochs. -/
def State.twinCapture (s : State) (n : Nat) (axes : List (Nat × Nat)) : State :=
  let s := s.twinOffsets
  let old := ((s.twin.caps.head?).map (·.2)).getD []
  { s with twin := { s.twin with caps := ((n, s.captures old axes) :: s.twin.caps).take 16 } }

/-! ## The start of an epoch -/

/-- An armed map becomes current at t_s(m): owners that are new to the map are not PENDING, points that left this hub's shard
lose their demands, and bindings are checked (R242, R243, R271). -/
def State.takeMap (s : State) (m : Nat) : State :=
  if !(s.pmapState == 2 && decide (s.pmapAt ≤ m)) then s
  else
    let fresh := (tableOwners s.img.stg).filter (fun o => !(tableOwners s.img.cur).contains o)
    let s := fresh.foldl (fun s o => s.setShard o { s.shard o with pend := false, states := [] }) s
    let s := s.mapAdvance m
    let s := { s with img := { s.img with dem := s.img.dem.keep (fun i => pointOwner s.img.cur i == s.shardId) } }
    s.bindOrphans

/-- REPLAY frees its copies of epoch `n` − 8 as the hub begins to publish epoch `n` (R148). -/
def State.replayFree (s : State) (n : Nat) : State :=
  State.replaySync { s with sw := { s.sw with
    replay := s.sw.replay.filter (fun e => decide (n < e.epoch + 8)),
    replayBroken := s.sw.replayBroken.filter (fun e => decide (n < e + 8)) } }

/-- Epoch `m` begins (R215). -/
def State.epochBegin (s : State) : State :=
  let (m, t) := s.nextStart
  let s := ((s.passRing t).takeBase m).setEpoch m
  let s := s.takeMap m
  let s := if s.img.own.any (fun x => x.epoch + 1 == m && x.sealed) then s else s.wr pgIMG IMG_STAT_PUBLISHING 0
  let s := if s.enabled pgTWIN && s.twin.lockedAt.isNone then { s with twin := { s.twin with lockedAt := some m } } else s
  let s := s.twinEntry false
  let (s, axes) := s.axisRecords t
  let s := if s.enabled pgTWIN && s.role == 2 then s.twinCapture m axes else s
  if s.mayPublish then (s.replayFree m).beginPublish m axes else s

end Sys2Proof.Machine
end

