-- ==== Sys2Proof/Machine/Commit.lean ====
section
/-!
DEFINITION. Commits (R224 to R227, R235 to R238, R556), the Cistern's banks (R257 to R259), point status (R266), image copies
that become due (R279, R281), and what takes effect at a commit instant: armed applies, Course and link-master switches, QUIET,
and the drive of outputs (R60, R62, R90, R277, R617, R668).
-/
namespace Sys2Proof.Machine

/-! ## Point status -/

/-- The shard table of the visible epoch: the one of the last commit, and before the first the current one (R211). -/
def State.visTable (s : State) : SMap Nat := if s.commitEpoch = ones64 then s.img.cur else s.img.visTab

/-- The lines in CHATTER, which point status shows from the next commit on (R341). -/
def State.chatLines (s : State) : List Nat := (List.range 256).filter (fun k => s.dioBit k DIO_CHATTER_W)

/-- A line bound to point `i` by DIO_LEVEL or DIO_COUNT was in CHATTER at the last commit (R266, R341). -/
def State.pointChatter (s : State) (i : Nat) : Bool :=
  s.bindings.any (fun e => bPOINT e == i && (
    (bKIND e == 1 && (List.range (pointWidth s.img.cur i)).any (fun j => s.img.chat.contains (32 * bINST e + bSUB e + j)))
    || (bKIND e == 2 && s.img.chat.contains (32 * bINST e + bSUB e))))

/-- The status of point `i` in the visible epoch (R266): 3 LAG, 1 STALE, 2 CHATTER, 0 LIVE. -/
def State.pointStatus (s : State) (i : Nat) : Nat :=
  if s.commitEpoch = ones64 then 3
  else
    let o := pointOwner s.visTable i
    if o = 0 then 0
    else
      let r := s.recOf o
      if r.st = 3 then 3
      else if r.st = 2 then 1
      else if o = s.pubId ∧ s.pointChatter i then 2
      else 0

/-- Status word of 16 points from `i` on (R266, R280). -/
def State.statusWord (s : State) (i : Nat) : Nat :=
  (List.range 16).foldl (fun a j => a + s.pointStatus (i + j) * 4 ^ j) 0

/-! ## The condition of a commit -/

/-- This hub published epoch `n` of owner `o`: it sealed it (R214, R224). -/
def State.ownAt (s : State) (o n : Nat) : Option OwnEpoch :=
  s.img.own.find? (fun x => x.epoch == n && x.owner == o && x.sealed)

/-- The shards with no seal of epoch `n` held in time and not verified for it, which commit STALE (R224, R226). -/
def State.staleAt (s : State) (n : Nat) : List Nat :=
  (tableOwners ((s.tableAt n).getD [])).filter (fun o =>
    let sh := s.shard o
    !sh.pendAt n && (sh.at? n).isNone && (s.ownAt o n).isNone
      && !s.img.seals.any (fun x => x.owner == o && x.epoch == n && !x.late))

/-- Epoch `n`, whose STALE shards are `stale`, may be committed, under a generation that is still held (R213, R224, R235, R546, R556). -/
def State.commitOk (s : State) (n : Nat) (stale : List Nat) : Bool :=
  s.locked && !s.cfgStops && s.img.upset.isEmpty && (s.tableAt n).isSome
    && (tableOwners ((s.tableAt n).getD [])).all (fun o =>
      let sh := s.shard o
      sh.pendAt n || stale.contains o || (sh.at? n).isSome || (s.ownAt o n).isSome)

/-! ## What a commit shows -/

/-- The version of a shard that epoch `n` shows: this hub's own, or the verified one; of a STALE shard the last one shown, or
the newest before `n` (R225, R237). -/
def State.shownVer (s : State) (o n : Nat) (stale : Bool) : Option ShardVer :=
  let sh := s.shard o
  if stale then
    let r := s.recOf o
    match r.last, decide (r.st = 1 ∨ r.st = 2) with
    | some e, true => (sh.at? e).or (sh.before? n)
    | _, _ => sh.before? n
  else match s.ownAt o n with
    | some x => some ⟨n, x.tenure, x.digest, x.vals⟩
    | none => sh.at? n

/-- The owner record of a shard at the commit of `n` (R211, R225).  A STALE run began with the epoch after the one that a PROXY response
gave (R232); the run of the record goes on unless the shard was verified anew since the hub began to collect. -/
def State.newRec (s : State) (o n : Nat) (stale : List Nat) (pts : Nat) : OwnerRec :=
  let sh := s.shard o
  let old := s.recOf o
  let te := sh.tenure.getD old.tenure
  if sh.pendAt n then
    { st := 3, tenure := te, last := old.last, digest := old.digest,
      missing := ((List.range (sliceCount pts)).filter (fun k => (s.sliceOf o n k).isNone)).length }
  else
    let st := stale.contains o
    let v := s.shownVer o n st
    let last := (v.map (·.epoch)).or old.last
    let digest := ((v.map (·.digest)).getD old.digest)
    let run := old.st == 2 && (s.img.colCommit || !last.any (fun e => decide (old.since.getD 0 ≤ e)))
    if st then
      { st := 2, tenure := te, last := last, digest := digest,
        since := some (sh.staleFrom.getD (if run then old.since.getD n else if s.img.colCommit then n else (last.map (· + 1)).getD n)) }
    else { st := 1, tenure := te, last := last, digest := digest }

/-- The content of every slot in epoch `n` (R207, R224, R243). -/
def State.newVis (s : State) (t : SMap Nat) (n : Nat) (stale : List Nat) : SMap Nat :=
  (tableOwners t).foldl (fun m o =>
    if (s.shard o).pendAt n then m
    else match s.shownVer o n (stale.contains o) with
      | some v => putShard (shardPoints t o) v.vals m
      | none => m) []

/-- Drops what a committed epoch no longer needs: cells of epochs that are verified, and versions before it except the one it
shows; those of the epoch before and later stay, for a bank that is one epoch behind (R258, R260). -/
def State.prune (s : State) (n : Nat) : State :=
  let done (o e : Nat) : Bool := decide (e ≤ n) && !(s.shard o).pend && (s.shard o).states.any (fun v => decide (e ≤ v.epoch))
  let shards := s.img.shards.map (fun (e : Nat × ShardSt) =>
    let last := (s.recOf e.1).last
    (e.1, { e.2 with pend := e.2.pendAt n, staleFrom := if (s.recOf e.1).st = 1 then none else e.2.staleFrom,
                     states := e.2.states.filter (fun v => decide (n ≤ v.epoch + 1) || some v.epoch == last
                       || e.2.before? (n + 1) == some v) }))
  { s with img := { s.img with
    shards := shards,
    changes := s.img.changes.filter (fun c => !done c.owner c.epoch),
    seals := s.img.seals.filter (fun x => !done x.owner x.epoch),
    refreshes := s.img.refreshes.filter (fun r => (s.shard r.owner).pendAt n) } }

/-! ## Banks and copies -/

/-- An image copy in progress ends: its bank is no longer held (R259). -/
def State.copyEnd (s : State) (ch : Nat) : State :=
  let c := s.img.copies.get (fun _ => {}) ch
  let s := { s with img := { s.img with copies := s.img.copies.set (fun _ => {}) ch { seq := c.seq } } }
  let s := s.wr pgIMG IMG_COPY_STAT_BUSY (setBits (s.rd pgIMG IMG_COPY_STAT_BUSY) ch 1 0)
  let held := s.img.copies.any (fun e => (e.2.busy || e.2.due) && e.2.bank == s.rd pgIMG IMG_BANK_THIRD)
  if s.rd pgIMG IMG_BANK_THIRD_ROLE = 3 ∧ !held then s.wr pgIMG IMG_BANK_THIRD_ROLE 1 else s

/-- A copy that must stop at a commit: its trailer and header are still to be written, with INCOMPLETE (R281). -/
def State.copyStop (s : State) (bank : Nat) : State :=
  let hit := s.img.copies.filter (fun e => (e.2.busy || e.2.due) && e.2.bank == bank)
  hit.foldl (fun s e =>
    let s := { s with img := { s.img with copies := s.img.copies.set (fun _ => {}) e.1 { e.2 with stop := true } } }
    s.irq pgIMG 15) s

/-- SHADOW becomes VISIBLE and the other roles follow; the banks keep their slots (R259, R281). -/
def State.bankStep (s : State) : State :=
  let v := s.rd pgIMG IMG_BANK_VISIBLE
  let sh := s.rd pgIMG IMG_BANK_SHADOW
  let th := s.rd pgIMG IMG_BANK_THIRD
  let role := s.rd pgIMG IMG_BANK_THIRD_ROLE
  let copying := s.img.copies.any (fun e => (e.2.busy || e.2.due) && e.2.bank == v && !e.2.stop)
  let put (s : State) (shadow third role catchup : Nat) : State :=
    let s := ((s.wr pgIMG IMG_BANK_VISIBLE sh).wr pgIMG IMG_BANK_SHADOW shadow).wr pgIMG IMG_BANK_THIRD third
    (s.wr pgIMG IMG_BANK_THIRD_ROLE role).wr pgIMG IMG_BANK_SHADOW_CATCHUP catchup
  let s' := if s.img.pinFresh then put ((s.copyStop th).copyStop v) th v 2 1
    else if role = 2 ∨ role = 3 then put (s.copyStop v) v th role 1
    else put s th v (if copying then 3 else 1) role
  { s' with img := { s'.img with pinFresh := false } }

/-- A copy channel's settings name no copy (R279). -/
def State.copyBad (s : State) (ch : Nat) : Bool :=
  let n := s.rd pgIMG IMG_COPYn_B_COUNT ch
  n == 0 || decide (131072 < s.rd pgIMG IMG_COPYn_A_FIRST ch + n) || decide (47 < s.rd pgIMG IMG_COPYn_A_MOVER ch)

/-- The words of a copy: the slots, then the status words (R280). -/
def State.copyWords (s : State) (ch : Nat) : List Nat :=
  let first := s.rd pgIMG IMG_COPYn_A_FIRST ch
  let n := s.rd pgIMG IMG_COPYn_B_COUNT ch
  (List.range n).map (fun k => valAt s.visVals (first + k))
    ++ (if s.on pgIMG IMG_COPYn_A_STATUS_EN ch then (List.range ((n + 15) / 16)).map (fun k => s.statusWord (first + 16 * k))
        else [])

/-- Every enabled channel that is idle takes the committed epoch; one that is busy skips it (R279). -/
def State.copiesDue (s : State) : State :=
  (List.range 4).foldl (fun s ch =>
    if !s.on pgIMG IMG_COPYn_A_EN ch || s.copyBad ch then s
    else
      let c := s.img.copies.get (fun _ => {}) ch
      if c.busy || c.due then
        s.wr pgIMG IMG_COPY_STAT_SKIPPED (setBits (s.rd pgIMG IMG_COPY_STAT_SKIPPED) ch 1 1)
      else
        let c : CopyCh := { due := true, seq := c.seq, bank := s.rd pgIMG IMG_BANK_VISIBLE, epoch := s.commitEpoch,
                            lag := s.on pgIMG IMG_STAT_LAG, full := s.on pgIMG IMG_STAT_FULL,
                            mover := s.rd pgIMG IMG_COPYn_A_MOVER ch, words := s.copyWords ch }
        { s with img := { s.img with copies := s.img.copies.set (fun _ => {}) ch c } }) s

/-! ## Tracking at a commit -/

/-- The points that windows name in a POINT_CHG selector, ascending (R303). -/
def State.watched (s : State) : List Nat :=
  (s.trk.win.foldl (fun (m : SMap Bool) e =>
    let m := if e.2.armKind = 4 then m.set (fun _ => false) (bitsOf e.2.arm 0 17) true else m
    if e.2.hitKind = 4 then m.set (fun _ => false) (bitsOf e.2.hit 0 17) true else m) []).map (·.1)

/-- The references take the committed records, then the POINT_CHG events of epoch `n` are processed, then windows are
evaluated (R298, R303, R307).  A point changes against the epoch before, where this hub committed that one and knew its
shard. -/
def State.trackCommit (s : State) (old : SMap Nat) (oldRecs : SMap OwnerRec) (prev n : Nat) : State :=
  let s := (List.range 32).foldl (fun s r =>
    if s.enabled pgAXIS && s.on pgAXIS AXIS_REFr_A_EN r then
      let p := s.rd pgAXIS AXIS_REFr_A_POINT r
      let st := (s.recOf (pointOwner s.visTable p)).st
      s.refCommit r n (valAt s.visVals p) (valAt s.visVals (p + 1)) (st != 1)
    else s) s
  let t := s.tS n
  let known (recs : SMap OwnerRec) (o : Nat) : Bool := o == 0 || (SMap.get (fun _ => ({} : OwnerRec)) recs o).st != 3
  let s := s.watched.foldl (fun s p =>
    let o := pointOwner s.visTable p
    let v := valAt s.visVals p
    if decide (prev + 1 = n) && known s.img.recs o && known oldRecs o && valAt old p != v
    then s.trkEvent 4 p v t (some v) else s) s
  s.winEvalAll (some t)

/-! ## The commit -/

/-- A one-bit request for QUIET or its end takes effect (R90, R92). -/
def State.quietTo (s : State) (q : Bool) : State :=
  if q && s.node == nsSERVICE then ((List.range 8).foldl (fun s z => s.zQuiet z) s.lanesHalt).setNode nsQUIET
  else if !q && s.node == nsQUIET then s.setNode nsSERVICE
  else s

/-- A QUIET command of at least 1 µs ago takes effect at a commit; one still pending when the hub falls back to JOIN waits for the first
commit back in SERVICE (R90, R96; DESIGN CHOICE, log entry 149). -/
def State.quietCommit (s : State) : State :=
  match s.rst.quiet with
  | some (q, t) =>
    if t + 1000 ≤ s.now ∧ (s.node = nsSERVICE ∨ s.node = nsQUIET) then State.quietTo { s with rst := { s.rst with quiet := none } } q else s
  | none => s

/-- Epoch `n` is committed: SHADOW, and a SPARE in step with it, hold it whole; the owner records, the bank roles, FULL, SERVICE where
neither a refused claim nor an ID out of range bars it, copies, references and windows (R90, R122, R125, R224, R225, R238, R257, R258,
R279, R298). -/
def State.commit (s : State) (n : Nat) (stale : List Nat) (late : Bool) : State :=
  let t := (s.tableAt n).getD []
  let owners := tableOwners t
  let old := s.visVals
  let oldRecs := s.img.recs
  let prev := s.commitEpoch
  let recs := owners.foldl (fun (m : SMap OwnerRec) o =>
    m.set (fun _ => {}) o (s.newRec o n stale (shardPoints t o).length)) []
  let moved := owners.any (fun o =>
    let a := (s.recOf o).st
    let b := (SMap.get (fun _ => ({} : OwnerRec)) recs o).st
    (a == 1 && b == 2) || (a == 2 && b == 1))
  let vis := s.newVis t n stale
  let whole : ImgBank := { vals := vis, epoch := some n }
  let s := s.setBank (s.rd pgIMG IMG_BANK_SHADOW) whole
  let s := (if s.rd pgIMG IMG_BANK_THIRD_ROLE = 0 then s.setBank (s.rd pgIMG IMG_BANK_THIRD) whole else s).bankStep
  let s := { s with img := { s.img with visTab := t, recs := recs, chat := s.chatLines, colCommit := true } }
  let s := (s.wr64 pgIMG IMG_COMMIT_EPOCH_LO_W IMG_COMMIT_EPOCH_HI_W n).prune n
  let count (k : Nat) : Nat := (owners.filter (fun o => (s.recOf o).st == k)).length
  let s := (s.wr pgIMG IMG_SHARDS_LIVE (count 1)).wr pgIMG IMG_SHARDS_STALE (count 2)
  let s := s.wr pgIMG IMG_STAT_PENDING (count 3)
  let s := if s.img.lastTc == some n then s.wr pgIMG IMG_STAT_LAG 0 else s
  let s := (s.irq pgIMG 2).count pgIMG 0
  let s := if late then s.count pgIMG 1 else s
  let s := s.trace pgIMG 3 (b2n late) n
  let s := if moved then s.irq pgIMG 5 else s
  let s := if count 3 = 0 ∧ !s.on pgIMG IMG_STAT_FULL then
      State.wr { (s.wr pgIMG IMG_STAT_FULL 1).irq pgIMG 4 with img := { s.img with returned := false } } pgIMG IMG_STAT_COLLECTING 0
    else s
  let barred := s.rd pgLINK RING_ID_CLAIM == 3 || s.rd pgPWRST PWRST_STATE_DETAIL == 2 || s.rd pgPWRST PWRST_STATE_DETAIL == 9
  let s := if s.on pgIMG IMG_STAT_FULL && s.node == nsJOIN && !barred then
      (if s.rd pgPWRST PWRST_STEP_TIME_TIME_US 6 = 0xFFFFFFFF then s.stepDone 7 else s).setNode nsSERVICE
    else s
  let s := (s.shadowFill.copiesDue.trackCommit old oldRecs prev n).quietCommit
  s.twinEntry true

/-- Commits in order the epochs whose t_c has passed, while the condition of each holds (R226); `now` is the epoch whose t_c is
this instant. -/
def State.commitRun : Nat → State → Option Nat → State
  | 0, s, _ => s
  | k + 1, s, now =>
    match s.img.passed with
    | [] => s
    | (n, stale) :: l =>
      if s.commitOk n stale then
        State.commitRun k (State.commit { s with img := { s.img with passed := l } } n stale (now != some n)) now
      else s

/-- LAG, LAG_DEPTH, and collection again past MAX_LAG (R226, R235, R246). -/
def State.lagSync (s : State) : State :=
  let s := if s.commitEpoch != ones64 && s.img.lastTc == some s.commitEpoch then s else s.enterLag
  let s := s.depthSync
  let m := min 254 (max 8 (s.rd pgIMG IMG_CTRL_MAX_LAG))
  if m < s.rd pgIMG IMG_STAT_LAG_DEPTH ∧ !s.on pgIMG IMG_STAT_COLLECTING then s.collect true else s

/-- LATE_COMMIT: a lagging hub commits what it can (R226). -/
def execLateCommit (s : State) : Res :=
  if s.locked then .next ((State.commitRun s.img.passed.length s none).lagSync) else .next s

/-! ## The drive of outputs -/

/-- The values that this hub's output bindings take at t_c(n): those it published for `n`; a Bedstone follows the committed
shard (R277, R571). -/
def State.driveVals (s : State) (n : Nat) : Option (SMap Nat) :=
  if s.cold then (if s.commitEpoch = n then some s.visVals else none)
  else (s.ownAt s.pubId n).map (·.vals)

/-- One DIO_DRIVE binding takes its value (R269, R278, R345). -/
def State.driveDio (s : State) (e v : Nat) : State :=
  let p := pgDIO + bINST e
  let w := pointWidth s.img.cur (bPOINT e)
  let ks := (List.range w).map (fun j => (32 * bINST e + bSUB e + j, bitAt v j != bINVERT e))
  let s := if ks.any (fun k => s.dioCfg k.1 DIO_LINEj_CFG_OUT_MODE != 0) then s.count p 5 else s
  ks.foldl (fun s k =>
    if s.dioCfg k.1 DIO_LINEj_CFG_OUT_MODE = 0 then (s.setLine k.1 { s.lineSt k.1 with img := k.2 }).driveLine k.1 else s) s

/-- A CAN transmit mailbox puts NBYTES bytes of its value into its buffer, which an uncorrectable error keeps from being sent until software
writes it (R425, R432); the second component says whether the value changed. -/
def State.driveCan (s : State) (n k v : Nat) : State × Bool :=
  let p := canPg n
  let same := s.rd p CAN_TMBXk_VAL_VALUE k == v
  let s := s.wr p CAN_TMBXk_VAL_VALUE v k
  let b := s.rd p CAN_TMBXk_CFG_BUF k
  let nb := s.rd p CAN_TMBXk_CFG_NBYTES k + 1
  let x := s.canSt n
  let f := x.bufAt b
  let data := (List.range nb).foldl (fun (m : SMap Nat) j =>
    let byte := if s.on p CAN_TMBXk_CFG_BE k then bitsOf v (8 * (nb - 1 - j)) 8 else bitsOf v (8 * j) 8
    let at_ := s.rd p CAN_TMBXk_CFG_BYTE k + j
    let w := m.get (fun _ => 0) (at_ / 4)
    if at_ < 64 then m.set (fun _ => 0) (at_ / 4) (setBits w (8 * (at_ % 4)) 8 byte) else m) f.data
  (s.setCan n (x.setBuf b { f with data := data }), !same)

/-- Output bindings take the values of epoch `n` at t_c(n), in SERVICE and, but for discrete lines that drive SAFE, in QUIET
(R277, R278, R371, R404, R432, R470); mailbox frames are queued at every commit (R371). -/
def State.driveOutputs (s : State) (n : Nat) : State :=
  let frames (s : State) (changed : List Nat) : State :=
    if s.cold then s else (List.range 64).foldl (fun s l => s.mbxFrame l (changed.contains l)) s
  match s.driveVals n with
  | none => frames s []
  | some vals =>
    if s.node ≠ nsSERVICE ∧ s.node ≠ nsQUIET then frames s []
    else
      let outs := s.bindings.filter (fun e => isOutput (bKIND e))
      let of (k : Nat) : List Nat := outs.filter (fun e => bKIND e == k)
      let s := (of 0x10).foldl (fun s e => s.driveDio e (valAt vals (bPOINT e))) s
      let s := (of 0x14).foldl (fun s e => if s.cold then s else s.sluImage (bINST e) (bitAt (valAt vals (bPOINT e)) 0)) s
      let s := (of 0x12).foldl (fun s e =>
        s.cogMbxSet (bINST e) (bSUB e) (valAt vals (bPOINT e))) s
      let (s, changed) := (of 0x11).foldl (fun (a : State × List Nat) e =>
        let v := valAt vals (bPOINT e)
        let same := a.1.rd (lanePg (bINST e)) LANE_TXMBXm_VALUE (bSUB e) == v
        (a.1.laneMbx (bINST e) (bSUB e) v, if same then a.2 else bINST e :: a.2)) (s, [])
      let s := frames s changed
      let (s, reqs) := (of 0x13).foldl (fun (a : State × List (Nat × Nat)) e =>
        let p := bINST e
        let k := bSUB e
        let (u, ch) := a.1.driveCan p k (valAt vals (bPOINT e))
        let m := u.rd (canPg p) CAN_TMBXk_CFG_MODE k
        (u, if m = 2 ∨ (m = 1 ∧ ch) then a.2 ++ [(p, u.rd (canPg p) CAN_TMBXk_CFG_BUF k)] else a.2)) (s, [])
      reqs.foldl (fun s r => (s.canRequest r.1 r.2).1) s

/-! ## The commit instant -/

/-- Armed applies of at least 1 µs ago take effect, or begin to wait for their block's boundary; the pages that did come back
(R60).  With `silent` CFG_GEN and APPLIED are left to the Course switch of the same commit (R62). -/
def State.armedApplies (s : State) (silent : List Nat) : State × List Nat :=
  (s.page.filter (fun e => e.2.armed && decide (e.2.armedAt + 1000 ≤ s.now))).foldl (fun (a : State × List Nat) e =>
    let p := e.1
    let (u, done) := a.1.effect p (a.1.shadowWords p)
    let u := u.setPageSt p { u.pageSt p with armed := false, applyPend := !done }
    (if done && !silent.contains p then u.copied p else u, if done then p :: a.2 else a.2)) (s, [])

/-- Armed applies and an armed Course switch that is due at t_c(n): the applies first, then the Course in the same commit; its QUIET waits
for the next commit where the hub does not commit now (R62, R90, R617, R618). -/
def State.appliesAt (s : State) (n : Nat) : State :=
  match s.crs.arm with
  | none => (s.armedApplies []).1
  | some a =>
    if n < a.epoch then (s.armedApplies []).1
    else if nsHOLD ≤ s.node then ((s.crsArm none).armedApplies []).1
    else
      let s := s.crsArm none
      match s.courseFor a.course a.sum with
      | none => (s.armedApplies []).1.crsMismatch
      | some c =>
        let (s, pages) := s.armedApplies allPages
        let s := s.courseTake a.course c a.epoch (if n = a.epoch then some n else none) pages
        if s.commitEpoch = n then s.quietTo (courseQuiet c)
        else { s with rst := { s.rst with quiet := some (courseQuiet c, s.now - 1000) } }

/-- The shards whose Cistern digest fails against their seal of the visible epoch (R556). -/
def State.cisternFails (s : State) (upset : List Nat) : State :=
  if s.commitEpoch = ones64 then s
  else
    let l := upset.filter (fun o => (s.recOf o).st == 1 || (s.recOf o).st == 2)
    let s := l.foldl (fun s o => s.fault pgIMG 0x1A 1 (s.globalAddr (0x02000000 + 64 * o))) s
    let l := l.filter (fun o => o != s.shardId)
    let s := l.foldl (fun s o => s.repairShard o) s
    { s with img := { s.img with upset := (s.img.upset ++ l).dedup } }

/-- A shard this hub publishes whose words in SHADOW failed is written again from the hub's own values: it kept one commit from its
instant, which follows late (R226, R228, R546). -/
def State.ownMend (s : State) : State :=
  if s.img.upset.any (fun o => o == s.shardId || o == s.pubId) then
    let img := { s.img with upset := s.img.upset.filter (fun o => o != s.shardId && o != s.pubId) }
    (State.commitRun s.img.passed.length { s with img := img } none).lagSync
  else s

/-- The commit instant t_c(N) of the next epoch N: `upset` are the shards whose Cistern digest fails (R224, R226, R230).  A hub that
returned to JOIN commits no epoch for which a shard is PENDING (R91). -/
def State.commitInstant (s : State) (upset : List Nat) : State :=
  if !s.locked then s
  else
    let n := s.nextTc
    let s := (s.passRing (s.tC n)).cisternFails upset
    let stale := s.staleAt n
    let waits := s.img.returned && (tableOwners ((s.tableAt n).getD [])).any (fun o => (s.shard o).pendAt n)
    let s := { s with img := { s.img with passed := if waits then [] else s.img.passed ++ [(n, stale)], lastTc := some n,
                                          tcCount := s.img.tcCount + 1 } }
    let s := (tableOwners ((s.tableAt n).getD [])).foldl (fun s o =>
      let sh := s.shard o
      match s.sealOf o n with
      | some x => if sh.pendAt n || (sh.at? n).isSome || stale.contains o then s else s.askFor o n x
      | none => s) s
    let s := (State.commitRun s.img.passed.length s (some n)).lagSync.ownMend
    let s := ((s.appliesAt n).linkSwitch n).driveOutputs n
    s.sendCkpt

/-- Epochs begin that are due before ring time `t`, at most four of them. -/
def State.beginBefore : Nat → State → Nat → State
  | 0, s, _ => s
  | k + 1, s, t => if s.nextStart.2 < t then State.beginBefore k s.epochBegin t else s

/-- PIN: the VISIBLE bank also becomes PINNED, that of a commit due in the same cycle; refused while a pin is held (R263). -/
def execPin (tag : Nat) (s : State) : Res :=
  if !s.takes pgIMG then .next s else
  if s.pinHeld then .next (s.irq pgIMG 12)
  else
    let s := if s.locked && decide (s.tC s.nextTc ≤ s.ringNow) then (State.beginBefore 5 s (s.tC s.nextTc)).commitInstant [] else s
    let s := (s.wr pgIMG IMG_PIN_STAT_STATE 1).wr pgIMG IMG_PIN_STAT_TAG tag
    let s := s.wr64 pgIMG IMG_PIN_EPOCH_LO_EPOCH IMG_PIN_EPOCH_HI_EPOCH s.commitEpoch
    .next (State.count { s with img := { s.img with pinUntil := s.now + s.lease, pinFresh := true } } pgIMG 21)

/-- COMMIT_INSTANT: at t_c(N) the hub commits N or lags (R224, R226); epochs that begin before it have begun. -/
def execCommitInstant (upset : List Nat) (s : State) : Res :=
  if s.locked then .next ((State.beginBefore 5 s (s.tC s.nextTc)).commitInstant upset) else .next s

/-- EPOCH_START: at t_s(N) the epoch begins, after the commit of the same instant (R215). -/
def execEpochStart (s : State) : Res :=
  if !s.locked then .next s
  else
    let t := s.nextStart.2
    let s := if s.tC s.nextTc ≤ t then s.commitInstant [] else s
    .next (if s.locked then s.epochBegin else s)

end Sys2Proof.Machine
end

