-- ==== Sys2Proof/Machine/Takeover.lean ====
section
/-!
DEFINITION. Takeover by a Bedstone (R571 to R576, R579): detection, replay, first drive, the first publication under the new
tenure, completion, and standoff.
-/
namespace Sys2Proof.Machine

/-- CMP_DELAY in ns (R580). -/
def State.cmpDelay (s : State) : Nat := 1000 * max 10 (s.rd pgTWIN TWIN_CFG_CMP_DELAY)

/-- A takeover is detected at this instant; entries whose TIME has passed are removed (R567, R573). -/
def State.detect (s : State) (cause line : Nat) : State :=
  let s := (s.launches.filter (fun e => decide (e.2.time ≤ s.ringNow))).foldl (fun s e => s.launchCold e.1 e.2) s
  { s with twin := { s.twin with t0 := s.now, t0Ring := s.ringNow, cause := cause, line := line, phase := 1 } }

/-- The electrical level that the Runner is expected to give line `k`: image, journalled launch or HOST_OUT, with polarity
(R571). -/
def State.expected (s : State) (k : Nat) : Bool :=
  let x := s.lineSt k
  let v := match s.dioCfg k DIO_LINEj_CFG_OUT_MODE with
    | 0 => x.img
    | 1 => x.launch
    | _ => bitAt (s.twin.hostOut.get (fun _ => 0) (k / 32)) (k % 32)
  v != (s.dioCfg k DIO_LINEj_CFG_POL == 1)

/-- The Bedstone compares line `k` (R571). -/
def State.compares (s : State) (k : Nat) : Bool :=
  s.isBedstone && decide (k < 256) && s.rd pgTWIN TWIN_STAT_SYNC != 0 && s.on pgTWIN TWIN_CFG_CMP_EN
    && s.twin.ckpt.any (fun c => c.2.1 == nsSERVICE) && bitAt (s.rd pgTWIN TWIN_CMPn_LINES (k / 32)) (k % 32)
    && s.enabled (dioPg k) && s.dioCfg k DIO_LINEj_CFG_DIR == 1

/-- COMPARE_MISMATCH: a compared line has differed from its expected level for CMP_DELAY; a line with a recent RB_FAIL record is
excused and counted, any other is a detection (R571, R584). -/
def execCompareMismatch (line : Nat) (s : State) : Res :=
  if !(s.compares line && s.expected line != s.dioBit line DIO_RAW_W) then .next s
  else
    let rb := s.twin.rbFail.get (fun _ => (0, 0)) (line / 32)
    if bitAt rb.1 (line % 32) ∧ s.now ≤ rb.2 + s.cmpDelay then .next (s.count pgTWIN 5)
    else .next (s.detect 1 line)

/-- SEAL_CHECK: at t_s(N) + SEAL_AT + SEAL_WAIT, by the Runner's SEAL_AT, the Bedstone must hold the Runner's seal of N (R572,
R580). -/
def execSealCheck (s : State) : Res :=
  let n := s.epoch
  if !(s.isBedstone && s.on pgTWIN TWIN_CFG_SEAL_EN && s.locked) || n == ones64 then .next s
  else
    let o := s.shardId
    let at_ := (s.shard o).sealAt
    let at_ := if at_ = 0 then s.rd pgIMG IMG_EPOCH_SEAL_AT else at_
    let s := s.passRing (s.tS n + at_ * s.epochLen / 8 + 1000 * max 5 (s.rd pgTWIN TWIN_CFG_SEAL_WAIT))
    if (s.sealOf o n).isSome || ((s.shard o).at? n).isSome then .next s else .next (s.detect 2 0xFF)

/-- TWIN_SWITCH: on a Bedstone that is IN_STEP a detection with cause COMMAND; refused anywhere else and with a wrong KEY
(R572, R579). -/
def execTwinSwitch (key : Nat) (s : State) : Res :=
  if !s.takes pgTWIN then .next s
  else if key ≠ 0x96 ∨ !s.isBedstone ∨ s.rd pgTWIN TWIN_STAT_SYNC ≠ 2 then .next s.twinRefuse
  else .next (s.detect 3 0xFF)

/-- TWIN_TAKEOVER: TWIN_ACT rises, the fault is reported, and the copy is replayed: demands, DIO_OUT_HOST (R573). -/
def execTwinTakeover (s : State) : Res :=
  if s.twin.phase ≠ 1 then .next s
  else
    let s := (s.wr pgTWIN TWIN_STAT_ACT 1).fault pgTWIN 0x0C 1 0
    let s := { s with img := { s.img with dem := s.twin.demands }, twin := { s.twin with phase := 2 } }
    .next ((List.range 8).foldl (fun s b =>
      if (s.twin.hostOut.any (fun e => e.1 == b)) then s.outHost b (s.twin.hostOut.get (fun _ => 0) b) else s) s)

/-- The earliest epoch for which no seal of the shard under the old tenure is held: the one after the last seal; with none ever
held, the epoch in progress (R575). -/
def State.firstEpoch (s : State) : Nat :=
  let o := s.shardId
  let last := (s.shard o).lastSeal
  match last with
  | some n => n + 1
  | none => if s.epoch = ones64 then s.baseN else s.epoch

/-- Epoch `n` of the new Runner: E as a FULL epoch, the epochs after it as any owner publishes them from the captures held
(R575). -/
def State.takeoverEpoch (s : State) (first : Bool) (n : Nat) : State :=
  let pts := shardPoints s.img.cur s.pubId
  if first then
    let vals := s.takeoverVals n
    (s.takeoverDemands n vals).ownEpoch n true vals pts
  else
    let caps := ((s.twin.caps.find? (fun c => c.1 == n)).map (·.2)).getD s.img.ownVals
    let (s, vals) := s.pointValues n false caps pts
    s.ownEpoch n false vals pts

/-- The first publication: E and every later epoch that has begun; those before the epoch in progress are sealed at once
(R575). -/
def State.takeoverPublish (s : State) (e : Nat) : State :=
  let s := { s with img := { s.img with own := [], lastPub := none } }
  let s := s.replayFresh s.pubId (s.rd pgIMG IMG_OWN_TENURE)
  if s.epoch = ones64 ∨ s.epoch < e then { s with twin := { s.twin with first := some e } }
  else
    (List.range (s.epoch + 1 - e)).foldl (fun s k =>
      let s := s.takeoverEpoch (k == 0) (e + k)
      match s.img.own.head? with
      | some x =>
        let s := s.publish x
        match s.img.own.head? with
        | some y => if e + k < s.epoch then s.sealEpoch y else s
        | none => s
      | none => s) s

/-- TWIN_FIRST_DRIVE: every shared output is driven, gating ends, windows and launches are live, the engines of the last COG_RUN
start, and IMG_OWN takes tenure T + 1; publication follows (R573, R575, R576). -/
def execTwinFirstDrive (s : State) : Res :=
  if s.twin.phase ≠ 2 then .next s
  else
    let o := s.shardId
    let s := s.twinOffsets
    let e := s.firstEpoch
    let te := (((s.shard o).tenure.getD 255) + 1) % 256
    let s := { s with twin := { s.twin with phase := 3, driving := true, driveAt := s.now, toEpoch := e } }
    let s := ((s.wr pgIMG IMG_OWN_OWNER o).wr pgIMG IMG_OWN_TENURE te).driveSync
    let run := (s.twin.ckpt.map (fun c => c.2.2.1)).getD 0
    let s := (List.range 32).foldl (fun s k => if bitAt run k then s.cogStart k else s) s
    let s := State.launchLock (s.launches.length + 1) s
    .next ((s.winEvalAll none).takeoverPublish e)

/-- TWIN_TAKEOVER_DONE: ROLE RUNNER, TAKEOVER, and the registers that describe the takeover (R573, R582, R584). -/
def execTwinTakeoverDone (s : State) : Res :=
  if s.twin.phase ≠ 3 then .next s
  else
    let us (t : Nat) : Nat := min 255 ((t - s.twin.t0) / 1000)
    let s := s.wr pgTWIN TWIN_STAT_DEGRADED (b2n (s.rd pgTWIN TWIN_STAT_SYNC != 2))
    let s := (s.wr pgTWIN TWIN_STAT_ROLE 1).wr pgTWIN TWIN_STAT_LAST_CAUSE s.twin.cause
    let s := (s.wr64 pgTWIN TWIN_TO_TIME_LO_TIME TWIN_TO_TIME_HI_TIME s.twin.t0Ring).wr pgTWIN TWIN_TO_INFO_LINE s.twin.line
    let s := (s.wr pgTWIN TWIN_TO_INFO_DRIVE_US (us s.twin.driveAt)).wr pgTWIN TWIN_TO_INFO_DONE_US (us s.now)
    let s := s.wr pgTWIN TWIN_TO_INFO_TENURE (s.rd pgIMG IMG_OWN_TENURE)
    let s := s.wr64 pgTWIN TWIN_TO_EPOCH_LO_EPOCH TWIN_TO_EPOCH_HI_EPOCH s.twin.toEpoch
    let s := { s with twin := { s.twin with phase := 0, jseq := 0, jnext := none, owed := false } }
    .next (((s.twinSync 0).irq pgTWIN 2).count pgTWIN 4)

/-- TWIN_STANDOFF: TWIN_PEER is still high 20 µs after first drive; the hub is DEPOSED (R574). -/
def execTwinStandoff (s : State) : Res :=
  if s.on pgTWIN TWIN_STAT_PEER_ACT && s.twin.driving && s.twin.cause != 0 && decide (s.now ≤ s.twin.driveAt + 20000) then
    .next ((((s.passTo (s.twin.driveAt + 20000)).depose).irq pgTWIN 6).count pgTWIN 6)
  else .next s

end Sys2Proof.Machine
end

