-- ==== Sys2Proof/Machine/Switch.lean ====
section
/-!
DEFINITION. The switch core (R116 to R119, R142 to R163): a received frame, a transmitted frame, cells that waited for granules,
the resequencer's timers, ID_CLAIM, and the mirror's CLEAR.
-/
namespace Sys2Proof.Machine

/-! ## Reception: the checks of R116 -/

/-- Orders 1 and 2 of R116: FCS, the foreign frames of R111, protection and MACsec.  The cell bytes come back, or none with the
discard counted. -/
def State.macCheck (s : State) (port : Nat) (f : Frame) : State × Option (List Byte) :=
  let pg := pgLINK + port
  if !f.fcsOk then (s.count pg 2, none)
  else
    let s := s.count pg 0
    if f.dest ≠ ringDest ∨ f.vlan ∨ (f.etherType ≠ 0x88B5 ∧ f.etherType ≠ 0x88E5) ∨ 318 < f.length then (s.count pg 5, none)
    else if f.etherType = 0x88B5 then
      if s.protected port ∧ (cellOf f.body).typ ≠ tHELLO then (s.count pg 8, none) else (s, some f.body)
    else if !s.protected port then (s.count pg 8, none)
    else if s.lstate port ≠ 3 then (s, none)
    else match f.sec with
      | none => (s.count pg 6, none)
      | some tag =>
        match s.protReceive port f tag with
        | (s, some b) => if beAt b 0 2 = 0x88B5 then (s, some (b.drop 2)) else (s.count pg 5, none)
        | (s, none) => (s, none)

/-- Orders 3 to 5 of R116: header, CRC-32C, RACE against the port. -/
def State.headCheck (s : State) (port : Nat) (b : List Byte) : State × Option Cell :=
  let pg := pgLINK + port
  let c := cellOf b
  if !headerOk b then (s.count pg 4, none)
  else if c.crc ≠ crcOf b then (s.count pg 3, none)
  else if c.dkind ≠ 3 ∧ c.race = port then (s.count pg 4, none)
  else (s, some c)

/-- Order 7 of R116: the hub that strips the cell is this one (R119). -/
def State.strips (s : State) (c : Cell) : Bool :=
  if c.src = 0 then
    (c.typ == tID_CLAIM && beAt c.payload 0 8 == s.serial) || (c.typ == tID_REFUSE && beAt c.payload 8 8 == s.serial)
  else s.heldId && c.src == s.nodeId

/-- What a hub reads of a TOPO cell that it strips: a copy of its own closes the ring on that port, and another serial is a
duplicate holder (R119, R128). -/
def State.stripTopo (s : State) (port : Nat) (c : Cell) : State :=
  let serial := beAt c.payload 0 8
  if c.typ ≠ tTOPO ∨ c.src = 0 then s
  else if serial = s.serial then
    let own := s.ring.own.map (fun (e : OwnTopo) =>
      if e.seq = c.seq then { e with backE := e.backE || port == 0, backW := e.backW || port == 1 } else e)
    State.ringView { s with ring := { s.ring with own := own } }
  else s.topoDup serial

/-- The age of a cell in ns exceeds SWC_AGE.LIMIT (R154, R168). -/
def State.aged (s : State) (c : Cell) : Bool :=
  s.locked && c.origin != 0
    && decide (min 16 (max 1 (s.rd pgSWC SWC_AGE_LIMIT)) * 1000000 < (s.ringNow % 2 ^ 32 + 2 ^ 32 - c.origin) % 2 ^ 32)

/-- The hub holds the cell's map generation (R155, R156). -/
def State.genHeld (s : State) (c : Cell) : Bool :=
  c.mapgen == s.rd pgSWC SWC_MAPGEN_CURRENT || (s.on pgSWC SWC_MAPGEN_PREV_VALID && c.mapgen == s.rd pgSWC SWC_MAPGEN_PREVIOUS)

/-- The cell is delivered locally (R149). -/
def State.takesCell (s : State) (c : Cell) : Bool :=
  match c.dkind with
  | 0 => s.nodeId != 0 && c.dest == s.nodeId
  | 1 =>
    let m := if c.mapgen = s.rd pgSWC SWC_MAPGEN_CURRENT then s.rd64 pgSWC SWC_MCAST_CUR_LO_MEMBER SWC_MCAST_CUR_HI_MEMBER
      else s.rd64 pgSWC SWC_MCAST_PREV_LO_MEMBER SWC_MCAST_PREV_HI_MEMBER
    bitAt m (c.dest % 64)
  | _ => true

/-! ## What follows a declared loss or a refused copy -/

/-- Loss notices go to IMG and TWIN; a refused BRG_WRITE is reported to its source, a refused JOURNAL is a journal gap (R152,
R163, R490, R570). -/
def State.drainNotices (s : State) : State :=
  let ns := s.sw.notices
  let ds := s.sw.dropped
  let s := { s with sw := { s.sw with notices := [], dropped := [] } }
  let s := ns.foldl (fun s n =>
    let s := s.lossNotice n.1
    if n.1 = s.peerId then s.twinGap else s) s
  ds.foldl (fun s r => if r.cell.typ = tJOURNAL then s.twinGap else s.reportWrite r stDROPPED) s

/-- The resequencer discards the cell as a duplicate (R152, R161). -/
def State.discards (s : State) (r : RxCell) : Bool :=
  let e := s.ddt r.cell.src
  if !e.valid then false
  else if 2 ^ 31 ≤ seqOff e.exp r.cell.seq then
    !(s.sw.retry.any (fun t => t.src == r.cell.src && t.seq == r.cell.seq) && r.isLocal)
  else e.held.any (fun h => h.cell.seq == r.cell.seq)

/-- What a discarded duplicate still does: the second margin of a SEAL (R240), and the West-port anchor TOPO that a
POSITION-mode hub takes its ID from (R122). -/
def State.seenTwice (s : State) (r : RxCell) : State :=
  let s := s.margin2 r
  if r.isLocal && r.cell.typ == tTOPO && r.port == 1 && beAt r.cell.payload 11 1 % 2 == 1 && s.needsPosition
  then s.derive (r.cell.hops + 2) else s

/-- A copy of TIME_SYNC goes to the Governor as it arrived, before the resequencer (R151, R183). -/
def State.stampSync (s : State) (r : RxCell) : State :=
  if consumerDepth 1 ≤ (s.consQ 1).length then s.refuseCopy 1 r
  else (s.setConsQ 1 (s.consQ 1 ++ [r])).mirror r.cell r.port 2

/-- An ID_CLAIM for `x` invalidates the resequencer's and the bridge's entries of source `x` (R160, R488). -/
def State.claimSeen (s : State) (x : Nat) : State :=
  let s := s.invalidate x
  { s with brg := { s.brg with wrx := s.brg.wrx.set (fun _ => 0) x 0 } }

/-! ## Reception: delivery and forwarding -/

/-- A cell that passed R116, with the ways it goes: admission, forwarding, resequencing, delivery; an ID_CLAIM invalidates its entries
whatever becomes of it at the consumer (R118, R145, R149, R150, R159, R160).  Counter 14 counts a forwarded cell of reserved TYPE on the
port it arrived on (R141; DESIGN CHOICE, log entry 102). -/
def State.passOn (s : State) (port stamp : Nat) (c : Cell) (known held : Bool) : State :=
  let out := 1 - port
  let linkScope := c.dkind == 3
  let isLocal := known && held && s.takesCell c
  let mayHop := decide (c.hops + 2 ≤ s.rd pgLINK RING_HOP_EFFECTIVE)
  let fwd := held && !linkScope && mayHop && s.linkUp out
  let sync := isLocal && c.typ == tTIME_SYNC
  let seqd := !linkScope && c.src != 0
  let cls := classOf c.typ
  let s := if held && !linkScope && !mayHop then (s.count (pgLINK + port) 9).mirror c port 7 else s
  match s.alloc cls c.granules (b2n fwd + b2n sync + 1) with
  | none => ((s.count pgSWC (4 + cls)).irq pgSWC 2).mirror c port 4
  | some (s, id) =>
    let s := (s.count pgSWC cls).mirror c port 0
    let r : RxCell := { cell := c, buf := id, port := port, at_ := s.now, ring := stamp, isLocal := isLocal }
    let s := if fwd then
        let s := if known then s else s.count (pgLINK + port) 14
        s.txPush out { cell := { c with hops := c.hops + 1 }, buf := id, fwd := true, at_ := stamp }
      else s
    let s := if sync then s.stampSync r else s
    let s := if isLocal && c.typ == tID_CLAIM then s.claimSeen (beAt c.payload 8 2 % 2048) else s
    if seqd then
      if s.discards r then (s.resequence r).seenTwice r else s.resequence r
    else if isLocal then s.steer r
    else s.release id

/-- Orders 6 to 9 of R116, of a cell that the port stamped at `stamp`. -/
def State.cellRx (s : State) (port stamp : Nat) (c : Cell) : State :=
  let known := typeDefined c.typ
  if c.dkind = 3 then s.passOn port stamp c known true
  else if s.strips c then ((s.count (pgLINK + port) 10).mirror c port 8).stripTopo port c
  else if s.aged c then ((s.count pgSWC 8).irq pgSWC 3).mirror c port 5
  else if !s.genHeld c then
    let s := if classOf c.typ = 1 then (s.irq pgPMAP 4).count pgPMAP 2 else s
    ((s.count pgSWC 10).irq pgSWC 4).mirror c port 6 |>.passOn port stamp c known false
  else s.passOn port stamp c known true

/-- FRAME_RX: a frame arrives on a port whose link state carries it; the checks of R116 in order, then delivery and forwarding (R105,
R116, R180). -/
def execFrameRx (port : Nat) (f : Frame) (s : State) : Res :=
  let st := s.lstate port
  if 1 < port ∨ !s.held.isEmpty ∨ st < 2 ∨ st = 7 then .next s
  else match s.macCheck port f with
    | (s, none) => .next s
    | (s, some b) =>
      match s.headCheck port b with
      | (s, none) => .next s
      | (s, some c) =>
        if st ≠ 3 ∧ c.typ ≠ tHELLO then .next s
        else .next (s.cellRx port (s.portStamp (2 * port + 1) f.frac) c).drainNotices

/-! ## Transmission -/

/-- The cell that class `cls` of a port sends next: forwarded and originated cells alternate while both wait (R147). -/
def State.txNext (s : State) (port cls : Nat) : Option TxCell :=
  let q := s.txq port cls
  let want := !(s.sw.lastFwd.get (fun _ => false) (4 * port + cls))
  match q.find? (fun t => t.fwd == want) with
  | some t => some t
  | none => q.head?

/-- The forwarded head cells of a port that are over age are discarded; the mirror shows them with their arrival port and HOPS as received
(R154, R166; DESIGN CHOICE, log entry 141). -/
def State.txAge : Nat → State → Nat → Nat → State
  | 0, s, _, _ => s
  | k + 1, s, port, cls =>
    match s.txNext port cls with
    | none => s
    | some t =>
      if t.fwd ∧ s.aged t.cell then
        let s := (s.setTxq port cls ((s.txq port cls).erase t)).release t.buf
        State.txAge k (((s.count pgSWC 9).irq pgSWC 3).mirror { t.cell with hops := t.cell.hops - 1 } (1 - port) 5) port cls
      else s

/-- A cell departs in the frame of R110; `rest` is what follows the addresses. -/
def State.txSend (s : State) (d : Departure) (t : TxCell) (rest : List Byte) : State :=
  let port := d.port
  let cls := classOf t.cell.typ
  let s := s.setTxq port cls ((s.txq port cls).erase t)
  let s := { s with sw := { s.sw with lastFwd := s.sw.lastFwd.set (fun _ => false) (4 * port + cls) t.fwd } }
  let s := ((s.emit (.frame port (frameBytes s.serial rest))).count (pgLINK + port) 1).mirror t.cell port 1
  (s.timeDepart port (s.portStamp (2 * port) d.frac) t).release t.buf

/-- The oldest HELLO that a port has to send leaves it, in clear (R105, R112). -/
def State.txHello (s : State) (d : Departure) : State :=
  match (s.txq d.port 0).find? (fun x => x.cell.typ == tHELLO) with
  | some h => s.txSend d h (frameBody h.cell false)
  | none => s

/-- FRAME_TX: the port takes the next cell in the priority CONTROL, IMAGE, BRIDGE, BULK and sends it, outside UP only a HELLO; on a
protected link every cell but a HELLO needs a transmit SA (R105, R112, R147, R154, R664). -/
def execFrameTx (d : Departure) (s : State) : Res :=
  let port := d.port
  if 1 < port ∨ !s.held.isEmpty ∨ s.lstate port < 2 ∨ s.lstate port = 7 then .next s
  else if s.lstate port ≠ 3 then .next (s.txHello d)
  else
    let s := (List.range 4).foldl (fun s cls => State.txAge (s.txq port cls).length s port cls) s
    match (List.range 4).findSome? (s.txNext port) with
    | none => .next s
    | some t =>
      if t.cell.typ = tHELLO ∨ !s.protected port then .next (s.txSend d t (frameBody t.cell false))
      else match s.protSend port t.cell with
        | some (s, rest) => .next (s.txSend d t rest)
        | none => .next (s.txHello d)

/-- The port whose posted write waits for this cell has its answer (R487). -/
def State.ackWrite (s : State) (w : WaitCell) (status : Nat) : State :=
  match w.ack with
  | some ini => s.rsp ini status []
  | none => s

/-- READ_TMO of a remote read counts from the admission of its BRG_READ (R497). -/
def State.readAdmitted (s : State) (c : Cell) : State :=
  let rid := beAt c.payload 5 1 % 32
  if c.typ ≠ tBRG_READ then s
  else if rid < 8 then s.setCtx rid { s.rctx rid with at_ := s.now }
  else
    let x := s.slotSt (rid - 8)
    { s with brg := { s.brg with slot := s.brg.slot.set (fun _ => {}) (rid - 8) { x with at_ := s.now } } }

/-- CELL_ADMIT_RESUME: the oldest waiting cell of a class is admitted once its class has room; one that the hub may no longer
source is dropped (R125, R146). -/
def execCellAdmitResume (cls : Nat) (s : State) : Res :=
  match s.sw.waiting.find? (fun w => classOf w.cell.typ == cls) with
  | none => .next s
  | some w =>
    let s' := { s with sw := { s.sw with waiting := s.sw.waiting.erase w } }
    if !s.mayAdmit w then .next (s'.ackWrite w stUNREACHABLE)
    else match s'.admitCell w with
      | none => .next s
      | some t => .next ((t.readAdmitted w.cell).ackWrite w stOK)

/-! ## The resequencer's timers and ID_CLAIM -/

/-- Of the cells that a context holds, the one that arrived first; of two that arrived at one time, the lower in SEQ (R161, R163; DESIGN
CHOICE, log entry 103). -/
def DdtEnt.oldest (e : DdtEnt) : Option RxCell :=
  e.held.foldl (fun (a : Option RxCell) h => match a with
    | some x => if h.at_ < x.at_ then some h else some x
    | none => some h) none

/-- The local time at which the hold of a context expires (R163). -/
def State.holdEnd (s : State) (e : DdtEnt) : Option Nat := e.oldest.map (fun r => r.at_ + s.holdEff)

/-- RSQ_HOLD_EXPIRY: at the first check, every 1 µs, at or after the end of the earliest hold, every context whose hold has
expired skips to its earliest-arrived cell (R161, R163). -/
def execRsqHoldExpiry (s : State) : Res :=
  match (s.rsq.filterMap (fun e => s.holdEnd e.2)).min? with
  | none => .next s
  | some t =>
    let s := s.passTo ((max t s.now + 999) / 1000 * 1000)
    let due := s.rsq.filter (fun e => match s.holdEnd e.2 with | some x => decide (x ≤ s.now) | none => false)
    .next (due.foldl (fun s e =>
      match e.2.oldest with
      | some h => s.skip e.1 (seqOff e.2.exp h.cell.seq)
      | none => s) s).drainNotices

/-- RETRY_EXPIRY: the oldest entry of IMG's retry list is not filled within the hold time (R152). -/
def execRetryExpiry (s : State) : Res :=
  match s.sw.retry with
  | [] => .next s
  | t :: l => .next (((s.passTo (t.at_ + s.holdEff)).setRetry l).lossNotice t.src)

/-- ID_CLAIM_RX: a conflict of IDs is resolved, outside a restart of the housekeeping core (R21, R124).  The entries of the claimed ID
were invalidated when the cell arrived (R160). -/
def execIdClaimRx (s : State) : Res :=
  match if s.hkPaused then none else s.takeCell 4 tID_CLAIM with
  | none => .next s
  | some (r, s) => .next (s.onClaim (beAt r.cell.payload 0 8) (beAt r.cell.payload 8 2 % 2048))

/-- MIR_CLEAR: MIR_CTRL.CLEAR resets WPTR, WRAPPED and STOPPED; the entries stay (R165, R175). -/
def execMirClear (s : State) : Res :=
  if !s.takes pgMIR then .next s else
  let s := { s with mir := { s.mir with since := 0 } }
  .next (((s.wr pgMIR MIR_WPTR_WPTR 0).wr pgMIR MIR_WPTR_WRAPPED 0).wr pgMIR MIR_WPTR_STOPPED 0)

end Sys2Proof.Machine
end

