-- ==== Sys2Proof/Machine/Obs.lean ====
section
/-!
DEFINITION. Commands of the OBS, PLUMB and PWRST pages (R96, R676, R678, R688, R697), queue pops and overflow bits (R198), and
the header commands INT_FORCE, FLT_FORCE and LOCK (R51, R53, R63).
-/
namespace Sys2Proof.Machine

/-! ## OBS -/

/-- OBS_MARK: a MARKER record carrying the value (R686, R697). -/
def execObsMark (data : Nat) (s : State) : Res := if s.takes pgOBS then .next (s.trace pgOBS 8 0 (data % 2 ^ 32)) else .next s

/-- TRACE_CLEAR: OBS_TRC_CTRL.CLEAR; the records stay (R688). -/
def execTraceClear (s : State) : Res :=
  if !s.takes pgOBS then .next s
  else
    let s := { s with obs := { s.obs with since := 0 } }
    .next (((s.wr pgOBS OBS_TRC_WPTR_WPTR 0).wr pgOBS OBS_TRC_WPTR_WRAPPED 0).wr pgOBS OBS_TRC_WPTR_STOPPED 0)

/-! ## PLUMB -/

/-- PLUMB_RES of an initiator: 0 OK, 1 BUSY, 2 TAG, 3 NOT_HELD, 4 RANGE; a refusal counts in counter 2 (R676, R694, R695). -/
def State.plumbRes (s : State) (ini : Initiator) (r : Nat) : State :=
  let s := s.wr pgPLUMB PLUMB_RES_RESULT r 0 ini.num
  if r = 0 then s else s.count pgPLUMB 2

/-- PLUMB_STAT.STATE: 0 IDLE, 1 ARMED, 2 SIZING, 3 READY, 4 BUILDING (R694). -/
def State.plumbState (s : State) : Nat := s.rd pgPLUMB PLUMB_STAT_STATE

/-- The end of PLUMB_CFG.HOLD from now on (R676). -/
def State.plumbHold (s : State) : State :=
  { s with plumb := { s.plumb with till := some (s.now + max 1 (s.rd pgPLUMB PLUMB_CFG_HOLD) * 100000000) } }

/-- The summary is released (R676). -/
def State.plumbFree (s : State) : State := (State.wr { s with plumb := {} } pgPLUMB PLUMB_STAT_STATE 0).irq pgPLUMB 4

/-- The word of a PLUMB_CMD write. -/
def plumbWord (cmd : Nat) (atCommit pin : Bool) (scope tag : Nat) : Nat :=
  cmd + 16 * b2n atCommit + 32 * b2n pin + 256 * (scope % 16) + 2 ^ 16 * (tag % 256)

/-- PLUMB_SNAP: SNAP takes the tag and waits for its edge, or is refused (R673, R674, R676). -/
def execPlumbSnap (ini : Initiator) (atCommit pin : Bool) (scope tag : Nat) (s : State) : Res :=
  if s.hkPaused then .next (s.hkDefer ini pgPLUMB 0x100 (plumbWord 1 atCommit pin scope tag))
  else if !s.takes pgPLUMB then .next s
  else if s.plumbState ≠ 0 then .next (s.plumbRes ini 1)
  else if s.rd pgPLUMB PLUMB_RANGE_LAST < s.rd pgPLUMB PLUMB_RANGE_FIRST then .next (s.plumbRes ini 4)
  else
    let s := ((s.wr pgPLUMB PLUMB_STAT_STATE 1).wr pgPLUMB PLUMB_STAT_TAG tag).wr pgPLUMB PLUMB_STAT_PINNED 0
    let s := ((s.wr pgPLUMB PLUMB_STAT_PARTS 0).wr pgPLUMB PLUMB_STAT_PART 0).wr pgPLUMB PLUMB_BYTES_BYTES 0
    let s := { s with plumb := { snap := some (atCommit, pin, scope % 16, ini.num, s.now) } }
    .next (s.plumbHold.plumbRes ini 0)

/-- PLUMB_RELEASE: RELEASE with the holder's tag (R676). -/
def execPlumbRelease (ini : Initiator) (tag : Nat) (s : State) : Res :=
  if s.hkPaused then .next (s.hkDefer ini pgPLUMB 0x100 (plumbWord 2 false false 0 tag))
  else if !s.takes pgPLUMB then .next s
  else if s.plumbState = 0 then .next (s.plumbRes ini 3)
  else if s.rd pgPLUMB PLUMB_STAT_TAG ≠ tag % 256 then .next (s.plumbRes ini 2)
  else .next (s.plumbFree.plumbRes ini 0)

/-- PLUMB_PART_SELECT: a write to PLUMB_PART selects a part to build (R676, R678). -/
def execPlumbPartSelect (ini : Initiator) (part tag : Nat) (s : State) : Res :=
  if s.hkPaused then .next (s.hkDefer ini pgPLUMB 0x110 (part % 256 + 256 * (tag % 256)))
  else if !s.takes pgPLUMB then .next s
  else if s.plumbState = 0 then .next (s.plumbRes ini 3)
  else if s.rd pgPLUMB PLUMB_STAT_TAG ≠ tag % 256 then .next (s.plumbRes ini 2)
  else if s.rd pgPLUMB PLUMB_STAT_PARTS ≤ part % 256 then .next (s.plumbRes ini 4)
  else
    let s := { s with plumb := { s.plumb with build := some (part % 256), window := [] } }
    .next ((s.wr pgPLUMB PLUMB_STAT_STATE 4).plumbHold.plumbRes ini 0)

/-- PLUMB_PART_READY: the selected part is built within 5 ms (R678). -/
def execPlumbPartReady (s : State) : Res :=
  match s.plumb.build with
  | none => .next s
  | some p =>
    if s.hkPaused then .next s else
    let s := { s with plumb := { s.plumb with build := none, window := s.plumb.parts.getD p [] } }
    let s := (s.wr pgPLUMB PLUMB_STAT_STATE 3).wr pgPLUMB PLUMB_STAT_PART p
    .next ((s.irq pgPLUMB 3).count pgPLUMB 1)

/-- PLUMB_HOLD_EXPIRY: HOLD passes after the last accepted SNAP or PLUMB_PART write (R676, R695). -/
def execPlumbHoldExpiry (s : State) : Res :=
  match s.plumb.till with
  | none => .next s
  | some t => .next ((s.passTo t).plumbFree.count pgPLUMB 3)

/-! ## PWRST commands -/

/-- A PWRST_CMD write that is rejected (R96). -/
def State.pwrstReject (s : State) : State := (s.irq pgPWRST 4).count pgPWRST 1

/-- A reset that a command asks for takes effect 10 µs after its write, each for itself (R96). -/
def State.resetLater (s : State) (rec : Bool) : State :=
  { s with rst := { s.rst with due := s.rst.due ++ [(s.now + 10000, rec)] } }

/-- PWRST_HUB_RESET: a hub reset 10 µs after the write (R88, R96). -/
def execPwrstHubReset (key : Nat) (s : State) : Res :=
  if !s.takes pgPWRST then .next s
  else if key ≠ 0xA5 then .next s.pwrstReject else .next (s.resetLater false)

/-- PWRST_RECOVERY: a hub reset into RECOVERY 10 µs after the write (R88, R96). -/
def execPwrstRecovery (key : Nat) (s : State) : Res :=
  if !s.takes pgPWRST then .next s
  else if key ≠ 0xA5 then .next s.pwrstReject else .next (s.resetLater true)

/-- PWRST_ENTER_QUIET: QUIET at the next commit at least 1 µs later; rejected outside SERVICE (R90, R96). -/
def execPwrstEnterQuiet (key : Nat) (s : State) : Res :=
  if !s.takes pgPWRST then .next s
  else if key ≠ 0xA5 ∨ s.node ≠ nsSERVICE then .next s.pwrstReject
  else .next { s with rst := { s.rst with quiet := some (true, s.now) } }

/-- PWRST_LEAVE_QUIET: SERVICE at the next commit at least 1 µs later; rejected outside QUIET (R90, R96). -/
def execPwrstLeaveQuiet (key : Nat) (s : State) : Res :=
  if !s.takes pgPWRST then .next s
  else if key ≠ 0xA5 ∨ s.node ≠ nsQUIET then .next s.pwrstReject
  else .next { s with rst := { s.rst with quiet := some (false, s.now) } }

/-! ## Queues -/

/-- FLT_LOG_POP: the head record leaves the log; an open one goes on outside it (R547, R549). -/
def State.fltPop (s : State) : State :=
  match s.flt.log with
  | [] => s
  | r :: l =>
    let out := if r.isOpen then s.flt.popped ++ [r] else s.flt.popped
    State.fltSync { s with flt := { s.flt with log := l, popped := out } }

/-- A write of 1 to POP of the queue of page `p` (R198, R286, R325, R329, R352, R506, R558). -/
def State.popQueue (s : State) (p : Nat) : State :=
  match pageKind? p with
  | some .txts => s.txtsPop
  | some .img => s.confPop
  | some .trk => s.outcomePop
  | some .lnch => s.launchExcPop
  | some .dio => s.dioPop (p - pgDIO)
  | some .brg => s.perrPop
  | some .flt => s.fltPop
  | _ => s

/-- The OVF bit and the OVF_COUNT of the queue of a kind of page. -/
def ovfFields : Kind → Option (Field × Field)
  | .txts => some (TXTS_STAT_OVF, TXTS_STAT_OVF_COUNT)
  | .img => some (IMG_CONF_STAT_OVF, IMG_CONF_STAT_OVF_COUNT)
  | .trk => some (TRK_LOG_STAT_OVF, TRK_LOG_STAT_OVF_COUNT)
  | .lnch => some (LNCH_EXC_STAT_OVF, LNCH_EXC_STAT_OVF_COUNT)
  | .dio => some (DIO_EVT_STAT_OVF, DIO_EVT_STAT_OVF_COUNT)
  | .can => some (CAN_RX_STAT_OVF, CAN_RX_STAT_OVF_COUNT)
  | .brg => some (BRG_PERR_STAT_OVF, BRG_PERR_STAT_OVF_COUNT)
  | .flt => some (FLT_LOG_STAT_OVF, FLT_LOG_STAT_OVF_COUNT)
  | .pcie => some (PCIE_ERR_STAT_VALID, PCIE_ERR_STAT_COUNT)
  | _ => none

/-- A write of 1 to the OVF bit of page `p`'s queue clears OVF and OVF_COUNT (R205). -/
def State.clearOvf (s : State) (p : Nat) : State :=
  match (pageKind? p).bind ovfFields with
  | some (f, g) => (s.wr p f 0).wr p g 0
  | none => s

/-- QUEUE_POP: a write to the POP register of a page's queue (R198). -/
def execQueuePop (page : Nat) (s : State) : Res := if s.takes page then .next (s.popQueue page) else .next s

/-- QUEUE_OVF_CLEAR: a write of 1 to the OVF bit of a page's queue (R205). -/
def execQueueOvfClear (page : Nat) (s : State) : Res := if s.takes page then .next (s.clearOvf page) else .next s

/-! ## Header commands -/

/-- INT_RAW: each 1 clears its bit; one more message may follow (R51, R68). -/
def State.intClear (s : State) (p v : Nat) : State :=
  let w := s.rd p INT_RAW_W
  (s.wr p INT_RAW_W (w - (w &&& v))).msixAgain p

/-- INT_RAW_CLEAR. -/
def execIntRawClear (page value : Nat) (s : State) : Res := s.atPage page 0x010 value (.next (s.intClear page value))

/-- INT_EN_WRITE (R51, R68). -/
def execIntEnWrite (page value : Nat) (s : State) : Res := s.atPage page 0x014 value (.next (s.intEnWrite page value))

/-- INT_FORCE: each 1 sets the INT_RAW bit exactly as its event would; blocked by LOCK (R51, R63). -/
def execIntForce (page value : Nat) (s : State) : Res :=
  s.atPage page 0x01C value (if s.on page PAGE_CTRL_LOCK then .next s else .next (s.irqs page value))

/-- The containment that a forced message of kind `kind` takes with FORCE_ACT (R542, R545): that of the word at address 0 for a memory, of
the page's engine, FIFO, sluice or sluices, of the image engine and the Bedstone.  The containment of the other kinds acts on what their
event names, which a forced message does not (DESIGN CHOICE, log entry 143). -/
def State.forcedContain (s : State) (p kind : Nat) : State :=
  if eccKinds.contains kind then s.contain p kind 0 false 3
  else match kind with
  | 0x02 => s.parityAt 0
  | 0x0D => if s.isBedstone then s.ckptReq else s
  | 0x15 => s.enterLag
  | 0x1B => if s.on pgIMG IMG_STAT_CFG_BAD then s else
      State.wr { s with img := { s.img with cfgFrom := if s.epoch = ones64 then 0 else s.epoch + 1 } } pgIMG IMG_STAT_CFG_BAD 1
  | 0x20 => s.fifoUpset (p - pgLANE) 0
  | 0x21 => if s.rd p COGe_STAT_STATE = 5 then s else s.cogFault (4 * (p - pgCOG)) 2
  | 0x26 => s.overvoltOff
  | 0x27 => (List.range 8).foldl (fun s n => s.sluFault n 5) s
  | 0x29 => if s.sluState (p - pgSLU) = 0 ∨ s.sluState (p - pgSLU) = 3 then (s.sluTo (p - pgSLU) 5).wr p SLU_STAT_CAUSE 6 else s
  | _ => s

/-- One forced fault message: ADDR 0, the kind's class for forced messages; with FORCE_ACT also the zeroising that contains a
tamper alarm (R542, R545). -/
def State.forceFault (s : State) (p : Nat) (r : KindRow) : State :=
  let s := if s.on pgFLT FLT_CFG_FORCE_ACT then (if r.kind = 0x0A then s.zeroise else s.forcedContain p r.kind) else s
  s.fault (if r.hk then 0x3F0 else p) r.kind r.forcedCls 0 true

/-- FLT_FORCE: one forced message per bit, lowest first (R53, R545). -/
def State.fltForce (s : State) (p v : Nat) : State :=
  match pageKind? p with
  | none => s
  | some k => ((kindRows k).filter (fun r => bitAt v r.bit && !(p == pgLINK + 1 && r.kind == 0x0F))).foldl
      (fun s r => s.forceFault p r) s

/-- FLT_FORCE; blocked by LOCK (R53, R63). -/
def execFltForce (page value : Nat) (s : State) : Res :=
  s.atPage page 0x020 value (if s.on page PAGE_CTRL_LOCK then .next s else .next (s.fltForce page value))

/-- LOCK: PAGE_CTRL.LOCK stays set until hub reset (R63). -/
def execLock (page : Nat) (s : State) : Res :=
  s.atPage page 0x008 (16 + b2n (s.enabled page)) (.next (s.wr page PAGE_CTRL_LOCK 1))

/-- PAGE_ENABLE_WRITE: PAGE_CTRL.EN of a page; blocked by LOCK (R46, R47, R63). -/
def execPageEnableWrite (page : Nat) (en : Bool) (s : State) : Res :=
  s.atPage page 0x008 (b2n en) (if s.on page PAGE_CTRL_LOCK then .next s else .next (s.setEnable page en))

end Sys2Proof.Machine
end

