-- ==== Sys2Proof/Machine/Access.lean ====
section
/-!
DEFINITION. Reads and writes of the local space (R33 to R39, R56 to R63): what a read returns, what a write to a register word
does, accesses of any size split into parts, and the same accesses as they arrive through the bridge (R486 to R502).
-/
namespace Sys2Proof.Machine

/-- The state an operation leaves; the state itself where the operation stops. -/
def State.ran (s : State) (r : Res) : State :=
  match r with
  | .next t => t
  | _ => s

/-- A write that waits, for room in a FIFO or buffer or for the housekeeping core: no status yet. -/
def stFULL : Nat := 0x20

/-! ## Reading register words -/

/-- Word `i` of the head entry of a queue of numbers (R198, R276, R325, R329, R343, R493). -/
def headWord (q : List Nat) (i : Nat) : Nat := bitsOf (q.headD 0) (32 * i) 32

/-- Low or high word of a 64-bit value. -/
def half (v : Nat) (hi : Bool) : Nat := bitsOf v (if hi then 32 else 0) 32

/-- The word with a field's bits replaced. -/
def withField (w : Nat) (f : Field) (x : Nat) : Nat := setBits w f.lo f.width x

/-- A register word as its access types show it: RW, RO, W1C and W1S bits in effect, RWS bits from the shadow, WC bits 0
(R56). -/
def State.baseWord (s : State) (k : Kind) (p off ini : Nat) : Nat :=
  let w := (s.word p off (iniCopy k off ini)).toNat
  let w := mergeBits w (s.shadowWord p off).toNat (pageMask k p .rws off)
  w - (w &&& pageMask k p .wc off)

/-- Word `n` of SYS_INT_PEND (R65). -/
def State.intPend (s : State) (n : Nat) : Nat :=
  (List.range 32).foldl (fun a b => if (pageKind? (32 * n + b)).isSome && s.intStat (32 * n + b) != 0 then a + 2 ^ b else a) 0

/-- A word of the window onto the transmit buffer that an initiator selects (R428, R452). -/
def State.txbWord (s : State) (p off ini : Nat) : Nat :=
  let b := (s.canSt (p - pgCAN)).buf.get (fun _ => {}) (s.rd p CAN_TXB_SEL_BUF 0 ini)
  if off = 0x164 then b.st + b.last * 2 ^ 4 + b2n b.latched * 2 ^ 7 + min 255 b.misses * 2 ^ 8 + b.clash % 16 * 2 ^ 16
  else if off = 0x170 then b.idw
  else if off = 0x174 then b.ctl
  else b.data.get (fun _ => 0) ((off - 0x180) / 4)

/-- DIO_VIO (R351). -/
def State.dioVio (s : State) (b : Nat) : Nat :=
  let bits (g : Nat) : Nat := b2n (!s.dark (2 * b + g)) + 2 * b2n (!s.dark (2 * b + g) && s.rst.vio3.contains (2 * b + g))
  bits 0 + 4 * bits 1

/-- The flash operation in progress: OP and REGION (R603). -/
def State.flashBusy (s : State) : Option (Nat × Nat) :=
  match s.upd.erasing with
  | some n => some (3, n)
  | none =>
    if s.crs.store.any (·.writing) then some (2, 2)
    else if s.key.op.isSome then some (2, 3) else none

/-- Seconds to the automatic confirmation of a trial (R645). -/
def State.trialLeft (s : State) : Nat :=
  match s.upd.trialAt with
  | some t => (t + 10 ^ 9 * max 1 (s.rd pgUPD UPD_CFG_CONFIRM_TMO) - s.now + (10 ^ 9 - 1)) / 10 ^ 9
  | none => 0

/-- Register words that the hub computes when they are read, by kind of page. -/
def State.derivedWord (s : State) (k : Kind) (p off ini : Nat) : Option Nat :=
  let base := s.baseWord k p off ini
  match k with
  | .sys => if 0x140 ≤ off ∧ off < 0x158 then some (s.intPend ((off - 0x140) / 4)) else none
  | .rsq =>
    let e := s.rsq.get (fun _ => {}) (s.rd p RSQ_SRC_SEL_SRC)
    if off = 0x110 then some e.exp
    else if off = 0x114 then some (b2n e.valid + 2 * b2n e.ctx + 4 * (e.held.length % 1024))
    else none
  | .timeP => if off = 0x100 ∨ off = 0x104 then some (half s.ringNow (off == 0x104)) else none
  | .txts => if off < 0x110 then some (headWord s.txts.q ((off - 0x100) / 4)) else none
  | .img =>
    let i := s.rd p IMG_PEEK_SEL_INDEX 0 ini
    if off = 0x12C then some (withField base IMG_OWN_OWNER
      (if s.mayPublish && s.img.own.any (fun x => x.epoch == s.epoch && x.owner == s.pubId) then s.pubId else 0))
    else if off = 0x148 then some (valAt s.visVals i)
    else if off = 0x14C then some (s.commitEpoch % 2 ^ 30 + s.pointStatus i * 2 ^ 30)
    else if 0x190 ≤ off ∧ off < 0x1A0 then some (headWord s.img.conf ((off - 0x190) / 4))
    else if off = 0x1E0 then some (withField base IMG_COPY_STAT_BAD ((List.range 4).foldl (fun a ch =>
      a + b2n (s.on p IMG_COPYn_A_EN ch && s.copyBad ch) * 2 ^ ch) 0))
    else none
  | .pmap =>
    if off = 0x108 ∨ off = 0x10C then some (half s.stagedEntry (off == 0x10C))
    else if off = 0x128 then some s.pmapSum
    else none
  | .bind =>
    let i := s.rd p BIND_SEL_INDEX
    if off = 0x108 ∨ off = 0x10C then some (half (valAt s.img.bindSh i) (off == 0x10C))
    else if off = 0x110 ∨ off = 0x114 then some (half (valAt s.img.bindLive i) (off == 0x114))
    else none
  | .axis =>
    if 0x100 ≤ off ∧ off < 0x200 ∧ off % 16 = 0xC then
      some (withField base AXISn_STAT_VALID (b2n (s.axisValid ((off - 0x100) / 16))))
    else if 0x300 ≤ off ∧ off < 0x400 ∧ off % 8 = 4 then
      let r := (off - 0x300) / 8
      some (b2n (s.refPos r s.ringNow).isSome + 2 * (min 8 (s.refSt r).hist.length))
    else none
  | .trk => if 0x140 ≤ off ∧ off < 0x150 then some (headWord s.trk.log ((off - 0x140) / 4)) else none
  | .lnch => if 0x140 ≤ off ∧ off < 0x150 then some (headWord s.trk.exc ((off - 0x140) / 4)) else none
  | .dio =>
    if off = 0x1B4 then some (s.dioVio (p - pgDIO))
    else if 0x1C0 ≤ off ∧ off < 0x1D0 then some (headWord (s.dioPage (p - pgDIO)).q ((off - 0x1C0) / 4))
    else none
  | .lane =>
    if off = 0x200 then some ((s.laneSt (p - pgLANE)).rx.head?.elim 0 (·.data))
    else if off = 0x204 then some ((s.laneSt (p - pgLANE)).rx.head?.elim 0 (fun w => 1 + 2 * b2n w.fin + 4 * b2n w.bad))
    else none
  | .cog =>
    if 0x140 ≤ off ∧ off < 0x1C0 ∧ off % 0x20 = 8 then
      let e := 4 * (p - pgCOG) + (off - 0x140) / 0x20
      some (s.cogStat e)
    else if 0x140 ≤ off ∧ off < 0x1C0 ∧ off % 0x20 = 0x14 then
      some (withField base COGe_PINS_LEVEL (s.cogLevel (4 * (p - pgCOG) + (off - 0x140) / 0x20)))
    else none
  | .can =>
    if off = 0x164 ∨ off = 0x170 ∨ off = 0x174 ∨ 0x180 ≤ off ∧ off < 0x1C0 then some (s.txbWord p off ini)
    else if off = 0x114 then
      let w := withField base CAN_STAT_RX_ACTIVE (if s.canHears (p - pgCAN) then s.freeVal % 2 else 0)
      some (if s.node = nsHOLD then withField w CAN_STAT_STANDBY (s.rd p CAN_CTRL_SAFE_STB) else w)
    else if 0x200 ≤ off ∧ off < 0x250 then
      some ((s.canSt (p - pgCAN)).ring.head?.elim 0 (fun e => e.words.getD ((off - 0x200) / 4) 0))
    else none
  | .slu => if off = 0x118 then some (min 0xFFFF (s.sluTimer (p - pgSLU))) else none
  | .brg =>
    if off = 0x108 then some (withField base BRG_STAT_COLLECT (b2n s.collectMode))
    else if 0x110 ≤ off ∧ off < 0x150 then some (base - base % 4)
    else if 0x180 ≤ off ∧ off < 0x1A0 then some (headWord s.brg.perr ((off - 0x180) / 4))
    else if 0x300 ≤ off ∧ off < 0x400 then
      let i := s.rd p BRG_SLOT_SEL_SLOT 0 ini
      some (if s.rd p BRG_SLOTn_STAT_STATE i = 2 then leAt (s.slotSt i).data (off - 0x300) 4 else 0)
    else none
  | .flt =>
    if off = 0x108 then some (withField base FLT_CLACK_GRACE_LEFT (match s.flt.graceEnd with
      | some t => min 64 ((t - s.now + 999999) / 1000000)
      | none => 0))
    else if 0x110 ≤ off ∧ off < 0x130 then some (s.flt.log.head?.elim 0 (fun r => r.words.getD ((off - 0x110) / 4) 0))
    else none
  | .twin => if off = 0x140 then some (withField base TWIN_STAT_PEER_ID (if s.enabled p then s.peerId else 0)) else none
  | .flash =>
    if off = 0x108 then match s.flashBusy with
      | some (op, r) => some (withField (withField (withField base FLASH_STAT_BUSY 1) FLASH_STAT_OP op) FLASH_STAT_REGION r)
      | none => none
    else none
  | .upd => if off = 0x134 then some (min 255 s.trialLeft) else none
  | .key =>
    let i := s.rd p KEY_SEL_SLOT
    let x := s.slotKey i
    if off = 0x114 then some (x.st % 8 + x.usage % 16 * 2 ^ 4 + x.parent % 256 * 2 ^ 8 + (s.children i).length % 32 * 2 ^ 16)
    else if off = 0x118 then some x.gen
    else none
  | _ => none

/-- The state as the pages of the housekeeping core show it while it restarts: as it stood when the restart began (R638). -/
def State.asHeld (s : State) (p : Nat) : State :=
  if s.hkPaused && servedByHk p then
    match s.hk.view with
    | some v => { s with now := v.at_, regs := v.regs, shadow := v.shadow, ctr := v.ctr, keySlot := v.keySlot, crs := v.crs,
                         upd := v.upd, key := v.key }
    | none => s
  else s

/-- What the register word at `off` of page `p` shows: 0 for an unimplemented page and for an offset no register occupies; block
registers read their reset values while READY is 0 (R39, R88).  A counter's high word reads 0 before the initiator has read its
low word, and a page of the power die what it held when the die link fell silent (R58, R20; DESIGN CHOICE, log entries 98 and
99). -/
def State.liveWord (s : State) (p off ini : Nat) : Nat :=
  match s.kindAt p with
  | none => 0
  | some k =>
    if off = 0x018 then s.intStat p
    else if 0x040 ≤ off ∧ off < 0x100 then
      if off % 8 = 0 then s.counterNow p ((off - 0x040) / 8) % 2 ^ 32 else s.latch.get (fun _ => 0) (regKey ini p (off - 4))
    else if off < 0x100 then s.baseWord k p off ini
    else if !s.on p PAGE_STAT_READY then resetWordAt p off
    else if s.dieSilent p then s.pwd.view.get (fun _ => 0) (0x1000 * p + off)
    else (s.derivedWord k p off ini).getD (s.baseWord k p off ini)

/-- What a read of the register word at `off` of page `p` returns, without its side effect (R21, R638). -/
def State.viewWord (s : State) (p off ini : Nat) : Nat := (s.asHeld p).liveWord p off ini

/-- A read of a counter's low word latches the high word for its initiator (R58). -/
def State.latchHigh (s : State) (p off ini : Nat) : State :=
  { s with latch := s.latch.set (fun _ => 0) (regKey ini p off) ((s.asHeld p).counterNow p ((off - 0x040) / 8) / 2 ^ 32) }

/-- The side effect of a read of the register word at `off` (R34): latching a counter, popping a receive FIFO. -/
def State.readEffect (s : State) (p off ini : Nat) : State :=
  match s.kindAt p with
  | none => s
  | some k =>
    if 0x040 ≤ off ∧ off < 0x100 then (if off % 8 = 0 then s.latchHigh p off ini else s)
    else if !s.on p PAGE_STAT_READY then s
    else match k with
      | .lane => if off = 0x200 then (s.rxPop (p - pgLANE) false).1 else s
      | .cog => if 0x140 ≤ off ∧ off < 0x1C0 ∧ off % 0x20 = 0x14 then s.drawn else s
      | .can =>
        let x := s.canSt (p - pgCAN)
        if off = 0x24C then s.setCan (p - pgCAN) { x with ring := x.ring.drop 1 }
        else if off = 0x114 then s.drawn else s
      | _ => s

/-- What a read or write of page `p` finds is brought up to now: the words a lane has sent, the records that have been open for 1 s, the
pins of the trace, the loops of engines (R364, R400, R547, R690). -/
def State.settled (s : State) (p off : Nat) : State :=
  if pgLANE ≤ p ∧ p < pgLANE + 64 then s.laneNow (p - pgLANE)
  else if p = pgOBS then s.pinDrain
  else if pgCOG ≤ p ∧ p < pgCOG + 8 then (List.range 4).foldl (fun s k => s.cogPass (4 * (p - pgCOG) + k)) s
  else if p = pgFLT ∨ off = 0x00C then s.fltExpire
  else s

/-- An access whose address or data fail the register bus's parity: it has no effect and reads 0 (R542, R554). -/
def State.busFails (s : State) (p off : Nat) : Bool := s.flt.parity == some (0x1000 * p + off)

/-- The failing access is over. -/
def State.busDone (s : State) : State := { s with flt := { s.flt with parity := none } }

/-- A read of one register word, with its side effect. -/
def State.readWord (s : State) (p off ini : Nat) : State × Nat :=
  if s.busFails p off then (s.busDone, 0)
  else
    let s := s.settled p off
    (s.readEffect p off ini, s.viewWord p off ini)

/-- COUNTER_LOW_READ: a port reads the low word of counter `k` of a page, 4 bytes; the USB port needs authentication for the KEY page (R57,
R58, R88, R534). -/
def execCounterLowRead (ini : Initiator) (page k : Nat) (s : State) : Res :=
  if 24 ≤ k ∨ !s.iniServes ini then .next s
  else if s.noAuth ini false (page * 0x1000 + (0x040 + 8 * k)) 4 then .next (s.authRefused ini)
  else
    let (t, v) := s.readWord page (0x040 + 8 * k) ini.num
    .next (t.rsp ini stOK [v])

/-! ## The windows outside page space -/

/-- Word `j` of the owner record of owner `o` (R211). -/
def State.ownerWord (s : State) (o j : Nat) : Nat :=
  let segs := ((List.range 8).filter (fun k => segCount (valAt s.visTable (8 * o + k)) != 0))
  let points := segs.foldl (fun a k => a + segCount (valAt s.visTable (8 * o + k))) 0
  let r := s.recOf o
  let last := r.last.getD ones64
  let since := r.since.getD ones64
  match j with
  | 0 => (if segs.isEmpty then 0 else r.st) + r.tenure % 256 * 2 ^ 8 + segs.length * 2 ^ 16
  | 1 => points % 2 ^ 13 + r.missing % 2 ^ 9 * 2 ^ 16
  | 2 => half last false
  | 3 => half last true
  | 4 => half r.digest false
  | 5 => half r.digest true
  | 6 => half since false
  | 7 => half since true
  | _ => 0

/-- The word at local address `a` of a window outside page space; none for an unmapped address (R33). -/
def State.windowWord (s : State) (a : Nat) : Option Nat :=
  let at_ (base size : Nat) : Bool := decide (base ≤ a ∧ a < base + size)
  if at_ 0x01000000 0x80000 then some (valAt s.visVals ((a - 0x01000000) / 4))
  else if at_ 0x01080000 0x80000 then some (valAt s.pinVals ((a - 0x01080000) / 4))
  else if at_ 0x01100000 0x8000 then some (s.statusWord (16 * ((a - 0x01100000) / 4)))
  else if at_ 0x02000000 0x20000 then some (half (valAt s.img.cur ((a - 0x02000000) / 8)) (decide (a % 8 = 4)))
  else if at_ 0x02020000 0x20000 then some (s.ownerWord ((a - 0x02020000) / 64) (a % 64 / 4))
  else if at_ 0x03000000 0x10000 then some (leAt s.plumb.window (a - 0x03000000) 4)
  else if at_ 0x04000000 0x40000 then some (bitsOf (valAt s.obs.trace ((a - 0x04000000) / 16)) (8 * (a % 16)) 32)
  else if at_ 0x04040000 0x20000 then some (bitsOf (valAt s.mir.ring ((a - 0x04040000) / 32)) (8 * (a % 32)) 32)
  else if at_ 0x05000000 0x10000 then
    some (bitsOf (s.launchAt ((a - 0x05000000) / 16)).bytes (8 * (a % 16)) 32)
  else none

/-! ## Accesses of any size -/

/-- An access to which R35 gives status ALIGN. -/
def misaligned (a len : Nat) : Bool := a % 4 != 0 || len % 4 != 0 || len == 0 || (inPages a && len == 8 && a % 8 != 0)

/-- The aligned 8-byte parts of an access, with 4-byte parts at its ends (R36, R37). -/
def accessParts : Nat → Nat → Nat → List (Nat × Nat)
  | 0, _, _ => []
  | k + 1, a, len =>
    if len = 0 then []
    else if a % 8 = 0 ∧ 8 ≤ len then (a, 8) :: accessParts k (a + 8) (len - 8)
    else (a, 4) :: accessParts k (a + 4) (len - 4)

/-- One part of a read: the words with their status. -/
def State.readPart (s : State) (ini a len : Nat) : State × Nat × List Nat :=
  let offs := (List.range (len / 4)).map (fun i => a + 4 * i)
  if inPages a then
    let r := offs.foldl (fun (x : State × List Nat) b =>
      let (t, v) := x.1.readWord (b / 0x1000) (b % 0x1000) ini
      (t, x.2 ++ [v])) (s, [])
    let ws := if a % 0x1000 = 0x200 ∧ len = 8 ∧ (pageKind? (a / 0x1000)) = some .lane ∧ r.1.flt.parity = s.flt.parity then
      let s := s.settled (a / 0x1000) 0x200
      [s.viewWord (a / 0x1000) 0x200 ini, s.viewWord (a / 0x1000) 0x204 ini] else r.2
    (r.1, stOK, ws)
  else
    let ws := offs.map s.windowWord
    if ws.all (·.isSome) then (s, stOK, ws.map (·.getD 0)) else (s, stUNMAPPED, ws.map (fun _ => 0))

/-- A local read: its status, the failed parts, and its words, 0 in a failed part (R35, R36, R38). -/
def State.readLocal (s : State) (ini a len : Nat) : State × Nat × List (Nat × Nat) × List Nat :=
  if misaligned a len then (s, stALIGN, [(a, stALIGN)], List.replicate (len / 4) 0)
  else
    (accessParts len a len).foldl (fun (x : State × Nat × List (Nat × Nat) × List Nat) part =>
      let (t, st, ws) := x.1.readPart ini part.1 part.2
      (t, if x.2.1 = stOK then st else x.2.1, if st = stOK then x.2.2.1 else x.2.2.1 ++ [(part.1, st)], x.2.2.2 ++ ws))
      (s, stOK, [], [])

end Sys2Proof.Machine
end

