-- ==== Sys2Proof/Machine/Commands.lean ====
section
/-!
DEFINITION. What a write to a register word does: LOCK and BUSY (R59, R61, R63), RW and RWS fields, W1C bits, and the commands
that WC fields start (R56); and a port's local write of any size (R35 to R39).
-/
namespace Sys2Proof.Machine

/-! ## The commands of WC fields -/

/-- A mover's command: 1 START, 2 STOP (R387). -/
def State.moverCmd (s : State) (m v : Nat) : State :=
  match v % 4 with
  | 1 => s.ran (execMoverStart m s)
  | 2 => s.ran (execMoverStop m s)
  | _ => s

/-- LANE_CMD (R369). -/
def State.laneCmd (s : State) (n v : Nat) : State :=
  match v % 16 with
  | 1 => s.ran (execRxFlush n s)
  | 2 => s.ran (execTxFlush n s)
  | 3 => s.ran (execRxDropRest n s)
  | 4 => s.ran (execTxDropHead n s)
  | 5 => s.ran (execSsiRead n s)
  | 6 => s.ran (execIolWurq n s)
  | _ => s

/-- KEY_CMD; a reserved field that is not 0 is out of range, answered as a wrong KEY is (R658, R669). -/
def State.keyCmd (s : State) (ini : Initiator) (v : Nat) : State :=
  let slot := bitsOf v 8 5
  let parent := bitsOf v 16 8
  let key := if bitsOf v 5 3 = 0 ∧ bitsOf v 13 3 = 0 then bitsOf v 24 8 else 0
  match v % 16 with
  | 1 => s.ran (execInstallClear ini slot parent key s)
  | 2 => s.ran (execInstallWrapped ini slot parent key s)
  | 3 => s.ran (execGenerate ini slot parent key s)
  | 4 => s.ran (execDestroy ini slot key (bitAt v 4) s)
  | 5 => s.ran (execLinkArm ini key s)
  | 6 => s.ran (execLinkDisarm ini key s)
  | _ => s

/-- UPD_CMD (R643). -/
def State.updCmd (s : State) (ini : Initiator) (v : Nat) : State :=
  match v % 16 with
  | 1 => s.ran (execUpdOpen ini s)
  | 2 => s.ran (execUpdAbort ini s)
  | 3 => s.ran (execUpdPrepare ini s)
  | 4 => s.ran (execUpdActivate ini (bitsOf v 4 1) (bitsOf v 24 8) s)
  | 5 => s.ran (execUpdConfirm ini s)
  | 6 => s.ran (execUpdDistribute ini s)
  | _ => s

/-- CRS_STORE_CMD (R623). -/
def State.crsStoreCmd (s : State) (ini : Initiator) (v : Nat) : State :=
  match v % 16 with
  | 1 => s.ran (execCrsStoreOpen ini (bitsOf v 4 4) (bitsOf v 24 8) s)
  | 2 => s.ran (execCrsStoreCommit ini (bitsOf v 24 8) s)
  | 3 => s.ran (execCrsStoreAbort ini (bitsOf v 24 8) s)
  | _ => s

/-- PMAP_CMD (R253). -/
def State.pmapCmd (s : State) (v : Nat) : State :=
  match v % 16 with
  | 1 => s.ran (execPmapCopy s)
  | 2 => s.ran (execPmapValidate s)
  | 3 => s.ran (execPmapArm s)
  | 4 => s.ran (execPmapDisarm s)
  | 5 => s.ran (execPmapAdopt (bitsOf v 8 8) s)
  | _ => s

/-- IMG_PIN_CMD (R283). -/
def State.pinCmd (s : State) (v : Nat) : State :=
  match v % 16 with
  | 1 => s.ran (execPin (bitsOf v 8 8) s)
  | 2 => s.ran (execRenew (bitsOf v 8 8) s)
  | 3 => s.ran (execUnpin (bitsOf v 8 8) s)
  | _ => s

/-- TRK_WCMD (R324). -/
def State.trkCmd (s : State) (ini : Initiator) (v : Nat) : State :=
  match v % 16 with
  | 1 => s.ran (execTrkRead ini s)
  | 2 => s.ran (execTrkWrite ini s)
  | 3 => s.ran (execTrkDisarm ini s)
  | 4 => s.ran (execArmSoft ini s)
  | _ => s

/-- LNCH_CMD (R328). -/
def State.lnchCmd (s : State) (ini : Initiator) (v : Nat) : State :=
  match v % 16 with
  | 1 => s.ran (execLnchInsert ini s)
  | 2 => s.ran (execLnchCancel ini (bitsOf v 4 12) s)
  | 3 => s.ran (execFlushTarget ini s)
  | _ => s

/-- CAN_TXB_CMD (R452). -/
def State.canCmd (s : State) (ini : Initiator) (port v : Nat) : State :=
  match v % 16 with
  | 1 => s.ran (execCanRequest ini port (bitsOf v 8 5) s)
  | 2 => s.ran (execCanCancel ini port (bitsOf v 8 5) s)
  | 3 => s.ran (execCanRelease ini port (bitsOf v 8 5) s)
  | _ => s

/-- COG_CMD (R414). -/
def State.cogCmd (s : State) (page v : Nat) : State :=
  match bitsOf v 4 4 with
  | 1 => s.ran (execCogCmdStart page (v % 16) s)
  | 2 => s.ran (execCogCmdStop page (v % 16) s)
  | 3 => s.ran (execCogCmdResume page (v % 16) s)
  | _ => s

/-- PWRST_CMD; a reserved CMD is rejected (R96). -/
def State.pwrstCmd (s : State) (v : Nat) : State :=
  let key := bitsOf v 24 8
  match v % 16 with
  | 1 => s.ran (execPwrstHubReset key s)
  | 2 => s.ran (execPwrstEnterQuiet key s)
  | 3 => s.ran (execPwrstLeaveQuiet key s)
  | 4 => s.ran (execPwrstRecovery key s)
  | _ => s.pwrstReject

/-- LINK_CMD (R133). -/
def State.linkCmd (s : State) (port v : Nat) : State :=
  match v % 16 with
  | 1 => s.ran (execLinkRetrain port s)
  | 2 => s.ran (execCableTest port s)
  | 3 => s.ran (execClearWorst port s)
  | _ => s

/-- TWIN_CMD (R583). -/
def State.twinCmd (s : State) (v : Nat) : State :=
  let key := bitsOf v 24 8
  match v % 16 with
  | 1 => s.ran (execTwinSwitch key s)
  | 2 => s.ran (execTwinResync key s)
  | 3 => s.ran (execTwinRejoin key s)
  | _ => s

/-- PLUMB_CMD (R694). -/
def State.plumbCmd (s : State) (ini : Initiator) (v : Nat) : State :=
  match v % 16 with
  | 1 => s.ran (execPlumbSnap ini (bitAt v 4) (bitAt v 5) (bitsOf v 8 4) (bitsOf v 16 8) s)
  | 2 => s.ran (execPlumbRelease ini (bitsOf v 16 8) s)
  | _ => s

/-- SLU_CMD (R481). -/
def State.sluCmd (s : State) (n v : Nat) : State :=
  match v % 16 with
  | 1 => s.ran (execSluOn n s)
  | 2 => s.ran (execSluOff n s)
  | 3 => s.ran (execSluClear n s)
  | _ => s

/-- PWD_CMD (R479). -/
def State.pwdCmd (s : State) (v : Nat) : State :=
  match v % 16 with
  | 1 => s.ran (execPowerCycle (bitsOf v 8 8) (bitsOf v 24 8) s)
  | 2 => s.ran (execClearMin s)
  | _ => s

/-- ZONE_CMD (R456). -/
def State.zoneCmd (s : State) (ini : Initiator) (v : Nat) : State :=
  match bitsOf v 4 4 with
  | 1 => s.ran (execZoneSleep ini (v % 8) s)
  | 2 => s.ran (execZoneWake ini (v % 8) s)
  | _ => s

/-- BRG_CREQ_CMD and BRG_SLOT_CMD (R501, R505, R506). -/
def State.brgCmd (s : State) (ini : Initiator) (off v : Nat) : State :=
  if off = 0x178 then (if bitAt v 9 then s.ran (execCollectRequest ini (v % 2 ^ 9) s) else s)
  else if off = 0x244 then (if bitAt v 4 then s.ran (execSlotCollect (v % 16) s) else s)
  else s

/-- A 1 written to the POP bit of a page's queue register. -/
def State.popCmd (s : State) (p v : Nat) : State := if bitAt v 0 then s.popQueue p else s

/-- The commands that a write of `v` to the word at `off` of page `p` starts through WC fields.  IMG_DEMAND, LANE_TXD, UPD_DATA
and BRG_MCW_CMD have rules of their own. -/
def State.cmdWrite (s : State) (k : Kind) (p off v : Nat) (ini : Initiator) : State :=
  match k with
  | .pwrst => if off = 0x104 then s.pwrstCmd v else s
  | .link => if off = 0x110 then s.linkCmd (p - pgLINK) v else if off = 0x204 ∧ p = pgLINK then s.ran (execRingIdSet ini v s) else s
  | .mir => if off = 0x100 ∧ bitAt v 2 then s.ran (execMirClear s) else s
  | .timeP => if off = 0x178 ∧ bitAt v 0 then s.ran (execTimeCapture s) else s
  | .txts => if off = 0x110 then s.popCmd p v else s
  | .img =>
    if off = 0x128 ∧ bitAt v 16 then s.ran (execMarginClear s)
    else if off = 0x150 then s.pinCmd v
    else if off = 0x1A0 then s.popCmd p v
    else s
  | .pmap => if off = 0x120 then s.pmapCmd v else s
  | .bind =>
    if off = 0x118 then match v % 16 with
      | 1 => s.ran (execBindValidate s)
      | 2 => s.ran (execClearShadow s)
      | _ => s
    else s
  | .axis => if off = 0x200 ∧ bitsOf v 4 4 = 1 then s.ran (execAxisPreset (v % 16) s) else s
  | .trk => if off = 0x130 then s.trkCmd ini v else if off = 0x150 then s.popCmd p v else s
  | .lnch => if off = 0x120 then s.lnchCmd ini v else if off = 0x150 then s.popCmd p v else s
  | .dio =>
    if off = 0x19C then s.ran (execDioOutSet (p - pgDIO) v s)
    else if off = 0x1A0 then s.ran (execDioOutClr (p - pgDIO) v s)
    else if off = 0x1E0 then s.ran (execDioCntClr (p - pgDIO) v s)
    else if off = 0x1D0 then s.popCmd p v
    else s
  | .lane => if off = 0x120 then s.laneCmd (p - pgLANE) v else s
  | .mov => if 0x100 ≤ off ∧ off < 0x700 ∧ off % 0x20 = 0x18 then s.moverCmd ((off - 0x100) / 0x20) v else s
  | .cog =>
    if off = 0x100 then s.cogCmd (p - pgCOG) v
    else if off = 0x110 then s.ran (execCogTokenGive (p - pgCOG) v s)
    else if off = 0x114 then s.ran (execCogTokenClr (p - pgCOG) v s)
    else s
  | .can =>
    if off = 0x124 ∧ bitAt v 0 then s.ran (execCanDetectStart (p - pgCAN) s)
    else if off = 0x15C then s.canCmd ini (p - pgCAN) v
    else s
  | .zone => if off = 0x200 then s.zoneCmd ini v else s
  | .pwd => if off = 0x10C then s.pwdCmd v else s
  | .slu => if off = 0x10C then s.sluCmd (p - pgSLU) v else s
  | .brg => if off = 0x1A0 then s.popCmd p v else s.brgCmd ini off v
  | .flt => if off = 0x130 then s.popCmd p v else if off = 0x160 ∧ bitAt v 0 then s.ran (execFltLastfatalClr s) else s
  | .twin => if off = 0x160 then s.twinCmd v else s
  | .drs => if off = 0x140 ∧ bitAt v 0 then s.ran (execCalRunNow s) else s
  | .crs =>
    if off = 0x120 then (if v % 16 = 1 then s.ran (execCrsSwitch ini (bitsOf v 4 4) (bitsOf v 24 8) s) else s)
    else if off = 0x130 then s.crsStoreCmd ini v
    else if off = 0x134 then s.ran (execCrsStoreData ini v s)
    else s
  | .upd => if off = 0x104 then s.updCmd ini v else s
  | .key =>
    if off = 0x100 then s.keyCmd ini v
    else if 0x200 ≤ off ∧ off < 0x280 then s.wr p KEY_DATAn_DATA v ((off - 0x200) / 4) ini.num
    else s
  | .plumb =>
    if off = 0x100 then s.plumbCmd ini v
    else if off = 0x110 then s.ran (execPlumbPartSelect ini (v % 256) (bitsOf v 8 8) s)
    else s
  | .obs =>
    if off = 0x100 ∧ bitAt v 2 then s.ran (execTraceClear s)
    else if off = 0x138 then s.ran (execObsMark v s)
    else s
  | _ => s

/-! ## W1C bits -/

/-- The W1C bits written as 1 are cleared; an OVF bit takes its OVF_COUNT with it, PCIE_ERR_STAT.VALID its COUNT (R205,
R517). -/
def State.w1cWrite (s : State) (k : Kind) (p off v : Nat) : State :=
  let m := pageMask k p .w1c off
  if m &&& v = 0 then s
  else
    let ovf := match ovfFields k with
      | some (f, _) => f.base == off && bitAt v f.lo
      | none => false
    let s := if ovf then s.clearOvf p else s
    let w := (s.word p off).toNat
    s.setWord p off (BitVec.ofNat 32 (w - (w &&& v &&& m)))

/-! ## Writing one register word -/

/-- PAGE_CTRL: the bits of one write act as EN, SOFT_RESET, APPLY, APPLY_AT_COMMIT, then LOCK (DESIGN CHOICE, log entry 132: the spec gives
no order); all but LOCK blocked by LOCK (R46, R47, R63). -/
def State.ctrlWrite (s : State) (k : Kind) (p v : Nat) : State × Nat :=
  let keeps := k.fixedOn || s.enabled p == bitAt v 0 || (k == .lane && bitAt v 0 && s.on p LANE_STAT_CLAIMED)
  if s.on p PAGE_CTRL_LOCK then (s, if keeps && bitsOf v 1 3 == 0 then stOK else stLOCKED)
  else
    let s := s.setEnable p (bitAt v 0)
    let s := if bitAt v 1 then s.ran (execSoftReset p s) else s
    let s := if bitAt v 2 then s.ran (execApply p s) else s
    let s := if bitAt v 3 then s.ran (execApplyAtCommit p s) else s
    (if bitAt v 4 then s.wr p PAGE_CTRL_LOCK 1 else s, stOK)

/-- A write to the Ashlar header of a page (R42). -/
def State.headerWrite (s : State) (k : Kind) (p off v : Nat) : State × Nat :=
  let lock := s.on p PAGE_CTRL_LOCK
  if off = 0x008 then s.ctrlWrite k p v
  else if off = 0x010 then (s.intClear p v, stOK)
  else if off = 0x014 then (s.intEnWrite p v, stOK)
  else if off = 0x01C then (if lock then (s, if v = 0 then stOK else stLOCKED) else (s.irqs p v, stOK))
  else if off = 0x020 then (if lock then (s, if v = 0 then stOK else stLOCKED) else (s.fltForce p v, stOK))
  else (s, stOK)

/-- A write to a block register of page `p`: LOCKED where LOCK blocks a field that it would change, BUSY with no effect where it
reaches an RWS field under an apply; else RW and RWS fields, W1C bits, then commands (R56, R59, R61, R63). -/
def State.blockWrite (s : State) (k : Kind) (p off v : Nat) (ini : Initiator) : State × Nat :=
  let rw := pageMask k p .rw off
  let rws := pageMask k p .rws off
  let x := s.pageSt p
  let lock := s.on p PAGE_CTRL_LOCK
  let blocked := lock && (((v ^^^ s.viewWord p off ini.num) &&& (rw ||| rws)) != 0)
  if rws ≠ 0 ∧ !lock ∧ (x.applyPend || x.armed) then (s, stBUSY)
  else
    let s := if lock || (rw ||| rws) == 0 then s else s.rwWrite p off v ini.num
    let s := (s.w1cWrite k p off v).cmdWrite k p off v ini
    (s, if blocked then stLOCKED else if rws != 0 && (x.applyPend || x.armed) then stBUSY else stOK)

/-- A write of one register word with its status.  `stFULL` says that the write waits, with no effect so far: LANE_TXD and
LANE_TXD_END while their FIFO has no room, UPD_DATA while its buffer has none, a page of the housekeeping core while it restarts and 16
writes are queued (R365, R508, R635, R638).  The parity check of the register bus gives no status: OK (R554; log entry 138). -/
def State.writeWord (s : State) (p off v : Nat) (ini : Initiator) : State × Nat :=
  match s.kindAt p with
  | none => (s, stUNMAPPED)
  | some k =>
    if s.busFails p off then (s.busDone, stOK)
    else if s.hkPaused && servedByHk p then
      if s.hk.queue.length < 16 then ({ s with hk := { s.hk with queue := s.hk.queue ++ [⟨ini, p, off, v⟩] } }, stOK)
      else (s, stFULL)
    else if off < 0x100 then s.headerWrite k p off v
    else if !s.takes p || s.dieSilent p then (s, stOK)
    else if k = .lane ∧ (off = 0x210 ∨ off = 0x214) then
      let s := s.laneNow (p - pgLANE)
      if s.laneRoom (p - pgLANE) then (s.lanePush (p - pgLANE) v (off == 0x214), stOK) else (s, stFULL)
    else if k = .upd ∧ off = 0x110 then
      match updSource ini with
      | some 3 => (s, stOK)
      | some src => if s.updBusy ini src then (s, stFULL) else (s.updFeed src (leBytes 4 v), stOK)
      | none => (s, stOK)
    else s.blockWrite k p off v ini

end Sys2Proof.Machine
end

