-- ==== Sys2Proof/Machine/Target.lean ====
section
/-!
DEFINITION. Writes of any size to the local space (R35 to R39), as ports, movers and the bridge make them; and the bridge as
target: BRG_WRITE and BRG_READ cells, lost writes, waiting, and the issuing hub's own copy of a multicast write (R486 to R502).
-/
namespace Sys2Proof.Machine

/-! ## Writes of any size -/

/-- The outcome of a write: the state, the first status that is not OK, the failed parts, and the words, by address, of the parts that
wait. -/
structure Wrote where
  s : State
  status : Nat := stOK
  fails : List (Nat × Nat) := []
  rest : List (Nat × Nat) := []

/-- A part of an access reaches IMG_DEMAND. -/
def atDemand (a : Nat) : Bool := a / 8 == demandAddr / 8

/-- One part of a write.  `dem` issues a demand (point, value); `mc` sends the multicast write of BRG_MCW_CMD; `deny` where page space
but for IMG_DEMAND is denied (R491, R492).  A part that finds no room for one of its words waits whole, with no effect (R37, R508). -/
def State.writePart (s : State) (ini : Initiator) (a : Nat) (ws : List Nat) (dem : State → Nat → Nat → State × Nat)
    (mc : State → State) (deny : Bool) : Wrote :=
  let fail (s : State) (st : Nat) : Wrote := { s := s, status := st, fails := if st = stOK then [] else [(a, st)] }
  let word (s : State) (b v : Nat) : State × Nat :=
    let (t, st) := s.writeWord (b / 0x1000) (b % 0x1000) v ini
    if b = 0x20160 ∧ st = stOK ∧ bitAt v 0 ∧ (s.kindAt pgBRG).isSome ∧ s.takes pgBRG then (mc t, st) else (t, st)
  if !inPages a then fail s (if (s.windowWord a).isSome then stREAD_ONLY else stUNMAPPED)
  else if deny && !atDemand a then fail s stDENIED
  else match ws with
    | [v, i] =>
      if a = demandAddr ∧ (s.kindAt pgIMG).isSome then
        if s.takes pgIMG then
          let (t, st) := dem s (i % 2 ^ 17) v
          fail t st
        else fail s stOK
      else
        let (t, st) := word s a v
        let (t, st') := word t (a + 4) i
        if st = stFULL ∨ st' = stFULL then { s := s, rest := [(a, v), (a + 4, i)] }
        else fail t (if st = stOK then st' else st)
    | [v] => let (t, st) := word s a v
             if st = stFULL then { s := s, rest := [(a, v)] } else fail t st
    | _ => fail s stOK

/-- A local write of words from address `a` (R35 to R38). -/
def State.writeLocal (s : State) (ini : Initiator) (a : Nat) (ws : List Nat) (dem : State → Nat → Nat → State × Nat)
    (mc : State → State) (deny : Bool := false) : Wrote :=
  if misaligned a (4 * ws.length) then { s := s, status := stALIGN, fails := [(a, stALIGN)] }
  else
    (accessParts (4 * ws.length) a (4 * ws.length)).foldl (fun (x : Wrote) part =>
      let mine := (ws.drop ((part.1 - a) / 4)).take (part.2 / 4)
      if !x.rest.isEmpty then
        { x with rest := x.rest ++ (List.range mine.length).map (fun i => (part.1 + 4 * i, mine.getD i 0)) }
      else
        let y := x.s.writePart ini part.1 mine dem mc deny
        { s := y.s, status := if x.status = stOK then y.status else x.status, fails := x.fails ++ y.fails, rest := y.rest })
      { s := s }

/-- Words wait, of an access whose first one found no room: for the housekeeping core, at UPD_DATA, or for room in a lane's transmit FIFO,
where the words after them reach no register; the write that they belong to completes with the last of them (R365, R508, R638). -/
def State.waitWords (s : State) (rest : List (Nat × Nat)) (w : LaneWait) : State :=
  let forHk := s.hkPaused && rest.head?.any (fun e => servedByHk (e.1 / 0x1000))
  let forUpd := !forHk && rest.any (fun e => e.1 == pgUPD * 0x1000 + 0x110)
  let rest := if forHk then rest else if forUpd then rest.filter (fun e => e.1 == pgUPD * 0x1000 + 0x110)
    else rest.filter (fun e => e.1 % 0x1000 == 0x210 || e.1 % 0x1000 == 0x214)
  (List.range rest.length).foldl (fun s i =>
    let (a, v) := rest.getD i (0, 0)
    let one : LaneWait := { w with data := v, fin := a % 0x1000 == 0x214, at_ := s.now, more := decide (i + 1 < rest.length) }
    if forHk then s.hkWait (a / 0x1000) (a % 0x1000) one
    else if forUpd then s.updWait one
    else
      let n := a / 0x1000 - pgLANE
      s.setLane n { s.laneSt n with wait := (s.laneSt n).wait ++ [one] }) s

/-- The demand of a local port (R272, R273). -/
def portDemand (ini : Initiator) (s : State) (point value : Nat) : State × Nat :=
  s.demandLocal ini.num (s.tagOf ini) point value s.ringNow

/-- SEND of BRG_MCW_CMD: one BRG_WRITE to a group or to all nodes, and its execution on this hub's own bus where it is a member
(R502).  Its own copy may reach BRG_MCW_CMD; `again` is what its SEND does then. -/
def State.sendMulticast (s : State) (ini : Initiator) (again : State → State) : State :=
  let addr := s.rd pgBRG BRG_MCW_ADDR_ADDR 0 ini.num
  let bcast := s.rd pgBRG BRG_MCW_CFG_BCAST 0 ini.num == 1
  let group := s.rd pgBRG BRG_MCW_CFG_GROUP 0 ini.num
  let lo := s.rd pgBRG BRG_MCW_DATA_LO_DATA 0 ini.num
  let ws := if s.rd pgBRG BRG_MCW_CFG_SIZE8 0 ini.num = 1 then [lo, s.rd pgBRG BRG_MCW_DATA_HI_DATA 0 ini.num] else [lo]
  let tag := s.tagOf ini
  let s := if s.maySource tBRG_WRITE then (s.pfInvalidate none addr (4 * ws.length)).count pgBRG 16 else s
  let s := s.originate (if bcast then 2 else 1) (if bcast then 0 else group) tBRG_WRITE
    (writePayload addr ini.num true tag 0 (wordBytes ws))
  let member := bitAt (s.rd64 pgSWC SWC_MCAST_CUR_LO_MEMBER SWC_MCAST_CUR_HI_MEMBER) group
  if !(bcast || member) then s
  else
    let w := s.writeLocal ini addr ws (portDemand ini) again
    let glob := w.s.globalAddr addr
    let s := w.fails.foldl (fun s f => s.perrLocal (s.globalAddr f.1) ini.num f.2 tag 0 true) w.s
    if w.rest.isEmpty then s
    else s.waitWords w.rest { ini := ini, data := 0, fin := false, at_ := 0, mcast := some tag, addr := glob }

/-- The multicast write of BRG_MCW_CMD.  A SEND that its own copy makes is executed once, and the own copy of that one makes no
SEND (DESIGN CHOICE, log entry 137). -/
def State.multicast (s : State) (ini : Initiator) : State :=
  s.sendMulticast ini (fun s => s.sendMulticast ini id)

/-- MULTICAST_SEND: SEND written to BRG_MCW_CMD by a port. -/
def execMulticastSend (ini : Initiator) (s : State) : Res := if s.takes pgBRG then .next (s.multicast ini) else .next s

/-- A local write of a port, of words from local address `a`: it completes with its status, or waits.  `full` is the address
recorded for a failure at the PCIe port (R508, R512). -/
def State.portWrite (s : State) (ini : Initiator) (a : Nat) (ws : List Nat) (full : Nat) (bar2 ep0 : Bool) : State :=
  let w := s.writeLocal ini a ws (portDemand ini) (fun s => s.multicast ini)
  let s := if ini = .pcie then w.fails.foldl (fun s f => s.pcieErr (full + (f.1 - a)) f.2 bar2 true) w.s else w.s
  match w.rest with
  | e :: _ => s.waitWords w.rest { ini := ini, data := 0, fin := false, at_ := 0, ep0 := ep0, addr := full + (e.1 - a), bar2 := bar2,
                                   prior := w.status }
  | [] => if ep0 then { s with usb := { s.usb with lastStatus := w.status } } else s.rsp ini w.status []

/-- REGISTER_WRITE: a port's write of one register word, executed under the access types; the USB port needs authentication (R56, R88,
R534). -/
def execRegisterWrite (ini : Initiator) (page off value : Nat) (s : State) : Res :=
  let a := page * 0x1000 + off
  if !s.iniServes ini then .next s
  else if s.noAuth ini true a 4 then .next (s.authRefused ini)
  else .next (s.portWrite ini a [value % 2 ^ 32] a false false)

/-! ## The bridge at the target -/

/-- A difference of write sequence numbers over the 65,535 values 1 to 0xFFFF (R489). -/
def wseqDiff (a b : Nat) : Nat := (a + 65535 - b) % 65535

/-- The next WSEQ expected from source `x`, 0 while its entry is invalid (R488). -/
def State.wseqNextOf (s : State) (x : Nat) : Nat := s.brg.wrx.get (fun _ => 0) x

/-- Writes the next expected WSEQ of a source. -/
def State.setWseq (s : State) (x w : Nat) : State := { s with brg := { s.brg with wrx := s.brg.wrx.set (fun _ => 0) x w } }

/-- Writes found lost are reported to their source (R489, R490). -/
def State.reportLost (s : State) (src first n : Nat) : State := (s.postedErr src 0 0xF stLOST false 0xFFFF first n).count pgBRG 13

/-- The check of a sequenced write (R488, R489). -/
def State.checkWrite (s : State) (src w : Nat) : State :=
  let e := s.wseqNextOf src
  let d := wseqDiff w e
  if w = 0 then s
  else if e = 0 ∨ d = 0 then s.setWseq src (wseqNext w)
  else if d ≤ 32767 then (s.reportLost src e d).setWseq src (wseqNext w)
  else (s.count pgBRG 13).setWseq src (wseqNext w)

/-- The check of a read's LAST_WSEQ (R489). -/
def State.checkRead (s : State) (src l : Nat) : State :=
  let e := s.wseqNextOf src
  let d := wseqDiff (wseqNext l) e
  if l = 0 ∨ e = 0 ∨ d = 0 ∨ 32767 < d then s else (s.reportLost src e d).setWseq src (wseqNext l)

/-- The type of the next access of the bridge consumer, in delivery order; none while a write holds the bridge (R486, R498). -/
def State.nextAccess (s : State) : Option Nat :=
  if s.brg.held.isSome then none
  else ((s.consQ 2).find? (fun r => r.cell.typ == tBRG_WRITE || r.cell.typ == tBRG_READ)).map (·.cell.typ)

/-- BRG_WRITE_RX: the oldest BRG_WRITE is checked and executed, unless a write holds the bridge; a failure is reported
(R486, R489 to R492, R498). -/
def execBrgWriteRx (s : State) : Res :=
  if s.nextAccess ≠ some tBRG_WRITE then .next s
  else match s.takeCell 2 tBRG_WRITE with
    | none => .next s
    | some (r, s) =>
      let p := r.cell.payload
      let addr := beAt p 0 4 % 2 ^ 29
      let n := p.length - 16
      let s := s.checkWrite r.cell.src (beAt p 8 2)
      let deny := !s.on pgBRG BRG_CFG_REMOTE_WR
      if deny && inPages addr && !decide (addr < demandAddr + 8 ∧ demandAddr < addr + n) then .next (s.reportWrite r stDENIED)
      else
        let s := s.count pgBRG 2
        if n % 4 ≠ 0 then .next (s.reportWrite r stALIGN)
        else
          let w := s.writeLocal .bridge addr (leWords (n / 4) (p.drop 16))
            (fun s point value => s.demandRemote r.cell.src r.cell.origin point value) (fun s => s.multicast .bridge) deny
          if !w.rest.isEmpty then
            let s := { w.s with brg := { w.s.brg with held := some (r, w.s.now) } }
            .next ((s.count pgBRG 11).waitWords w.rest { ini := .bridge, data := 0, fin := false, at_ := 0, prior := w.status })
          else
            let s := if w.status = stWAIT_EXPIRED then (w.s.count pgBRG 11).count pgBRG 12 else w.s
            .next (if w.status = stOK then s else s.reportWrite r w.status)

/-- BRG_WAIT_EXPIRED: the write that holds the bridge is abandoned after BRG_WAIT and reported (R498). -/
def execBrgWaitExpired (s : State) : Res :=
  match s.brg.held with
  | none => .next s
  | some (r, t) =>
    let s := s.passTo (t + 10000 * max 1 (s.rd pgBRG BRG_CFG_BRG_WAIT))
    let s := (s.lane.map (·.1)).foldl (fun s n =>
      s.setLane n { s.laneSt n with wait := (s.laneSt n).wait.filter (fun (w : LaneWait) => w.ini != .bridge) }) s
    let s := { s with brg := { s.brg with held := none },
                      hk := { s.hk with waits := s.hk.waits.filter (fun (w : HkWait) => w.how.ini != Initiator.bridge) } }
    .next ((s.count pgBRG 12).reportWrite r stWAIT_EXPIRED)

/-- The BRG_READ_RESP cells of a read (R495). -/
def State.respond (s : State) (dest rid gen status : Nat) (data : List Byte) : State :=
  let n := max 1 ((data.length + 239) / 240)
  (List.range n).foldl (fun s k =>
    s.originate 0 dest tBRG_READ_RESP
      (beBytes 1 rid ++ beBytes 1 gen ++ beBytes 1 status ++ beBytes 1 (k + 4 * (n - 1)) ++ beBytes 2 (240 * k) ++ beBytes 2 0
        ++ (data.drop (240 * k)).take 240)) s

/-- BRG_READ_RX: the oldest BRG_READ is executed over LEN + PF bytes and answered (R486, R489, R495). -/
def execBrgReadRx (s : State) : Res :=
  if s.nextAccess ≠ some tBRG_READ then .next s
  else match s.takeCell 2 tBRG_READ with
    | none => .next s
    | some (r, s) =>
      let p := r.cell.payload
      let s := (s.checkRead r.cell.src (beAt p 8 2)).count pgBRG 3
      let (t, st, _, ws) := s.readLocal Initiator.bridge.num (beAt p 0 4 % 2 ^ 29) (beAt p 6 2 % 512 + beAt p 10 2 % 512)
      .next (t.respond r.cell.src (beAt p 5 1 % 32) (beAt p 12 1) st (if st = stOK then wordBytes ws else []))

end Sys2Proof.Machine
end

