-- ==== Sys2Proof/Machine/Movers.lean ====
section
/-!
DEFINITION. The movers' bursts (R374 to R378, R499) and the image copies they write (R279 to R281).
-/
namespace Sys2Proof.Machine

/-- COUNT of a mover; 0 acts as 1 (R385). -/
def State.movCount (s : State) (m : Nat) : Nat := max 1 (s.rd pgMOV MOVn_COUNT_COUNT m)

/-- The address field of an end of a mover for word `k` of its run: 4 bytes a word, 8 in marked format (R374). -/
def State.movAddr (s : State) (m : Nat) (lo hi : Field) (k : Nat) : Nat :=
  s.rd64 pgMOV lo hi m + (if s.on pgMOV MOVn_CFG_FMT m then 8 else 4) * k

/-- Word `k` of a run is taken from the source: the data and, in marked format, the second word; or the error that stops the
mover (R374, R376, R378).  `host` is the word that host memory returns, none where the read fails. -/
def State.movRead (s : State) (m k : Nat) (host : Option (Nat × Nat)) : State × Except Nat (Nat × Nat) :=
  let a := s.movAddr m MOVn_SRC_LO_ADDR MOVn_SRC_HI_ADDR k
  match s.rd pgMOV MOVn_CFG_SRC_KIND m with
  | 0 => match host, s.pcieMaster with
    | some w, true => (s, .ok w)
    | _, _ => (s, .error 1)
  | 1 =>
    let (t, st, _, ws) := s.readLocal Initiator.hk.num (a % 2 ^ 29) (if s.on pgMOV MOVn_CFG_FMT m then 8 else 4)
    (t, if st = stOK then .ok (ws.getD 0 0, ws.getD 1 0) else .error 2)
  | _ =>
    let (t, d, st) := s.rxPop (s.rd pgMOV MOVn_SRC_LO_ADDR m % 64) false
    (t, .ok (d, st))

/-- A word goes to the destination; the error that stops the mover, if any.  A LOCAL write to a full transmit FIFO leaves the
state unchanged and answers none (R374, R376, R378). -/
def State.movWrite (s : State) (m k : Nat) (w : Nat × Nat) : Option (State × Option Nat) :=
  let marked := s.on pgMOV MOVn_CFG_FMT m
  let ws := if marked then [w.1, w.2] else [w.1]
  let a := s.movAddr m MOVn_DST_LO_ADDR MOVn_DST_HI_ADDR k
  let local_ (s : State) (a : Nat) : Option (State × Option Nat) :=
    let x := s.writeLocal .hk a ws (fun s point value => s.demandLocal 5 m point value s.ringNow) (fun s => s.multicast .hk)
    if !x.rest.isEmpty then none else some (x.s, if x.status = stOK then none else some 2)
  match s.rd pgMOV MOVn_CFG_DST_KIND m with
  | 0 => if s.pcieMaster then some (s.emit (.pcieWrite a ws), none) else some (s, some 1)
  | 1 => local_ s (a % 2 ^ 29)
  | 2 =>
    let node := a / 2 ^ 29 % 2 ^ 11
    if s.isHere node then local_ s (a % 2 ^ 29)
    else some ((List.range ws.length).foldl (fun s i =>
      s.postCell node (a % 2 ^ 29 + 4 * i) 5 m (leBytes 4 (ws.getD i 0))) s, none)
  | _ =>
    let fin := if marked then bitAt w.2 1 else s.on pgMOV MOVn_CFG_END_LAST m && (k + 1 == s.movCount m)
    some (s.lanePush (s.rd pgMOV MOVn_DST_LO_ADDR m % 64) w.1 fin, none)

/-- Up to `n` words of a burst, each read, written and counted; a failure ends in ERROR, COUNT words in DONE (R374, R378). -/
def State.movWords : Nat → State → Nat → List (Nat × Nat) → State
  | 0, s, _, _ => s
  | n + 1, s, m, host =>
    let k := (s.moverSt m).pos
    match s.movRead m k host.head? with
    | (t, .error e) => t.movError m e
    | (t, .ok w) =>
      match t.movWrite m k w with
      | none => s
      | some (t, some e) => t.movError m e
      | some (t, none) =>
        let t := t.count pgMOV 0
        let last := decide (t.movCount m ≤ k + 1)
        let ring := t.on pgMOV MOVn_CFG_RING m
        let t := t.setMover m { t.moverSt m with pos := if last && ring then 0 else k + 1 }
        if last && !ring then t.movDone m else State.movWords n t m (host.drop 1)

/-- How many words a grant moves: BURST, the words or room available, and the words remaining (R375). -/
def State.movGrant (s : State) (m : Nat) : Nat :=
  let burst := min 64 (max 1 (s.rd pgMOV MOVn_CFG_BURST m))
  let left := if s.on pgMOV MOVn_CFG_RING m then burst else s.movCount m - (s.moverSt m).pos
  let avail := if s.rd pgMOV MOVn_CFG_SRC_KIND m = 3 then (s.laneSt (s.rd pgMOV MOVn_SRC_LO_ADDR m % 64)).rx.length else burst
  let x := s.laneSt (s.rd pgMOV MOVn_DST_LO_ADDR m % 64)
  let room := if s.rd pgMOV MOVn_CFG_DST_KIND m = 4 then (if x.wait.isEmpty then 256 - x.tx.length else 0) else burst
  min (min burst left) (min avail room)

/-! ## Image copies -/

/-- A copy channel. -/
def State.copyCh (s : State) (ch : Nat) : CopyCh := s.img.copies.get (fun _ => {}) ch

/-- Writes a copy channel. -/
def State.setCopy (s : State) (ch : Nat) (c : CopyCh) : State :=
  { s with img := { s.img with copies := s.img.copies.set (fun _ => {}) ch c } }

/-- The header or trailer of a copy (R280). -/
def copyHeader (c : CopyCh) (busy incomplete : Bool) : List Nat :=
  [c.epoch % 2 ^ 32, c.epoch / 2 ^ 32 % 2 ^ 32, c.seq % 2 ^ 32,
   b2n busy + 2 * b2n incomplete + 4 * b2n c.lag + 8 * b2n c.full]

/-- The host address of byte `o` of a copy: the mover's destination onward (R377). -/
def State.copyAt (s : State) (c : CopyCh) (o : Nat) : Nat := s.rd64 pgMOV MOVn_DST_LO_ADDR MOVn_DST_HI_ADDR c.mover + o

/-- A copy ends without a trailer and the commit counts as skipped. -/
def State.copySkip (s : State) (ch : Nat) : State :=
  (s.copyEnd ch).wr pgIMG IMG_COPY_STAT_SKIPPED (setBits (s.rd pgIMG IMG_COPY_STAT_SKIPPED) ch 1 1)

/-- IMAGE_COPY_START: a copy that is due begins and writes its header with BUSY 1; a mover whose kinds differ ends with
BAD_KIND (R279, R280, R377). -/
def execImageCopyStart (ch : Nat) (s : State) : Res :=
  let c := s.copyCh ch
  if !c.due then .next s
  else if s.rd pgMOV MOVn_CFG_SRC_KIND c.mover ≠ 5 ∨ s.rd pgMOV MOVn_CFG_DST_KIND c.mover ≠ 0 then
    .next ((s.copySkip ch).movError c.mover 3)
  else if !s.pcieMaster then .next ((s.copySkip ch).movError c.mover 1)
  else
    let c := { c with due := false, busy := true, seq := (c.seq + 1) % 2 ^ 32 }
    let s := (s.setCopy ch c).setMover c.mover { s.moverSt c.mover with pos := 0 }
    let s := s.wr pgIMG IMG_COPY_STAT_BUSY (setBits (s.rd pgIMG IMG_COPY_STAT_BUSY) ch 1 1)
    .next (s.emit (.pcieWrite (s.copyAt c 0) (copyHeader c true false)))

/-- A burst of a copy in progress (R280, R375). -/
def State.copyBurst (s : State) (ch : Nat) : State :=
  let c := s.copyCh ch
  let k := (s.moverSt c.mover).pos
  let n := min (min 64 (max 1 (s.rd pgMOV MOVn_CFG_BURST c.mover))) (c.words.length - k)
  if n = 0 ∨ c.stop then s
  else if !s.pcieMaster then (s.copySkip ch).movError c.mover 1
  else
    let s := (s.emit (.pcieWrite (s.copyAt c (16 + 4 * k)) ((c.words.drop k).take n))).count pgMOV 0 n
    (s.setMover c.mover { s.moverSt c.mover with pos := k + n }).count pgMOV 1

/-- IMAGE_COPY_DONE: when every word is written, or a commit stopped the copy, the trailer and the header with BUSY 0 are
written (R280, R281, R386, R387). -/
def execImageCopyDone (ch : Nat) (s : State) : Res :=
  let c := s.copyCh ch
  if !c.busy || !(c.stop || decide (c.words.length ≤ (s.moverSt c.mover).pos)) then .next s
  else if !s.pcieMaster then .next ((s.copySkip ch).movError c.mover 1)
  else
    let s := s.emit (.pcieWrite (s.copyAt c (16 + 4 * c.words.length)) (copyHeader c false c.stop))
    let s := (s.emit (.pcieWrite (s.copyAt c 0) (copyHeader c false c.stop))).copyEnd ch
    if c.stop then .next s
    else
      let s := (s.irq pgIMG 14).count pgIMG 23
      .next ((s.count pgMOV 3).movFlag MOV_DONE_LO_DONE MOV_DONE_HI_DONE c.mover 2)

/-! ## Bursts -/

/-- The image copy in progress that a mover writes (R377). -/
def State.copyNow (s : State) (m : Nat) : Option Nat := (List.range 4).find? (fun ch => (s.copyCh ch).busy && (s.copyCh ch).mover == m)

/-- A mover's request is pending (R375). -/
def State.movReady (s : State) (m : Nat) : Bool :=
  s.enabled pgMOV && (s.moverSt m).backoff.isNone
    && ((s.copyNow m).isSome
        || (s.movState m == 1 && (s.copyOf m).isNone && s.movAsked m && decide (0 < s.movGrant m)))

/-- The mover that round-robin order grants: the first behind the last one granted whose request is pending (R375). -/
def State.movTurn (s : State) : Option Nat := ((List.range 48).map (fun i => (s.movLast + 1 + i) % 48)).find? s.movReady

/-- MOVER_BURST: the mover whose turn it is moves one burst; `host` holds the words that host memory returns to a PCIE source, `contend`
says that a read completion contends for the PCIe port, so that a mover with a PCIE destination backs off (R375, R499). -/
def execMoverBurst (mover : Nat) (host : List (Nat × Nat)) (contend : Bool) (s : State) : Res :=
  let s := (List.range 64).foldl (fun (s : State) l => s.laneNow l) s
  let copy := s.copyNow mover
  let turn := s.movTurn == some mover
  let s := if turn then { s with movLast := mover } else s
  if !turn then .next s
  else if contend && s.rd pgMOV MOVn_CFG_DST_KIND mover == 0 && !s.collectMode then
    let t := s.now + 1000 * max 1 (s.rd pgBRG BRG_CFG2_BACKOFF)
    .next ((s.setMover mover { s.moverSt mover with backoff := some t }).count pgBRG 14)
  else match copy with
    | some ch => .next (s.copyBurst ch)
    | none => .next (State.movWords (s.movGrant mover) (s.count pgMOV 1) mover host)

end Sys2Proof.Machine
end

