-- ==== Sys2Proof/Machine/Ports.lean ====
section
/-!
DEFINITION. The host ports (R508 to R518): the PCIe endpoint with its windows and MSI-X, and the QSPI host port (R519 to R526).
-/
namespace Sys2Proof.Machine

/-! ## PCIe -/

/-- A remote read of the PCIe port, in bridge reads of up to 256 bytes that end at a read completion boundary (R494, R510, R512, R514). -/
def State.pcieRemote : Nat → State → Nat → Nat → Nat → State
  | 0, s, _, _, _ => s
  | k + 1, s, node, addr, len =>
    if len = 0 then s
    else
      let n := min (256 - addr % 64) len
      State.pcieRemote k (s.readIssue .pcie node addr n) node (addr + n) (len - n)

/-- The completions of a read at `a`: parts of at most 256 bytes, split at 64-byte boundaries (R510). -/
def State.completeParts : Nat → State → Nat → Nat → List Nat → State
  | 0, s, _, _, _ => s
  | k + 1, s, a, st, ws =>
    let n := (256 - a % 64) / 4
    if ws.length ≤ n then s.rsp .pcie st ws
    else State.completeParts k (s.rsp .pcie st (ws.take n)) (a + 4 * n) st (ws.drop n)

/-- A PCIe read at `a` completes with its words (R510, R512). -/
def State.complete (s : State) (a st : Nat) (ws : List Nat) : State := State.completeParts (ws.length + 1) s a st ws

/-- A PCIe access to a local address; `full` is the address recorded for a failure (R512). -/
def State.pcieLocal (s : State) (bar2 write : Bool) (a full len : Nat) (data : List Nat) : State :=
  if write then s.portWrite .pcie a data full bar2 false
  else
    let (t, st, fails, ws) := s.readLocal Initiator.pcie.num a len
    (fails.foldl (fun s f => s.pcieErr (full + (f.1 - a)) f.2 bar2 false) t).complete a st ws

/-- A PCIe access that fails as a whole. -/
def State.pcieFail (s : State) (bar2 write : Bool) (full status len : Nat) : State :=
  (s.pcieErr full status bar2 write).complete (full % 2 ^ 29) status (if write then [] else List.replicate (len / 4) 0)

/-- Messages held in the PBA go out where nothing masks them any more (R515). -/
def State.msixFlush (s : State) : State :=
  let go (v : Nat) : Bool := s.on pgPCIE PCIE_STAT_MSIX_EN && !s.on pgPCIE PCIE_STAT_FMASK && s.pcieMaster
    && !(s.msix.tab.get (fun _ => {}) v).masked
  let out := s.msix.pba.filter go
  out.foldl (fun s v => s.sendMsix v) { s with msix := { s.msix with pba := s.msix.pba.filter (fun v => !go v) } }

/-- A word of BAR4 as a read gives it: the MSI-X table at 0x0000, four words an entry, and the PBA at 0x2000; a free value elsewhere
(R511, R515; DESIGN CHOICE, log entry 144). -/
def State.bar4Word (s : State) (off : Nat) : Nat × State :=
  let e := s.msix.tab.get (fun _ => {}) (off / 16)
  if off < 0x200 then
    (match off / 4 % 4 with
      | 0 => e.addr % 2 ^ 32
      | 1 => e.addr / 2 ^ 32 % 2 ^ 32
      | 2 => e.data
      | _ => b2n e.masked, s)
  else if off = 0x2000 then ((List.range 32).foldl (fun a v => a + b2n (s.msix.pba.contains v) * 2 ^ v) 0, s)
  else if off = 0x2004 then (0, s)
  else (s.freeVal % 2 ^ 32, s.drawn)

/-- A word of the MSI-X table is written; the PBA and the rest of BAR4 take no write (R511; DESIGN CHOICE, log entry 144). -/
def State.bar4Put (s : State) (off v : Nat) : State :=
  if 0x200 ≤ off then s
  else
    let e := s.msix.tab.get (fun _ => {}) (off / 16)
    let e := match off / 4 % 4 with
      | 0 => { e with addr := e.addr / 2 ^ 32 * 2 ^ 32 + v % 2 ^ 32 }
      | 1 => { e with addr := v % 2 ^ 32 * 2 ^ 32 + e.addr % 2 ^ 32 }
      | 2 => { e with data := v % 2 ^ 32 }
      | _ => { e with masked := bitAt v 0 }
    State.msixFlush { s with msix := { s.msix with tab := s.msix.tab.set (fun _ => {}) (off / 16) e } }

/-- A memory request to BAR4, whose table has the function's interrupts; one with a byte not enabled writes nothing (R511). -/
def State.bar4 (s : State) (write whole : Bool) (off len : Nat) (data : List Nat) : State :=
  if write then
    if whole then (List.range data.length).foldl (fun s i => s.bar4Put ((off + 4 * i) % 0x4000) (data.getD i 0)) s else s
  else
    let (ws, s) := (List.range (len / 4)).foldl (fun (a : List Nat × State) i =>
      let (w, t) := a.2.bar4Word ((off + 4 * i) % 0x4000)
      (a.1 ++ [w], t)) ([], s)
    s.complete off stOK ws

/-- PCIE_REQUEST: a memory request of `len` bytes at an offset of BAR0, BAR2 or BAR4, `whole` where every byte is enabled (R511 to R514,
R518).  Without memory space, as after reset and in D3hot, the endpoint takes none. -/
def execPcieRequest (bar : Nat) (write whole : Bool) (off len : Nat) (data : List Nat) (s : State) : Res :=
  if !(s.on pgPCIE PCIE_STAT_LINK_UP && s.pcie.mem) || s.on pgPCIE PCIE_STAT_D3 then .next s
  else if bar = 4 then .next (s.bar4 write whole off len data)
  else
    let bar2 := bar == 2
    let len := if write then 4 * data.length else len
    let whole := whole && !(len == 8 && off % 8 == 4)
    let s := s.count pgPCIE ((if bar2 then 2 else 0) + b2n write)
    if !bar2 then
      let a := off % 2 ^ 29
      if whole then .next (s.pcieLocal false write a a len data) else .next (s.pcieFail false write a stALIGN len)
    else
      let k := off / 2 ^ 24 % 64
      let node := s.rd pgPCIE PCIE_WINk_NODE k
      let a := s.rd pgPCIE PCIE_WINk_BASE k * 2 ^ 24 + off % 2 ^ 24
      let full := node * 2 ^ 29 + a
      if !s.on pgPCIE PCIE_WINk_EN k then .next (s.pcieFail true write full stUNMAPPED len)
      else if !whole || a % 4 != 0 || len % 4 != 0 || len == 0 then .next (s.pcieFail true write full stALIGN len)
      else if s.isHere node then .next (s.pcieLocal true write a full len data)
      else if write then
        .next (s.postWrite .pcie node a data)
      else .next (State.pcieRemote (len / 256 + 2) s node a len)

/-- PCIE_CONFIG_WRITE: memory space, bus mastering, MSI-X enable, function mask and D3hot (R510, R515, R516). -/
def execPcieConfigWrite (mem bme msixEn fmask d3 : Bool) (s : State) : Res :=
  if !s.on pgPCIE PCIE_STAT_LINK_UP then .next s
  else
    let s := { s with pcie := { mem := mem } }
    let s := ((s.wr pgPCIE PCIE_STAT_BME (b2n bme)).wr pgPCIE PCIE_STAT_MSIX_EN (b2n msixEn)).wr pgPCIE PCIE_STAT_FMASK (b2n fmask)
    .next (s.wr pgPCIE PCIE_STAT_D3 (b2n d3)).msixFlush

/-- MSIX_UNMASK: an entry of the MSI-X table, in BAR4, is written; a pending message goes out where this unmasks it (R511,
R515). -/
def execMsixUnmask (vector addr data : Nat) (masked : Bool) (s : State) : Res :=
  if !(s.on pgPCIE PCIE_STAT_LINK_UP && s.pcie.mem) || s.on pgPCIE PCIE_STAT_D3 then .next s else
  let e : MsixEnt := { addr := addr, data := data, masked := masked }
  .next (State.msixFlush { s with msix := { s.msix with tab := s.msix.tab.set (fun _ => {}) (vector % 32) e } })

/-- PCIE_LINK_UP: the link trains at SPEED 1 or 2 with WIDTH 1 or 2 (R510, R517, R518); not while PCIE_PERST_N reads 0 for want of its
bank's supply (R704, R710). -/
def execPcieLinkUp (speed width : Nat) (s : State) : Res :=
  if s.dark 34 || s.on pgPCIE PCIE_STAT_LINK_UP || !s.on pgCLK CLK_STAT_PCIE_PLL_LOCK || !s.portOn pgPCIE then .next s
  else
    let s := ((s.wr pgPCIE PCIE_STAT_LINK_UP 1).wr pgPCIE PCIE_STAT_SPEED speed).wr pgPCIE PCIE_STAT_WIDTH width
    .next (s.irq pgPCIE 2)

/-- PCIE_LINK_DOWN. -/
def execPcieLinkDown (s : State) : Res := .next s.pcieDown

/-- PCIE_HOT_RESET (R516, R518). -/
def execPcieHotReset (s : State) : Res :=
  if !s.on pgPCIE PCIE_STAT_LINK_UP then .next s else .next ((s.pcieConfigReset.irq pgPCIE 4).count pgPCIE 6)

/-- PCIE_PLL_LOCK: the PLL regains lock by itself (R73, R75). -/
def execPciePllLock (s : State) : Res := if !s.held.isEmpty then .next s else .next (s.wr pgCLK CLK_STAT_PCIE_PLL_LOCK 1)

/-- PCIE_PLL_UNLOCK takes the PCIe link down (R73). -/
def execPciePllUnlock (s : State) : Res :=
  if !s.held.isEmpty then .next s
  else .next ((((s.wr pgCLK CLK_STAT_PCIE_PLL_LOCK 0).irq pgCLK 3).count pgCLK 2).pcieDown)

/-! ## The QSPI host port -/

/-- A frame begins with its nine header bytes: HCRC is checked, then the reserved fields; `mine` says which OP codes this
command handles (R520, R524 to R526). -/
def State.qshBegin (s : State) (hdr : List Byte) (mine : Nat → Bool) (run : State → State) : Res :=
  let op := beAt hdr 0 1 / 16
  if !s.portsServe pgQSH || s.qsh.frame || s.qsh.waiting || !mine op then .next s
  else
    let s := State.count (State.wr { s with qsh := { s.qsh with frame := true } } pgQSH QSH_STAT_BUSY 1) pgQSH 0
    if crc16 (hdr.take 7) ≠ beAt hdr 7 2 then .next ((s.qshErr QSH_ERR_HCRC).count pgQSH 5)
    else
      let s := (s.wr pgQSH QSH_STAT_LAST_QUAD (bitsOf (beAt hdr 0 1) 3 1)).wr pgQSH QSH_STAT_LAST_OP op
      let s := if 1 ≤ op ∧ op ≤ 4 then s.count pgQSH op else s
      if beAt hdr 0 1 % 8 ≠ 0 ∨ beAt hdr 6 1 / 64 ≠ 0 then .next (s.qshAnswer stBAD_OP []) else .next (run s)

/-- ARG of a frame. -/
def qshArg (hdr : List Byte) : Nat := beAt hdr 1 5

/-- Words of a frame: COUNT + 1. -/
def qshCount (hdr : List Byte) : Nat := beAt hdr 6 1 % 64 + 1

/-- QSH_READ: a READ frame; a frame whose OP is none of R521 is answered BAD_OP (R521). -/
def execQshRead (hdr : List Byte) (s : State) : Res :=
  s.qshBegin hdr (fun op => op == 1 || op == 0 || decide (5 ≤ op)) (fun s =>
    let a := qshArg hdr
    if beAt hdr 0 1 / 16 ≠ 1 then s.qshAnswer stBAD_OP []
    else if !s.isHere (a / 2 ^ 29) then s.qshAnswer stUSE_TICKET []
    else
      let (t, st, _, ws) := s.readLocal Initiator.qsh.num (a % 2 ^ 29) (4 * qshCount hdr)
      t.qshAnswer st (if st = stOK then ws else []))

/-- QSH_WRITE: a WRITE frame with its data and DCRC; a local write answers when it completes (R508, R521, R522, R524). -/
def execQshWrite (hdr data : List Byte) (dcrc : Nat) (s : State) : Res :=
  s.qshBegin hdr (fun op => op == 2) (fun s =>
    let a := qshArg hdr
    let ws := (List.range (qshCount hdr)).map (fun i => beAt data (4 * i) 4)
    if crc16 (data.take (4 * qshCount hdr)) ≠ dcrc then s.qshAnswer stCRC_ERR []
    else if s.isHere (a / 2 ^ 29) then
      State.portWrite { s with qsh := { s.qsh with waiting := true } } .qsh (a % 2 ^ 29) ws (a % 2 ^ 29) false false
    else State.postWrite { s with qsh := { s.qsh with waiting := true } } .qsh (a / 2 ^ 29) (a % 2 ^ 29) ws)

/-- QSH_TICKET: a TICKET frame takes a collection slot in every bridge mode (R501, R521). -/
def execQshTicket (hdr : List Byte) (s : State) : Res :=
  s.qshBegin hdr (fun op => op == 3) (fun s =>
    let a := qshArg hdr
    if s.isHere (a / 2 ^ 29) then s.qshAnswer stBAD_OP []
    else match s.takeSlot .qsh (a / 2 ^ 29) (a % 2 ^ 29) (4 * qshCount hdr) with
      | none => s.qshAnswer stNO_SLOT []
      | some (t, i) => t.qshAnswer stOK [i + 2 ^ 8 * t.rd pgBRG BRG_SLOTn_STAT_GEN i])

/-- QSH_COLLECT: a COLLECT frame returns a slot's data and frees it (R501, R521). -/
def execQshCollect (hdr : List Byte) (s : State) : Res :=
  s.qshBegin hdr (fun op => op == 4) (fun s =>
    let i := qshArg hdr % 16
    let gen := qshArg hdr / 2 ^ 8 % 2 ^ 8
    let st := s.rd pgBRG BRG_SLOTn_STAT_STATE i
    if s.rd pgBRG BRG_SLOTn_STAT_GEN i ≠ gen then s.qshAnswer stDISCARDED []
    else if st = 2 then
      let x := s.slotSt i
      let status := s.rd pgBRG BRG_SLOTn_STAT_STATUS i
      (s.slotFree i).qshAnswer status (if status = stOK then leWords (x.data.length / 4) x.data else [])
    else s.qshAnswer (if st = 1 then stNOT_READY else stDISCARDED) [])

/-- QSH_CS_RISE: QSH_CS_N rises; `cut` where it cuts off a WRITE before the end of DCRC: the command has no header, so whether that frame
used quad is a free value (R519, R522, R524 to R526; log entry 144). -/
def execQshCsRise (cut : Bool) (s : State) : Res :=
  let s := if cut && !s.qsh.frame && s.portsServe pgQSH then
      let s := (s.wr pgQSH QSH_STAT_LAST_OP 2).wr pgQSH QSH_STAT_LAST_QUAD (s.freeVal % 2)
      (((s.drawn.count pgQSH 0).count pgQSH 2).qshErr QSH_ERR_ABORT).count pgQSH 7
    else s
  .next (State.wr { s with qsh := { s.qsh with frame := false } } pgQSH QSH_STAT_BUSY 0)

end Sys2Proof.Machine
end

