-- ==== Sys2Proof/Machine/Usb.lean ====
section
/-!
DEFINITION. The USB service port (R527 to R539): attachment and bus states, standard and vendor requests, authentication,
the register tunnel, and remote wake.
-/
namespace Sys2Proof.Machine

/-- USB_STAT.STATE: 0 DETACHED, 1 DEFAULT, 2 ADDRESS, 3 CONFIGURED, 4 SUSPENDED (R538). -/
def State.usbState (s : State) : Nat := s.rd pgUSB USB_STAT_STATE

/-- The port answers requests; in a test mode it answers none until it detaches (R529; PRESUMED, log entry 146). -/
def State.usbLive (s : State) : Bool := decide (1 ≤ s.usbState ∧ s.usbState ≤ 3) && s.usb.test == 0

/-- A request is stalled. -/
def State.usbStalls (s : State) : State := s.emit .usbStall

/-- Data of a control read, at most `len` bytes. -/
def State.usbData (s : State) (len : Nat) (l : List Byte) : State := s.emit (.usb 0 (l.take len))

/-- An endpoint that ENDPOINT_HALT reaches now (R528, R529). -/
def State.haltable (s : State) (ep : Nat) : Bool := s.usbState == 3 && [0x01, 0x81, 0x82, 0x03].contains ep

/-! ## The tunnel -/

/-- The tunnel takes up a request: configured, endpoint 0x01 not halted, no request executing, less than 4 KiB of responses held
(R529, R532). -/
def State.tunnelOpen (s : State) : Bool :=
  s.usbState == 3 && !s.usb.halted.contains 1 && s.usb.reading.isNone
    && decide ((s.usb.held.map (·.length)).sum < 4096)

/-- The header of a request is malformed (R531, R532). -/
def tunnelBad (hdr : List Byte) : Bool :=
  let op := leAt hdr 0 1
  let len := leAt hdr 4 2
  !(op == 1 || op == 2) || leAt hdr 1 1 != 0 || leAt hdr 6 2 != 0 || decide (len < 4) || decide (256 < len) || len % 4 != 0
    || leAt hdr 13 3 != 0

/-- A tunnel request that cannot be executed has its answer, where its response is not dropped. -/
def State.tunnelRefuse (s : State) (r : TunnelReq) (status : Nat) : State :=
  if r.drop then s else s.tunnelAnswer (leAt r.hdr 0 1) (leAt r.hdr 2 2) status []

/-- A tunnel request is executed: an uncorrectable error of its words in the endpoint buffer (its place is a free value, log entry 3), a
malformed header, a missing authentication, a READ or a WRITE at a global address (R508, R532, R534, R539, R542). -/
def State.tunnelRun (s : State) (r : TunnelReq) : State :=
  let op := leAt r.hdr 0 1
  let addr := leAt r.hdr 8 5
  let len := leAt r.hdr 4 2
  if r.ecc then ((s.drawn.fault pgUSB 0x1E 1 (8 * (s.freeVal % 2 ^ 26))).tunnelRefuse r stBAD_OP)
  else if tunnelBad r.hdr then s.tunnelRefuse r stBAD_OP
  else if !r.auth && s.authMissing (op == 2) addr len then (s.tunnelRefuse r stAUTH_REQUIRED).count pgUSB 3
  else
    let s := State.count { s with usb := { s.usb with reading := some { op := op, seq := leAt r.hdr 2 2, drop := r.drop } } } pgUSB 2
    let node := addr / 2 ^ 29
    let a := addr % 2 ^ 29
    if op = 2 then
      let ws := leWords (len / 4) r.data
      if s.isHere node then s.portWrite .usb a ws a false false else s.postWrite .usb node a ws
    else if s.isHere node then
      let (t, st, _, ws) := s.readLocal Initiator.usb.num a len
      t.rsp .usb st ws
    else s.readIssue .usb node a len

/-- The requests that wait on endpoint 0x01 are executed in order, one at a time: the next as soon as none executes and the tunnel is open,
and after a bus reset those received before it (R529, R532, R535). -/
def State.tunnelNext : Nat → State → State
  | 0, s => s
  | k + 1, s =>
    match s.usb.reqs with
    | [] => s
    | r :: l =>
      if s.usb.reading.isNone && (r.drop || s.tunnelOpen) then
        State.tunnelNext k (State.tunnelRun { s with usb := { s.usb with reqs := l } } r)
      else s

/-- The next requests of the tunnel run where nothing holds them (R532; when, is DESIGN CHOICE, log entry 147). -/
def State.usbDrain (s : State) : State := State.tunnelNext s.usb.reqs.length s

/-- A request arrives whole on endpoint 0x01; a halted endpoint takes none, nor does one whose 4 KiB buffer has no room for it (R528,
R529, R532). -/
def State.tunnelTake (s : State) (r : TunnelReq) : State :=
  let len := 16 + r.data.length
  if s.usbState ≠ 3 ∨ s.usb.test ≠ 0 ∨ s.usb.halted.contains 1
      ∨ 4096 < (s.usb.reqs.map (fun (x : TunnelReq) => 16 + x.data.length)).sum + len then s
  else
    let s := s.usbMoved 1 len
    State.usbDrain { s with usb := { s.usb with reqs := s.usb.reqs ++ [r] } }

/-- TUNNEL_READ: a READ request, or one whose OP is neither READ nor WRITE (R532). -/
def execTunnelRead (hdr : List Byte) (ecc : Bool) (s : State) : Res :=
  if leAt hdr 0 1 = 2 then .next s else .next (s.tunnelTake { hdr := hdr, ecc := ecc })

/-- TUNNEL_WRITE: a WRITE request with its data (R508, R532). -/
def execTunnelWrite (hdr data : List Byte) (ecc : Bool) (s : State) : Res :=
  if leAt hdr 0 1 = 2 then .next (s.tunnelTake { hdr := hdr, data := data, ecc := ecc }) else .next s

/-! ## Standard requests -/

/-- An endpoint's halt is cleared and its data toggle reset; a tunnel that it stopped goes on (R529). -/
def State.epRun (s : State) (ep : Nat) : State :=
  State.usbDrain { s with usb := { s.usb with halted := s.usb.halted.erase ep, toggle := s.usb.toggle.erase ep } }

/-- The string index of iSerialNumber. -/
def serialIndex : Nat := 1 + Config.usbSerialIndex.toNat % 127

/-- One hexadecimal digit in UTF-16; whether a letter is a capital is a free value (R527; log entry 146). -/
def hexUnit (caps : Bool) (d : Nat) : List Byte := leBytes 2 (if d < 10 then 0x30 + d else (if caps then 0x37 else 0x57) + d)

/-- The bulk endpoints of the interface, with their maximum packet size; bInterval is a free value (R528). -/
def endpointDescs (mps : Nat) (free : List Byte) : List Byte :=
  [0x01, 0x81, 0x82, 0x03].flatMap (fun ep => leBytes 4 (7 + 5 * 2 ^ 8 + ep * 2 ^ 16 + 2 * 2 ^ 24) ++ leBytes 2 mps ++ free.take 1)

/-- A descriptor by its type and index: device, configuration with its interface and endpoints, string, device qualifier, other-speed
configuration; what R527 and R528 do not give is a free value (log entry 146).  None: the hub has no such descriptor. -/
def State.descriptor (s : State) (ty idx : Nat) : Option (List Byte) × State :=
  let (f, t) := s.randBytes 7
  let hs := s.on pgUSB USB_STAT_HIGH_SPEED
  let mps (high : Bool) : Nat := if high then 512 else 64
  let config (high : Bool) : List Byte :=
    leBytes 4 (9 + ty * 2 ^ 8 + 46 * 2 ^ 16) ++ leBytes 2 0x0101 ++ f.take 1 ++ leBytes 1 0xE0 ++ (f.drop 1).take 1
      ++ leBytes 4 (9 + 4 * 2 ^ 8) ++ leBytes 2 0xFF04 ++ (f.drop 2).take 3 ++ endpointDescs (mps high) (f.drop 5)
  match ty with
  | 1 => (some (leBytes 4 (0x0200 * 2 ^ 16 + 0x0112) ++ f.take 3 ++ leBytes 1 64 ++ leBytes 4 (s.word pgUSB 0x104).toNat
      ++ (f.drop 3).take 4 ++ leBytes 1 serialIndex ++ leBytes 1 1), t)
  | 2 => if idx = 0 then (some (config hs), t) else (none, s)
  | 3 =>
    if idx = serialIndex then
      let caps := s.freeVal % 2 == 1
      (some (leBytes 2 0x0322 ++ (List.range 16).flatMap (fun i => hexUnit caps (s.serial / 16 ^ (15 - i) % 16))), s.drawn)
    else if idx = 0 then (some (leBytes 2 0x0304 ++ f.take 2), t)
    else
      let (l, t) := t.randBytes 255
      if s.freeVal % 2 = 1 then (some l, t) else (none, t)
  | 6 => (some (leBytes 4 (0x0200 * 2 ^ 16 + 0x060A) ++ f.take 3 ++ leBytes 3 (64 + 2 ^ 8)), t)
  | 7 => if idx = 0 then (some (config !hs), t) else (none, s)
  | _ => (none, s)

/-- USB_STANDARD_REQUEST: a standard request of USB 2.0 is answered, or stalled (R529).  `recipient` is bmRequestType without its
direction: a request of another type comes with this command where R530 has no row for it, and is stalled (DESIGN CHOICE, log entry
145). -/
def execUsbStandardRequest (recipient request value index length : Nat) (s : State) : Res :=
  if !s.usbLive then .next s
  else if 32 ≤ recipient then .next s.usbStalls
  else match request with
    | 0 =>
      let st := if recipient = 0 then 1 + 2 * s.rd pgUSB USB_STAT_RWAKE_EN
        else if recipient = 2 then b2n (s.usb.halted.contains (index % 256)) else 0
      .next (s.usbData length (leBytes 2 st))
    | 1 => .next (if recipient = 0 ∧ value = 1 then s.wr pgUSB USB_STAT_RWAKE_EN 0
        else if recipient = 2 ∧ value = 0 ∧ s.haltable (index % 256) then s.epRun (index % 256) else s.usbStalls)
    | 3 => .next (if recipient = 0 ∧ value = 1 then s.wr pgUSB USB_STAT_RWAKE_EN 1
        else if recipient = 0 ∧ value = 2 ∧ s.on pgUSB USB_STAT_HIGH_SPEED then
          { s with usb := { s.usb with test := index / 256 % 256 } }
        else if recipient = 2 ∧ value = 0 ∧ s.haltable (index % 256) then s.epHalt (index % 256) else s.usbStalls)
    | 5 =>
      if s.usbState = 3 then .next s.usbStalls
      else .next ((s.wr pgUSB USB_STAT_ADDRESS (value % 128)).wr pgUSB USB_STAT_STATE (if value % 128 = 0 then 1 else 2))
    | 6 =>
      let (d, t) := s.descriptor (value / 256 % 256) (value % 256)
      .next (match d with
        | some l => t.usbData length l
        | none => t.usbStalls)
    | 8 => .next (s.usbData length (leBytes 1 (b2n (s.usbState == 3))))
    | 9 =>
      if s.usbState = 1 ∨ 1 < value % 256 then .next s.usbStalls
      else .next (State.wr { s with usb := { s.usb with halted := [], toggle := [] } } pgUSB USB_STAT_STATE
        (if value % 256 = 1 then 3 else 2)).usbDrain
    | 10 => .next (if index = 0 ∧ s.usbState = 3 then s.usbData length (leBytes 1 0) else s.usbStalls)
    | 11 => .next (if index = 0 ∧ value = 0 ∧ s.usbState = 3 then s else s.usbStalls)
    | _ => .next s.usbStalls

/-- USB_ENDPOINT_HALT: an endpoint is halted; a halt of 0x01 stops the tunnel after the request in progress (R529). -/
def execUsbEndpointHalt (ep : Nat) (s : State) : Res :=
  if s.haltable ep then .next (s.epHalt ep) else .next s

/-- USB_HALT_CLEAR (R529). -/
def execUsbHaltClear (ep : Nat) (s : State) : Res :=
  if s.haltable ep then .next (s.epRun ep) else .next s

/-! ## Vendor requests -/

/-- A vendor request runs where its wLength is the table's, else it is stalled (R530). -/
def State.vendor (s : State) (ok : Bool) (run : State → State) : Res :=
  if !s.usbLive then .next s else if ok then .next (run s) else .next s.usbStalls

/-- GET_INFO. -/
def execGetInfo (length : Nat) (s : State) : Res :=
  s.vendor (length == 24) (fun s => s.usbData 24 (
    leBytes 8 Config.serial.toNat ++ leBytes 2 s.nodeId ++ leBytes 4 (s.viewWord pgPWRST 0x100 3) ++ leBytes 4 (s.viewWord pgSYS 0x100 3)
      ++ leBytes 4 (s.viewWord pgUSB 0x100 3) ++ leBytes 2 0))

/-- AUTH_CHALLENGE: a new nonce; stalled in lockout and without a service authentication key (R533). -/
def execAuthChallenge (length : Nat) (s : State) : Res :=
  s.vendor (length == 16 && !s.on pgUSB USB_STAT_LOCKOUT && s.authSlot.isSome) (fun s =>
    let (n, t) := s.randBytes 16
    State.usbData { t with usb := { t.usb with nonce := some (n, t.now) } } 16 n)

/-- An authentication fails; the third in a row locks the port out for 60 s (R533, R539). -/
def State.authFail (s : State) : State :=
  let s := State.count (State.irq { s with usb := { s.usb with fails := s.usb.fails + 1 } } pgUSB 5) pgUSB 5
  if 3 ≤ s.usb.fails ∧ !s.on pgUSB USB_STAT_LOCKOUT then
    (State.wr { s with usb := { s.usb with lockEnd := some (s.now + 60 * 10 ^ 9) } } pgUSB USB_STAT_LOCKOUT 1).irq pgUSB 6
  else s

/-- AUTH_RESPONSE: the tag over nonce and serial, within 10 s of its nonce (R533). -/
def execAuthResponse (tag : List Byte) (s : State) : Res :=
  s.vendor (tag.length == 16) (fun s =>
    let nonce := s.usb.nonce
    let s := { s with usb := { s.usb with nonce := none } }
    let good := match nonce, s.authSlot with
      | some (n, t), some i =>
        decide (s.now ≤ t + 10 ^ 10)
          && Config.cmac (s.slotKey i).key (n ++ beBytes 8 Config.serial.toNat) == BitVec.ofNat 128 (beNat tag)
      | _, _ => false
    if good then State.count (State.wr { s with usb := { s.usb with fails := 0 } } pgUSB USB_STAT_AUTH 1) pgUSB 4 else s.authFail)

/-- USB_REG_READ: REG_READ of 4 or 8 bytes at a local address (R530, R534). -/
def execUsbRegRead (addr length : Nat) (s : State) : Res :=
  s.vendor (length == 4 || length == 8) (fun s =>
    let done (s : State) (st : Nat) (ws : List Nat) : State :=
      State.usbData { s with usb := { s.usb with lastStatus := st } } length (wordBytes ws)
    if s.authMissing false addr length then (done s stAUTH_REQUIRED (List.replicate (length / 4) 0)).count pgUSB 3
    else
      let (t, st, _, ws) := s.readLocal Initiator.usb.num (addr % 2 ^ 29) length
      done t st ws)

/-- USB_REG_WRITE: REG_WRITE of one or two words, after its status stage (R530, R534, R535). -/
def execUsbRegWrite (addr : Nat) (words : List Nat) (s : State) : Res :=
  s.vendor (words.length == 1 || words.length == 2) (fun s =>
    if s.authMissing true addr 4 then State.count { s with usb := { s.usb with lastStatus := stAUTH_REQUIRED } } pgUSB 3
    else s.portWrite .usb (addr % 2 ^ 29) words (addr % 2 ^ 29) false true)

/-- GET_LAST_STATUS. -/
def execGetLastStatus (length : Nat) (s : State) : Res :=
  s.vendor (length == 4) (fun s => s.usbData 4 (leBytes 4 s.usb.lastStatus))

/-- GET_WAKE_REASON returns USB_WAKE_REASON, then clears it (R530). -/
def execGetWakeReason (length : Nat) (s : State) : Res :=
  s.vendor (length == 4) (fun s =>
    (s.usbData 4 (leBytes 4 (s.word pgUSB 0x10C).toNat)).setWord pgUSB 0x10C 0)

/-- DEAUTH ends authentication (R533). -/
def execDeauth (length : Nat) (s : State) : Res := s.vendor (length == 0) (fun s => s.authEnd)

/-! ## Bus events -/

/-- USB_BUS_RESET: at high or full speed; `control` where a control transfer was in progress; the requests received whole on endpoint 0x01
are executed (R535). -/
def execUsbBusReset (highSpeed control : Bool) (s : State) : Res :=
  if s.usbState = 0 then .next s
  else
    let s := State.usbDrain (State.tunnelFlush { s with usb := { s.usb with halted := [], toggle := [] } })
    let s := ((s.wr pgUSB USB_STAT_STATE 1).wr pgUSB USB_STAT_ADDRESS 0).wr pgUSB USB_STAT_RWAKE_EN 0
    let s := (s.wr pgUSB USB_STAT_HIGH_SPEED (b2n highSpeed)).authEnd
    .next (((if control then s.count pgUSB 1 else s).count pgUSB 0).irq pgUSB 3)

/-- USB_SUSPEND: after 3 ms of bus idle (R536). -/
def execUsbSuspend (s : State) : Res :=
  if !s.usbLive then .next s
  else
    let s := { s with usb := { s.usb with before := s.usbState, suspAt := s.now } }
    .next ((s.wr pgUSB USB_STAT_STATE 4).irq pgUSB 4)

/-- The port returns to its state before SUSPENDED; responses held go out and the tunnel goes on (R536). -/
def State.usbBack (s : State) : State :=
  let s := (s.wr pgUSB USB_STAT_STATE s.usb.before).irq pgUSB 4
  let s := s.usb.held.foldl (fun s l => (s.usbMoved 0x81 l.length).emit (.usb 0x81 l)) s
  State.usbDrain { s with usb := { s.usb with held := [] } }

/-- USB_RESUME (R536). -/
def execUsbResume (s : State) : Res := if s.usbState = 4 then .next s.usbBack else .next s

/-- USB_REMOTE_WAKE: 10 µs of sampling, then K for 2 ms (`seen` 0), or a K of the host seen (1), or both begin together (2)
(R536, R537). -/
def execUsbRemoteWake (seen : Nat) (s : State) : Res :=
  let reasons := s.rd pgUSB USB_WAKE_REASON_REASON &&& (s.word pgUSB 0x108).toNat % 16
  if s.usbState ≠ 4 ∨ !s.on pgUSB USB_STAT_RWAKE_EN ∨ reasons = 0 ∨ s.now < s.usb.suspAt + 5000000 then .next s
  else
    let s := s.pass 2500
    if seen = 0 then
      let s := (s.emit .usbWake).pass 500000
      .next ((s.wr pgUSB USB_WAKE_REASON_SIGNALLED 1).count pgUSB 6)
    else .next ((s.wr pgUSB USB_WAKE_REASON_AS_RESUME 1).count pgUSB 7).usbBack

/-- USB_VBUS_RISE (R527). -/
def execUsbVbusRise (s : State) : Res := .next (s.wr pgUSB USB_STAT_VBUS 1).usbAttach

/-- USB_VBUS_FALL: the port detaches and authentication ends (R527, R533). -/
def execUsbVbusFall (s : State) : Res :=
  .next (s.wr pgUSB USB_STAT_VBUS 0).usbDetach

/-- USB_LOCKOUT_END: 60 s after the third failure (R533). -/
def execUsbLockoutEnd (s : State) : Res :=
  match s.usb.lockEnd with
  | none => .next s
  | some t =>
    let s := s.passTo t
    .next (State.wr { s with usb := { s.usb with lockEnd := none, fails := 0 } } pgUSB USB_STAT_LOCKOUT 0)

end Sys2Proof.Machine
end

