-- ==== Sys2Proof/Machine/Plumb.lean ====
section
/-!
DEFINITION. PLUMB: the snapshot of the pages, the records of a summary and its parts (R54, R673 to R684, R693 to R695).
-/
namespace Sys2Proof.Machine

/-! ## Records -/

/-- A record of R679: type, page index, SUB and body; a body whose length is not a multiple of 8 takes 4 bytes of padding. -/
def plumbRec (type page sub : Nat) (body : List Byte) : List Byte :=
  let pad := decide (body.length % 8 = 4)
  let len := 8 + body.length + (if pad then 4 else 0)
  leBytes 1 type ++ leBytes 1 (b2n pad) ++ leBytes 2 len ++ leBytes 2 page ++ leBytes 2 sub ++ body
    ++ (if pad then leBytes 4 0 else [])

/-- The register at `off` of a kind of page has a defined read without side effect: it is not of type WC throughout, and its read
pops no FIFO (R34, R682). -/
def plumbReads (k : Kind) (p off : Nat) : Bool :=
  let fs := k.fields.filter (fun f => (f.idx? off).isSome)
  !fs.isEmpty && !fs.all (fun f => f.ty == .wc) && !(p == pgLINK + 1 && decide (0x120 ≤ off))
    && !(k == .lane && off == 0x200) && !(k == .can && off == 0x24C)

/-- Runs of consecutive register offsets, each with its first offset. -/
def plumbRuns : List Nat → List (Nat × List Nat)
  | [] => []
  | o :: l =>
    match plumbRuns l with
    | (b, r) :: q => if b = o + 4 then (o, o :: r) :: q else (o, [o]) :: (b, r) :: q
    | [] => [(o, [o])]

/-- The REGS records of a page (R682). -/
def State.plumbRegs (s : State) (k : Kind) (p ini : Nat) : List (List Byte) :=
  let offs := ((List.range 960).map (fun i => 0x100 + 4 * i)).filter (plumbReads k p)
  (plumbRuns offs).map (fun r => plumbRec 3 p r.1 (r.2.flatMap (fun o => leBytes 4 (s.viewWord p o ini))))

/-- The COUNTERS record of a page (R680). -/
def State.plumbCounters (s : State) (p : Nat) : List Byte :=
  let ks := (List.range 24).filter (fun k => s.counterNow p k != 0)
  plumbRec 4 p 0 (leBytes 4 (ks.foldl (fun a k => a + 2 ^ k) 0) ++ leBytes 4 0 ++ ks.flatMap (fun k => leBytes 8 (s.counterNow p k)))

/-- The queue of a page that a QUEUE record copies: the bytes of an entry, and the entries, head first (R683). -/
def State.plumbQueue? (s : State) (k : Kind) (p : Nat) : Option (Nat × List (List Byte)) :=
  match k with
  | .flt => some (32, s.flt.log.map (fun r => r.words.flatMap (leBytes 4)))
  | .brg => some (32, s.brg.perr.map (leBytes 32))
  | .img => some (16, s.img.conf.map (leBytes 16))
  | .lnch => some (16, s.trk.exc.map (leBytes 16))
  | .trk => some (16, s.trk.log.map (leBytes 16))
  | .txts => some (16, s.txts.q.map (leBytes 16))
  | .dio => some (16, (s.dioPage (p - pgDIO)).q.map (leBytes 16))
  | _ => none

/-- The QUEUE record of a page, where R683 gives it one. -/
def State.plumbQueue (s : State) (k : Kind) (p : Nat) : List (List Byte) :=
  match s.plumbQueue? k p with
  | none => []
  | some (n, es) =>
    let ovf := (ovfFields k).elim 0 (fun f => s.rd p f.2)
    [plumbRec 5 p n (leBytes 2 es.length ++ leBytes 2 ovf ++ leBytes 4 0 ++ es.flatten)]

/-- A TABLE record: ID, the page that holds the table, the first entry and the entries (R683). -/
def plumbTable (id page first : Nat) (es : List (List Byte)) : List Byte :=
  plumbRec 6 page id (leBytes 4 first ++ leBytes 4 es.length ++ es.flatten)

/-- The TABLE records of the pages latched (R683). -/
def State.plumbTables (s : State) (pages : List Nat) : List (List Byte) :=
  (if pages.contains pgTRK then [plumbTable 1 pgTRK 0 ((List.range 1024).map (fun i => (s.winAt i).words.flatMap (leBytes 4)))]
    else [])
  ++ (if pages.contains pgLNCH then [0, 2048].map (fun b =>
        plumbTable 2 pgLNCH b ((List.range 2048).map (fun i => leBytes 16 (s.launchAt (b + i)).bytes))) else [])
  ++ (if pages.contains pgBIND then [plumbTable 3 pgBIND 0 ((List.range 4096).map (fun i => leBytes 8 (valAt s.img.bindLive i)))]
    else [])

/-- The PAGE record: the header words of a latched page (R680). -/
def State.plumbPage (s : State) (p ini : Nat) : List Byte :=
  plumbRec 2 p 0 ([0x000, 0x004, 0x008, 0x00C, 0x010, 0x014, 0x028, 0x02C].flatMap (fun o => leBytes 4 (s.viewWord p o ini)))

/-- An UNAVAILABLE record: REASON 1 NO_LATCH, 2 DIE_LINK (R675, R680). -/
def plumbUnavailable (p reason : Nat) : List Byte := plumbRec 7 p 0 (leBytes 1 reason ++ List.replicate 7 0)

/-- The records of one latched page, in the order of R684; `scope` as PLUMB_CMD.SCOPE has it (R693). -/
def State.plumbPageRecs (s : State) (p ini scope : Nat) : List (List Byte) :=
  match pageKind? p with
  | none => []
  | some k =>
    [s.plumbPage p ini] ++ (if bitAt scope 0 then s.plumbRegs k p ini else [])
      ++ (if bitAt scope 1 then [s.plumbCounters p] else []) ++ (if bitAt scope 2 then s.plumbQueue k p else [])

/-- The HEADER record with PART and PARTS 0 (R681). -/
def State.plumbHeader (s : State) (atCommit : Bool) (scope : Nat) : List Byte :=
  let flags := s.node % 8 + b2n s.locked * 8 + b2n atCommit * 16 + b2n (s.on pgPLUMB PLUMB_STAT_PINNED) * 32
  plumbRec 1 0xFFF 0 (leBytes 4 0x4B504C4D ++ leBytes 4 (s.rd pgPLUMB PLUMB_SEQ_SUM_SEQ)
    ++ leBytes 8 (s.rd64 pgPLUMB PLUMB_TIME_LO_TIME PLUMB_TIME_HI_TIME) ++ leBytes 8 s.commitEpoch
    ++ leBytes 8 Config.serial.toNat ++ leBytes 2 s.nodeId ++ leBytes 1 0 ++ leBytes 1 0 ++ leBytes 1 flags
    ++ leBytes 1 (s.rd pgCRS CRS_STAT_COURSE) ++ leBytes 1 (s.rd pgSWC SWC_MAPGEN_CURRENT)
    ++ leBytes 1 (s.rd pgPLUMB PLUMB_STAT_TAG) ++ leBytes 1 (scope % 16) ++ List.replicate 7 0)

/-! ## The snapshot -/

/-- A page whose latch did not complete is unavailable (R675). -/
def State.plumbLost (s : State) : State := (s.irq pgPLUMB 5).count pgPLUMB 4

/-- The pages in range, and those of them that the silent die link makes unavailable (R674, R675). -/
def State.plumbPages (s : State) : List Nat :=
  allPages.filter (fun p => decide (s.rd pgPLUMB PLUMB_RANGE_FIRST ≤ p ∧ p ≤ s.rd pgPLUMB PLUMB_RANGE_LAST))

/-- The page cannot latch: a page of the power die while the die link is silent (R675). -/
def State.plumbNoDie (s : State) (p : Nat) : Bool := s.dieSilent p

/-- The snapshot edge (R54, R674, R677). -/
def State.plumbEdge (s : State) (atCommit pin : Bool) (scope ini : Nat) : State :=
  let s := (s.wr pgPLUMB PLUMB_SEQ_SUM_SEQ (s.rd pgPLUMB PLUMB_SEQ_SUM_SEQ + 1)).wr64 pgPLUMB PLUMB_TIME_LO_TIME
    PLUMB_TIME_HI_TIME s.ringNow
  let s := (s.wr pgPLUMB PLUMB_STAT_STATE 2).count pgPLUMB 0
  let granted := pin && s.takes pgIMG && !s.pinHeld
  let s := if pin then s.ran (execPin (s.rd pgPLUMB PLUMB_STAT_TAG) s) else s
  let s := s.wr pgPLUMB PLUMB_STAT_PINNED (b2n granted)
  let pages := s.plumbPages
  let s := pages.foldl (fun s p =>
    if s.plumbNoDie p then s else s.wr p SNAP_GEN_W ((s.rd p SNAP_GEN_W + 1) % 2 ^ 32)) s
  let good := pages.filter (fun p => !s.plumbNoDie p)
  let recs := pages.flatMap (fun p => if s.plumbNoDie p then [plumbUnavailable p 2] else s.plumbPageRecs p ini scope)
    ++ (if bitAt scope 3 then s.plumbTables good else [])
  let hdr := s.plumbHeader atCommit scope
  let lost := (pages.filter s.plumbNoDie).length
  let s := { s with plumb := { s.plumb with snap := none, recs := recs, hdr := hdr } }
  (List.range lost).foldl (fun s _ => s.plumbLost) s

/-- A commit instant has passed since 1 µs after a write at local time `t` (R674). -/
def State.committedSince (s : State) (t : Nat) : Bool :=
  match s.img.lastTc with
  | some n => decide (s.ringNow + 1000 ≤ s.tC n + (s.now - t))
  | none => false

/-- Commit instants up to the first that falls at least 1 µs after the write (R674). -/
def State.plumbAwait : Nat → State → Nat → State
  | 0, s, _ => s
  | k + 1, s, t =>
    if s.committedSince t || !s.locked then s
    else State.plumbAwait k ((State.beginBefore 5 s (s.tC s.nextTc)).commitInstant []) t

/-- PLUMB_SNAPSHOT: the edge of an accepted SNAP; under AT_COMMIT it follows the first commit instant at least 1 µs after the
write, and waits for lock (R674). -/
def execPlumbSnapshot (s : State) : Res :=
  match s.plumb.snap with
  | none => .next s
  | some (atCommit, pin, scope, ini, t) =>
    if !atCommit then .next (s.plumbEdge false pin scope ini)
    else
      let s := s.plumbAwait 3 t
      .next (if s.committedSince t then s.plumbEdge true pin scope ini else s)

/-- PLUMB_LATCH_TIMEOUT: the page is unavailable; its records give way to an UNAVAILABLE record and its SNAP_GEN does not
advance (R675). -/
def execPlumbLatchTimeout (page : Nat) (s : State) : Res :=
  let isPage (r : List Byte) : Bool := leAt r 0 1 == 2 && leAt r 4 2 == page
  if s.plumbState ≠ 2 ∨ !s.plumb.recs.any isPage then .next s
  else
    let recs := s.plumb.recs.flatMap (fun r =>
      if isPage r then [plumbUnavailable page 1] else if leAt r 4 2 = page then [] else [r])
    let s := s.wr page SNAP_GEN_W ((s.rd page SNAP_GEN_W + (2 ^ 32 - 1)) % 2 ^ 32)
    .next (State.plumbLost { s with plumb := { s.plumb with recs := recs, bad := page :: s.plumb.bad } })

/-! ## Parts -/

/-- The records of each part: a part closes when the next record and an END would not fit in 65,536 bytes (R684). -/
def plumbSplit : List (List Byte) → List (List Byte) → Nat → List (List (List Byte))
  | [], cur, _ => [cur]
  | r :: l, cur, n =>
    if 65536 < n + r.length + 24 then cur :: plumbSplit l [r] (56 + r.length)
    else plumbSplit l (cur ++ [r]) (n + r.length)

/-- Part `i` of `n`: HEADER, its records, END with the CRC-32C over every byte before the CRC field (R680, R681). -/
def plumbPart (hdr : List Byte) (recs : List (List Byte)) (i n : Nat) : List Byte :=
  let body := hdr.take 42 ++ leBytes 1 i ++ leBytes 1 n ++ hdr.drop 44 ++ recs.flatten
  let body := body ++ leBytes 1 0xF ++ leBytes 1 0 ++ leBytes 2 24 ++ leBytes 2 0xFFF ++ leBytes 2 0
    ++ leBytes 4 (recs.length + 2) ++ leBytes 4 (body.length + 24)
  body ++ leBytes 4 (crc32c body) ++ leBytes 4 0

/-- PLUMB_READY: within 10 ms the summary is sized and part 0 stands in the window (R678). -/
def execPlumbReady (s : State) : Res :=
  if s.plumbState ≠ 2 ∨ s.hkPaused then .next s
  else
    let split := plumbSplit s.plumb.recs [] 56
    let parts := ((List.range split.length).zip split).map (fun (e : Nat × List (List Byte)) =>
      plumbPart s.plumb.hdr e.2 e.1 split.length)
    let s := { s with plumb := { s.plumb with parts := parts, window := parts.getD 0 [], recs := [] } }
    let s := ((s.wr pgPLUMB PLUMB_STAT_PARTS parts.length).wr pgPLUMB PLUMB_STAT_PART 0).wr pgPLUMB PLUMB_BYTES_BYTES
      (parts.foldl (fun a b => a + b.length) 0)
    .next (((s.wr pgPLUMB PLUMB_STAT_STATE 3).irq pgPLUMB 2).count pgPLUMB 1)

end Sys2Proof.Machine
end

