-- ==== Sys2Proof/Machine/Reset.lean ====
section
/-!
DEFINITION. Resets and start-up (R72, R73, R78 to R88, R637 to R642, R702): the causes that hold the hub in reset, the steps from
ROM entry to running firmware, late steps, RECOVERY; the boundary-scan TAP (R717, R718) and VDDIO banks (R704).
-/
namespace Sys2Proof.Machine

/-! ## Hub reset and power-on reset -/

/-- A register word that a hub reset leaves: the block registers of the power die, FLT_LASTFATAL, SYS_RST_CAUSE, and the fused
rollback counter (R80, R460, R544, R630). -/
def keptReg (k : Nat) : Bool :=
  let p := k % 2 ^ 24 / 0x1000
  let off := k % 0x1000
  decide (pgPWD ≤ p ∧ p ≤ pgSLU + 7 ∧ 0x100 ≤ off) || (p == pgFLT && decide (0x140 ≤ off ∧ off < 0x160))
    || (p == pgSYS && off == 0x110) || (p == pgUPD && off == 0x130)

/-- The bit of a cause in SYS_RST_CAUSE, and the first present cause in the order of R82: 0 POR, 1 PORST, 2 SUPPLY, 3 CLK_FAIL,
4 PLL_UNLOCK, 5 FATAL, 6 SW_RESET. -/
def lastCause (held : List Nat) (dflt : Nat) : Nat := ([0, 2, 3, 4, 1, 5, 6].find? held.contains).getD dflt

/-- A reset cause is recorded: its bit, and LAST of those present together (R81, R82). -/
def State.causeSeen (s : State) (c : Nat) : State :=
  let w := setBits (s.word pgSYS 0x110).toNat c 1 1
  s.setWord pgSYS 0x110 (BitVec.ofNat 32 (setBits w 8 4 (lastCause s.held c)))

/-- A hub reset for cause `c`, which holds the hub until it ends: the logic die starts afresh, the power die, the flash, the fuses
and the levels at the pins stay (R78, R80, R460). -/
def State.hubReset (s : State) (c : Nat) : State :=
  let held := if s.held.contains c then s.held else s.held ++ [c]
  let t : State := {
    pending := s.pending, now := s.now, t0 := s.now, held := held, out := s.out, free := s.free, flash := s.flash,
    regs := s.regs.keep keptReg, shadow := s.shadow.keep keptReg,
    slu := s.slu, pwd := { s.pwd with sampleAt := none, alarm := false },
    link := (s.link.filter (fun (e : Nat × LinkSt) => e.2.los)).map (fun (e : Nat × LinkSt) => (e.1, { los := true })),
    line := pinsOnly s.line 0 255,
    rst := {
      badWin := s.rst.badWin, goodWin := s.rst.goodWin, fuse := s.rst.fuse, noVio := s.rst.noVio, vio3 := s.rst.vio3,
      testEn := s.rst.testEn, lowRails := s.rst.lowRails, due := s.rst.due } }
  (t.wr pgUSB USB_STAT_VBUS (s.rd pgUSB USB_STAT_VBUS)).causeSeen c

/-- A power-on reset: both dies start afresh, with POR alone in SYS_RST_CAUSE; a rail that is low holds the hub besides
(R78, R81, R702). -/
def State.powerOn (s : State) : State :=
  let t : State := {
    pending := s.pending, now := s.now, t0 := s.now, held := if s.rst.lowRails.isEmpty then [0] else [0, 2], out := s.out,
    free := s.free, flash := s.flash,
    regs := s.regs.keep (fun k => k == regKey 0 pgUPD 0x130), pwd := { vinAt := s.now }, line := pinsOnly s.line 0 255,
    link := (s.link.filter (fun (e : Nat × LinkSt) => e.2.los)).map (fun (e : Nat × LinkSt) => (e.1, { los := true })),
    rst := { fuse := s.rst.fuse, noVio := s.rst.noVio, vio3 := s.rst.vio3, testEn := s.rst.testEn, lowRails := s.rst.lowRails } }
  t.wr pgUSB USB_STAT_VBUS (s.rd pgUSB USB_STAT_VBUS)

/-! ## Start-up -/

/-- Block registers of these pages may be used from now on (R88). -/
def State.ready (s : State) (pages : List Nat) : State := pages.foldl (fun s p => s.wr p PAGE_STAT_READY 1) s

/-- The ROM enters RECOVERY with a DETAIL and clears RECOVERY_REQ; the host and service ports come up (R82, R86, R88, R642). -/
def State.enterRecovery (s : State) (detail : Nat) : State :=
  if s.node ≠ nsBOOT then s else
  let s := (s.wr pgPWRST PWRST_STATE_DETAIL detail).wr pgSYS SYS_RST_CAUSE_RECOVERY_REQ 0
  let s := { s with hk := { s.hk with starting := none } }
  ((s.setNode nsRECOVERY).ready recoveryPages).fwSync.usbAttach

/-- The last cause that held the hub has ended: t_0, and the ROM's entry (R84, R90). -/
def State.romEntry (s : State) : State :=
  if !s.held.isEmpty then s
  else
    let s := State.missedCounts { s with t0 := s.now }
    if s.on pgSYS SYS_RST_CAUSE_RECOVERY_REQ then s.enterRecovery 8 else s

/-- Some causes end; when none is left the hub starts. -/
def State.unhold (s : State) (cs : List Nat) : State :=
  if s.held.any cs.contains then State.romEntry { s with held := s.held.filter (fun c => !cs.contains c) } else s

/-- POWER_ON_RESET (R78). -/
def execPowerOnReset (s : State) : Res := .next s.powerOn

/-- PORST_ASSERT: PORST_N has been low for `ns`; a pulse shorter than 100 ns is ignored (R79).  `testEn` is the level of
TEST_EN. -/
def execPorstAssert (ns : Nat) (testEn : Bool) (s : State) : Res :=
  if ns < 100 then .next s
  else .next (State.hubReset { s with rst := { s.rst with testEn := testEn } } 1)

/-- PORST_RELEASE: the release of PORST_N, or the end of an internal hub reset; a failed reference or a low supply still holds
the hub (R72, R84, R702). -/
def execPorstRelease (testEn : Bool) (s : State) : Res :=
  .next (State.unhold { s with rst := { s.rst with testEn := testEn, ir := 0xF } } [0, 1, 4, 5, 6])

/-- REF_MONITOR_WINDOW: a window of 16 µs ends with its count of reference edges; EDGES shows 1,023 for any larger count (R72, R75, R76;
DESIGN CHOICE, log entry 148). -/
def execRefMonitorWindow (edges : Nat) (s : State) : Res :=
  let good := decide (300 ≤ edges ∧ edges ≤ 500)
  let s := { s with rst := { s.rst with badWin := if good then 0 else s.rst.badWin + 1,
                                        goodWin := if good then s.rst.goodWin + 1 else 0 } }
  let s := if 2 ≤ s.rst.badWin ∧ !s.held.contains 3 then s.hubReset 3
    else if s.held.contains 3 && decide (64 ≤ s.rst.goodWin) then s.unhold [3] else s
  .next ((s.wr pgCLK CLK_REF_CNT_EDGES (min 1023 edges)).wr pgCLK CLK_STAT_REF_OK (b2n good))

/-- CORE_PLL_UNLOCK: the core PLL has been out of lock for more than 1 µs (R73). -/
def execCorePllUnlock (s : State) : Res := .next (s.hubReset 4)

/-- SUPPLY_LOW: a logic-die rail, 0 VDD_CORE, 1 and 2 the 0.80 V and 1.8 V rails of VDD_PHY, has been low for 2 µs (R702). -/
def execSupplyLow (rail : Nat) (s : State) : Res :=
  if 3 ≤ rail ∨ s.rst.lowRails.contains rail then .next s
  else .next (State.hubReset { s with rst := { s.rst with lowRails := s.rst.lowRails ++ [rail] } } 2)

/-- SUPPLY_OK: a rail has stayed above its rising threshold for 1 ms (R702). -/
def execSupplyOk (rail : Nat) (s : State) : Res :=
  if !s.rst.lowRails.contains rail then .next s
  else
    let l := s.rst.lowRails.filter (· != rail)
    let s := { s with rst := { s.rst with lowRails := l } }
    .next (if l.isEmpty then s.unhold [2] else s)

/-- PWRST_RESET_TAKE_EFFECT: 10 µs after HUB_RESET or RECOVERY (R78, R96). -/
def execPwrstResetTakeEffect (s : State) : Res :=
  match s.rst.due with
  | [] => .next s
  | (t, rec) :: l =>
    let s := State.hubReset (s.passTo t) 6
    let s := { s with rst := { s.rst with due := l } }
    .next (if rec then s.wr pgSYS SYS_RST_CAUSE_RECOVERY_REQ 1 else s)

/-- FATAL_HUB_RESET: at least 10 µs after the record was written (R544). -/
def execFatalHubReset (s : State) : Res :=
  match s.flt.resetDue with
  | none => .next s
  | some t => .next ((s.passTo t).hubReset 5)

/-! ## The ROM: step 2 -/

/-- A slot that the ROM starts at step 2: GOOD, or TRIAL without TRIED (R641). -/
def State.romMay (s : State) (n : Nat) : Bool :=
  s.startable n && ((s.fwSlot n).st == 5 || ((s.fwSlot n).st == 4 && !(s.fwSlot n).tried))

/-- The slot to start: a TRIAL without TRIED first, then the GOOD slot of the higher sequence (R641). -/
def State.romChoice (s : State) : Option Nat :=
  let l := [0, 1].filter s.romMay
  match l.find? (fun n => (s.fwSlot n).st == 4) with
  | some n => some n
  | none => if l.length = 2 then some (if (s.fwSlot 0).seq < (s.fwSlot 1).seq then 1 else 0) else l.head?

/-- The ROM starts slot `n`, marking a TRIAL as TRIED; `second` where it is the other slot of R86. -/
def State.romStart (s : State) (n : Nat) (second : Bool) : State :=
  let x := s.fwSlot n
  let s := if x.st = 4 then s.setFw n { x with tried := true } else s
  { s with hk := { s.hk with starting := some (n, second) } }

/-- A trial that a reset found under way has failed (R640, R641). -/
def State.romTrial (s : State) : State :=
  match [0, 1].find? (fun n => s.startable n && (s.fwSlot n).st == 4 && (s.fwSlot n).tried) with
  | some n => State.setFw { s with hk := { s.hk with fellBack := true } } n { s.fwSlot n with st := 6 }
  | none => s

/-- FLASH_HEADER_CHECK: step 2.  `fitted` replaces the flash's content by that of the device on the board; the identification, the
SFDP table's validity, size in Mbit, quad width and rate in MHz are what the device answers (R86, R601, R603, R641, R713). -/
def execFlashHeaderCheck (fitted : Option Flash) (answers sfdp : Bool) (jedec size : Nat) (quad : Bool) (rate : Nat) (s : State) :
    Res :=
  if !s.held.isEmpty || s.node != nsBOOT || s.rd pgPWRST PWRST_STATE_STEP != 1 then .next s
  else
    let s := { s with flash := fitted.getD s.flash }
    if !answers then .next (s.enterRecovery 7)
    else
      let s := ((s.wr pgFLASH FLASH_ID_MANUFACTURER (jedec % 256)).wr pgFLASH FLASH_ID_TYPE (jedec / 256 % 256)).wr pgFLASH
        FLASH_ID_CAPACITY (jedec / 65536 % 256)
      let s := s.wr pgFLASH FLASH_STAT_SFDP_OK (b2n sfdp)
      if !sfdp || decide (size < 128) then .next (s.enterRecovery 7)
      else
        let s := ((s.wr pgFLASH FLASH_GEOM_SIZE (min 512 size)).wr pgFLASH FLASH_GEOM_QUAD (b2n quad)).wr pgFLASH FLASH_GEOM_RATE
          (min 80 (max 20 rate))
        let s := ((s.ready [pgFLASH]).wearLoad.romTrial).fwSync
        match s.romChoice with
        | none => .next (s.enterRecovery 7)
        | some n => .next ((s.romStart n false).stepDone 2)

/-! ## Late bits -/

/-- A bit of PWRST_BOOT_LATE becomes 1 (R97, R99). -/
def State.bootLate (s : State) (f : Field) : State :=
  if s.on pgPWRST f then s else (s.wr pgPWRST f 1).irq pgPWRST 3

/-- Step `n` is complete. -/
def State.stepOk (s : State) (n : Nat) : Bool := s.rd pgPWRST PWRST_STEP_TIME_TIME_US (n - 1) != 0xFFFFFFFF

/-! ## The firmware: step 3, and the end of a pause -/

/-- The slot that starts has failed its digest or its 40 ms: a TRIAL is BAD, the other startable slot is started once, else
RECOVERY (R86, R640, R641). -/
def State.romFail (s : State) (n : Nat) (second : Bool) : State :=
  let x := s.fwSlot n
  let s := if x.st = 4 then State.setFw { s with hk := { s.hk with fellBack := true } } n { x with st := 6 } else s
  if second || !s.romMay (1 - n) then s.enterRecovery 7 else s.romStart (1 - n) true

/-- The firmware in effect is slot `n`; a TRIAL slot's trial begins (R639, R645). -/
def State.runs (s : State) (n : Nat) : State :=
  let trial := (s.fwSlot n).st == 4
  let s := { s with hkUp := true,
                    upd := { s.upd with run := some n, trialAt := if trial then some s.now else s.upd.trialAt,
                                        fatals := 0 },
                    hk := { s.hk with starting := none, view := none } }
  s.fwSync

/-- A fallback is reported once the firmware runs (R640, R641, R646). -/
def State.reportFallback (s : State) : State :=
  if !s.hk.fellBack then s
  else
    let s := { s with hk := { s.hk with fellBack := false } }
    ((s.irq pgUPD 7).count pgUPD 5).fault pgUPD 0x09 1 0

/-- The writes that waited take effect in order, those that were queued have their answer already; UPD_DATA may have to wait on (R21,
R638). -/
def State.hkFlush (s : State) : State :=
  let q := s.hk.queue
  let s := { s with hk := { s.hk with queue := [] } }
  let s := q.foldl (fun (s : State) w =>
    let (t, st) := s.writeWord w.page w.off w.data w.ini
    if st = stFULL then t.updWait { ini := w.ini, data := w.data, fin := false, at_ := t.now, more := true } else t) s
  let s := s.hkExpire
  let ws := s.hk.waits
  let s := { s with hk := { s.hk with waits := [] } }
  (ws.foldl (fun (x : State × Nat) w =>
    let (t, st) := x.1.writeWord w.page w.off w.how.data w.how.ini
    if st = stFULL then (t.updWait { w.how with prior := if w.how.prior = stOK then x.2 else w.how.prior }, stOK)
    else
      let st := if x.2 = stOK then st else x.2
      if w.how.more then (t, st) else (t.waitDone w.how st, stOK)) (s, stOK)).1

/-- Firmware runs at step 3: every page is READY, the ports answer; with the tamper alarm raised boot stops (R84, R88, R662). -/
def State.bootRuns (s : State) (n : Nat) : State :=
  let s := ((s.runs n).ready allPages).stepDone 3
  let s := s.usbAttach.reportFallback
  if s.on pgPWD PWD_STAT_TAMPER then s.tamperAct else s

/-- A pause ends: of an activation or fallback with ACTIVATED, one QUERY and a TOPO cell (R21, R638, R646). -/
def State.pauseEnds (s : State) (n : Nat) (activation fallback : Bool) : State :=
  let s := (s.runs n).hkFlush
  let s := if activation then
      { s with crs := { s.crs with once := true, query := none, answered := false },
               ring := { s.ring with topoEvent := some s.now } }
    else s
  let s := if activation && !fallback then s.irq pgUPD 5 else s
  s.reportFallback

/-- HK_FIRMWARE_RUNNING: the firmware of the slot that starts reports running; a body whose digest fails is not started
(R637, R640, R641). -/
def execHkFirmwareRunning (s : State) : Res :=
  if !s.held.isEmpty || s.hkUp || s.node == nsRECOVERY then .next s
  else if s.rd pgPWRST PWRST_STATE_STEP < 3 then
    match s.hk.starting with
    | none => .next s
    | some (n, second) => .next (if (s.fwSlot n).bodyOk then s.bootRuns n else s.romFail n second)
  else match s.hk.starting, s.upd.run with
    | some (n, fallback), _ => .next (if (s.fwSlot n).bodyOk then s.pauseEnds n true fallback
        else if s.trialSlot == some n then s.hkRestart 2 else s)
    | none, some n => .next (if (s.fwSlot n).st = 6 then s else s.pauseEnds n false false)
    | none, none => .next s

/-- UPD_RUN_TIMEOUT: the new firmware does not report running within 40 ms: at start-up the other slot, after an activation the
fallback (R86, R640). -/
def execUpdRunTimeout (s : State) : Res :=
  if !s.held.isEmpty || s.hkUp || s.node == nsRECOVERY then .next s
  else match s.hk.starting with
    | none => .next s
    | some (n, second) =>
      if s.rd pgPWRST PWRST_STATE_STEP < 3 then
        let s := (s.passTo (s.t0 + 40000000)).bootLate PWRST_BOOT_LATE_FIRMWARE
        .next (if s.node = nsBOOT then s.romFail n second else s)
      else .next (if s.trialSlot == some n then s.hkRestart 2 else s)

/-! ## Late steps -/

/-- BOOT_STEP_LATE: step 2 to 7 is not complete within its bound of R84: its bit is set in every node state, and in BOOT or JOIN the hub
acts as R86 has it (R86, R97; DESIGN CHOICE for the other states, log entry 95).  The bound of step 7 runs from step 6. -/
def execBootStepLate (step : Nat) (s : State) : Res :=
  if !s.held.isEmpty || s.stepOk step || decide (step < 2 ∨ 7 < step) then .next s
  else match step with
    | 2 => .next (((s.passTo (s.t0 + 5000000)).bootLate PWRST_BOOT_LATE_HEADER).enterRecovery 7)
    | 3 =>
      let s := (s.passTo (s.t0 + 40000000)).bootLate PWRST_BOOT_LATE_FIRMWARE
      .next (match if s.node = nsBOOT then s.hk.starting else none with
        | some (n, second) => s.romFail n second
        | none => s.enterRecovery 7)
    | 4 =>
      let s := (s.passTo (s.t0 + 60000000)).bootLate PWRST_BOOT_LATE_FOUNDATION
      .next (if s.node = nsBOOT then s.wr pgPWRST PWRST_STATE_DETAIL 1 else s)
    | 5 => .next ((s.passTo (s.t0 + 150000000)).bootLate PWRST_BOOT_LATE_LINKS).detailSync
    | 6 => .next ((s.passTo (s.t0 + 2000000000)).bootLate PWRST_BOOT_LATE_LOCK).detailSync
    | _ =>
      if !s.stepOk 6 then .next s
      else
        let lock := s.t0 + 1000 * s.rd pgPWRST PWRST_STEP_TIME_TIME_US 5
        .next ((s.passTo (lock + (256 + s.settle_) * s.epochLen)).bootLate PWRST_BOOT_LATE_FULL)

/-! ## The test port and the VDDIO banks -/

/-- The TAP responds: PORST_N is low, TEST_EN high, the disable fuse intact (R717). -/
def State.tapOn (s : State) : Bool := s.held.contains 1 && s.rst.testEn && !s.rst.fuse

/-- What `n` = |bits| shifts through a register holding `reg` bring out, and what they leave in it. -/
def tapShift (reg bits : List Bool) : List Bool × List Bool := ((reg ++ bits).take bits.length, (reg ++ bits).drop bits.length)

/-- EXTEST: the levels captured at the pins shift out, the bits shifted in drive the pins (R717). -/
def execExtest (pins bits : List Bool) (s : State) : Res :=
  if !s.tapOn then .next s
  else
    let (o, r) := tapShift pins bits
    .next (State.emit { s with rst := { s.rst with ir := 0, boundary := r } } (.tdo o))

/-- SAMPLE/PRELOAD: the levels captured at the pins shift out, the bits shifted in are kept for EXTEST (R717). -/
def execSamplePreload (pins bits : List Bool) (s : State) : Res :=
  if !s.tapOn then .next s
  else
    let (o, r) := tapShift pins bits
    .next (State.emit { s with rst := { s.rst with ir := 1, boundary := r } } (.tdo o))

/-- BYPASS, and every other code: one stage between TDI and TDO (R717). -/
def execBypass (code : Nat) (bits : List Bool) (s : State) : Res :=
  if !s.tapOn || code % 16 == 0 || code % 16 == 1 then .next s
  else .next (State.emit { s with rst := { s.rst with ir := 0xF } } (.tdo (tapShift [false] bits).1))

/-- What the inputs of a bank that has lost its supply bring when they read 0: lines and SD_LOS are low, PCIE_PERST_N is asserted
(R704, R710). -/
def State.bankLost (s : State) (bank : Nat) : State :=
  if bank < 16 then
    (List.range 16).foldl (fun (s : State) j => s.setLine (16 * bank + j) { s.lineSt (16 * bank + j) with pin := false }) s
  else if bank = 34 then s.pcieDown
  else if bank = 35 then
    [0, 1].foldl (fun (s : State) p => ((s.setLnk p { s.lnk p with los := false }).losSync p).settle p) s
  else s

/-- VDDIO_BANK_CHANGE: a bank, numbered as `State.dark` has it, gains or loses its supply; its pins return or go high impedance, and
its inputs read 0 (R351, R704). -/
def execVddioBankChange (bank : Nat) (present at3v3 : Bool) (s : State) : Res :=
  if 36 ≤ bank then .next s
  else
    let drop := fun (l : List Nat) => l.filter (· != bank)
    let s := { s with rst := { s.rst with
      noVio := if present then drop s.rst.noVio else drop s.rst.noVio ++ [bank],
      vio3 := if at3v3 then drop s.rst.vio3 ++ [bank] else drop s.rst.vio3 } }
    .next (if present then s.driveSync else (s.bankLost bank).driveSync)

end Sys2Proof.Machine
end

