-- ==== Sys2Proof/Machine/Dispatch.lean ====
section
/-!
DEFINITION. The dispatch: one arm per command, each a direct call of its meaning.
-/
namespace Sys2Proof.Machine

/-- What a command does to everything but the queue. -/
def exec (i : Instr) (s : State) : Host.Outcome State Fault Refusal :=
  match i with
  | .registerWrite ini page off value => Sys2Proof.Machine.execRegisterWrite ini page off value s
  | .pageEnableWrite page en => Sys2Proof.Machine.execPageEnableWrite page en s
  | .softReset page => Sys2Proof.Machine.execSoftReset page s
  | .softResetDone page => Sys2Proof.Machine.execSoftResetDone page s
  | .apply page => Sys2Proof.Machine.execApply page s
  | .applyCopy page => Sys2Proof.Machine.execApplyCopy page s
  | .applyAtCommit page => Sys2Proof.Machine.execApplyAtCommit page s
  | .lock page => Sys2Proof.Machine.execLock page s
  | .intRawClear page value => Sys2Proof.Machine.execIntRawClear page value s
  | .intEnWrite page value => Sys2Proof.Machine.execIntEnWrite page value s
  | .intForce page value => Sys2Proof.Machine.execIntForce page value s
  | .fltForce page value => Sys2Proof.Machine.execFltForce page value s
  | .counterLowRead ini page k => Sys2Proof.Machine.execCounterLowRead ini page k s
  | .queuePop page => Sys2Proof.Machine.execQueuePop page s
  | .queueOvfClear page => Sys2Proof.Machine.execQueueOvfClear page s
  | .refMonitorWindow edges => Sys2Proof.Machine.execRefMonitorWindow edges s
  | .phyPllUnlock port => Sys2Proof.Machine.execPhyPllUnlock port s
  | .phyPllLock port => Sys2Proof.Machine.execPhyPllLock port s
  | .porstAssert ns testEn => Sys2Proof.Machine.execPorstAssert ns testEn s
  | .porstRelease testEn => Sys2Proof.Machine.execPorstRelease testEn s
  | .supplyLow rail => Sys2Proof.Machine.execSupplyLow rail s
  | .supplyOk rail => Sys2Proof.Machine.execSupplyOk rail s
  | .flashHeaderCheck fitted answers sfdp jedec size quad rate => Sys2Proof.Machine.execFlashHeaderCheck fitted answers sfdp jedec size quad rate s
  | .bootStepLate step => Sys2Proof.Machine.execBootStepLate step s
  | .pwrstHubReset key => Sys2Proof.Machine.execPwrstHubReset key s
  | .pwrstEnterQuiet key => Sys2Proof.Machine.execPwrstEnterQuiet key s
  | .pwrstLeaveQuiet key => Sys2Proof.Machine.execPwrstLeaveQuiet key s
  | .pwrstRecovery key => Sys2Proof.Machine.execPwrstRecovery key s
  | .pcsLockGained port txDelay rxDelay asym => Sys2Proof.Machine.execPcsLockGained port txDelay rxDelay asym s
  | .pcsLockLost port => Sys2Proof.Machine.execPcsLockLost port s
  | .sdLosRise port => Sys2Proof.Machine.execSdLosRise port s
  | .sdLosFall port => Sys2Proof.Machine.execSdLosFall port s
  | .helloTx port => Sys2Proof.Machine.execHelloTx port s
  | .helloTimeout port => Sys2Proof.Machine.execHelloTimeout port s
  | .frameRx port f => Sys2Proof.Machine.execFrameRx port f s
  | .frameTx d => Sys2Proof.Machine.execFrameTx d s
  | .cellAdmitResume cls => Sys2Proof.Machine.execCellAdmitResume cls s
  | .linkRetrain port => Sys2Proof.Machine.execLinkRetrain port s
  | .cableTest port => Sys2Proof.Machine.execCableTest port s
  | .cableTestDone port result dist => Sys2Proof.Machine.execCableTestDone port result dist s
  | .clearWorst port => Sys2Proof.Machine.execClearWorst port s
  | .sqiUpdate port grade => Sys2Proof.Machine.execSqiUpdate port grade s
  | .ringIdSet ini data => Sys2Proof.Machine.execRingIdSet ini data s
  | .pdelayReqTx port => Sys2Proof.Machine.execPdelayReqTx port s
  | .pdelayTimeout port => Sys2Proof.Machine.execPdelayTimeout port s
  | .syncRecordTx port => Sys2Proof.Machine.execSyncRecordTx port s
  | .syncRecordTimeout port seq => Sys2Proof.Machine.execSyncRecordTimeout port seq s
  | .syncDecision seq => Sys2Proof.Machine.execSyncDecision seq s
  | .shardVerify owner epoch => Sys2Proof.Machine.execShardVerify owner epoch s
  | .repairReqRetry tag => Sys2Proof.Machine.execRepairReqRetry tag s
  | .proxyShardRequest owner => Sys2Proof.Machine.execProxyShardRequest owner s
  | .commitInstant upset => Sys2Proof.Machine.execCommitInstant upset s
  | .pmapAdopt gen => Sys2Proof.Machine.execPmapAdopt gen s
  | .pmapStageWrite which value => Sys2Proof.Machine.execPmapStageWrite which value s
  | .pin tag => Sys2Proof.Machine.execPin tag s
  | .renew tag => Sys2Proof.Machine.execRenew tag s
  | .unpin tag => Sys2Proof.Machine.execUnpin tag s
  | .demandWrite ini index value => Sys2Proof.Machine.execDemandWrite ini index value s
  | .imageCopyStart ch => Sys2Proof.Machine.execImageCopyStart ch s
  | .imageCopyDone ch => Sys2Proof.Machine.execImageCopyDone ch s
  | .axisQuadCount axis => Sys2Proof.Machine.execAxisQuadCount axis s
  | .axisSsiStart axis => Sys2Proof.Machine.execAxisSsiStart axis s
  | .ssiReadDone lane high value par zero => Sys2Proof.Machine.execSsiReadDone lane high value par zero s
  | .axisPreset axis => Sys2Proof.Machine.execAxisPreset axis s
  | .trkRead ini => Sys2Proof.Machine.execTrkRead ini s
  | .trkWrite ini => Sys2Proof.Machine.execTrkWrite ini s
  | .trkDisarm ini => Sys2Proof.Machine.execTrkDisarm ini s
  | .armSoft ini => Sys2Proof.Machine.execArmSoft ini s
  | .lnchInsert ini => Sys2Proof.Machine.execLnchInsert ini s
  | .lnchCancel ini slot => Sys2Proof.Machine.execLnchCancel ini slot s
  | .flushTarget ini => Sys2Proof.Machine.execFlushTarget ini s
  | .pulseEnd line => Sys2Proof.Machine.execPulseEnd line s
  | .dioFilteredChange line x => Sys2Proof.Machine.execDioFilteredChange line x s
  | .dioEdge line => Sys2Proof.Machine.execDioEdge line s
  | .chatterWindow page => Sys2Proof.Machine.execChatterWindow page s
  | .chatterEnd line => Sys2Proof.Machine.execChatterEnd line s
  | .dioStuck line => Sys2Proof.Machine.execDioStuck line s
  | .rbFail line => Sys2Proof.Machine.execRbFail line s
  | .dioOutSet page value => Sys2Proof.Machine.execDioOutSet page value s
  | .dioOutClr page value => Sys2Proof.Machine.execDioOutClr page value s
  | .dioOutHostWrite page value => Sys2Proof.Machine.execDioOutHostWrite page value s
  | .dioCntClr page value => Sys2Proof.Machine.execDioCntClr page value s
  | .laneTxd ini lane data => Sys2Proof.Machine.execLaneTxd ini lane data s
  | .laneTxdEnd ini lane data => Sys2Proof.Machine.execLaneTxdEnd ini lane data s
  | .txFifoRoom lane => Sys2Proof.Machine.execTxFifoRoom lane s
  | .localWriteExpired lane => Sys2Proof.Machine.execLocalWriteExpired lane s
  | .laneRxPop ini lane wide perr => Sys2Proof.Machine.execLaneRxPop ini lane wide perr s
  | .rxFlush lane => Sys2Proof.Machine.execRxFlush lane s
  | .txFlush lane => Sys2Proof.Machine.execTxFlush lane s
  | .rxDropRest lane => Sys2Proof.Machine.execRxDropRest lane s
  | .txDropHead lane => Sys2Proof.Machine.execTxDropHead lane s
  | .ssiRead lane => Sys2Proof.Machine.execSsiRead lane s
  | .iolWurq lane => Sys2Proof.Machine.execIolWurq lane s
  | .iolWurqEnd lane => Sys2Proof.Machine.execIolWurqEnd lane s
  | .laneFrameStart lane => Sys2Proof.Machine.execLaneFrameStart lane s
  | .laneFrameDone lane nack => Sys2Proof.Machine.execLaneFrameDone lane nack s
  | .laneRxChar lane data perr ferr brk late => Sys2Proof.Machine.execLaneRxChar lane data perr ferr brk late s
  | .lanePacketEnd lane => Sys2Proof.Machine.execLanePacketEnd lane s
  | .i2cStretchTimeout lane => Sys2Proof.Machine.execI2cStretchTimeout lane s
  | .iolNoResponse lane => Sys2Proof.Machine.execIolNoResponse lane s
  | .moverStart mover => Sys2Proof.Machine.execMoverStart mover s
  | .moverStop mover => Sys2Proof.Machine.execMoverStop mover s
  | .moverBurst mover host contend => Sys2Proof.Machine.execMoverBurst mover host contend s
  | .moverBackoffEnd mover => Sys2Proof.Machine.execMoverBackoffEnd mover s
  | .cogCmdStart page mask => Sys2Proof.Machine.execCogCmdStart page mask s
  | .cogCmdStop page mask => Sys2Proof.Machine.execCogCmdStop page mask s
  | .cogCmdResume page mask => Sys2Proof.Machine.execCogCmdResume page mask s
  | .cogDrive e perr levels => Sys2Proof.Machine.execCogDrive e perr levels s
  | .cogSample e perr levels => Sys2Proof.Machine.execCogSample e perr levels s
  | .cogEmit e perr levels => Sys2Proof.Machine.execCogEmit e perr levels s
  | .cogTake e perr levels ferr => Sys2Proof.Machine.execCogTake e perr levels ferr s
  | .cogGive e perr levels => Sys2Proof.Machine.execCogGive e perr levels s
  | .cogAwait e perr levels => Sys2Proof.Machine.execCogAwait e perr levels s
  | .cogLoop e perr levels => Sys2Proof.Machine.execCogLoop e perr levels s
  | .cogBranch e perr levels => Sys2Proof.Machine.execCogBranch e perr levels s
  | .cogLoad e perr levels => Sys2Proof.Machine.execCogLoad e perr levels s
  | .cogMark e perr levels => Sys2Proof.Machine.execCogMark e perr levels s
  | .cogSignal e perr levels => Sys2Proof.Machine.execCogSignal e perr levels s
  | .cogWaitDone e levels ferr => Sys2Proof.Machine.execCogWaitDone e levels ferr s
  | .awaitTimeout e => Sys2Proof.Machine.execAwaitTimeout e s
  | .cogStoreWrite page addr value => Sys2Proof.Machine.execCogStoreWrite page addr value s
  | .cogTokenGive page value => Sys2Proof.Machine.execCogTokenGive page value s
  | .cogTokenClr page value => Sys2Proof.Machine.execCogTokenClr page value s
  | .cogClaimWrite e value => Sys2Proof.Machine.execCogClaimWrite e value s
  | .cogCfgWrite e value => Sys2Proof.Machine.execCogCfgWrite e value s
  | .canFrameRx port idw dlc brs esi data age res pulse => Sys2Proof.Machine.execCanFrameRx port idw dlc brs esi data age res pulse s
  | .canRxPop ini port => Sys2Proof.Machine.execCanRxPop ini port s
  | .canRequest ini port buf => Sys2Proof.Machine.execCanRequest ini port buf s
  | .canCancel ini port buf => Sys2Proof.Machine.execCanCancel ini port buf s
  | .canRelease ini port buf => Sys2Proof.Machine.execCanRelease ini port buf s
  | .canAttemptStart port => Sys2Proof.Machine.execCanAttemptStart port s
  | .canAttemptEnd port outcome lec clash exempt => Sys2Proof.Machine.execCanAttemptEnd port outcome lec clash exempt s
  | .canBusoffRecovered port => Sys2Proof.Machine.execCanBusoffRecovered port s
  | .canIntegrated port => Sys2Proof.Machine.execCanIntegrated port s
  | .canCycleStart port => Sys2Proof.Machine.execCanCycleStart port s
  | .canWindowStart port slot => Sys2Proof.Machine.execCanWindowStart port slot s
  | .canWindowEnd port => Sys2Proof.Machine.execCanWindowEnd port s
  | .canDetectStart port => Sys2Proof.Machine.execCanDetectStart port s
  | .canDetectDwell port pulse => Sys2Proof.Machine.execCanDetectDwell port pulse s
  | .zoneSleep ini zone => Sys2Proof.Machine.execZoneSleep ini zone s
  | .zoneWake ini zone => Sys2Proof.Machine.execZoneWake ini zone s
  | .zoneAgreeTimeout zone => Sys2Proof.Machine.execZoneAgreeTimeout zone s
  | .zoneEnterDone zone => Sys2Proof.Machine.execZoneEnterDone zone s
  | .zoneLineWake zone => Sys2Proof.Machine.execZoneLineWake zone s
  | .zoneBusWake zone => Sys2Proof.Machine.execZoneBusWake zone s
  | .zoneWakePulseEnd zone => Sys2Proof.Machine.execZoneWakePulseEnd zone s
  | .zoneWakeRspTimeout zone => Sys2Proof.Machine.execZoneWakeRspTimeout zone s
  | .sluLimitEntry sluice => Sys2Proof.Machine.execSluLimitEntry sluice s
  | .sluShortTrip sluice => Sys2Proof.Machine.execSluShortTrip sluice s
  | .sluTimerTrip sluice => Sys2Proof.Machine.execSluTimerTrip sluice s
  | .sluRampDone sluice => Sys2Proof.Machine.execSluRampDone sluice s
  | .sluRampTimeout sluice => Sys2Proof.Machine.execSluRampTimeout sluice s
  | .sluPgQualify sluice => Sys2Proof.Machine.execSluPgQualify sluice s
  | .sluRetry sluice => Sys2Proof.Machine.execSluRetry sluice s
  | .sluRetryCountClear sluice => Sys2Proof.Machine.execSluRetryCountClear sluice s
  | .sluOn sluice => Sys2Proof.Machine.execSluOn sluice s
  | .sluOff sluice => Sys2Proof.Machine.execSluOff sluice s
  | .sluClear sluice => Sys2Proof.Machine.execSluClear sluice s
  | .powerCycle offTime key => Sys2Proof.Machine.execPowerCycle offTime key s
  | .sluFetShortDetect sluice => Sys2Proof.Machine.execSluFetShortDetect sluice s
  | .sluFetShortClear sluice => Sys2Proof.Machine.execSluFetShortClear sluice s
  | .pfwAssert pin => Sys2Proof.Machine.execPfwAssert pin s
  | .pfwDeassert pin => Sys2Proof.Machine.execPfwDeassert pin s
  | .pwdTelemetrySample vin temp vout sense => Sys2Proof.Machine.execPwdTelemetrySample vin temp vout sense s
  | .brgWriteIssue ini node addr words => Sys2Proof.Machine.execBrgWriteIssue ini node addr words s
  | .brgReadIssue ini node addr len => Sys2Proof.Machine.execBrgReadIssue ini node addr len s
  | .brgReadTimeout rid => Sys2Proof.Machine.execBrgReadTimeout rid s
  | .collectRequest ini len => Sys2Proof.Machine.execCollectRequest ini len s
  | .slotCollect slot => Sys2Proof.Machine.execSlotCollect slot s
  | .slotDiscard slot => Sys2Proof.Machine.execSlotDiscard slot s
  | .multicastSend ini => Sys2Proof.Machine.execMulticastSend ini s
  | .pcieRequest bar write whole off len data => Sys2Proof.Machine.execPcieRequest bar write whole off len data s
  | .pcieConfigWrite mem bme msixEn fmask d3 => Sys2Proof.Machine.execPcieConfigWrite mem bme msixEn fmask d3 s
  | .msixUnmask vector addr data masked => Sys2Proof.Machine.execMsixUnmask vector addr data masked s
  | .qshRead hdr => Sys2Proof.Machine.execQshRead hdr s
  | .qshWrite hdr data dcrc => Sys2Proof.Machine.execQshWrite hdr data dcrc s
  | .qshTicket hdr => Sys2Proof.Machine.execQshTicket hdr s
  | .qshCollect hdr => Sys2Proof.Machine.execQshCollect hdr s
  | .qshCsRise cut => Sys2Proof.Machine.execQshCsRise cut s
  | .usbStandardRequest recipient request value index length => Sys2Proof.Machine.execUsbStandardRequest recipient request value index length s
  | .usbEndpointHalt ep => Sys2Proof.Machine.execUsbEndpointHalt ep s
  | .usbHaltClear ep => Sys2Proof.Machine.execUsbHaltClear ep s
  | .getInfo length => Sys2Proof.Machine.execGetInfo length s
  | .authChallenge length => Sys2Proof.Machine.execAuthChallenge length s
  | .authResponse tag => Sys2Proof.Machine.execAuthResponse tag s
  | .usbRegRead addr length => Sys2Proof.Machine.execUsbRegRead addr length s
  | .usbRegWrite addr words => Sys2Proof.Machine.execUsbRegWrite addr words s
  | .getLastStatus length => Sys2Proof.Machine.execGetLastStatus length s
  | .getWakeReason length => Sys2Proof.Machine.execGetWakeReason length s
  | .deauth length => Sys2Proof.Machine.execDeauth length s
  | .tunnelRead hdr ecc => Sys2Proof.Machine.execTunnelRead hdr ecc s
  | .tunnelWrite hdr data ecc => Sys2Proof.Machine.execTunnelWrite hdr data ecc s
  | .usbBusReset highSpeed control => Sys2Proof.Machine.execUsbBusReset highSpeed control s
  | .usbRemoteWake seen => Sys2Proof.Machine.execUsbRemoteWake seen s
  | .faultMessage source kind uc addr word replay victim => Sys2Proof.Machine.execFaultMessage source kind uc addr word replay victim s
  | .faultRecordClose seq => Sys2Proof.Machine.execFaultRecordClose seq s
  | .healthCeExpiry page => Sys2Proof.Machine.execHealthCeExpiry page s
  | .hkRestart kind => Sys2Proof.Machine.execHkRestart kind s
  | .twinPeerRise level => Sys2Proof.Machine.execTwinPeerRise level s
  | .compareMismatch line => Sys2Proof.Machine.execCompareMismatch line s
  | .twinSwitch key => Sys2Proof.Machine.execTwinSwitch key s
  | .twinResync key => Sys2Proof.Machine.execTwinResync key s
  | .twinRejoin key => Sys2Proof.Machine.execTwinRejoin key s
  | .scrubStep m word found replay victim => Sys2Proof.Machine.execScrubStep m word found replay victim s
  | .calibration quantity k training ok value => Sys2Proof.Machine.execCalibration quantity k training ok value s
  | .flashOpDone region sector op ok => Sys2Proof.Machine.execFlashOpDone region sector op ok s
  | .logicTelemetrySample temp core phy08 phy18 vddio => Sys2Proof.Machine.execLogicTelemetrySample temp core phy08 phy18 vddio s
  | .crsSwitch ini course key => Sys2Proof.Machine.execCrsSwitch ini course key s
  | .crsStoreOpen ini image key => Sys2Proof.Machine.execCrsStoreOpen ini image key s
  | .crsStoreData ini data => Sys2Proof.Machine.execCrsStoreData ini data s
  | .crsStoreCommit ini key => Sys2Proof.Machine.execCrsStoreCommit ini key s
  | .crsStoreAbort ini key => Sys2Proof.Machine.execCrsStoreAbort ini key s
  | .updOpen ini => Sys2Proof.Machine.execUpdOpen ini s
  | .updAbort ini => Sys2Proof.Machine.execUpdAbort ini s
  | .updPrepare ini => Sys2Proof.Machine.execUpdPrepare ini s
  | .updActivate ini slot key => Sys2Proof.Machine.execUpdActivate ini slot key s
  | .updConfirm ini => Sys2Proof.Machine.execUpdConfirm ini s
  | .updDistribute ini => Sys2Proof.Machine.execUpdDistribute ini s
  | .updDataWrite ini data => Sys2Proof.Machine.execUpdDataWrite ini data s
  | .updUsbData data bad => Sys2Proof.Machine.execUpdUsbData data bad s
  | .updSessionTimeout src => Sys2Proof.Machine.execUpdSessionTimeout src s
  | .installClear ini slot parent key => Sys2Proof.Machine.execInstallClear ini slot parent key s
  | .installWrapped ini slot parent key => Sys2Proof.Machine.execInstallWrapped ini slot parent key s
  | .generate ini slot parent key => Sys2Proof.Machine.execGenerate ini slot parent key s
  | .destroy ini slot key force => Sys2Proof.Machine.execDestroy ini slot key force s
  | .linkArm ini key => Sys2Proof.Machine.execLinkArm ini key s
  | .linkDisarm ini key => Sys2Proof.Machine.execLinkDisarm ini key s
  | .saRekey port => Sys2Proof.Machine.execSaRekey port s
  | .pairRecordWrite port => Sys2Proof.Machine.execPairRecordWrite port s
  | .keySearch port => Sys2Proof.Machine.execKeySearch port s
  | .noVerifyTimeout port => Sys2Proof.Machine.execNoVerifyTimeout port s
  | .plumbSnap ini atCommit pin scope tag => Sys2Proof.Machine.execPlumbSnap ini atCommit pin scope tag s
  | .plumbRelease ini tag => Sys2Proof.Machine.execPlumbRelease ini tag s
  | .plumbPartSelect ini part tag => Sys2Proof.Machine.execPlumbPartSelect ini part tag s
  | .plumbLatchTimeout page => Sys2Proof.Machine.execPlumbLatchTimeout page s
  | .obsMark data => Sys2Proof.Machine.execObsMark data s
  | .extest pins bits => Sys2Proof.Machine.execExtest pins bits s
  | .samplePreload pins bits => Sys2Proof.Machine.execSamplePreload pins bits s
  | .bypass code bits => Sys2Proof.Machine.execBypass code bits s
  | .pcieLinkUp speed width => Sys2Proof.Machine.execPcieLinkUp speed width s
  | .canErrorDetected port lec eight => Sys2Proof.Machine.execCanErrorDetected port lec eight s
  | .vddioBankChange bank present at3v3 => Sys2Proof.Machine.execVddioBankChange bank present at3v3 s
  | .sluLimitExit sluice => Sys2Proof.Machine.execSluLimitExit sluice s
  | .voutBelowPgFloor sluice => Sys2Proof.Machine.execVoutBelowPgFloor sluice s
  | .extrapMaxExpiry ref => Sys2Proof.Machine.execExtrapMaxExpiry ref s
  | .corePllUnlock => Sys2Proof.Machine.execCorePllUnlock s
  | .pciePllUnlock => Sys2Proof.Machine.execPciePllUnlock s
  | .pciePllLock => Sys2Proof.Machine.execPciePllLock s
  | .powerOnReset => Sys2Proof.Machine.execPowerOnReset s
  | .hkFirmwareRunning => Sys2Proof.Machine.execHkFirmwareRunning s
  | .foundationApply => Sys2Proof.Machine.execFoundationApply s
  | .pwrstResetTakeEffect => Sys2Proof.Machine.execPwrstResetTakeEffect s
  | .helloRx => Sys2Proof.Machine.execHelloRx s
  | .claimStart => Sys2Proof.Machine.execClaimStart s
  | .idClaimRepeat => Sys2Proof.Machine.execIdClaimRepeat s
  | .claimHeld => Sys2Proof.Machine.execClaimHeld s
  | .idClaimRx => Sys2Proof.Machine.execIdClaimRx s
  | .idRefuseRx => Sys2Proof.Machine.execIdRefuseRx s
  | .idRefuseRepeat => Sys2Proof.Machine.execIdRefuseRepeat s
  | .topoTx => Sys2Proof.Machine.execTopoTx s
  | .topoEventTx => Sys2Proof.Machine.execTopoEventTx s
  | .topoRx => Sys2Proof.Machine.execTopoRx s
  | .topoExpire => Sys2Proof.Machine.execTopoExpire s
  | .positionTimeout => Sys2Proof.Machine.execPositionTimeout s
  | .rsqHoldExpiry => Sys2Proof.Machine.execRsqHoldExpiry s
  | .retryExpiry => Sys2Proof.Machine.execRetryExpiry s
  | .mirClear => Sys2Proof.Machine.execMirClear s
  | .pdelayReqRx => Sys2Proof.Machine.execPdelayReqRx s
  | .pdelayRespRx => Sys2Proof.Machine.execPdelayRespRx s
  | .pdelayRespFuRx => Sys2Proof.Machine.execPdelayRespFuRx s
  | .timeSyncTx => Sys2Proof.Machine.execTimeSyncTx s
  | .timeSyncRx => Sys2Proof.Machine.execTimeSyncRx s
  | .timeAnnounceTx => Sys2Proof.Machine.execTimeAnnounceTx s
  | .timeAnnounceRx => Sys2Proof.Machine.execTimeAnnounceRx s
  | .gmDrop => Sys2Proof.Machine.execGmDrop s
  | .holdoverEntry => Sys2Proof.Machine.execHoldoverEntry s
  | .holdoverExpiry => Sys2Proof.Machine.execHoldoverExpiry s
  | .ppsInEdge => Sys2Proof.Machine.execPpsInEdge s
  | .ppsMiss => Sys2Proof.Machine.execPpsMiss s
  | .ppsHoldover => Sys2Proof.Machine.execPpsHoldover s
  | .ppsOutRise => Sys2Proof.Machine.execPpsOutRise s
  | .ppsOutFall => Sys2Proof.Machine.execPpsOutFall s
  | .timeCapture => Sys2Proof.Machine.execTimeCapture s
  | .epochStart => Sys2Proof.Machine.execEpochStart s
  | .changePublish => Sys2Proof.Machine.execChangePublish s
  | .sealTx => Sys2Proof.Machine.execSealTx s
  | .changeRx => Sys2Proof.Machine.execChangeRx s
  | .sealRx => Sys2Proof.Machine.execSealRx s
  | .refreshRx => Sys2Proof.Machine.execRefreshRx s
  | .repairReqRx => Sys2Proof.Machine.execRepairReqRx s
  | .repairServe => Sys2Proof.Machine.execRepairServe s
  | .repairDataRx => Sys2Proof.Machine.execRepairDataRx s
  | .lateCommit => Sys2Proof.Machine.execLateCommit s
  | .bankCatchupDone => Sys2Proof.Machine.execBankCatchupDone s
  | .pmapCopy => Sys2Proof.Machine.execPmapCopy s
  | .pmapValidate => Sys2Proof.Machine.execPmapValidate s
  | .pmapValidateDone => Sys2Proof.Machine.execPmapValidateDone s
  | .pmapArm => Sys2Proof.Machine.execPmapArm s
  | .pmapDisarm => Sys2Proof.Machine.execPmapDisarm s
  | .marginClear => Sys2Proof.Machine.execMarginClear s
  | .pinLeaseExpiry => Sys2Proof.Machine.execPinLeaseExpiry s
  | .bindValidate => Sys2Proof.Machine.execBindValidate s
  | .bindValidateDone => Sys2Proof.Machine.execBindValidateDone s
  | .clearShadow => Sys2Proof.Machine.execClearShadow s
  | .windowEvaluate => Sys2Proof.Machine.execWindowEvaluate s
  | .launchStage => Sys2Proof.Machine.execLaunchStage s
  | .doSet => Sys2Proof.Machine.execDoSet s
  | .doClear => Sys2Proof.Machine.execDoClear s
  | .doPulse => Sys2Proof.Machine.execDoPulse s
  | .laneStart => Sys2Proof.Machine.execLaneStart s
  | .cogStart => Sys2Proof.Machine.execCogStart s
  | .pointWrite => Sys2Proof.Machine.execPointWrite s
  | .canInject => Sys2Proof.Machine.execCanInject s
  | .vinUndervolt => Sys2Proof.Machine.execVinUndervolt s
  | .vinOvervolt => Sys2Proof.Machine.execVinOvervolt s
  | .vinOvRecover => Sys2Proof.Machine.execVinOvRecover s
  | .pwdThermal => Sys2Proof.Machine.execPwdThermal s
  | .pwdThermalClear => Sys2Proof.Machine.execPwdThermalClear s
  | .slu0StartupRamp => Sys2Proof.Machine.execSlu0StartupRamp s
  | .powerCycleRamp => Sys2Proof.Machine.execPowerCycleRamp s
  | .clearMin => Sys2Proof.Machine.execClearMin s
  | .dieLinkSilence => Sys2Proof.Machine.execDieLinkSilence s
  | .dieLinkResumed => Sys2Proof.Machine.execDieLinkResumed s
  | .tamperAlarm => Sys2Proof.Machine.execTamperAlarm s
  | .brgWriteRx => Sys2Proof.Machine.execBrgWriteRx s
  | .readContextGrant => Sys2Proof.Machine.execReadContextGrant s
  | .brgReadRx => Sys2Proof.Machine.execBrgReadRx s
  | .brgReadRespRx => Sys2Proof.Machine.execBrgReadRespRx s
  | .brgWaitExpired => Sys2Proof.Machine.execBrgWaitExpired s
  | .brgPostedErrRx => Sys2Proof.Machine.execBrgPostedErrRx s
  | .prefetchExpiry => Sys2Proof.Machine.execPrefetchExpiry s
  | .pcieLinkDown => Sys2Proof.Machine.execPcieLinkDown s
  | .pcieHotReset => Sys2Proof.Machine.execPcieHotReset s
  | .usbSuspend => Sys2Proof.Machine.execUsbSuspend s
  | .usbResume => Sys2Proof.Machine.execUsbResume s
  | .usbVbusRise => Sys2Proof.Machine.execUsbVbusRise s
  | .usbVbusFall => Sys2Proof.Machine.execUsbVbusFall s
  | .usbLockoutEnd => Sys2Proof.Machine.execUsbLockoutEnd s
  | .fatalHubReset => Sys2Proof.Machine.execFatalHubReset s
  | .hkHeartbeat => Sys2Proof.Machine.execHkHeartbeat s
  | .heartbeatLoss => Sys2Proof.Machine.execHeartbeatLoss s
  | .clackToggle => Sys2Proof.Machine.execClackToggle s
  | .clackGraceExpiry => Sys2Proof.Machine.execClackGraceExpiry s
  | .fltLastfatalClr => Sys2Proof.Machine.execFltLastfatalClr s
  | .twinLateRunner => Sys2Proof.Machine.execTwinLateRunner s
  | .journalRx => Sys2Proof.Machine.execJournalRx s
  | .fullCheckpointTx => Sys2Proof.Machine.execFullCheckpointTx s
  | .sealCheck => Sys2Proof.Machine.execSealCheck s
  | .twinTakeover => Sys2Proof.Machine.execTwinTakeover s
  | .twinFirstDrive => Sys2Proof.Machine.execTwinFirstDrive s
  | .twinTakeoverDone => Sys2Proof.Machine.execTwinTakeoverDone s
  | .twinStandoff => Sys2Proof.Machine.execTwinStandoff s
  | .calRunNow => Sys2Proof.Machine.execCalRunNow s
  | .calDone => Sys2Proof.Machine.execCalDone s
  | .ledgerWrite => Sys2Proof.Machine.execLedgerWrite s
  | .courseSwitchRepeat => Sys2Proof.Machine.execCourseSwitchRepeat s
  | .courseSwitchRx => Sys2Proof.Machine.execCourseSwitchRx s
  | .courseQueryTx => Sys2Proof.Machine.execCourseQueryTx s
  | .crsStoreDone => Sys2Proof.Machine.execCrsStoreDone s
  | .crsStoreTimeout => Sys2Proof.Machine.execCrsStoreTimeout s
  | .updDataRx => Sys2Proof.Machine.execUpdDataRx s
  | .updDistCellTx => Sys2Proof.Machine.execUpdDistCellTx s
  | .updEraseDone => Sys2Proof.Machine.execUpdEraseDone s
  | .updAutoConfirm => Sys2Proof.Machine.execUpdAutoConfirm s
  | .updRunTimeout => Sys2Proof.Machine.execUpdRunTimeout s
  | .keyOpDone => Sys2Proof.Machine.execKeyOpDone s
  | .keyLoad => Sys2Proof.Machine.execKeyLoad s
  | .plumbSnapshot => Sys2Proof.Machine.execPlumbSnapshot s
  | .plumbReady => Sys2Proof.Machine.execPlumbReady s
  | .plumbPartReady => Sys2Proof.Machine.execPlumbPartReady s
  | .plumbHoldExpiry => Sys2Proof.Machine.execPlumbHoldExpiry s
  | .traceClear => Sys2Proof.Machine.execTraceClear s
  | .entropyHealthFail => Sys2Proof.Machine.execEntropyHealthFail s

end Sys2Proof.Machine
end

