-- ==== Sys2Proof/Machine/Step.lean ====
section
/-!
DEFINITION. The step: the command at the front of the queue, or on an empty queue one idle cycle of CLK_IO.
-/
namespace Sys2Proof.Machine

/-- An idle CLK_IO cycle: local and ring time advance, the trace pins finish what they have sent by then, the host polls the trace
stream, writes that waited out a pause expire, and the tunnel takes up its next request (R70, R178, R508, R532, R690, R691). -/
def State.idle (s : State) : State := (s.pass 1).pinDrain.usbStream.hkExpire.usbDrain

/-- One step: the front command runs on the queue's rest; an empty queue idles. -/
def step (s : State) : Host.Outcome State Fault Refusal :=
  match s.pending with
  | [] => .next s.idle
  | c :: rest => exec c { s with pending := rest }

/-- The state with the command that a word spells put at the front of its queue; the state itself where it spells none. -/
def State.withFetchWord (s : State) (nbits w : Nat) : State :=
  match Sys2Proof.decodeTableWord nbits w with
  | none => s
  | some c => { s with pending := c :: s.pending }

end Sys2Proof.Machine
end

