-- ==== Sys2Proof/Safety.lean ====
section
/-!
DEFINITION. What a step must not do, in the terms the statements use: the sparse maps of the state keep their canonical form, and a
low logic-die rail or a failed reference holds the hub in reset.
-/
namespace Sys2Proof.Machine

/-- The register words, their shadows and the counters are in canonical form, and no counter exceeds 64 bits (R57). -/
def State.mapsWf (s : State) : Bool :=
  s.regs.wf regDefault && s.shadow.wf regDefault && s.ctr.wf (fun _ => 0) && s.ctr.all (fun e => decide (e.2 < 2 ^ 64))

/-- The causes that hold the hub are those of R78, each once. -/
def State.heldWf (s : State) : Bool := s.held.all (fun c => decide (c < 7)) && decide s.held.Nodup

/-- The low supply rails are among the three of the logic die, each once, and while one is low SUPPLY holds the hub (R78,
R702). -/
def State.railsWf (s : State) : Bool :=
  s.rst.lowRails.all (fun r => decide (r < 3)) && decide s.rst.lowRails.Nodup
    && (s.rst.lowRails.isEmpty || s.held.contains 2)

end Sys2Proof.Machine
end

