-- ==== Sys2Proof/Certificates/Slice0/Obligations.lean ====
section
/-!
DEFINITION. The statements for the provers.  Each names the rules of the spec that it rests on; a statement of basis `stated` says
its rule whole.
-/
open Sys2Proof Sys2Proof.Machine

/-- For every state whose queue begins with a command c, a step is exec of c on the state that has the rest of the
queue. The queue is the model's own (log entry 1). Rests on R26. -/
def Obligations.StepRunsTheFrontCommand : Prop :=
  ∀ (s : State) (c : Instr) (rest : List Instr),
    s.pending = c :: rest → step s = exec c { s with pending := rest }

/-- For every state with an empty queue, a step answers the state one CLK_IO cycle (4 ns) later: the trace records
whose time at the pins has come have left, the USB responses held for the host have gone out while it may take them, a
deferred write whose wait has ended is answered, and the tunnel has taken up the requests that it may. That an idle
step is one such cycle, that the USB host polls in it and that the tunnel goes on in it are the model's choices (log
entries 2, 109 and 147). Rests on R70, R178, R690. -/
def Obligations.IdleStepPassesOneCycle : Prop :=
  ∀ (s : State), s.pending = [] → step s = .next (((((s.pass 1).pinDrain).usbStream).hkExpire).usbDrain)

/-- Right after a power-on reset the queue is empty, nothing has left the hub, the node is in BOOT with start-up step
1 done, no cause holds the hub, SYS_RST_CAUSE shows POR, no link and no claim is up, the Governor is not locked, the
epoch reads all ones, EPOCH_LEN is 3 and SETTLE 1, and the switch core, the bridge, tracking and launches, the image
engine and update are empty. Rests on R80, R84, R105, R123, R188, R195, R245. -/
def Obligations.ResetStateHoldsTheResetValues : Prop :=
  State.reset.pending = [] ∧ State.reset.out = [] ∧ State.reset.held = []
    ∧ State.reset.rd pgPWRST PWRST_STATE_STATE = nsBOOT ∧ State.reset.rd pgPWRST PWRST_STATE_STEP = 1
    ∧ State.reset.on pgSYS SYS_RST_CAUSE_POR = true
    ∧ State.reset.lstate 0 = 0 ∧ State.reset.lstate 1 = 0 ∧ State.reset.rd pgLINK RING_ID_CLAIM = 0
    ∧ State.reset.locked = false ∧ State.reset.epoch = 2 ^ 64 - 1
    ∧ State.reset.rd pgIMG IMG_EPOCH_EPOCH_LEN = 3 ∧ State.reset.rd pgIMG IMG_EPOCH_SETTLE = 1
    ∧ State.reset.sw = {} ∧ State.reset.brg = {} ∧ State.reset.trk = {} ∧ State.reset.img = {} ∧ State.reset.upd = {}

/-- In the state after a power-on reset the causes that hold the hub are those of R78, each once; the supply rails
below their thresholds are among the three of the logic die, each once, and while one is low SUPPLY holds the hub.
Rests on R78, R702. -/
def Obligations.ResetMeetsTheInvariant : Prop :=
  State.reset.heldWf = true ∧ State.reset.railsWf = true

/-- From every state in which the causes that hold the hub are those of R78, each once, and in which the low supply
rails are among the three of the logic die, each once, and hold the hub with cause SUPPLY, every step that answers a
next state leads to such a state. Rests on R78, R81, R702. -/
def Obligations.EveryStepKeepsTheInvariant : Prop :=
  ∀ (s t : State), s.heldWf = true → s.railsWf = true → step s = .next t →
    t.heldWf = true ∧ t.railsWf = true

/-- For every command and every state, exec answers a next state, never a fault or a refusal, and the commands that
wait are those that waited before. Rests on R38, R88. -/
def Obligations.EveryCommandCompletes : Prop :=
  ∀ (c : Instr) (s : State), ∃ t : State, exec c s = .next t ∧ t.pending = s.pending

/-- Where the register words are in canonical form and a field lies within its word, writing a value that fits reads
back as that value; a field of another word, or other bits of the same word, keep their values. Rests on R33, R56. -/
def Obligations.FieldWritesReadBack : Prop :=
  ∀ (s : State) (p : Nat) (f : Field) (v i ini : Nat),
    s.regs.wf regDefault = true → f.lo + f.width ≤ 32 → v < 2 ^ f.width →
    (s.wr p f v i ini).rd p f i ini = v
    ∧ ∀ (q : Nat) (g : Field) (j ini' : Nat), g.lo + g.width ≤ 32 →
        (regKey ini' q (g.off j) ≠ regKey ini p (f.off i) ∨ g.lo + g.width ≤ f.lo ∨ f.lo + f.width ≤ g.lo) →
        (s.wr p f v i ini).rd q g j ini' = s.rd q g j ini'

/-- For every sparse map in canonical form, with any default: after a write the map is in canonical form, the key
reads as the value written, and every other key reads as before. Register words, counters, FIFOs by lane, windows,
slots and shards are held in such maps. Rests on R33, R57. -/
def Obligations.SparseMapsKeepTheirForm : Prop :=
  ∀ (α : Type) [DecidableEq α] (d : Nat → α) (m : SMap α) (k : Nat) (v : α), m.wf d = true →
    (m.set d k v).wf d = true ∧ (m.set d k v).get d k = v ∧ ∀ k', k' ≠ k → (m.set d k v).get d k' = m.get d k'

/-- Where the counters are in canonical form, counting n events adds n to the counter and stops at 2^64 - 1; every
other counter keeps its value. Rests on R57. -/
def Obligations.CountersSaturate : Prop :=
  ∀ (s : State) (p k n : Nat), s.ctr.wf (fun _ => 0) = true → k < 24 →
    (s.count p k n).counter p k = min (s.counter p k + n) (2 ^ 64 - 1)
    ∧ ∀ q j, j < 24 → (q ≠ p ∨ j ≠ k) → (s.count p k n).counter q j = s.counter q j

/-- Where the register words are in canonical form, an event of bit b of page p leaves that INT_RAW bit set; every
other bit of the page's INT_RAW keeps its value, and so does INT_RAW of every other page. The bits of the OBS page,
whose trace records the event, are excepted. Rests on R51, R686. -/
def Obligations.InterruptEventsSetTheirBit : Prop :=
  ∀ (s : State) (p b : Nat), s.regs.wf regDefault = true → b < 32 →
    bitAt ((s.irq p b).rd p INT_RAW_W) b = true
    ∧ (∀ c, c ≠ b → p ≠ pgOBS → bitAt ((s.irq p b).rd p INT_RAW_W) c = bitAt (s.rd p INT_RAW_W) c)
    ∧ (∀ q, q ≠ p → q ≠ pgOBS → (s.irq p b).rd q INT_RAW_W = s.rd q INT_RAW_W)

/-- For every cell whose header fields, the reserved bits included, lie within their widths and whose payload has at
most 256 bytes, the bytes put on the link spell the same cell again, VER is 1, LEN is the length of the payload, and
the CRC field is the CRC-32C of the cell with HOPS taken as 0. Rests on R113, R114, R115. -/
def Obligations.CellsSurviveTheWire : Prop :=
  ∀ (c : Cell), c.typ < 64 → c.race < 2 → c.dkind < 4 → c.dest < 2048 → c.mapgen < 256 → c.src < 2048 → c.hops < 2048 →
    c.seq < 2 ^ 32 → c.origin < 2 ^ 32 → c.rsv < 8 → c.payload.length ≤ 256 →
    cellOf c.bytes = c ∧ hdrVer c.bytes = 1 ∧ hdrLen c.bytes = c.payload.length ∧ crcOf c.bytes = c.crc

/-- Where the register words are in canonical form and the use registers have room, the allocation of g granules for
class cls, one of the four, takes the next buffer entry; it charges the reserve of the class where that has room for
the whole cell, else the shared pool where that and the class's cap have room, and answers nothing where neither has.
Rests on R144, R145. -/
def Obligations.AdmissionTakesGranules : Prop :=
  ∀ (s : State) (cls g refs : Nat), s.regs.wf regDefault = true → cls < 4 →
    (s.rd pgSWC SWC_USEn_RSV cls + g ≤ rsvSize cls →
      ∃ t : State, s.alloc cls g refs = some (t, s.sw.nextBuf) ∧ t.sw.nextBuf = s.sw.nextBuf + 1
        ∧ t.rd pgSWC SWC_USEn_RSV cls = s.rd pgSWC SWC_USEn_RSV cls + g
        ∧ t.rd pgSWC SWC_USEn_SHARED cls = s.rd pgSWC SWC_USEn_SHARED cls)
    ∧ (rsvSize cls < s.rd pgSWC SWC_USEn_RSV cls + g → s.poolUse + g ≤ 5120 →
        s.rd pgSWC SWC_USEn_SHARED cls + g ≤ min 5120 (s.rd pgSWC SWC_CAPn_CAP cls) →
      ∃ t : State, s.alloc cls g refs = some (t, s.sw.nextBuf) ∧ t.sw.nextBuf = s.sw.nextBuf + 1
        ∧ t.rd pgSWC SWC_USEn_SHARED cls = s.rd pgSWC SWC_USEn_SHARED cls + g
        ∧ t.rd pgSWC SWC_USEn_RSV cls = s.rd pgSWC SWC_USEn_RSV cls)
    ∧ (rsvSize cls < s.rd pgSWC SWC_USEn_RSV cls + g →
        (5120 < s.poolUse + g ∨ min 5120 (s.rd pgSWC SWC_CAPn_CAP cls) < s.rd pgSWC SWC_USEn_SHARED cls + g) →
      s.alloc cls g refs = none)

/-- After a hub reset for any cause the block registers of the PWD and SLU pages, the sluices, the flash and the
waiting commands are as before, the cause holds the hub, and the counters, the cell buffer, the launch queue, the
image and the update sessions are at their reset values. Rests on R78, R80, R460. -/
def Obligations.HubResetKeepsThePowerDie : Prop :=
  ∀ (s : State) (c p off : Nat), pgPWD ≤ p → p ≤ pgSLU + 7 → 0x100 ≤ off → off < 0x1000 →
    (s.hubReset c).word p off = s.word p off ∧ (s.hubReset c).slu = s.slu ∧ (s.hubReset c).flash = s.flash
    ∧ (s.hubReset c).pending = s.pending ∧ (s.hubReset c).held.contains c = true
    ∧ (s.hubReset c).ctr = [] ∧ (s.hubReset c).sw = {} ∧ (s.hubReset c).trk = {} ∧ (s.hubReset c).img = {}
    ∧ (s.hubReset c).upd = {}

/-- While PAGE_CTRL.LOCK of a page is 1, PAGE_CTRL.EN, SOFT_RESET, APPLY, APPLY_AT_COMMIT, INT_FORCE and FLT_FORCE
leave the state as it is, where no restart of the housekeeping core that serves the page defers them. Rests on R63. -/
def Obligations.LockedPagesRefuseTheirControls : Prop :=
  ∀ (s : State) (page value : Nat) (en : Bool), s.on page PAGE_CTRL_LOCK = true → (s.hkPaused && servedByHk page) = false →
    exec (.pageEnableWrite page en) s = .next s ∧ exec (.softReset page) s = .next s ∧ exec (.apply page) s = .next s
    ∧ exec (.applyAtCommit page) s = .next s ∧ exec (.intForce page value) s = .next s
    ∧ exec (.fltForce page value) s = .next s

/-- With another KEY, the commands of a PWRST_CMD that takes writes are rejected with CMD_REJECT and its counter;
POWER_CYCLE of a PWD page that takes commands while the die link is up, and the commands of a TWIN page that takes
commands, are reported in INT_RAW; an activation, and a Course switch while the firmware runs, have no effect. Rests
on R96, R473, R579, R584, R614, R637. -/
def Obligations.CommandsNeedTheirKeys : Prop :=
  ∀ (s : State) (ini : Initiator) (key a : Nat),
    (key ≠ 0xA5 → s.takes pgPWRST = true → exec (.pwrstHubReset key) s = .next ((s.irq pgPWRST 4).count pgPWRST 1)
      ∧ exec (.pwrstRecovery key) s = .next ((s.irq pgPWRST 4).count pgPWRST 1)
      ∧ exec (.pwrstEnterQuiet key) s = .next ((s.irq pgPWRST 4).count pgPWRST 1)
      ∧ exec (.pwrstLeaveQuiet key) s = .next ((s.irq pgPWRST 4).count pgPWRST 1))
    ∧ (key ≠ 0xC3 → s.takes pgPWD = true → s.pwd.silent = false → exec (.powerCycle a key) s = .next (s.irq pgPWD 7))
    ∧ (key ≠ 0x96 → s.takes pgTWIN = true → exec (.twinSwitch key) s = .next (s.irq pgTWIN 7)
      ∧ exec (.twinResync key) s = .next (s.irq pgTWIN 7) ∧ exec (.twinRejoin key) s = .next (s.irq pgTWIN 7))
    ∧ (key ≠ 0x69 → exec (.updActivate ini a key) s = .next s)
    ∧ (key ≠ 0x3C → s.hkPaused = false → exec (.crsSwitch ini a key) s = .next s)

/-- A register write of a port other than PCIe, executed (on a hub that is not held, and of the QSPI or USB port where
the port answers) and not turned away for want of authentication, to an address that is not a multiple of 4 completes
with status ALIGN, and the answer is all that changes. Rests on R35. -/
def Obligations.MisalignedWritesHaveNoEffect : Prop :=
  ∀ (s : State) (ini : Initiator) (page off value : Nat), s.iniServes ini = true →
      s.noAuth ini true (page * 0x1000 + off) 4 = false →
    ini ≠ .pcie → off % 4 ≠ 0 →
    exec (.registerWrite ini page off value) s = .next (s.rsp ini stALIGN [])

/-- On an unlocked PMAP page that takes writes and has no apply pending, a port write to PMAP_STAGE or PMAP_MCAST that
is executed (of a port that answers, with the authentication it needs, and without a parity error of the register
bus): while STATE is not ARMED the state afterwards is IDLE; while STATE is ARMED all that changes is that
INT_RAW.STAGE_REJECT is raised and that the write completes with status OK. (R252) -/
def Obligations.PointMapStagingFollowsItsState : Prop :=
  ∀ (s : State) (ini : Initiator) (off value : Nat), ini ≠ .pcie → s.regs.wf regDefault = true →
    s.iniServes ini = true → s.noAuth ini true (pgPMAP * 0x1000 + off) 4 = false → s.busFails pgPMAP off = false →
    s.kindAt pgPMAP = some .pmap → s.openTo pgPMAP = true →
    (off = 0x108 ∨ off = 0x10C ∨ off = 0x110 ∨ off = 0x114) →
    (s.pmapState ≠ 2 → (s.rwWrite pgPMAP off value ini.num).pmapState = 0
      ∧ ∃ t : State, exec (.registerWrite ini pgPMAP off value) s = .next (t.rsp ini stOK []) ∧ t.pmapState = 0)
    ∧ (s.pmapState = 2 → exec (.registerWrite ini pgPMAP off value) s = .next ((s.irq pgPMAP 5).rsp ini stOK []))

/-- On a PMAP page that is initialised, the word at 0x128 reads in VALID and ARMED the CRC-32C of the 128 KiB staged
table, 16,384 entries of 8 bytes in address order, least significant byte first, and 0 in any other state; a write to
it leaves the state as it is and completes with status OK. (R255) -/
def Obligations.PointMapSumReadsTheStagedTable : Prop :=
  ∀ (s : State) (ini : Initiator) (value : Nat), s.kindAt pgPMAP = some .pmap → s.on pgPMAP PAGE_STAT_READY = true →
    (s.pmapState = 1 ∨ s.pmapState = 2 → s.viewWord pgPMAP 0x128 ini.num
      = crc32c ((List.range 16384).flatMap (fun k => leBytes 8 (s.img.stg.get (fun _ => 0) k))))
    ∧ (s.pmapState ≠ 1 → s.pmapState ≠ 2 → s.viewWord pgPMAP 0x128 ini.num = 0)
    ∧ s.blockWrite .pmap pgPMAP 0x128 value ini = (s, stOK)

/-- While the PCIe link is up, memory space enabled and the port not in D3, an access of BAR2 offset o uses window k =
o / 16 MiB and global address NODE, BASE and o[23:0] of PCIE_WINk: where EN of the window is 0 it completes with
status UNMAPPED; else an access that is not aligned completes with status ALIGN, and an aligned one is executed here
where NODE names this hub, else written or read at that node. (R513) -/
def Obligations.Bar2WindowsMapToGlobalAddresses : Prop :=
  ∀ (s : State) (write whole : Bool) (off len n : Nat) (data : List Nat) (t : State) (k node a : Nat),
    s.on pgPCIE PCIE_STAT_LINK_UP = true → s.pcie.mem = true → s.on pgPCIE PCIE_STAT_D3 = false →
    t = s.count pgPCIE (2 + b2n write) → n = (if write then 4 * data.length else len) → k = off / 2 ^ 24 % 64 →
    node = t.rd pgPCIE PCIE_WINk_NODE k → a = t.rd pgPCIE PCIE_WINk_BASE k * 2 ^ 24 + off % 2 ^ 24 →
    exec (.pcieRequest 2 write whole off len data) s = .next (
      if t.on pgPCIE PCIE_WINk_EN k = false then t.pcieFail true write (node * 2 ^ 29 + a) stUNMAPPED n
      else if whole = false ∨ (n = 8 ∧ off % 8 = 4) ∨ a % 4 ≠ 0 ∨ n % 4 ≠ 0 ∨ n = 0 then
        t.pcieFail true write (node * 2 ^ 29 + a) stALIGN n
      else if t.isHere node then t.pcieLocal true write a (node * 2 ^ 29 + a) n data
      else if write then t.postWrite .pcie node a data
      else State.pcieRemote (n / 256 + 2) t node a n)

/-- When the hub admits a cell that it originates, each transmit queue keeps its cells and gains only copies of that
cell, and every copy carries ORIGIN 0 while the Governor is not locked, and while it is locked the low 32 bits of ring
time at admission, with 1 in place of 0. The copies have the payload of the cell, in which a TIME_SYNC takes its
ORIGIN_T. Copies are originated, not forwarded, with HOPS 0; a ring-scope cell with a source carries the next SEQ on
both races, and the number then advances by 1 modulo 2^32. (R153) -/
def Obligations.OriginatedCellsCarryTheirOrigin : Prop :=
  ∀ (s t : State) (x : WaitCell) (port cls : Nat), s.admitCell x = some t →
    (∃ l : List TxCell, t.txq port cls = s.txq port cls ++ l ∧ ∀ c ∈ l,
      c.cell.typ = x.cell.typ
          ∧ c.cell.payload = (if x.cell.typ = tTIME_SYNC then beBytes 10 s.ringFine ++ x.cell.payload.drop 10 else
          x.cell.payload) ∧ c.cell.hops = 0 ∧ c.fwd = false
      ∧ c.cell.origin = (if s.locked = true then (if s.ringNow % 2 ^ 32 = 0 then 1 else s.ringNow % 2 ^ 32) else 0)
      ∧ (x.port = none → srcZero x.cell.typ = false → c.cell.seq = s.ring.nextSeq))
    ∧ (x.port = none → srcZero x.cell.typ = false → t.ring.nextSeq = (s.ring.nextSeq + 1) % 2 ^ 32)

/-- On a page that the hub implements and that no restarting housekeeping core serves: PAGE_CTRL.EN is written where
LOCK is 0, EN is not fixed, changes, and would not enable a lane that a cog claims; SOFT_RESET returns the block to
its reset values where LOCK is 0 and EN is not fixed; APPLY and APPLY_AT_COMMIT make the copy pending or armed where
LOCK is 0 and none is pending, APPLY taking the place of an armed one; LOCK is set. The copy of a pending apply that
nothing makes wait is carried out, and completes where its effect is complete; a soft reset ends with READY and one
more CFG_GEN. A page that the hub does not implement takes no write of EN. Rests on R46, R47, R48, R49, R59, R60, R63.
-/
def Obligations.PageControlCommandsTakeEffect : Prop :=
  (∀ (s : State) (page : Nat) (en : Bool) (k : Kind),
      s.kindAt page = some k →
      (s.hkPaused && servedByHk page) = false →
      exec (.pageEnableWrite page en) s = .next (
        if s.on page PAGE_CTRL_LOCK then s
        else if k.fixedOn || s.enabled page == en then s
        else if k == .lane && en && s.on page LANE_STAT_CLAIMED then s
        else (s.wr page PAGE_CTRL_EN (b2n en)).enableHook page))
  ∧ (∀ (s : State) (page : Nat) (k : Kind),
      s.kindAt page = some k →
      (s.hkPaused && servedByHk page) = false →
      exec (.softReset page) s = .next (
        if k.fixedOn = true ∨ s.on page PAGE_CTRL_LOCK = true then s
        else ((((s.softState page).wr page INT_RAW_W 0).wr page PAGE_STAT_READY 0).setPageSt page
            { softBusy := true }).softRestart page))
  ∧ (∀ (s : State) (page : Nat),
      (s.pageSt page).softBusy = true →
      exec (.softResetDone page) s = .next (
        let t := (s.wr page PAGE_STAT_READY 1).setPageSt page { s.pageSt page with softBusy := false }
        t.wr page CFG_GEN_W (t.rd page CFG_GEN_W + 1)))
  ∧ (∀ (s : State) (page : Nat),
      (s.kindAt page).isSome = true →
      (s.hkPaused && servedByHk page) = false →
      exec (.apply page) s = .next (
        if s.on page PAGE_CTRL_LOCK = true
            ∨ (s.pageSt page).applyPend = true then s else s.setPageSt page
            { s.pageSt page with applyPend := true, armed := false }))
  ∧ (∀ (s : State) (page : Nat),
      (s.pageSt page).applyPend = true →
      s.copyWaits page = false →
      exec (.applyCopy page) s = .next (
        let x := s.effect page (s.shadowWords page)
        if x.2 then x.1.applyDone page else x.1))
  ∧ (∀ (s : State) (page : Nat),
      (s.kindAt page).isSome = true →
      (s.hkPaused && servedByHk page) = false →
      exec (.applyAtCommit page) s = .next (
        if s.on page PAGE_CTRL_LOCK = true ∨ (s.pageSt page).applyPend = true
            ∨ (s.pageSt page).armed = true then s else s.setPageSt page
            { s.pageSt page with armed := true, armedAt := s.now }))
  ∧ (∀ (s : State) (page : Nat),
      (s.kindAt page).isSome = true →
      (s.hkPaused && servedByHk page) = false →
      exec (.lock page) s = .next (s.wr page PAGE_CTRL_LOCK 1))
  ∧ (∀ (s : State) (page : Nat) (en : Bool),
      s.kindAt page = none →
      exec (.pageEnableWrite page en) s = .next (s))

/-- On a page that the hub implements and that no restarting housekeeping core serves, INT_RAW clears the bits written
1, INT_EN takes the bits of its word that the page defines, and, while LOCK is 0, INT_FORCE raises each bit written 1
that the page defines and FLT_FORCE sends each forced message; while LOCK is 1 neither has an effect. A read of a
counter low word by a port that the hub serves, whose parity holds and, on the KEY page for the USB port, that is
authenticated, and else is answered AUTH_REQUIRED, answers its low 32 bits, as the page shows them, with status OK and
latches its high word for the initiator. POP and the overflow clear act on the queue of a page that takes commands.
After INT_RAW and INT_EN the vector of the page may send one more MSI-X message, and INT_EN sends one where it takes
the vector from zero. Rests on R51, R53, R57, R58, R68, R198, R205. -/
def Obligations.HeaderRegisterCommandsTakeEffect : Prop :=
  (∀ (s : State) (page value : Nat),
      (s.kindAt page).isSome = true →
      (s.hkPaused && servedByHk page) = false →
      exec (.intRawClear page value) s = .next ((s.wr page INT_RAW_W (s.rd page INT_RAW_W - (s.rd page INT_RAW_W &&&
          value))).msixAgain page))
  ∧ (∀ (s : State) (page value : Nat),
      (s.kindAt page).isSome = true →
      (s.hkPaused && servedByHk page) = false →
      exec (.intEnWrite page value) s = .next ((State.msixRise s (s.wr page INT_EN_W (value % 2 ^ 32 &&& intMask page))
          page).msixAgain page))
  ∧ (∀ (s : State) (page value : Nat),
      (s.kindAt page).isSome = true →
      (s.hkPaused && servedByHk page) = false →
      exec (.intForce page value) s = .next (
        if s.on page PAGE_CTRL_LOCK then s else (List.range 32).foldl (fun (t : State) b => if bitAt value b && bitAt
            (intMask page) b then t.irq page b else t) s))
  ∧ (∀ (s : State) (page value : Nat) (k : Kind),
      s.kindAt page = some k →
      pageKind? page = some k →
      (s.hkPaused && servedByHk page) = false →
      exec (.fltForce page value) s = .next (
        if s.on page PAGE_CTRL_LOCK then s else ((kindRows k).filter (fun (r : KindRow) => bitAt value r.bit && !(page
            == pgLINK + 1 && r.kind == 0x0F))).foldl (fun (t : State) r => t.forceFault page r) s))
  ∧ (∀ (s : State) (ini : Initiator) (page j : Nat) (t : State),
      j < 24 →
      s.iniServes ini = true →
      s.noAuth ini false (page * 0x1000 + (0x040 + 8 * j)) 4 = false →
      s.busFails page (0x040 + 8 * j) = false →
      t = s.settled page (0x040 + 8 * j) →
      (t.kindAt page).isSome = true →
      ((t.asHeld page).kindAt page).isSome = true →
      exec (.counterLowRead ini page j) s = .next ((t.latchHigh page (0x040 + 8 * j) ini.num).rsp ini stOK [(t.asHeld
          page).counterNow page j % 2 ^ 32]))
  ∧ (∀ (s : State) (page : Nat),
      s.takes page = true →
      exec (.queuePop page) s = .next (s.popQueue page))
  ∧ (∀ (s : State) (page : Nat) (f g : Field),
      s.takes page = true →
      (pageKind? page).bind ovfFields = some (f, g) →
      exec (.queueOvfClear page) s = .next ((s.wr page f 0).wr page g 0))
  ∧ (∀ (s : State) (ini : Initiator) (page j : Nat),
      j < 24 →
      s.iniServes ini = true →
      s.noAuth ini false (page * 0x1000 + (0x040 + 8 * j)) 4 = true →
      exec (.counterLowRead ini page j) s = .next ((s.rsp ini stAUTH_REQUIRED []).count pgUSB 3))

/-- A port that the hub serves, and the USB port with the authentication that the address needs, writes one aligned
word of a page: the state is that of the write of the word (writeWord), with its status returned to the initiator, and
recorded as an error of the PCIe port where it is not OK. A SEND written to BRG_MCW_CMD of a bridge page that takes
commands sends the multicast write. A word for which a FIFO has no room, or the housekeeping core no place, waits with
no answer. The USB port without that authentication is answered AUTH_REQUIRED, which its counter 3 counts, and nothing
is written. Rests on R35, R38, R56, R61, R63. -/
def Obligations.RegisterWriteChangesItsWord : Prop :=
  (∀ (s : State) (ini : Initiator) (page off value v a : Nat) (x : State × Nat),
      s.iniServes ini = true →
      s.noAuth ini true a 4 = false →
      page < 0x1000 →
      off < 0x1000 →
      off % 4 = 0 →
      v = value % 2 ^ 32 →
      a = page * 0x1000 + off →
      x = s.writeWord page off v ini →
      exec (.registerWrite ini page off value) s = .next (
        if x.2 = stFULL then s.waitWords [(a, v)] { ini := ini, data := 0, fin := false, at_ := 0, addr := a }
        else
          let t := if a = 0x20160 ∧ x.2 = stOK ∧ bitAt v 0 ∧ (s.kindAt pgBRG).isSome
              ∧ s.takes pgBRG then x.1.multicast ini else x.1
          if ini = .pcie ∧ x.2 ≠ stOK then (t.pcieErr a x.2 false true).rsp ini x.2 []
          else t.rsp ini x.2 []))
  ∧ (∀ (s : State) (ini : Initiator) (page off value : Nat),
      s.iniServes ini = true →
      s.noAuth ini true (page * 0x1000 + off) 4 = true →
      exec (.registerWrite ini page off value) s = .next ((s.rsp ini stAUTH_REQUIRED []).count pgUSB 3))

/-- A power-on reset gives the reset state that powerOn names. A pulse on PORST_N of 100 ns or more resets the hub, a
shorter one changes nothing, and its release ends every hold but those of a failed reference and a low rail. A logic-
die rail that falls holds the hub; the last one that recovers ends that hold, another one does not. On a PWRST page
that takes commands, each command without its key is rejected with CMD_REJECT and its counter; HUB_RESET and RECOVERY
are queued for 10 us later, ENTER_QUIET in SERVICE and LEAVE_QUIET in QUIET are kept for the next commit, and rejected
in another state. A queued reset resets the hub at its time, with RECOVERY_REQ for RECOVERY. A reference window stores
its edge count, at most 1023, and whether it was good, from 300 to 500; the second bad one in a row holds the hub in
reset for CLK_FAIL, and the 64th good one in a row ends that hold. The core PLL losing lock resets the hub. On a hub
that is not held, a link PLL losing lock takes its link down and a PCIe PLL losing lock takes the PCIe link down, each
with its interrupt and counter, and gaining lock sets the lock bit. Rests on R78, R79, R96, R702, R72, R73, R74. -/
def Obligations.ResetAndSupplyCommandsTakeEffect : Prop :=
  (∀ (s : State),
      exec (.powerOnReset) s = .next (s.powerOn))
  ∧ (∀ (s : State) (ns : Nat) (testEn : Bool),
      exec (.porstAssert ns testEn) s = .next (
        if ns < 100 then s else State.hubReset { s with rst := { s.rst with testEn := testEn } } 1))
  ∧ (∀ (s : State) (testEn : Bool),
      exec (.porstRelease testEn) s = .next (State.unhold { s with rst := { s.rst with testEn := testEn, ir := 0xF } } [0, 1,
          4, 5, 6]))
  ∧ (∀ (s : State) (rail : Nat),
      exec (.supplyLow rail) s = .next (
        if 3 ≤ rail
            ∨ s.rst.lowRails.contains rail = true then s else State.hubReset
            { s with rst := { s.rst with lowRails := s.rst.lowRails ++ [rail] } } 2))
  ∧ (∀ (s : State) (rail : Nat),
      exec (.supplyOk rail) s = .next (
        if !s.rst.lowRails.contains rail then s
        else
          let l := s.rst.lowRails.filter (· != rail)
          let t : State := { s with rst := { s.rst with lowRails := l } }
          if l.isEmpty then t.unhold [2] else t))
  ∧ (∀ (s : State) (key : Nat),
      s.takes pgPWRST = true →
      exec (.pwrstHubReset key) s = .next (
        if key ≠ 0xA5 then (s.irq pgPWRST 4).count pgPWRST 1 else
            { s with rst := { s.rst with due := s.rst.due ++ [(s.now + 10000, false)] } }))
  ∧ (∀ (s : State) (key : Nat),
      s.takes pgPWRST = true →
      exec (.pwrstRecovery key) s = .next (
        if key ≠ 0xA5 then (s.irq pgPWRST 4).count pgPWRST 1 else
            { s with rst := { s.rst with due := s.rst.due ++ [(s.now + 10000, true)] } }))
  ∧ (∀ (s : State) (key : Nat),
      s.takes pgPWRST = true →
      exec (.pwrstEnterQuiet key) s = .next (
        if key ≠ 0xA5
            ∨ s.node ≠ nsSERVICE then (s.irq pgPWRST 4).count pgPWRST 1 else
            { s with rst := { s.rst with quiet := some (true, s.now) } }))
  ∧ (∀ (s : State) (key : Nat),
      s.takes pgPWRST = true →
      exec (.pwrstLeaveQuiet key) s = .next (
        if key ≠ 0xA5
            ∨ s.node ≠ nsQUIET then (s.irq pgPWRST 4).count pgPWRST 1 else
            { s with rst := { s.rst with quiet := some (false, s.now) } }))
  ∧ (∀ (s : State) (t : Nat) (rec_ : Bool) (l : List (Nat × Bool)),
      s.rst.due = (t, rec_) :: l →
      exec (.pwrstResetTakeEffect) s = .next (
        let u := (s.passTo t).hubReset 6
        let u : State := { u with rst := { u.rst with due := l } }
        if rec_ then u.wr pgSYS SYS_RST_CAUSE_RECOVERY_REQ 1 else u))
  ∧ (∀ (s : State) (edges : Nat),
      exec (.refMonitorWindow edges) s = .next (
        let good := decide (300 ≤ edges ∧ edges ≤ 500)
        let t : State := { s with rst := { s.rst with
          badWin := if good then 0 else s.rst.badWin + 1
          goodWin := if good then s.rst.goodWin + 1 else 0 } }
        let t := if 2 ≤ t.rst.badWin ∧ !t.held.contains 3 then t.hubReset 3
          else if t.held.contains 3 && decide (64 ≤ t.rst.goodWin) then t.unhold [3] else t
        (t.wr pgCLK CLK_REF_CNT_EDGES (min 1023 edges)).wr pgCLK CLK_STAT_REF_OK (b2n good)))
  ∧ (∀ (s : State),
      exec (.corePllUnlock) s = .next (s.hubReset 4))
  ∧ (∀ (s : State) (port : Nat),
      port < 2 →
      s.held = [] →
      exec (.phyPllUnlock port) s = .next ((((s.wr pgCLK (if port = 0 then CLK_STAT_LINKE_PLL_LOCK else
          CLK_STAT_LINKW_PLL_LOCK) 0).irq pgCLK 2).count pgCLK port).linkDown port))
  ∧ (∀ (s : State) (port : Nat),
      port < 2 →
      s.held = [] →
      exec (.phyPllLock port) s = .next (s.wr pgCLK (if port = 0 then CLK_STAT_LINKE_PLL_LOCK else CLK_STAT_LINKW_PLL_LOCK)
          1))
  ∧ (∀ (s : State),
      s.held = [] →
      exec (.pciePllUnlock) s = .next ((((s.wr pgCLK CLK_STAT_PCIE_PLL_LOCK 0).irq pgCLK 3).count pgCLK 2).pcieDown))
  ∧ (∀ (s : State),
      s.held = [] →
      exec (.pciePllLock) s = .next (s.wr pgCLK CLK_STAT_PCIE_PLL_LOCK 1))

/-- On a hub that is not held: a flash that answers in step 1 of BOOT is identified, and the slot that the ROM chooses
starts with step 2 done, or the hub enters RECOVERY with DETAIL 7 where it chooses none, the flash does not answer or
it is too small; firmware whose body is good runs, another one fails; at the end of a housekeeping restart the slot
that starts, or the running one, runs; a step from 2 to 7 that is late passes the time to its limit and is recorded in
every node state, a late step 2 or 3 leads to RECOVERY where the ROM starts no other slot, a late step 4 shows in
DETAIL while the node is in BOOT, and step 7 is not late before step 6. The Foundation is applied. That the bits are
set in every node state is the model's reading (log entry 95). Rests on R84, R85, R86, R601, R602, R603, R611, R637.
-/
def Obligations.BootCommandsTakeEffect : Prop :=
  (∀ (s : State) (fitted : Option Flash) (answers sfdp quad : Bool) (jedec size rate : Nat),
      s.held = [] →
      s.node = nsBOOT →
      s.rd pgPWRST PWRST_STATE_STEP = 1 →
      exec (.flashHeaderCheck fitted answers sfdp jedec size quad rate) s = .next (
        let t : State := { s with flash := fitted.getD s.flash }
        if !answers then t.enterRecovery 7
        else
          let t := ((t.wr pgFLASH FLASH_ID_MANUFACTURER (jedec % 256)).wr pgFLASH FLASH_ID_TYPE (jedec / 256 % 256)).wr
              pgFLASH
            FLASH_ID_CAPACITY (jedec / 65536 % 256)
          let t := t.wr pgFLASH FLASH_STAT_SFDP_OK (b2n sfdp)
          if !sfdp || decide (size < 128) then t.enterRecovery 7
          else
            let t := ((t.wr pgFLASH FLASH_GEOM_SIZE (min 512 size)).wr pgFLASH FLASH_GEOM_QUAD (b2n quad)).wr pgFLASH
                FLASH_GEOM_RATE
              (min 80 (max 20 rate))
            let t := ((t.ready [pgFLASH]).wearLoad.romTrial).fwSync
            match t.romChoice with
            | none => t.enterRecovery 7
            | some n => (t.romStart n false).stepDone 2))
  ∧ (∀ (s : State) (n : Nat) (second : Bool),
      s.held = [] →
      s.hkUp = false →
      (s.node == nsRECOVERY) = false →
      s.rd pgPWRST PWRST_STATE_STEP < 3 →
      s.hk.starting = some (n, second) →
      exec (.hkFirmwareRunning) s = .next (
        if (s.fwSlot n).bodyOk then s.bootRuns n else s.romFail n second))
  ∧ (∀ (s : State) (n : Nat),
      s.held = [] →
      s.hkUp = false →
      (s.node == nsRECOVERY) = false →
      3 ≤ s.rd pgPWRST PWRST_STATE_STEP →
      s.hk.starting = none →
      s.upd.run = some n →
      exec (.hkFirmwareRunning) s = .next (
        if (s.fwSlot n).st = 6 then s else s.pauseEnds n false false))
  ∧ (∀ (s : State),
      exec (.foundationApply) s = .next (s.foundation))
  ∧ (∀ (s : State),
      s.held = [] →
      s.stepOk 2 = false →
      exec (.bootStepLate 2) s = .next (((s.passTo (s.t0 + 5000000)).bootLate PWRST_BOOT_LATE_HEADER).enterRecovery 7))
  ∧ (∀ (s : State),
      s.held = [] →
      s.stepOk 3 = false →
      exec (.bootStepLate 3) s = .next (
        let t := (s.passTo (s.t0 + 40000000)).bootLate PWRST_BOOT_LATE_FIRMWARE
        match if t.node = nsBOOT then t.hk.starting else none with
        | some (n, second) => t.romFail n second
        | none => t.enterRecovery 7))
  ∧ (∀ (s : State),
      s.held = [] →
      s.stepOk 4 = false →
      exec (.bootStepLate 4) s = .next (
        let t := (s.passTo (s.t0 + 60000000)).bootLate PWRST_BOOT_LATE_FOUNDATION
        if t.node = nsBOOT then t.wr pgPWRST PWRST_STATE_DETAIL 1 else t))
  ∧ (∀ (s : State),
      s.held = [] →
      s.stepOk 5 = false →
      exec (.bootStepLate 5) s = .next (((s.passTo (s.t0 + 150000000)).bootLate PWRST_BOOT_LATE_LINKS).detailSync))
  ∧ (∀ (s : State),
      s.held = [] →
      s.stepOk 6 = false →
      exec (.bootStepLate 6) s = .next (((s.passTo (s.t0 + 2000000000)).bootLate PWRST_BOOT_LATE_LOCK).detailSync))
  ∧ (∀ (s : State),
      s.held = [] →
      s.stepOk 7 = false →
      s.stepOk 6 = true →
      exec (.bootStepLate 7) s = .next (
        let lock := s.t0 + 1000 * s.rd pgPWRST PWRST_STEP_TIME_TIME_US 5
        (s.passTo (lock + (256 + s.settle_) * s.epochLen)).bootLate PWRST_BOOT_LATE_FULL))
  ∧ (∀ (s : State) (n : Nat) (fallback : Bool),
      s.held = [] →
      s.hkUp = false →
      (s.node == nsRECOVERY) = false →
      3 ≤ s.rd pgPWRST PWRST_STATE_STEP →
      s.hk.starting = some (n, fallback) →
      exec (.hkFirmwareRunning) s = .next (
        if (s.fwSlot n).bodyOk then s.pauseEnds n true fallback
        else if s.trialSlot == some n then s.hkRestart 2
        else s))
  ∧ (∀ (s : State),
      s.held = [] →
      s.stepOk 7 = false →
      s.stepOk 6 = false →
      exec (.bootStepLate 7) s = .next (s))

/-- A port in TRAINING that gains lock, with no cable test, stores its delays and enters PCS_UP with a HELLO, or
NO_KEY where it has no key; lost lock, loss of signal on a SerDes port, a HELLO timeout and a forced retrain take the
link DOWN; the end of loss of signal lets it train; a HELLO is sent 64 us after the last one; the third good HELLO in
PCS_UP takes an unprotected link UP. A cable test on a copper port that is DOWN or TRAINING runs for 50 ms and ends
with its result, distance and interrupt; on another port it ends at once with result 6 and the interrupt; CLEAR_WORST
sets the worst grade to 7, and a quality update on a locked copper port stores the grade and the worst grade. Rests on
R103, R104, R106, R107, R108, R109. -/
def Obligations.LinkEventsTakeEffect : Prop :=
  (∀ (s : State) (port txDelay rxDelay asym : Nat),
      s.lstate port = 1 →
      (s.lnk port).cableEnd = none →
      exec (.pcsLockGained port txDelay rxDelay asym) s = .next (
        let t := (s.wr pgDRS DRS_TSDLYp_DELAY txDelay (2 * port)).wr pgDRS DRS_TSDLYp_DELAY rxDelay (2 * port + 1)
        let t := t.wr pgDRS DRS_ASYM_ASYM (if t.serdes port then 0 else asym) port
        let t := t.wr (pgLINK + port) LINK_STAT_PCS_LOCK 1
        if t.noKeyReason port ≠ 0 then t.noKey port (t.noKeyReason port)
        else ((t.setLnk port { t.lnk port with lastGood := t.now }).setLink port 2).hello port (t.now + 64000)))
  ∧ (∀ (s : State) (port : Nat),
      s.on (pgLINK + port) LINK_STAT_PCS_LOCK = true →
      exec (.pcsLockLost port) s = .next (s.linkDown port))
  ∧ (∀ (s : State) (port : Nat),
      s.dark 35 = false →
      s.serdes port = true →
      exec (.sdLosRise port) s = .next (((s.setLnk port { s.lnk port with los := true }).losSync port).linkDown port))
  ∧ (∀ (s : State) (port : Nat),
      exec (.sdLosFall port) s = .next (((s.setLnk port { s.lnk port with los := false }).losSync port).settle port))
  ∧ (∀ (s : State) (port : Nat),
      2 ≤ s.lstate port →
      s.lstate port ≤ 6 →
      exec (.helloTx port) s = .next ((s.passTo (s.lnk port).helloAt).hello port ((s.lnk port).helloAt + 64000)))
  ∧ (∀ (s : State) (r : RxCell) (u : State),
      s.takeCell 4 tHELLO = some (r, u) →
      u.lstate r.port = 2 →
      u.judgeHello r.port r.cell.payload = 0 →
      ((u.neighbour r.port r.cell.payload).lnk r.port).good = 2 →
      u.protected r.port = false →
      exec (.helloRx) s = .next (
        let t := u.neighbour r.port r.cell.payload
        let t := t.setLnk r.port { t.lnk r.port with good := 3, lastGood := t.now }
        if t.noKeyReason r.port ≠ 0 then t.noKey r.port (t.noKeyReason r.port) else t.setLink r.port 3))
  ∧ (∀ (s : State) (port : Nat),
      2 ≤ s.lstate port →
      s.lstate port ≤ 6 →
      exec (.helloTimeout port) s = .next (
        let t := (s.passTo ((s.lnk port).lastGood + max 2 (s.rd (pgLINK + port) LINK_CFG_HELLO_MISS) * 64000)).count (pgLINK
            + port) 12
        t.linkDown port))
  ∧ (∀ (s : State) (port : Nat),
      s.takes (pgLINK + port) = true →
      exec (.linkRetrain port) s = .next (s.linkDown port))
  ∧ (∀ (s : State) (port : Nat),
      s.takes (pgLINK + port) = true →
      s.rd (pgLINK + port) LINK_CFG_MEDIUM = 0 →
      s.lstate port ≤ 1 →
      exec (.cableTest port) s = .next ((s.setLnk port { s.lnk port with cableEnd := some (s.now + 50000000) }).wr (pgLINK +
          port) LINK_DIAG_RESULT 1))
  ∧ (∀ (s : State) (port : Nat),
      s.takes (pgLINK + port) = true →
      1 < s.lstate port →
      exec (.cableTest port) s = .next ((s.wr (pgLINK + port) LINK_DIAG_RESULT 6).irq (pgLINK + port) 4))
  ∧ (∀ (s : State) (port result dist : Nat),
      (s.lnk port).cableEnd.isSome = true →
      exec (.cableTestDone port result dist) s = .next ((((s.setLnk port { s.lnk port with cableEnd := none }).wr (pgLINK +
          port) LINK_DIAG_RESULT result).wr (pgLINK + port) LINK_DIAG_DIST dist).irq (pgLINK + port) 4))
  ∧ (∀ (s : State) (port : Nat),
      s.takes (pgLINK + port) = true →
      exec (.clearWorst port) s = .next (s.wr (pgLINK + port) LINK_DIAG_SQI_WORST 7))
  ∧ (∀ (s : State) (port grade : Nat),
      s.rd (pgLINK + port) LINK_CFG_MEDIUM = 0 →
      s.on (pgLINK + port) LINK_STAT_PCS_LOCK = true →
      exec (.sqiUpdate port grade) s = .next (
        let t := s.wr (pgLINK + port) LINK_STAT_SQI grade
        t.wr (pgLINK + port) LINK_DIAG_SQI_WORST (min grade (t.rd (pgLINK + port) LINK_DIAG_SQI_WORST))))
  ∧ (∀ (s : State) (port : Nat),
      s.dark 35 = false →
      s.serdes port = false →
      exec (.sdLosRise port) s = .next ((s.setLnk port { s.lnk port with los := true }).losSync port))

/-- A frame that passes the checks of link protection and of its header is delivered and passed on on a link that is
UP; on an unprotected link FRAME_TX sends the cell that is next after aging; an originated cell that waited is
admitted once its class has room; the resequencer gives up a hold at its expiry, a retried cell is reported lost at
its expiry, and MIR CLEAR empties the mirror ring. Rests on R116, R118, R146, R147, R152, R154, R163, R175. -/
def Obligations.FramesAndCellsAreReceivedAndSent : Prop :=
  (∀ (s : State) (port : Nat) (f : Frame) (b : List Byte) (c : Cell) (t u : State),
      port ≤ 1 →
      s.held = [] →
      s.lstate port = 3 →
      s.macCheck port f = (t, some b) →
      t.headCheck port b = (u, some c) →
      exec (.frameRx port f) s = .next ((u.cellRx port (u.portStamp (2 * port + 1) f.frac) c).drainNotices))
  ∧ (∀ (s : State) (port frac : Nat) (t : TxCell) (u : State),
      port ≤ 1 →
      s.held = [] →
      s.lstate port = 3 →
      u = (List.range 4).foldl (fun (a : State) cls => State.txAge (a.txq port cls).length a port cls) s →
      (List.range 4).findSome? (u.txNext port) = some t →
      t.cell.typ = tHELLO ∨ u.protected port = false →
      exec (.frameTx ⟨port, frac⟩) s = .next (u.txSend ⟨port, frac⟩ t (frameBody t.cell false)))
  ∧ (∀ (s : State) (cls : Nat) (x : WaitCell) (u : State),
      s.sw.waiting.find? (fun (y : WaitCell) => classOf y.cell.typ == cls) = some x →
      s.mayAdmit x = true →
      ({ s with sw := { s.sw with waiting := s.sw.waiting.erase x } } : State).admitCell x = some u →
      exec (.cellAdmitResume cls) s = .next ((u.readAdmitted x.cell).ackWrite x stOK))
  ∧ (∀ (s : State) (x : Nat),
      (s.rsq.filterMap (fun e => s.holdEnd e.2)).min? = some x →
      exec (.rsqHoldExpiry) s = .next (
        let t := s.passTo ((max x s.now + 999) / 1000 * 1000)
        let due := t.rsq.filter (fun e => match t.holdEnd e.2 with | some y => decide (y ≤ t.now) | none => false)
        (due.foldl (fun (u : State) e =>
          match e.2.oldest with
          | some h => u.skip e.1 (seqOff e.2.exp h.cell.seq)
          | none => u) t).drainNotices))
  ∧ (∀ (s : State) (e : RetryEnt) (l : List RetryEnt),
      s.sw.retry = e :: l →
      exec (.retryExpiry) s = .next (((s.passTo (e.at_ + s.holdEff)).setRetry l).lossNotice e.src))
  ∧ (∀ (s : State),
      s.takes pgMIR = true →
      exec (.mirClear) s = .next (((State.wr { s with mir := { s.mir with since := 0 } } pgMIR MIR_WPTR_WPTR 0).wr pgMIR
          MIR_WPTR_WRAPPED 0).wr pgMIR MIR_WPTR_STOPPED 0))

/-- A hub that may claim starts the claim with an ID_CLAIM; while CLAIMING, and while it may source it, it sends one
of the four each millisecond, and it holds the ID at the end of the claim, with the write records that name the ID now
its own; an ID_CLAIM and an ID_REFUSE of this serial act as R124 has it, and the refusal due first is sent again until
none is left; the local RING_ID command, on a page that takes commands, starts a claim of the ID it names. A hub that
holds its ID sends its TOPO cell when 64 ms have passed since the last scheduled one, and at once after a change; a
TOPO cell of another hub enters the ring view, which is formed again, and one of an Anchor gives a hub that needs its
position the hop count: from the West port the position at once, from the East port 130 ms later from the planned
count; what was heard longest ago leaves the view after 192 ms. Rests on R122, R123, R124, R126, R127, R128. -/
def Obligations.ClaimingTakesEffect : Prop :=
  (∀ (s : State),
      s.claimable = true →
      exec (.claimStart) s = .next (s.startClaim))
  ∧ (∀ (s : State),
      s.rd pgLINK RING_ID_CLAIM = 1 →
      s.ring.claims < 4 →
      s.maySource tID_CLAIM = true →
      exec (.idClaimRepeat) s = .next ((s.passTo (s.ring.lastClaim + 1000000)).sendClaim))
  ∧ (∀ (s : State),
      s.rd pgLINK RING_ID_CLAIM = 1 →
      s.node ≠ nsHOLD →
      s.node ≠ nsRECOVERY →
      exec (.claimHeld) s = .next (
        let t := s.claimHeld
        let mine (n : Nat) : Bool := n != 0 && n == t.nodeId
        let ws := imgWrites t.crs.fnd mine ++ imgWrites t.crs.active mine
        let t := (t.configure (ws.map (·.1)).dedup ws).bindTake
        t.wr pgBIND CFG_GEN_W 1))
  ∧ (∀ (s : State) (r : RxCell) (u : State),
      s.hkPaused = false →
      s.takeCell 4 tID_CLAIM = some (r, u) →
      exec (.idClaimRx) s = .next (u.onClaim (beAt r.cell.payload 0 8) (beAt r.cell.payload 8 2 % 2048)))
  ∧ (∀ (s : State) (r : RxCell) (u : State),
      s.hkPaused = false →
      s.takeCell 4 tID_REFUSE = some (r, u) →
      beAt r.cell.payload 0 8 = u.serial →
      u.rd pgLINK RING_ID_CLAIM = 1 ∨ u.rd pgLINK RING_ID_CLAIM = 2 →
      exec (.idRefuseRx) s = .next (u.refused.dupEvent (beAt r.cell.payload 16 2 % 2048) 1 (beAt r.cell.payload 8 8)))
  ∧ (∀ (s : State) (j : RefuseJob),
      s.ring.nextRefuse = some j →
      2 ≤ j.left →
      exec (.idRefuseRepeat) s = .next (
        let t := s.passTo j.due
        let l := t.ring.refuse.erase j ++ [{ j with left := j.left - 1, due := j.due + 1000000 }]
        State.originate { t with ring := { t.ring with refuse := l } } 2 0 tID_REFUSE (refusePayload j.claimant j.holder
            j.id)))
  ∧ (∀ (s : State) (ini : Initiator) (data : Nat),
      s.takes pgLINK = true →
      ini ≠ .bridge →
      bitsOf data 12 4 = 1 →
      bitsOf data 24 8 = 0x5A →
      bitsOf data 0 11 ≠ 0 →
      s.rd pgLINK RING_ID_CLAIM = 0 ∨ s.rd pgLINK RING_ID_CLAIM = 3 →
      exec (.ringIdSet ini data) s = .next (
        let t : State := { s with ring := { s.ring with want := bitsOf data 0 11, posDone := true, fixedNow := true } }
        let t := (t.wr pgLINK RING_ID_CLAIM 0).wr pgLINK RING_ID_MODE 0
        if t.claimable then t.startClaim else t))
  ∧ (∀ (s : State),
      s.heldId = true →
      s.hkPaused = false →
      exec (.topoTx) s = .next (
        let t := s.passTo s.ring.topoDue
        State.sendTopo { t with ring := { t.ring with topoDue := t.ring.topoDue + 64000000 } }))
  ∧ (∀ (s : State),
      s.heldId = true →
      s.hkPaused = false →
      s.ring.topoEvent.isSome = true →
      exec (.topoEventTx) s = .next (State.sendTopo { s with ring := { s.ring with topoEvent := none } }))
  ∧ (∀ (s : State) (r : RxCell) (u : State),
      s.hkPaused = false →
      s.takeCell 4 tTOPO = some (r, u) →
      (beAt r.cell.payload 11 1 % 2 == 1 && u.needsPosition) = false →
      exec (.topoRx) s = .next (
        let p := r.cell.payload
        let old := u.ring.topo.find? (fun (e : TopoEnt) => e.src == r.cell.src)
        let e : TopoEnt := {
          src := r.cell.src, serial := beAt p 0 8, at_ := u.now
          slow := bitsOf (beAt p 12 1) 3 2 = 1 ∨ bitsOf (beAt p 13 1) 3 2 = 1
          east := if r.port = 0 then some (r.cell.hops, u.now) else old.bind (·.east)
          west := if r.port = 1 then some (r.cell.hops, u.now) else old.bind (·.west) }
        let t : State := { u with ring := { u.ring with
          topo := u.ring.topo.filter (fun (x : TopoEnt) => x.src != r.cell.src) ++ [e]
          topoFirst := some (u.ring.topoFirst.getD u.now) } }
        t.ringView))
  ∧ (∀ (s : State) (x : Nat),
      (s.ring.topo.flatMap (fun e => e.at_ :: [e.east,
          e.west].filterMap (fun y => y.map (·.2))) ++ s.ring.own.map (·.at_)).min? = some x →
      exec (.topoExpire) s = .next ((s.passTo (x + 192000004)).ringView))
  ∧ (∀ (s : State) (t h : Nat),
      s.ring.eastAnchor = some (t, h) →
      s.needsPosition = true →
      exec (.positionTimeout) s = .next ((s.passTo (t + 130000000)).derive (s.ring.planned - h)))
  ∧ (∀ (s : State) (j : RefuseJob),
      s.ring.nextRefuse = some j →
      j.left ≤ 1 →
      exec (.idRefuseRepeat) s = .next (
        let t := s.passTo j.due
        State.originate { t with ring := { t.ring with refuse := t.ring.refuse.erase j } } 2 0 tID_REFUSE (refusePayload
            j.claimant j.holder j.id)))
  ∧ (∀ (s : State) (r : RxCell) (u : State),
      s.hkPaused = false →
      s.takeCell 4 tTOPO = some (r, u) →
      beAt r.cell.payload 11 1 % 2 = 1 →
      u.needsPosition = true →
      r.port = 1 →
      exec (.topoRx) s = .next (
        let p := r.cell.payload
        let old := u.ring.topo.find? (fun (e : TopoEnt) => e.src == r.cell.src)
        let e : TopoEnt := {
          src := r.cell.src, serial := beAt p 0 8, at_ := u.now
          slow := bitsOf (beAt p 12 1) 3 2 = 1 ∨ bitsOf (beAt p 13 1) 3 2 = 1
          east := if r.port = 0 then some (r.cell.hops, u.now) else old.bind (·.east)
          west := if r.port = 1 then some (r.cell.hops, u.now) else old.bind (·.west) }
        let t : State := { u with ring := { u.ring with
          topo := u.ring.topo.filter (fun (x : TopoEnt) => x.src != r.cell.src) ++ [e]
          topoFirst := some (u.ring.topoFirst.getD u.now) } }
        (t.derive (r.cell.hops + 2)).ringView))
  ∧ (∀ (s : State) (r : RxCell) (u : State),
      s.hkPaused = false →
      s.takeCell 4 tTOPO = some (r, u) →
      beAt r.cell.payload 11 1 % 2 = 1 →
      u.needsPosition = true →
      r.port = 0 →
      u.ring.eastAnchor = none →
      exec (.topoRx) s = .next (
        let p := r.cell.payload
        let old := u.ring.topo.find? (fun (e : TopoEnt) => e.src == r.cell.src)
        let e : TopoEnt := {
          src := r.cell.src, serial := beAt p 0 8, at_ := u.now
          slow := bitsOf (beAt p 12 1) 3 2 = 1 ∨ bitsOf (beAt p 13 1) 3 2 = 1
          east := if r.port = 0 then some (r.cell.hops, u.now) else old.bind (·.east)
          west := if r.port = 1 then some (r.cell.hops, u.now) else old.bind (·.west) }
        let t : State := { u with ring := { u.ring with
          topo := u.ring.topo.filter (fun (x : TopoEnt) => x.src != r.cell.src) ++ [e]
          topoFirst := some (u.ring.topoFirst.getD u.now) } }
        State.ringView { t with ring := { t.ring with eastAnchor := some (u.now, r.cell.hops) } }))

/-- On a link that is UP a request with the next REQ_ID goes out when due; a request is answered; a response of the
open exchange within 1 ms is kept; a follow-up of that exchange completes the sample, and its sync record is taken
where it carries one; an exchange without a response within 1 ms counts, and the third in a row makes the delay
invalid. A sync record goes out for a copy that departed, and a copy whose record does not come within 200 us yields
no sample. Rests on R182, R183. -/
def Obligations.PeerDelayAndSyncRecordsTakeEffect : Prop :=
  (∀ (s : State) (port d : Nat),
      (s.pd port).due = some d →
      s.linkUp port = true →
      exec (.pdelayReqTx port) s = .next (
        let t := s.passTo d
        let x := t.pd port
        let id := if x.reqId = 0xFFFE ∨ x.reqId = 0xFFFF then 0 else x.reqId + 1
        State.sendLink (t.setPd port { x with reqId := id, t1 := none, t2 := none, open_ := true, sent := t.now,
                                              due := some (d + 8000000) }) port tPDELAY_REQ (beBytes 2 id ++ beBytes 2 0)))
  ∧ (∀ (s : State) (r : RxCell) (u : State),
      s.takeCell 1 tPDELAY_REQ = some (r, u) →
      exec (.pdelayReqRx) s = .next (u.sendLink r.port tPDELAY_RESP (slice r.cell.payload 0 2 ++ beBytes 10 r.ring)))
  ∧ (∀ (s : State) (r : RxCell) (u : State),
      s.takeCell 1 tPDELAY_RESP = some (r, u) →
      (u.pd r.port).open_ = true →
      beAt r.cell.payload 0 2 = (u.pd r.port).reqId →
      u.now ≤ (u.pd r.port).sent + 1000000 →
      exec (.pdelayRespRx) s = .next (u.setPd r.port
          { u.pd r.port with t2 := some (stampAt r.cell.payload 2), t4 := r.ring, missed := 0 }))
  ∧ (∀ (s : State) (r : RxCell) (u : State),
      s.takeCell 1 tPDELAY_RESP_FU = some (r, u) →
      exec (.pdelayRespFuRx) s = .next (
        let p := r.cell.payload
        let x := u.pd r.port
        let t := if beAt p 0 2 ≠ 0xFFFF ∧ x.open_ ∧ beAt p 0 2 = x.reqId then u.pdSample r.port (stampAt p 2) else u
        if beAt p 24 1 % 2 = 1 then t.syncRecord r.port (beAt p 12 4) (signed 64 (beAt p 16 8)) else t))
  ∧ (∀ (s : State) (port : Nat),
      (s.pd port).open_ = true →
      (s.pd port).t2 = none →
      (s.pd port).missed < 2 →
      exec (.pdelayTimeout port) s = .next (((s.passTo ((s.pd port).sent + 1000000)).count pgTIME (9 + port)).setPd port
          { s.pd port with open_ := false, t1 := none, t2 := none, missed := (s.pd port).missed + 1 }))
  ∧ (∀ (s : State) (port : Nat),
      (s.pd port).open_ = true →
      (s.pd port).t2 = none →
      2 ≤ (s.pd port).missed →
      exec (.pdelayTimeout port) s = .next (
        (((s.passTo ((s.pd port).sent + 1000000)).count pgTIME (9 + port)).setPd port
          { s.pd port with open_ := false, t1 := none, t2 := none, missed := (s.pd port).missed + 1, samples := [] }).wr
              pgTIME
            TIME_PDELAY_VALID 0 port))
  ∧ (∀ (s : State) (port : Nat) (o : SyncOut),
      s.time.syncOut.find? (fun x => x.port == port) = some o →
      exec (.syncRecordTx port) s = .next (
        let v := s.syncCorr o
        let t : State := { s with time := { s.time with
          syncOut := s.time.syncOut.erase o
          syncLast := s.time.syncLast.set (fun _ => (0, 0)) port (o.seq, v) } }
        t.sendLink port tPDELAY_RESP_FU (beBytes 2 0xFFFF ++ beBytes 10 0 ++ (beBytes 4 o.seq ++ beBytes 8 (unsigned 64 v)
          ++ beBytes 1 1 ++ beBytes 3 0))))
  ∧ (∀ (s : State) (port seq : Nat) (c : SyncCopy),
      s.time.copies.find? (fun x => x.port == port && x.seq == seq && x.cin.isNone && !x.failed) = some c →
      exec (.syncRecordTimeout port seq) s = .next (
        let t := (s.passTo (c.at_ + 200000)).count pgTIME 2
        { t with time := { t.time with
          copies := (t.time.copies.filter (fun x => !(x == c && c.late))).map
            (fun x => if x = c then { c with failed := true } else x) } }))

/-- A grandmaster sends TIME_SYNC at each SYNC_INT boundary; a copy from the grandmaster is kept with its arrival; a
candidate announces itself each 64 ms and chooses the grandmaster; a TIME_ANNOUNCE enters the candidate table; the
decision of a TIME_SYNC takes, of the copies with a sample, the one of lower HOPS, on a tie the West one, at once
where both are settled or none can beat it, else 2 ms after the first copy; a TRACK Governor without a sample for 4
SYNC_INT enters HOLDOVER and loses lock after HOLDOVER_MS; a silent grandmaster leaves the table. On a hub with EXT_EN
whose host bank B has its supply the first PPS edge gives its capture, the next second and, where the hub is
grandmaster or not locked, the offset, and an edge more than 1 us from its expected time counts only; a missing edge
and the end of PPS holdover are recorded; the PPS output of a locked hub rises at the next instant and falls after its
width; a capture on a page that takes commands stores ring time. A step that locks the Governor executes the overdue
launches (log entry 35 names the choices on PPS_IN). Rests on R181, R183, R185, R186, R188, R191, R193, R203, R316. -/
def Obligations.GovernorTakesEffect : Prop :=
  (∀ (s : State) (d : Nat),
      s.time.syncDue = some d →
      s.gov = 4 →
      exec (.timeSyncTx) s = .next (
        let t := s.passRing d
        let t : State := { t with time := { t.time with syncDue := some (t.nextSync d) } }
        let v := t.originate 2 0 tTIME_SYNC (beBytes 10 t.ringFine ++ beBytes 1 t.gmClass ++ beBytes 1 0)
        if v.locked && !s.locked then State.launchLock (v.launches.length + 1) v else v))
  ∧ (∀ (s : State) (r : RxCell) (u : State),
      s.takeCell 1 tTIME_SYNC = some (r, u) →
      r.cell.src = u.rd pgTIME TIME_GM_GM_ID →
      r.cell.src ≠ u.nodeId →
      exec (.timeSyncRx) s = .next (
        let t := if u.gov = 4 then State.setGov { u with time := { u.time with syncDue := none, lastApplied := u.now } } 2
            else u
        let c : SyncCopy := {
          seq := r.cell.seq, src := r.cell.src, port := r.port, arr := r.ring, at_ := r.at_, originT := stampAt r.cell.payload 0
          hops := r.cell.hops, late := t.time.decided.contains r.cell.seq }
        let v : State := { t with time := { t.time with lastSync := some t.now, copies := t.time.copies ++ [c] } }
        if v.locked && !s.locked then State.launchLock (v.launches.length + 1) v else v))
  ∧ (∀ (s : State) (x : Nat),
      s.time.ownAnn = some x →
      (s.passTo (x + 64000000)).mayAnnounce = true →
      exec (.timeAnnounceTx) s = .next (
        let t := s.passTo (x + 64000000)
        let p := beBytes 8 t.serial ++ beBytes 1 (t.rd pgTIME TIME_GM_CFG_PRIO1) ++ beBytes 1 t.gmClass
          ++ beBytes 1 (t.rd pgTIME TIME_GM_CFG_PRIO2) ++ beBytes 1 (t.rd pgTIME TIME_STAT_TOD_VALID)
          ++ beBytes 8 (unsigned 64 t.todOffset) ++ beBytes 8 t.baseT ++ beBytes 8 t.baseN ++ beBytes 4 0
        let t := t.originate 2 0 tTIME_ANNOUNCE p
        let v := State.chooseGm { t with time := { t.time with ownAnn := some t.now } }
        if v.locked && !s.locked then State.launchLock (v.launches.length + 1) v else v))
  ∧ (∀ (s : State) (r : RxCell) (u : State),
      s.takeCell 1 tTIME_ANNOUNCE = some (r, u) →
      exec (.timeAnnounceRx) s = .next (
        let p := r.cell.payload
        let c : GmCand := {
          id := r.cell.src, serial := beAt p 0 8, prio1 := beAt p 8 1, cls := beAt p 9 1, prio2 := beAt p 10 1
          todValid := beAt p 11 1 % 2 == 1, todOffset := signed 64 (beAt p 12 8), baseT := beAt p 20 8, baseN := beAt p 28 8
          at_ := u.now }
        let l := insCand c (u.time.cands.filter (fun x => x.serial != c.serial && u.hears x))
        let t := State.chooseGm { u with time := { u.time with cands := l.take 8, lastAnn := some u.now } }
        let v := if c.id = t.rd pgTIME TIME_GM_GM_ID ∧ t.locked ∧ t.gov ≠ 4 then
            (t.setTod c.todOffset).wr pgTIME TIME_STAT_TOD_VALID (b2n c.todValid)
          else t
        if v.locked && !s.locked then State.launchLock (v.launches.length + 1) v else v))
  ∧ (∀ (s : State) (a b : Nat),
      s.rd pgTIME TIME_GM_GM_ID ≠ 0 →
      s.rd pgTIME TIME_GM_GM_ID ≠ s.nodeId →
      a = (match s.time.cands.find? (fun (y : GmCand) => y.id == s.rd pgTIME TIME_GM_GM_ID) with
          | some c => c.at_ + 192000004
          | none => s.now) →
      b = (match s.time.lastSync with
          | some x => x + 8 * s.syncInt
          | none => s.now) →
      exec (.gmDrop) s = .next (
        let t := s.passTo (max a b)
        let v := State.chooseGm { t with time := { t.time with
          cands := t.time.cands.filter (fun y => y.id != s.rd pgTIME TIME_GM_GM_ID) } }
        if v.locked && !s.locked then State.launchLock (v.launches.length + 1) v else v))
  ∧ (∀ (s : State),
      s.gov = 2 →
      exec (.holdoverEntry) s = .next ((s.passTo (s.time.lastApplied + 4 * s.syncInt)).setGov 3))
  ∧ (∀ (s : State),
      s.gov = 3 →
      exec (.holdoverExpiry) s = .next (
        let v := (s.passTo (s.time.lastApplied + s.rd pgTIME TIME_LOCK_HOLDOVER_MS * 10000000)).loseLock
        if v.locked && !s.locked then State.launchLock (v.launches.length + 1) v else v))
  ∧ (∀ (s : State) (seq : Nat) (c : SyncCopy) (l : List SyncCopy),
      s.gov ≠ 4 →
      s.time.copies.filter (fun x => x.seq == seq && !x.late) = c :: l →
      exec (.syncDecision seq) s = .next (
        let cs := c :: l
        let done (x : SyncCopy) := (s.sampleOf x).isSome || x.failed || (x.cin.isSome && (s.dRx x.port).isNone)
        let ready := (decide (2 ≤ cs.length) && cs.all done) || cs.any (fun x => (s.sampleOf x).isSome && s.cannotBeat x)
        let t := if ready then s else s.passTo (cs.foldl (fun a x => min a x.at_) c.at_ + 2000000)
        let t := t.count pgTIME 2 (cs.filter (fun x => x.cin.isSome && (t.dRx x.port).isNone && !x.failed)).length
        let pick := cs.foldl (fun (a : Option SyncCopy) x =>
          if (t.sampleOf x).isNone then a
          else match a with
            | none => some x
            | some y => if x.hops < y.hops ∨ (x.hops = y.hops ∧ x.port = 1) then some x else a) none
        let t : State := { t with time := { t.time with
          copies := (t.time.copies.filter (fun x => x.seq != seq || x.late || (x.cin.isNone && !x.failed))).map
            (fun x => if x.seq = seq then { x with late := true } else x)
          decided := (seq :: t.time.decided).take 8 } }
        let v := match pick with
          | none => t
          | some x => match t.sampleOf x with
            | some th => t.sample th x.port x.hops
            | none => t
        if v.locked && !s.locked then State.launchLock (v.launches.length + 1) v else v))
  ∧ (∀ (s : State),
      s.on pgTIME TIME_GM_CFG_EXT_EN = true →
      s.dark 35 = false →
      s.time.ppsFirst = true →
      exec (.ppsInEdge) s = .next (
        let cap := s.ringNow
        let next := s.rd64 pgTIME TIME_TOD_NEXT_LO_W TIME_TOD_NEXT_HI_W
        let off : Int := (next : Int) * 10 ^ 9 - cap
        let t := s.wr64 pgTIME TIME_PPS_CAP_LO_W TIME_PPS_CAP_HI_W cap
        let t := t.wr64 pgTIME TIME_TOD_NEXT_LO_W TIME_TOD_NEXT_HI_W ((next + 1) % 2 ^ 64)
        let t : State := { t with time := { t.time with ppsFirst := false, ppsLast := some t.now, ppsMissed := false,
                                                        ppsHold := false, ppsHeld := off } }
        let t := if t.gov = 4 ∨ !t.locked then (t.setTod off).wr pgTIME TIME_STAT_TOD_VALID 1 else t
        let v := t.irq pgTIME 5
        if v.locked && !s.locked then State.launchLock (v.launches.length + 1) v else v))
  ∧ (∀ (s : State) (t : Nat),
      s.time.ppsLast = some t →
      s.on pgTIME TIME_GM_CFG_EXT_EN = true →
      s.time.ppsMissed = false →
      exec (.ppsMiss) s = .next (
        let u := s.passTo (t + 1100000000)
        State.irq { u with time := { u.time with ppsMissed := true } } pgTIME 6))
  ∧ (∀ (s : State) (t : Nat),
      s.time.ppsLast = some t →
      s.on pgTIME TIME_GM_CFG_EXT_EN = true →
      exec (.ppsHoldover) s = .next (
        let u := s.passTo (t + 2000000000)
        { u with time := { u.time with ppsHold := true } }))
  ∧ (∀ (s : State),
      s.locked = true →
      s.rd pgTIME TIME_PPS_OUT_MODE = 1 ∨ s.rd pgTIME TIME_PPS_OUT_MODE = 2 →
      s.time.ppsOut = false →
      exec (.ppsOutRise) s = .next (
        let u := s.passRing s.ppsNext
        let w := max 1 (u.rd pgTIME TIME_PPS_OUT_WIDTH) * 1000
        let w := if s.rd pgTIME TIME_PPS_OUT_MODE = 2 then min w (u.ppsLen / 2) else w
        { u with time := { u.time with ppsOut := true, ppsFall := some (u.ringNow + w) } }))
  ∧ (∀ (s : State) (t : Nat),
      s.time.ppsFall = some t →
      exec (.ppsOutFall) s = .next (
        let u := s.passRing t
        { u with time := { u.time with ppsOut := false, ppsFall := none } }))
  ∧ (∀ (s : State),
      s.takes pgTIME = true →
      exec (.timeCapture) s = .next (s.wr64 pgTIME TIME_CAP_LO_W TIME_CAP_HI_W s.ringNow))
  ∧ (∀ (s : State),
      s.time.ownAnn = none →
      s.mayAnnounce = true →
      exec (.timeAnnounceTx) s = .next (
        let p := beBytes 8 s.serial ++ beBytes 1 (s.rd pgTIME TIME_GM_CFG_PRIO1) ++ beBytes 1 s.gmClass
          ++ beBytes 1 (s.rd pgTIME TIME_GM_CFG_PRIO2) ++ beBytes 1 (s.rd pgTIME TIME_STAT_TOD_VALID)
          ++ beBytes 8 (unsigned 64 s.todOffset) ++ beBytes 8 s.baseT ++ beBytes 8 s.baseN ++ beBytes 4 0
        let t := s.originate 2 0 tTIME_ANNOUNCE p
        let v := State.chooseGm { t with time := { t.time with ownAnn := some t.now } }
        if v.locked && !s.locked then State.launchLock (v.launches.length + 1) v else v))
  ∧ (∀ (s : State) (err : Int),
      s.on pgTIME TIME_GM_CFG_EXT_EN = true →
      s.dark 35 = false →
      s.time.ppsFirst = false →
      err = s.time.ppsHeld - ((s.rd64 pgTIME TIME_TOD_NEXT_LO_W TIME_TOD_NEXT_HI_W : Int) * 10 ^ 9 - s.ringNow) →
      1000 < err ∨ err < -1000 →
      exec (.ppsInEdge) s = .next (
        let v := s.count pgTIME 11
        if v.locked && !s.locked then State.launchLock (v.launches.length + 1) v else v))

/-- On a locked hub an epoch starts at its start instant, with a commit instant that falls at or before it first; an
owner publishes the next CHANGE cell of the epoch in progress, and its seal once the last one is admitted; CHANGE,
SEAL and REFRESH cells are held for their shard; a shard is verified; the commit instant of the epoch runs, late
commits follow. Rests on R215, R217, R218, R219, R220, R222, R224, R226. -/
def Obligations.EpochsAndPublishingTakeEffect : Prop :=
  (∀ (s : State),
      s.locked = true →
      exec (.epochStart) s = .next (
        let t := if s.tC s.nextTc ≤ s.nextStart.2 then s.commitInstant [] else s
        if t.locked then t.epochBegin else t))
  ∧ (∀ (s : State) (x : OwnEpoch),
      s.ownNow = some x →
      s.mayPublish = true →
      exec (.changePublish) s = .next (s.publish x))
  ∧ (∀ (s : State) (x : OwnEpoch),
      s.ownNow = some x →
      s.mayPublish = true →
      x.sent = changeCells x.entries.length →
      exec (.sealTx) s = .next ((s.passRing (s.tS x.epoch + s.rd pgIMG IMG_EPOCH_SEAL_AT * s.epochLen / 8)).sealEpoch x))
  ∧ (∀ (s : State) (r : RxCell) (u : State),
      s.takeCell 0 tCHANGE = some (r, u) →
      (u.count pgIMG 4).epoch ≠ ones64 →
      exec (.changeRx) s = .next ((u.count pgIMG 4).holdChange r.cell.payload r.cell.src))
  ∧ (∀ (s : State) (r : RxCell) (u : State),
      s.takeCell 0 tSEAL = some (r, u) →
      (u.count pgIMG 3).epoch ≠ ones64 →
      ((u.count pgIMG 3).holdSeal r.cell.payload r.cell.src (some r.ring)).isRunner = false →
      exec (.sealRx) s = .next ((u.count pgIMG 3).holdSeal r.cell.payload r.cell.src (some r.ring)))
  ∧ (∀ (s : State) (r : RxCell) (u : State) (tab : SMap Nat),
      s.takeCell 0 tREFRESH = some (r, u) →
      (u.count pgIMG 5).epoch ≠ ones64 →
      (u.count pgIMG 5).tableAt ((u.count pgIMG 5).epochFrom (beAt r.cell.payload 0 4)) = some tab →
      refreshValid (shardPoints tab (beAt r.cell.payload 4 2 % 2048)) r.cell.payload = true →
      (u.count pgIMG 5).lowTenure (beAt r.cell.payload 4 2 % 2048) (beAt r.cell.payload 6 1) = false →
      ((u.count pgIMG 5).shard (beAt r.cell.payload 4 2 % 2048)).pend = true →
      ((u.count pgIMG 5).shard (beAt r.cell.payload 4 2 % 2048)).states = [] →
      exec (.refreshRx) s = .next (
        let t := u.count pgIMG 5
        let o := beAt r.cell.payload 4 2 % 2048
        let x : HeldRefresh := { owner := o, epoch := t.epochFrom (beAt r.cell.payload 0 4), tenure := beAt r.cell.payload 6 1
                                 slice := beAt r.cell.payload 7 1, values := refreshValues r.cell.payload }
        { t with img := { t.img with
          refreshes := t.img.refreshes.filter (fun (y : HeldRefresh) => !(y.owner == o && y.slice == x.slice)) ++ [x] } }))
  ∧ (∀ (s : State) (owner epoch : Nat),
      exec (.shardVerify owner epoch) s = .next (s.tryVerify owner epoch))
  ∧ (∀ (s : State) (upset : List Nat),
      s.locked = true →
      exec (.commitInstant upset) s = .next ((State.beginBefore 5 s (s.tC s.nextTc)).commitInstant upset))
  ∧ (∀ (s : State),
      s.locked = true →
      exec (.lateCommit) s = .next ((State.commitRun s.img.passed.length s none).lagSync))

/-- A repair request without an answer is sent again, after 3 tries for the whole shard; a valid request is queued,
one that is malformed is counted, one beyond the 16 is answered BUSY. The oldest request queued is served: one for an
epoch or a shard from the replay copies, or from the last sealed epoch, where this hub publishes the shard, and one
for a proxy from the visible values, where this hub is full and may answer; every other is answered BUSY. A response
that matches a request sent delays it (BUSY), is held as a CHANGE, a SEAL or a REFRESH, or completes the shard; one
that matches none changes nothing more. A hub still collecting asks the neighbour for a shard. Rests on R230, R232,
R233, R234, R237. -/
def Obligations.RepairTakesEffect : Prop :=
  (∀ (s : State) (tag : Nat) (r : RepairReq),
      s.img.repairs.find? (fun x => x.tag == tag && x.sent) = some r →
      exec (.repairReqRetry tag) s = .next (
        let t := s.passTo (r.at_ + (if r.busy then 1 else 2) * s.epochLen)
        let r' : RepairReq := { r with at_ := t.now, busy := false, tries := r.tries + 1, refs := []
                                       kind := if r.kind = 0 ∧ 3 ≤ r.tries then 1 else r.kind }
        State.sendRepair { t with img := { t.img with repairs := t.img.repairs.map (fun x => if x = r then r' else x) } } r'))
  ∧ (∀ (s : State) (r : RxCell) (u : State),
      s.takeCell 0 tREPAIR_REQ = some (r, u) →
      exec (.repairReqRx) s = .next (
        let p := r.cell.payload
        let c := beAt p 8 2
        let kind := bitsOf c 12 2
        let bad := kind == 3 || bitAt c 11 || bitsOf c 14 2 != 0 || decide (128 ≤ beAt p 10 1
            ∨ 128 ≤ beAt p 11 1) || beAt p 13 3 != 0
        if bad then u.count pgIMG 13
        else if 16 ≤ u.img.serve.length then u.repairBusy r.cell.src (beAt p 12 1)
        else
          let j : ServeJob := { src := r.cell.src, tag := beAt p 12 1, owner := c % 2048, epoch := beAt p 0 8, kind := kind
                                first := beAt p 10 1, last := beAt p 11 1 }
          State.repairSync { u with img := { u.img with serve := u.img.serve ++ [j] } }))
  ∧ (∀ (s : State) (j : ServeJob) (l : List ServeJob) (t : State),
      s.img.serve = j :: l →
      j.kind = 0 ∨ j.kind = 1 →
      t = State.repairSync { s with img := { s.img with serve := l } } →
      exec (.repairServe) s = .next (
        let last := (t.img.own.filter (fun x => x.sealed && x.owner == j.owner)).foldl (fun (a : Option OwnEpoch) x => match
            a with
          | some y => if y.epoch < x.epoch then some x else a
          | none => some x) none
        match last with
        | some o =>
          if j.owner ≠ t.pubId ∨ t.pubId = 0 then t.repairBusy j.src j.tag
          else
            let u := t.count pgIMG 9
            let kept := u.sw.replay.filter (fun e => e.epoch == j.epoch)
            match kept.find? (fun e => e.cell.typ == tSEAL), decide (j.kind = 0 ∧ !u.sw.replayBroken.contains j.epoch) with
            | some sl, true =>
              ((kept.filter (fun e => e.cell.typ == tCHANGE
                  && decide (j.first ≤ beAt e.cell.payload 7 1 % 128 ∧ beAt e.cell.payload 7 1 % 128 ≤ j.last))).foldl
                (fun (v : State) e => v.repairData j.src j.tag 0 tCHANGE e.cell.payload) u).repairData j.src j.tag 0 tSEAL
                    sl.cell.payload
            | _, _ => u.serveShard j o
        | none => t.repairBusy j.src j.tag))
  ∧ (∀ (s : State) (c : RxCell) (u : State) (r : RepairReq),
      s.takeCell 0 tREPAIR_DATA = some (c, u) →
      u.img.repairs.find? (fun x => x.tag == beAt c.cell.payload 1 1 && x.sent) = some r →
      exec (.repairDataRx) s = .next (
        let p := c.cell.payload
        let inner := beAt p 0 1 % 64
        let st := beAt p 0 1 / 64
        let q := p.drop 2
        if st = 1 then
          { u with img := { u.img with repairs := u.img.repairs.map (fun x => if x = r then { x with busy := true, at_ := u.now } else x) } }
        else if st = 0 then
          if inner = tCHANGE then u.holdChange q c.cell.src
          else if inner = tSEAL then (u.holdSeal q c.cell.src none).dropRepairs (fun x => x.tag == r.tag)
          else u
        else if inner = tREFRESH then
          let n := u.epochFrom (beAt q 0 4)
          match u.tableAt n with
          | none => u.lostGen
          | some t =>
            if !refreshValid (shardPoints t r.owner) q then u.count pgIMG 13
            else
              let x : HeldRefresh := { owner := r.owner, epoch := n, tenure := beAt q 6 1, slice := beAt q 7 1, values := refreshValues q }
              { u with img := { u.img with repairs := u.img.repairs.map (fun y => if y = r then { y with refs := y.refs ++ [x] } else y) } }
        else if inner = tSEAL then u.resync r q (st == 3)
        else u))
  ∧ (∀ (s : State) (owner : Nat),
      s.on pgIMG IMG_STAT_COLLECTING = true →
      (s.shard owner).pend = true →
      (s.shard owner).states = [] →
      (tableOwners s.img.cur).contains owner = true →
      s.epoch ≠ ones64 →
      max s.img.colEpoch (((s.shard owner).heard.map (· + 1)).getD 0) + s.settle_ + 1 ≤ s.epoch →
      s.rd (if s.linkUp 0 then pgLINK else pgLINK + 1) LINK_STAT_NEIGH_ID ≠ 0 →
      exec (.proxyShardRequest owner) s = .next (s.askRepair owner s.epoch 2 0 0 (s.rd (if s.linkUp 0 then pgLINK else pgLINK
          + 1) LINK_STAT_NEIGH_ID)))
  ∧ (∀ (s : State) (c : RxCell) (u : State),
      s.takeCell 0 tREPAIR_DATA = some (c, u) →
      u.img.repairs.find? (fun x => x.tag == beAt c.cell.payload 1 1 && x.sent) = none →
      exec (.repairDataRx) s = .next (u))
  ∧ (∀ (s : State) (j : ServeJob) (l : List ServeJob) (t : State),
      s.img.serve = j :: l →
      j.kind ≠ 0 →
      j.kind ≠ 1 →
      t = State.repairSync { s with img := { s.img with serve := l } } →
      exec (.repairServe) s = .next (
        let rec_ := t.img.recs.get (fun _ => {}) j.owner
        let pts := shardPoints ((rec_.last.bind t.tableAt).getD t.img.cur) j.owner
        match rec_.last, t.on pgIMG IMG_STAT_FULL && t.on pgIMG IMG_CTRL_PROXY_EN && !pts.isEmpty with
        | some e, true =>
          let u := (t.count pgIMG 9).count pgIMG 17
          let vals := pts.map (fun q => valAt u.visVals q.1)
          let u := (refreshPayloads e j.owner rec_.tenure vals).foldl (fun (v : State) p => v.repairData j.src j.tag 3
              tREFRESH p) u
          u.repairData j.src j.tag 3 tSEAL (sealPayload e j.owner rec_.tenure true 0 0 u.sealCodes rec_.digest)
        | _, _ => t.repairBusy j.src j.tag))

/-- On a PMAP page that takes commands COPY takes the current table into staging, VALIDATE starts the check and its
end reports, ARM arms a valid table for an epoch at least 2 ahead and SETTLE + 1 past the last advance, DISARM returns
to VALID, ADOPT makes staging current on a hub in JOIN, SERVICE or QUIET that is not FULL or lags; in another state
each is refused with its ERROR. A staging write on an open page acts on the staged entry, and a bank that has caught
up takes the contents of the bank it follows. Rests on R241, R244, R252, R253, R254, R260. -/
def Obligations.PointMapCommandsTakeEffect : Prop :=
  (∀ (s : State),
      s.on pgIMG IMG_BANK_SHADOW_CATCHUP = true →
      exec (.bankCatchupDone) s = .next (((s.bankFollow (s.rd pgIMG IMG_BANK_SHADOW) (s.rd pgIMG IMG_BANK_VISIBLE)).wr pgIMG
          IMG_BANK_SHADOW_CATCHUP 0).shadowFill))
  ∧ (∀ (s : State),
      s.takes pgPMAP = true →
      s.pmapState ≠ 2 →
      exec (.pmapCopy) s = .next (
        let t : State := { s with img := { s.img with stg := s.img.cur } }
        (t.setMcastStage (t.rd64 pgSWC SWC_MCAST_CUR_LO_MEMBER SWC_MCAST_CUR_HI_MEMBER)).wr pgPMAP PMAP_STAT_STATE 0))
  ∧ (∀ (s : State),
      s.takes pgPMAP = true →
      s.pmapState ≠ 2 →
      exec (.pmapValidate) s = .next ({ s with img := { s.img with pmapBusy := true } }))
  ∧ (∀ (s : State),
      s.img.pmapBusy = true →
      s.pmapState ≠ 2 →
      tableError s.img.stg = none →
      exec (.pmapValidateDone) s = .next (
        let t : State := { s with img := { s.img with pmapBusy := false } }
        ((t.wr pgPMAP PMAP_STAT_STATE 1).wr pgPMAP PMAP_STAT_ERROR 0).irq pgPMAP 2))
  ∧ (∀ (s : State) (e o k : Nat),
      s.img.pmapBusy = true →
      s.pmapState ≠ 2 →
      tableError s.img.stg = some (e, o, k) →
      exec (.pmapValidateDone) s = .next (
        let t : State := { s with img := { s.img with pmapBusy := false } }
        let t := (t.wr pgPMAP PMAP_STAT_STATE 3).wr pgPMAP PMAP_STAT_ERROR e
        (((t.wr pgPMAP PMAP_STAT_ERR_OWNER o).wr pgPMAP PMAP_STAT_ERR_SEG k).count pgPMAP 1).irq pgPMAP 2))
  ∧ (∀ (s : State),
      s.takes pgPMAP = true →
      s.pmapState = 1 →
      s.epoch ≠ ones64 →
      s.epoch + 2 ≤ s.pmapAt →
      s.img.lastAdv.any (fun a => decide (s.pmapAt < a + s.settle_ + 1)) = false →
      exec (.pmapArm) s = .next (s.wr pgPMAP PMAP_STAT_STATE 2))
  ∧ (∀ (s : State),
      s.takes pgPMAP = true →
      s.pmapState = 2 →
      exec (.pmapDisarm) s = .next (s.wr pgPMAP PMAP_STAT_STATE 1))
  ∧ (∀ (s : State) (gen : Nat),
      s.takes pgPMAP = true →
      nsJOIN ≤ s.node →
      s.node ≤ nsQUIET →
      s.on pgIMG IMG_STAT_FULL = false ∨ s.on pgIMG IMG_STAT_LAG = true →
      exec (.pmapAdopt gen) s = .next (
        let t : State := { s with img := { s.img with
          cur := s.img.stg.keep (fun k => decide (8 ≤ k)), prev := [], advAt := 0, heldFrom := 0 } }
        let t := (t.wr pgSWC SWC_MAPGEN_CURRENT gen).wr pgSWC SWC_MAPGEN_PREV_VALID 0
        let t := t.wr64 pgSWC SWC_MCAST_PREV_LO_MEMBER SWC_MCAST_PREV_HI_MEMBER 0
        let t := t.wr64 pgSWC SWC_MCAST_CUR_LO_MEMBER SWC_MCAST_CUR_HI_MEMBER
          (t.rd64 pgPMAP PMAP_MCAST_LO_MEMBER PMAP_MCAST_HI_MEMBER)
        (t.wr pgPMAP PMAP_STAT_NEXT_GEN ((gen + 1) % 256)).collect true))
  ∧ (∀ (s : State) (which value : Nat),
      s.openTo pgPMAP = true →
      exec (.pmapStageWrite which value) s = .next (s.pmapStageWrite which value))
  ∧ (∀ (s : State),
      s.on pgIMG IMG_BANK_SHADOW_CATCHUP = false →
      s.rd pgIMG IMG_BANK_THIRD_ROLE = 1 →
      exec (.bankCatchupDone) s = .next ((s.bankFollow (s.rd pgIMG IMG_BANK_THIRD) (s.rd pgIMG IMG_BANK_SHADOW)).wr pgIMG
          IMG_BANK_THIRD_ROLE 0))
  ∧ (∀ (s : State),
      s.takes pgPMAP = true →
      s.pmapState = 2 →
      exec (.pmapCopy) s = .next (s.pmapRefuse 7))
  ∧ (∀ (s : State),
      s.takes pgPMAP = true →
      s.pmapState = 2 →
      exec (.pmapValidate) s = .next (s.pmapRefuse 7))
  ∧ (∀ (s : State),
      s.img.pmapBusy = true →
      s.pmapState = 2 →
      exec (.pmapValidateDone) s = .next (State.irq { s with img := { s.img with pmapBusy := false } } pgPMAP 2))
  ∧ (∀ (s : State),
      s.takes pgPMAP = true →
      s.pmapState ≠ 1 →
      exec (.pmapArm) s = .next (s.pmapRefuse 7))
  ∧ (∀ (s : State),
      s.takes pgPMAP = true →
      s.pmapState = 1 →
      s.epoch = ones64 ∨ s.pmapAt < s.epoch + 2 ∨ s.img.lastAdv.any (fun a => decide (s.pmapAt < a + s.settle_ + 1)) = true →
      exec (.pmapArm) s = .next (s.pmapRefuse 6))
  ∧ (∀ (s : State),
      s.takes pgPMAP = true →
      s.pmapState ≠ 2 →
      exec (.pmapDisarm) s = .next (s.pmapRefuse 7))
  ∧ (∀ (s : State) (gen : Nat),
      s.takes pgPMAP = true →
      s.node < nsJOIN ∨ nsQUIET < s.node ∨ (s.on pgIMG IMG_STAT_FULL = true ∧ s.on pgIMG IMG_STAT_LAG = false) →
      exec (.pmapAdopt gen) s = .next (s.pmapRefuse 7))

/-- On an IMG page that takes commands MARGIN_CLEAR clears the margins; PIN without a pin held, after a commit that is
due, grants the visible bank for the lease, and with one held is refused; RENEW and UNPIN with the tag of the pin, and
the end of the lease, act on it. A demand of a port that the hub serves answers with its status, and an error of the
PCIe port is recorded. Binding validation runs and reports, and CLEAR_SHADOW clears the shadow while no apply waits. A
due image copy of a mover configured for it begins with its header, one of another mover is skipped with an error, and
a copy ends with its headers, and with its interrupt where it was not stopped. Rests on R248, R263, R264, R272, R273,
R279, R280, R290. -/
def Obligations.PinsDemandsAndBindingsTakeEffect : Prop :=
  (∀ (s : State),
      s.takes pgIMG = true →
      exec (.marginClear) s = .next ((((s.wr pgIMG IMG_SETTLE_MARGIN_MIN1 0x7FFF).wr pgIMG IMG_SETTLE_MARGIN_MIN2 0x7FFF).wr
          pgIMG IMG_MARGIN_WORST_OWNER 0).wr pgIMG IMG_MARGIN_WORST_EPOCH 0))
  ∧ (∀ (s : State) (tag : Nat),
      s.takes pgIMG = true →
      s.pinHeld = false →
      exec (.pin tag) s = .next (
        let t := if s.locked && decide (s.tC s.nextTc ≤ s.ringNow) then (State.beginBefore 5 s (s.tC s.nextTc)).commitInstant
            [] else s
        let t := (t.wr pgIMG IMG_PIN_STAT_STATE 1).wr pgIMG IMG_PIN_STAT_TAG tag
        let t := t.wr64 pgIMG IMG_PIN_EPOCH_LO_EPOCH IMG_PIN_EPOCH_HI_EPOCH t.commitEpoch
        State.count { t with img := { t.img with pinUntil := t.now + t.lease, pinFresh := true } } pgIMG 21))
  ∧ (∀ (s : State) (tag : Nat),
      s.takes pgIMG = true →
      s.pinHeld = true →
      s.rd pgIMG IMG_PIN_STAT_TAG = tag % 256 →
      exec (.renew tag) s = .next ({ s with img := { s.img with pinUntil := s.now + s.lease } }))
  ∧ (∀ (s : State) (tag : Nat),
      s.takes pgIMG = true →
      s.pinHeld = true →
      s.rd pgIMG IMG_PIN_STAT_TAG = tag % 256 →
      exec (.unpin tag) s = .next (s.unpin))
  ∧ (∀ (s : State),
      s.pinHeld = true →
      exec (.pinLeaseExpiry) s = .next (((s.passTo s.img.pinUntil).unpin.irq pgIMG 11).count pgIMG 22))
  ∧ (∀ (s : State) (ini : Initiator) (index value : Nat) (x : State × Nat),
      s.iniServes ini = true →
      s.noAuth ini true demandAddr 8 = false →
      s.takes pgIMG = true →
      x = s.demandLocal ini.num (s.tagOf ini) (index % 2 ^ 17) (value % 2 ^ 32) s.ringNow →
      exec (.demandWrite ini index value) s = .next ((if ini == .pcie && x.2 != stOK then x.1.pcieErr demandAddr x.2 false
          true else x.1).rsp ini x.2 []))
  ∧ (∀ (s : State),
      s.takes pgBIND = true →
      exec (.bindValidate) s = .next ({ s with img := { s.img with bindBusy := true } }))
  ∧ (∀ (s : State),
      s.img.bindBusy = true →
      exec (.bindValidateDone) s = .next (
        let t : State := { s with img := { s.img with bindBusy := false } }
        ((t.bindResult (t.bindCheck t.img.bindSh).2).irq pgBIND 4).count pgBIND 2))
  ∧ (∀ (s : State),
      s.takes pgBIND = true →
      (s.pageSt pgBIND).applyPend = false →
      (s.pageSt pgBIND).armed = false →
      exec (.clearShadow) s = .next ({ s with img := { s.img with bindSh := [] } }))
  ∧ (∀ (s : State) (ch : Nat),
      (s.copyCh ch).due = true →
      s.rd pgMOV MOVn_CFG_SRC_KIND (s.copyCh ch).mover = 5 →
      s.rd pgMOV MOVn_CFG_DST_KIND (s.copyCh ch).mover = 0 →
      s.pcieMaster = true →
      exec (.imageCopyStart ch) s = .next (
        let c := { s.copyCh ch with due := false, busy := true, seq := ((s.copyCh ch).seq + 1) % 2 ^ 32 }
        let t := (s.setCopy ch c).setMover c.mover { s.moverSt c.mover with pos := 0 }
        let t := t.wr pgIMG IMG_COPY_STAT_BUSY (setBits (t.rd pgIMG IMG_COPY_STAT_BUSY) ch 1 1)
        t.emit (.pcieWrite (t.copyAt c 0) (copyHeader c true false))))
  ∧ (∀ (s : State) (ch : Nat),
      (s.copyCh ch).busy = true →
      (s.copyCh ch).stop = false →
      (s.copyCh ch).words.length ≤ (s.moverSt (s.copyCh ch).mover).pos →
      s.pcieMaster = true →
      exec (.imageCopyDone ch) s = .next (
        let c := s.copyCh ch
        let t := s.emit (.pcieWrite (s.copyAt c (16 + 4 * c.words.length)) (copyHeader c false false))
        let t := ((t.emit (.pcieWrite (t.copyAt c 0) (copyHeader c false false))).copyEnd ch).irq pgIMG 14
        ((t.count pgIMG 23).count pgMOV 3).movFlag MOV_DONE_LO_DONE MOV_DONE_HI_DONE c.mover 2))
  ∧ (∀ (s : State) (tag : Nat),
      s.takes pgIMG = true →
      s.pinHeld = true →
      exec (.pin tag) s = .next (s.irq pgIMG 12))
  ∧ (∀ (s : State) (ch : Nat),
      (s.copyCh ch).due = true →
      s.rd pgMOV MOVn_CFG_SRC_KIND (s.copyCh ch).mover ≠ 5 ∨ s.rd pgMOV MOVn_CFG_DST_KIND (s.copyCh ch).mover ≠ 0 →
      exec (.imageCopyStart ch) s = .next ((s.copySkip ch).movError (s.copyCh ch).mover 3))
  ∧ (∀ (s : State) (ch : Nat),
      (s.copyCh ch).busy = true →
      (s.copyCh ch).stop = true →
      s.pcieMaster = true →
      exec (.imageCopyDone ch) s = .next (
        let c := s.copyCh ch
        let t := s.emit (.pcieWrite (s.copyAt c (16 + 4 * c.words.length)) (copyHeader c false true))
        (t.emit (.pcieWrite (t.copyAt c 0) (copyHeader c false true))).copyEnd ch))

/-- On an axis of the source named, a quadrature transition of one channel moves the position by one step, with the
sign of R293, and one of both channels is an error; an SSI axis starts its read at the next period of ring time; the
end of a read that is good gives the axis its sample; a preset waits 1 us; windows are evaluated; a reference whose
extrapolation ends is checked again. Rests on R293, R294, R299, R307, R320, R358. -/
def Obligations.AxesTakeEffect : Prop :=
  (∀ (s : State) (axis : Nat) (a b : Bool),
      s.enabled pgAXIS = true →
      axis < 16 →
      s.axisSrc axis = 1 →
      (s.node == nsQUIET) = false →
      a = s.rawLevel (s.rd pgAXIS AXISn_CFG_SRC_A axis) →
      b = s.rawLevel (s.rd pgAXIS AXISn_CFG_SRC_B axis) →
      (s.axisSt axis).a ≠ a →
      (s.axisSt axis).b = b →
      exec (.axisQuadCount axis) s = .next (
        let t := s.axisLoad axis
        t.axisSet axis t.ringNow (if (a != b) != t.on pgAXIS AXISn_CFG_DIR axis then t.rd pgAXIS AXISn_POS_POS axis + 256
          else t.rd pgAXIS AXISn_POS_POS axis + 2 ^ 32 - 256)))
  ∧ (∀ (s : State) (axis : Nat) (a b : Bool),
      s.enabled pgAXIS = true →
      axis < 16 →
      s.axisSrc axis = 1 →
      (s.node == nsQUIET) = false →
      a = s.rawLevel (s.rd pgAXIS AXISn_CFG_SRC_A axis) →
      b = s.rawLevel (s.rd pgAXIS AXISn_CFG_SRC_B axis) →
      (s.axisSt axis).a ≠ a →
      (s.axisSt axis).b ≠ b →
      exec (.axisQuadCount axis) s = .next ((((s.setAxis axis { s.axisSt axis with a := a, b := b }).wr pgAXIS
          AXISn_STAT_QERR 1 axis).irq pgAXIS 3).count pgAXIS axis))
  ∧ (∀ (s : State) (axis : Nat),
      s.enabled pgAXIS = true →
      axis < 16 →
      s.axisSrc axis = 2 →
      exec (.axisSsiStart axis) s = .next (
        let per := 1000 * max 10 (s.rd pgAXIS AXISn_TIMING_SSI_PERIOD axis)
        let t := s.passRing ((s.ringNow + per - 1) / per * per)
        t.ssiStart (t.rd pgAXIS AXISn_CFG_SRC_A axis % 64) (some axis)))
  ∧ (∀ (s : State) (lane value a x : Nat),
      (s.laneSt lane).ssi = some (some a, x) →
      s.laneDark lane = false →
      s.lanePar lane = false →
      s.laneRd lane LANE_FMT_ZERO_CHK = 0 →
      s.laneRd lane LANE_MODE_RX_EN ≠ 1 →
      exec (.ssiReadDone lane true value false false) s = .next (
        let t := s.passRing (x + s.laneBitsNs lane (s.laneBits lane))
        let t := t.setLane lane { t.laneSt lane with ssi := none, monoEnd := t.now + 1000 * max 1 (t.laneRd lane LANE_TIMING_MONO) }
        (t.axisSsi a x (some (value % 2 ^ s.laneBits lane))).laneLater lane))
  ∧ (∀ (s : State) (axis : Nat),
      s.takes pgAXIS = true →
      axis < 16 →
      exec (.axisPreset axis) s = .next ((s.setAxis axis
          { s.axisSt axis with preset := some (s.rd pgAXIS AXIS_PRESET_VALUE, s.ringNow + 1000) }).wr pgAXIS
          AXISn_STAT_PRESET_PEND 1 axis))
  ∧ (∀ (s : State),
      exec (.windowEvaluate) s = .next (s.winEvalAll none))
  ∧ (∀ (s : State) (ref t2 y : Nat) (x : Nat × Nat),
      s.refLine ref = some (x, (t2, y)) →
      (s.refSt ref).valid = true →
      exec (.extrapMaxExpiry ref) s = .next ((s.passRing (t2 + s.extrapMax + 1)).refSync ref))
  ∧ (∀ (s : State) (axis : Nat) (a b : Bool),
      s.enabled pgAXIS = true →
      axis < 16 →
      s.axisSrc axis = 1 →
      (s.node == nsQUIET) = false →
      a = s.rawLevel (s.rd pgAXIS AXISn_CFG_SRC_A axis) →
      b = s.rawLevel (s.rd pgAXIS AXISn_CFG_SRC_B axis) →
      (s.axisSt axis).a = a →
      (s.axisSt axis).b ≠ b →
      exec (.axisQuadCount axis) s = .next (
        let t := s.axisLoad axis
        t.axisSet axis t.ringNow (if (a == b) != t.on pgAXIS AXISn_CFG_DIR axis then t.rd pgAXIS AXISn_POS_POS axis + 256
          else t.rd pgAXIS AXISn_POS_POS axis + 2 ^ 32 - 256)))

/-- On a tracking page that takes commands, TRK_READ copies the window selected by the initiator into its data
registers; TRK_WRITE stores a window that passes its checks in LISTEN or IDLE and records it, and one that does not is
counted and gives its result; TRK_DISARM returns a window that is not IDLE to IDLE; and ARM_SOFT arms a window in
LISTEN now, and in another state gives result 4. Each writes its result for the initiator. Rests on R301, R304, R323,
R324. -/
def Obligations.TrackingCommandsTakeEffect : Prop :=
  (∀ (s : State) (ini : Initiator),
      s.takes pgTRK = true →
      exec (.trkRead ini) s = .next (((List.range 8).foldl (fun (t : State) k => t.wr pgTRK TRK_WINn_DATA ((s.winAt (s.trkSel
          ini)).words.getD k 0) k ini.num) s).trkRes ini 0))
  ∧ (∀ (s : State) (ini : Initiator) (x : Win),
      s.takes pgTRK = true →
      x = {
            ctl := s.rd pgTRK TRK_WINn_DATA 0 ini.num, arm := s.rd pgTRK TRK_WINn_DATA 1 ini.num,
            hit := s.rd pgTRK TRK_WINn_DATA 2 ini.num, openOff := s.rd pgTRK TRK_WINn_DATA 3 ini.num,
            closeOff := s.rd pgTRK TRK_WINn_DATA 4 ini.num, act := s.rd pgTRK TRK_WINn_DATA 5 ini.num } →
      exec (.trkWrite ini) s = .next (
        let i := s.trkSel ini
        let old := s.winAt i
        let bad := if old.active then 1 else winError x
        if bad ≠ 0 then (s.count pgTRK 7).trkRes ini bad
        else
          let y := { x.put (if bitAt x.ctl 3 then wsLISTEN else wsIDLE) old.outcome (bitAt old.ctl 28) with
            base := old.base, hitc := old.hitc }
          ((s.setWin i y).winRecord i).trkRes ini 0))
  ∧ (∀ (s : State) (ini : Initiator),
      s.takes pgTRK = true →
      exec (.trkDisarm ini) s = .next (
        let i := s.trkSel ini
        let x := s.winAt i
        let t := if x.state = wsIDLE then s
          else (s.setWin i { x with ctl := setBits x.ctl 0 3 wsIDLE, closeAt := none }).winRecord i
        t.trkRes ini 0))
  ∧ (∀ (s : State) (ini : Initiator),
      s.takes pgTRK = true →
      exec (.armSoft ini) s = .next (
        if (s.winAt (s.trkSel ini)).state ≠ wsLISTEN then s.trkRes ini 4 else (s.trkRes ini 0).winArm (s.trkSel ini)
            s.ringNow none))

/-- On a locked hub with the launch page enabled, whose first entry by TIME has the operation of the row, time passes
to the TIME of the entry; then the entry executes in time, except on a cold twin hub, where it is removed, or waits
while a takeover runs. An entry is staged 2 us before its TIME, and a pulse ends at its end with its line driven
again. On a launch page that takes commands, LNCH_INSERT on an enabled page inserts the entry of the initiator and
gives its result and slot; LNCH_CANCEL removes a valid entry with its TIME that is not staged, and answers TOO_LATE
for one staged or run and NOT_FOUND for any other; FLUSH_TARGET removes every entry of the operation and target that
is not staged, and counts them. Rests on R313, R314, R402, R431, R315, R316, R317, R328. -/
def Obligations.LaunchesExecuteAtTheirTime : Prop :=
  (∀ (s : State) (i : Nat) (e : LaunchEnt),
      s.locked = true →
      s.enabled pgLNCH = true →
      firstLaunch s.launches = some (i, e) →
      opOf e.opword = opDO_SET →
      exec (.doSet) s = .next (
        let t := s.passRing e.time
        if !t.cold then t.launchRun i e false
        else if t.twin.phase = 0 then t.launchCold i e
        else t))
  ∧ (∀ (s : State) (i : Nat) (e : LaunchEnt),
      s.locked = true →
      s.enabled pgLNCH = true →
      firstLaunch s.launches = some (i, e) →
      opOf e.opword = opDO_CLEAR →
      exec (.doClear) s = .next (
        let t := s.passRing e.time
        if !t.cold then t.launchRun i e false
        else if t.twin.phase = 0 then t.launchCold i e
        else t))
  ∧ (∀ (s : State) (i : Nat) (e : LaunchEnt),
      s.locked = true →
      s.enabled pgLNCH = true →
      firstLaunch s.launches = some (i, e) →
      opOf e.opword = opDO_PULSE →
      exec (.doPulse) s = .next (
        let t := s.passRing e.time
        if !t.cold then t.launchRun i e false
        else if t.twin.phase = 0 then t.launchCold i e
        else t))
  ∧ (∀ (s : State) (i : Nat) (e : LaunchEnt),
      s.locked = true →
      s.enabled pgLNCH = true →
      firstLaunch s.launches = some (i, e) →
      opOf e.opword = opLANE_START →
      exec (.laneStart) s = .next (
        let t := s.passRing e.time
        if !t.cold then t.launchRun i e false
        else if t.twin.phase = 0 then t.launchCold i e
        else t))
  ∧ (∀ (s : State) (i : Nat) (e : LaunchEnt),
      s.locked = true →
      s.enabled pgLNCH = true →
      firstLaunch s.launches = some (i, e) →
      opOf e.opword = opCOG_START →
      exec (.cogStart) s = .next (
        let t := s.passRing e.time
        if !t.cold then t.launchRun i e false
        else if t.twin.phase = 0 then t.launchCold i e
        else t))
  ∧ (∀ (s : State) (i : Nat) (e : LaunchEnt),
      s.locked = true →
      s.enabled pgLNCH = true →
      firstLaunch s.launches = some (i, e) →
      opOf e.opword = opPOINT_WRITE →
      exec (.pointWrite) s = .next (
        let t := s.passRing e.time
        if !t.cold then t.launchRun i e false
        else if t.twin.phase = 0 then t.launchCold i e
        else t))
  ∧ (∀ (s : State) (i : Nat) (e : LaunchEnt),
      s.locked = true →
      s.enabled pgLNCH = true →
      firstLaunch s.launches = some (i, e) →
      opOf e.opword = opCAN_INJECT →
      exec (.canInject) s = .next (
        let t := s.passRing e.time
        if !t.cold then t.launchRun i e false
        else if t.twin.phase = 0 then t.launchCold i e
        else t))
  ∧ (∀ (s : State) (i : Nat) (e : LaunchEnt),
      s.locked = true →
      firstLaunch (s.launches.filter (fun x => !x.2.staged)) = some (i, e) →
      exec (.launchStage) s = .next ((s.passRing (e.time - 2000)).setLaunch i { e with staged := true }))
  ∧ (∀ (s : State) (line t : Nat),
      (s.lineSt line).pulseEnd = some t →
      exec (.pulseEnd line) s = .next (
        let u := s.passRing t
        (u.setLine line { u.lineSt line with launch := false, pulseEnd := none }).driveLine line))
  ∧ (∀ (s : State) (ini : Initiator),
      s.takes pgLNCH = true →
      s.enabled pgLNCH = true →
      exec (.lnchInsert ini) s = .next (
        let x := s.launchInsert (s.lnchIns ini 0 + 2 ^ 32 * s.lnchIns ini 1) (s.lnchIns ini 2) (s.lnchIns ini 3) none
        x.1.lnchRes ini x.2.1 x.2.2 0))
  ∧ (∀ (s : State) (ini : Initiator) (slot : Nat),
      s.takes pgLNCH = true →
      exec (.lnchCancel ini slot) s = .next (
        let e := s.launchAt slot
        if e.time % 2 ^ 32 ≠ s.lnchIns ini 0 then s.lnchRes ini 5 0 0
        else if opValid e.opword then
          if s.isStaged e then s.lnchRes ini 4 0 0
          else (((s.dropLaunch slot false).lnchDel slot).count pgLNCH 7).lnchRes ini 0 0 0
        else if e.ran then s.lnchRes ini 4 0 0
        else s.lnchRes ini 5 0 0))
  ∧ (∀ (s : State) (ini : Initiator),
      s.takes pgLNCH = true →
      exec (.flushTarget ini) s = .next (
        let x := s.lnchIns ini 2
        let l := s.launches.filter (fun e => opOf e.2.opword == opOf x && opTarget e.2.opword == opTarget x && !s.isStaged
            e.2)
        ((l.foldl (fun (t : State) e => (t.dropLaunch e.1 false).lnchDel e.1) s).count pgLNCH 8 l.length).lnchRes ini 0 0
            l.length))

/-- A filtered change of a line sets its raw level, stamps it and counts the edges its counter takes; the debounced
edge becomes the level of the line; a chatter window closes with its counts at 0; chatter ends after its quiet time
with its event; an active line that stays so for STUCK_MAX is STUCK; a driven line whose readback differs for RB_DELAY
fails, with its fault and its journal record. On a DIO page that takes commands, DIO_OUT_SET and DIO_OUT_CLR give
DIO_OUT_HOST its old value with the bits set or cleared, DIO_OUT_HOST takes the word written while LOCK is 0, and
DIO_CNT_CLR clears the counters of the bits written 1. Rests on R333, R335, R338, R339, R340, R342, R347, R345, R350.
-/
def Obligations.DiscreteLinesTakeEffect : Prop :=
  (∀ (s : State) (line : Nat) (level : Bool),
      line < 256 →
      s.sampling line = true →
      (level && s.lineOff line) = false →
      (s.dioBit line DIO_RAW_W == level) = false →
      exec (.dioFilteredChange line ⟨level, true⟩) s = .next (
        let t := s.setLine line { s.lineSt line with pin := level }
        let n := t.filtNs line / 4 - 1
        let t := t.setLine line { t.lineSt line with
          stamp := (t.time.ring - n * tickInc t.time.f) / 2 ^ 32, stampAt := t.now - 4 * n }
        let t := t.rawTake line level
        let c := t.dioCfg line DIO_LINEj_CFG_CNT_EDGE
        let t := if c = 2 ∨ (c = 0 ∧ level) ∨ (c = 1 ∧ !level) then
          t.wr (dioPg line) DIO_CNTj_COUNT ((t.rd (dioPg line) DIO_CNTj_COUNT (line % 32) + 1) % 2 ^ 32) (line % 32) else t
        t.chatEdge line))
  ∧ (∀ (s : State) (line : Nat),
      line < 256 →
      s.sampling line = true →
      (s.dioBit line DIO_IN_W == s.filtered line) = false →
      exec (.dioEdge line) s = .next (
        let t := s.passTo ((s.lineSt line).filtAt + s.debNs line)
        t.lineLevel line (t.lineSt line).stamp (t.lineSt line).stampAt (s.filtered line)))
  ∧ (∀ (s : State) (page : Nat),
      s.held = [] →
      exec (.chatterWindow page) s = .next (
        let n := s.ringNow / s.chatWin (32 * page) + 1
        (List.range 32).foldl (fun (t : State) j =>
          let x := t.lineSt (32 * page + j)
          if x.winCnt = 0 ∧ x.winIdx = 0 then t else t.setLine (32 * page + j) { x with winIdx := n, winCnt := 0 })
          (s.passRing (n * s.chatWin (32 * page)))))
  ∧ (∀ (s : State) (line : Nat),
      line < 256 →
      s.dioBit line DIO_CHATTER_W = true →
      exec (.chatterEnd line) s = .next (
        let q := s.rd (dioPg line) DIO_CHAT_CHAT_QUIET
        let t := s.passTo ((s.lineSt line).lastEdge + (if q = 0 then 1000000 * 10 else 10000000 * q))
        let t := t.setDioBit line DIO_CHATTER_W false
        t.dioEvent line 2 t.ringNow t.now (t.dioBit line DIO_IN_W)))
  ∧ (∀ (s : State) (line t : Nat),
      (s.lineSt line).activeAt = some t →
      s.dioCfg line DIO_LINEj_CFG_STUCK_EN = 1 →
      s.dioCfg line DIO_LINEj_CFG_DIR = 0 →
      s.dioBit line DIO_STUCK_W = false →
      s.sampling line = true →
      exec (.dioStuck line) s = .next (
        let p := dioPg line
        let u := s.passTo (t + 1000000 * max 1 (s.rd p DIO_TIMING_STUCK_MAX))
        let u := ((u.setDioBit line DIO_STUCK_W true).irq p 5).count p 2
        u.dioEvent line 3 u.ringNow u.now true))
  ∧ (∀ (s : State) (line : Nat) (e : Bool),
      s.held = [] →
      (s.lineSt line).rb = some e →
      s.dioCfg line DIO_LINEj_CFG_RB_EN = 1 →
      e ≠ s.dioBit line DIO_RAW_W →
      s.dioBit line DIO_RB_FAIL_W = false →
      exec (.rbFail line) s = .next (
        let p := dioPg line
        let t := s.passTo (max (s.lineSt line).drvAt (s.lineSt line).diffAt + 1000 * max 1 (s.rd p DIO_TIMING_RB_DELAY))
        let t := ((t.setDioBit line DIO_RB_FAIL_W true).irq p 7).count p 4
        let t := t.fault p 0x1F 1 (t.globalAddr (p * 0x1000 + 0x100 + 4 * (line % 32)))
        t.journal 0x09 (beBytes 1 (line / 32) ++ beBytes 3 0 ++ beBytes 4 (t.rd p DIO_RB_FAIL_W))))
  ∧ (∀ (s : State) (bank : Nat) (present at3v3 : Bool),
      bank < 36 →
      exec (.vddioBankChange bank present at3v3) s = .next (
        let t : State := { s with rst := { s.rst with
          noVio := if present then s.rst.noVio.filter (· != bank) else s.rst.noVio.filter (· != bank) ++ [bank]
          vio3 := if at3v3 then s.rst.vio3.filter (· != bank) ++ [bank] else s.rst.vio3.filter (· != bank) } }
        if present then t.driveSync else (t.bankLost bank).driveSync))
  ∧ (∀ (s : State) (page value : Nat),
      page < 8 →
      s.takes (pgDIO + page) = true →
      exec (.dioOutSet page value) s = .next (s.outHost page (s.rd (pgDIO + page) DIO_OUT_HOST_W ||| value % 2 ^ 32)))
  ∧ (∀ (s : State) (page value : Nat),
      page < 8 →
      s.takes (pgDIO + page) = true →
      exec (.dioOutClr page value) s = .next (s.outHost page (s.rd (pgDIO + page) DIO_OUT_HOST_W - (s.rd (pgDIO + page)
          DIO_OUT_HOST_W &&& value % 2 ^ 32))))
  ∧ (∀ (s : State) (page value : Nat),
      page < 8 →
      s.openTo (pgDIO + page) = true →
      exec (.dioOutHostWrite page value) s = .next (s.outHost page (value % 2 ^ 32)))
  ∧ (∀ (s : State) (page value : Nat),
      page < 8 →
      s.takes (pgDIO + page) = true →
      exec (.dioCntClr page value) s = .next ((List.range 32).foldl (fun (t : State) j => if bitAt value j then t.wr (pgDIO +
          page) DIO_CNTj_COUNT 0 j else t) s))
  ∧ (∀ (s : State) (line : Nat) (level : Bool),
      line < 256 →
      s.sampling line = true →
      (level && s.lineOff line) = false →
      exec (.dioFilteredChange line ⟨level, false⟩) s = .next (s.setLine line { s.lineSt line with pin := level }))

/-- On a lane that takes commands, a word with room in the transmit FIFO enters it and is answered OK; the next word
of a frame being sent leaves the FIFO when its character is due, and the writes that wait find its room; a waiting
write completes WAIT_EXPIRED after 100 us and nothing of it has entered; a pop returns the head word with its status;
the flush and drop commands empty the FIFO that they name or remove its first frame. Rests on R365, R368, R369, R508.
-/
def Obligations.LaneFifoCommandsTakeEffect : Prop :=
  (∀ (s : State) (ini : Initiator) (lane data : Nat),
      lane < 64 →
      s.takes (lanePg lane) = true →
      (s.laneNow lane).laneRoom lane = true →
      exec (.laneTxd ini lane data) s = .next (((s.laneNow lane).lanePush lane (data % 2 ^ 32) false).rsp ini stOK []))
  ∧ (∀ (s : State) (ini : Initiator) (lane data : Nat),
      lane < 64 →
      s.takes (lanePg lane) = true →
      (s.laneNow lane).laneRoom lane = true →
      exec (.laneTxdEnd ini lane data) s = .next (((s.laneNow lane).lanePush lane (data % 2 ^ 32) true).rsp ini stOK []))
  ∧ (∀ (s : State) (lane : Nat) (f : LaneSend) (t : State),
      t = s.laneNow lane →
      (t.laneSt lane).send = some f →
      f.halt = false →
      f.under = false →
      t.lanePaused lane = false →
      (f.left (t.laneSt lane).tx).isEmpty = false →
      exec (.txFifoRoom lane) s = .next ((t.passTo (t.charAt lane f (max f.chars (f.words.length + b2n (t.laneMode lane
          == 2))))).laneNow lane))
  ∧ (∀ (s : State) (x : LaneWait) (l : List LaneWait),
      s.upd.waits = x :: l →
      exec (.localWriteExpired 64) s = .next (
        let u := s.passTo (x.at_ + 100000)
        State.waitDone { u with upd := { u.upd with waits := l } } x stWAIT_EXPIRED))
  ∧ (∀ (s : State) (lane : Nat) (x : LaneWait) (l : List LaneWait) (u : State),
      lane ≠ 64 →
      (s.laneSt lane).wait = x :: l →
      x.ini ≠ .bridge →
      u = (s.passTo (x.at_ + 100000)).laneNow lane →
      (u.laneSt lane).wait.head? = some x →
      exec (.localWriteExpired lane) s = .next ((u.setLane lane
          { u.laneSt lane with wait := (u.laneSt lane).wait.drop (if x.more then 2 else 1) }).waitDone
          { x with more := false } stWAIT_EXPIRED))
  ∧ (∀ (s : State) (ini : Initiator) (lane : Nat) (x : LaneWord) (l : List LaneWord),
      s.held = [] →
      s.on (lanePg lane) PAGE_STAT_READY = true →
      (s.laneSt lane).rx = x :: l →
      x.bad = false →
      exec (.laneRxPop ini lane true false) s = .next ((s.rxTake lane l).rsp ini stOK [x.data, 1 + 2 * b2n x.fin + 4 * 0]))
  ∧ (∀ (s : State) (lane : Nat),
      s.takes (lanePg lane) = true →
      exec (.rxFlush lane) s = .next ((State.rxTake (s.setLane lane { s.laneSt lane with hold := none }) lane []).wr (lanePg
          lane) LANE_STAT_DROP_PEND 0))
  ∧ (∀ (s : State) (lane : Nat),
      s.takes (lanePg lane) = true →
      (s.laneSt lane).send = none →
      exec (.txFlush lane) s = .next (((s.setLane lane
          { s.laneSt lane with tx := [], send := none, release := none }).laneDrain 256 lane).laneLater lane))
  ∧ (∀ (s : State) (lane : Nat),
      s.takes (lanePg lane) = true →
      (s.laneSt lane).rx.any (·.fin) = true →
      exec (.rxDropRest lane) s = .next (s.rxTake lane (afterFrame (s.laneSt lane).rx)))
  ∧ (∀ (s : State) (lane : Nat),
      s.takes (lanePg lane) = true →
      (s.laneSt lane).rx.any (·.fin) = false →
      exec (.rxDropRest lane) s = .next (
        let t := (s.setLane lane { s.laneSt lane with hold := none }).rxTake lane []
        if (s.laneSt lane).hold.any (·.fin) then t else t.wr (lanePg lane) LANE_STAT_DROP_PEND 1))
  ∧ (∀ (s : State) (lane : Nat),
      s.takes (lanePg lane) = true →
      (s.laneSt lane).send = none →
      exec (.txDropHead lane) s = .next ((s.setLane lane
          { s.laneSt lane with tx := afterFrame (s.laneSt lane).tx, release := none }).laneDrain 256 lane))

/-- A frame that is ready starts after its lead time; the last word in the FIFO sent, the frame ends where it holds
the end mark, and waits for its next word where it does not; a NACK and an I2C stretch timeout end a frame after the
characters sent, with their error and status, and after the timeout nine clocks go out; a character received by an SPI
or a UART lane enters the packet; the packet of an SPI lane that sends nothing ends; an IO-Link lane without a
response ends with its error and status; a wake-up request lasts 80 us; an SSI read starts on command. Rests on R358,
R359, R360, R361, R362, R364. -/
def Obligations.LaneFramesTakeEffect : Prop :=
  (∀ (s : State) (lane : Nat),
      s.takes (lanePg lane) = true →
      exec (.ssiRead lane) s = .next (s.ssiStart lane none))
  ∧ (∀ (s : State) (lane : Nat),
      s.takes (lanePg lane) = true →
      s.laneOn lane = true →
      s.laneMode lane = 4 →
      s.laneGated = false →
      (s.laneSt lane).send = none →
      (s.laneSt lane).rsp = 0 →
      exec (.iolWurq lane) s = .next (s.setLane lane { s.laneSt lane with wurqEnd := some (s.now + 80000) }))
  ∧ (∀ (s : State) (lane t : Nat),
      (s.laneSt lane).wurqEnd = some t →
      exec (.iolWurqEnd lane) s = .next (
        let u := s.passTo t
        u.setLane lane { u.laneSt lane with wurqEnd := none }))
  ∧ (∀ (s : State) (lane : Nat),
      s.laneReady lane = true →
      exec (.laneFrameStart lane) s = .next (s.laneStart lane (s.ringAfter (s.laneLead lane)) (s.now + (s.laneLead lane + 3)
          / 4 * 4)))
  ∧ (∀ (s : State) (lane : Nat) (nack : Bool) (f : LaneSend) (t : State),
      t = s.laneNow lane →
      (t.laneSt lane).send = some f →
      f.halt = false →
      (f.under && (t.laneSt lane).tx.isEmpty) = false →
      (t.lanePaused lane && decide (f.chars < t.laneAvail lane f (t.laneSt lane).tx)) = false →
      t.laneMode lane ≠ 2 ∨ nack = false →
      t.laneReadDone lane f = true →
      (f.whole || (t.laneSt lane).tx.any (·.fin)) = true →
      exec (.laneFrameDone lane nack) s = .next (
        let u := (t.passTo (t.charAt lane f (t.laneAvail lane f (t.laneSt lane).tx))).laneSync lane
        let y := u.laneSt lane
        (((u.setLane lane { y with send := none }).frameEnd lane (y.send.getD f)).laneDrain 256 lane).laneLater lane))
  ∧ (∀ (s : State) (lane : Nat) (f : LaneSend) (t : State),
      t = s.laneNow lane →
      (t.laneSt lane).send = some f →
      f.halt = false →
      (f.under && (t.laneSt lane).tx.isEmpty) = false →
      (t.lanePaused lane && decide (f.chars < t.laneAvail lane f (t.laneSt lane).tx)) = false →
      t.laneMode lane = 2 →
      exec (.laneFrameDone lane true) s = .next (
        let c := max 1 f.chars
        let u := (t.passTo (t.charAt lane f c)).laneAbort lane c
        let u := ((u.laneErr lane LANE_ERR_NACK).count (lanePg lane) 7).rxStatus lane flNACK
        (u.laneDrain 256 lane).laneLater lane))
  ∧ (∀ (s : State) (lane data : Nat) (late : Bool),
      lane < 64 →
      s.laneDark lane = false →
      s.laneMode lane = 1 →
      exec (.laneRxChar lane data false false false late) s = .next (s.rxController lane (data % 2 ^ s.laneBits lane)))
  ∧ (∀ (s : State) (lane : Nat),
      s.laneOn lane = true →
      (s.laneSt lane).pkt ≠ [] →
      s.laneMode lane = 1 →
      (s.laneSt lane).send = none →
      exec (.lanePacketEnd lane) s = .next (s.rxEnd lane))
  ∧ (∀ (s : State) (lane : Nat) (f : LaneSend) (t : State),
      t = s.laneNow lane →
      (t.laneSt lane).send = some f →
      t.laneMode lane = 2 →
      f.halt = false →
      exec (.i2cStretchTimeout lane) s = .next (
        let u := (t.pass 6250000).laneAbort lane f.chars
        let u := if u.laneDark lane then u else u.emit (.laneClocks lane 9)
        (((u.laneErr lane LANE_ERR_TIMING).rxStatus lane flTIMING).laneDrain 256 lane).laneLater lane))
  ∧ (∀ (s : State) (lane : Nat),
      s.laneOn lane = true →
      s.laneMode lane = 4 →
      (s.laneSt lane).rsp ≠ 0 →
      (s.laneSt lane).rsp = (s.laneSt lane).rspLen →
      exec (.iolNoResponse lane) s = .next (
        let t := s.passTo ((s.laneSt lane).rspAt + s.laneBitsNs lane 10)
        let t := t.setLane lane { t.laneSt lane with rsp := 0 }
        ((t.laneErr lane LANE_ERR_NO_RSP).count (lanePg lane) 9).rxStatus lane flNO_RSP))
  ∧ (∀ (s : State) (lane : Nat) (nack : Bool) (f : LaneSend) (t : State),
      t = s.laneNow lane →
      (t.laneSt lane).send = some f →
      f.halt = false →
      (f.under && (t.laneSt lane).tx.isEmpty) = false →
      (t.lanePaused lane && decide (f.chars < t.laneAvail lane f (t.laneSt lane).tx)) = false →
      t.laneMode lane ≠ 2 ∨ nack = false →
      t.laneReadDone lane f = true →
      (f.whole || (t.laneSt lane).tx.any (·.fin)) = false →
      exec (.laneFrameDone lane nack) s = .next (((t.passTo (t.charAt lane f (t.laneAvail lane f (t.laneSt
          lane).tx))).laneSync lane).laneDrain 256 lane))
  ∧ (∀ (s : State) (lane data : Nat) (late : Bool),
      lane < 64 →
      s.rxOpen lane = true →
      s.laneDark lane = false →
      s.laneMode lane = 0 →
      exec (.laneRxChar lane data false false false late) s = .next (
        let last := decide ((s.laneSt lane).pkt.length + 1 = min 256 (s.rd (lanePg lane) LANE_RXPKT_PKT_LEN))
        let t := s.rxWord lane (data % 2 ^ s.laneBits lane) last
        if last then t.rxEnd lane else t))

/-- On an enabled mover page that takes commands, START of a mover that does not run runs it from its first word where
its ends are permitted, and else records the error; STOP stops a running one. A burst of the mover whose turn it is in
round-robin order, a running one whose request is there or that of a copy channel that is busy, moves its words, or
backs off where it contends with a read completion for the PCIe port outside collection mode; the end of a back-off
clears it. Rests on R374, R375, R377, R378, R499. -/
def Obligations.MoverCommandsTakeEffect : Prop :=
  (∀ (s : State) (mover : Nat),
      s.takes pgMOV = true →
      s.enabled pgMOV = true →
      mover < 48 →
      exec (.moverStart mover) s = .next (
        if s.movState mover == 1 then s
        else
          let t := (s.setMover mover {}).wr pgMOV MOVn_STAT_ERR 0 mover
          let ok := match t.copyOf mover with
            | some _ => s.rd pgMOV MOVn_CFG_SRC_KIND mover == 5 && s.rd pgMOV MOVn_CFG_DST_KIND mover == 0
            | none => kindsOk (s.rd pgMOV MOVn_CFG_SRC_KIND mover) (s.rd pgMOV MOVn_CFG_DST_KIND mover)
                && s.rd pgMOV MOVn_CFG_SRC_KIND mover != 5
          if ok then t.wr pgMOV MOVn_STAT_STATE 1 mover else t.movError mover 3))
  ∧ (∀ (s : State) (mover : Nat),
      s.takes pgMOV = true →
      mover < 48 →
      exec (.moverStop mover) s = .next (
        if s.movState mover = 1 then s.wr pgMOV MOVn_STAT_STATE 0 mover else s))
  ∧ (∀ (s : State) (mover : Nat) (host : List (Nat × Nat)) (contend : Bool) (t : State),
      t = (List.range 64).foldl (fun (v : State) l => v.laneNow l) s →
      t.movTurn = some mover →
      t.copyNow mover = none →
      exec (.moverBurst mover host contend) s = .next (
        let u : State := { t with movLast := mover }
        if contend && u.rd pgMOV MOVn_CFG_DST_KIND mover == 0 && !u.collectMode then
          (u.setMover mover { u.moverSt mover with backoff := some (u.now + 1000 * max 1 (u.rd pgBRG BRG_CFG2_BACKOFF)) }).count pgBRG 14
        else State.movWords (u.movGrant mover) (u.count pgMOV 1) mover host))
  ∧ (∀ (s : State) (mover t : Nat),
      (s.moverSt mover).backoff = some t →
      exec (.moverBackoffEnd mover) s = .next (
        let u := s.passTo t
        u.setMover mover { u.moverSt mover with backoff := none }))
  ∧ (∀ (s : State) (mover ch : Nat) (host : List (Nat × Nat)) (contend : Bool) (t : State),
      t = (List.range 64).foldl (fun (v : State) l => v.laneNow l) s →
      t.movTurn = some mover →
      t.copyNow mover = some ch →
      exec (.moverBurst mover host contend) s = .next (
        let u : State := { t with movLast := mover }
        if contend && u.rd pgMOV MOVn_CFG_DST_KIND mover == 0 && !u.collectMode then
          (u.setMover mover { u.moverSt mover with backoff := some (u.now + 1000 * max 1 (u.rd pgBRG BRG_CFG2_BACKOFF)) }).count pgBRG 14
        else u.copyBurst ch))

/-- For a RUNNING engine: time passes to the due time and the pins are sampled, 0 on a lane bank without supply. A
legal word at the program counter that passes its parity check and has the opcode of the row has the effect named;
TAKE, GIVE, AWAIT and MARK wait where they cannot complete. A word that fails its parity check stops the engine with a
fault and its record, and an illegal word stops it with a fault. Rests on R390, R392, R394, R395, R396, R397, R398,
R399, R400, R402, R403, R410. -/
def Obligations.CogInstructionsExecute : Prop :=
  (∀ (s : State) (e levels x : Nat) (u : State),
      s.cogRd e COGe_STAT_STATE = 1 →
      cogIllegal (s.cogWord e) (s.cogRd e COGe_STAT_PC) = false →
      bitsOf (s.cogWord e) 20 4 = 0x0 →
      u = ((s.passTo (s.cogSt e).due).cogPass e).cogLook e levels →
      x = s.cogWord e →
      exec (.cogDrive e false levels) s = .next ((u.cogDrive e x).cogNext e (u.cogDue e x)))
  ∧ (∀ (s : State) (e levels x : Nat) (u : State),
      s.cogRd e COGe_STAT_STATE = 1 →
      cogIllegal (s.cogWord e) (s.cogRd e COGe_STAT_PC) = false →
      bitsOf (s.cogWord e) 20 4 = 0x1 →
      u = ((s.passTo (s.cogSt e).due).cogPass e).cogLook e levels →
      x = s.cogWord e →
      exec (.cogSample e false levels) s = .next ((u.cogSample e x).cogNext e (u.cogDue e x)))
  ∧ (∀ (s : State) (e levels x : Nat) (u : State),
      s.cogRd e COGe_STAT_STATE = 1 →
      cogIllegal (s.cogWord e) (s.cogRd e COGe_STAT_PC) = false →
      bitsOf (s.cogWord e) 20 4 = 0x2 →
      u = ((s.passTo (s.cogSt e).due).cogPass e).cogLook e levels →
      x = s.cogWord e →
      exec (.cogEmit e false levels) s = .next ((u.cogEmit e x).cogNext e (u.cogDue e x)))
  ∧ (∀ (s : State) (e levels x : Nat) (ferr : Bool) (u : State),
      s.cogRd e COGe_STAT_STATE = 1 →
      cogIllegal (s.cogWord e) (s.cogRd e COGe_STAT_PC) = false →
      bitsOf (s.cogWord e) 20 4 = 0x3 →
      u = ((s.passTo (s.cogSt e).due).cogPass e).cogLook e levels →
      x = s.cogWord e →
      exec (.cogTake e false levels ferr) s = .next (
        match u.cogTake e x ferr with
        | some t => t.cogNext e (u.cogDue e x)
        | none => u.cogWait e true false))
  ∧ (∀ (s : State) (e levels x : Nat) (u : State),
      s.cogRd e COGe_STAT_STATE = 1 →
      cogIllegal (s.cogWord e) (s.cogRd e COGe_STAT_PC) = false →
      bitsOf (s.cogWord e) 20 4 = 0x4 →
      u = ((s.passTo (s.cogSt e).due).cogPass e).cogLook e levels →
      x = s.cogWord e →
      exec (.cogGive e false levels) s = .next (
        match u.cogGive e x with
        | some t => t.cogNext e (u.cogDue e x)
        | none => u.cogWait e true false))
  ∧ (∀ (s : State) (e levels x : Nat) (u : State),
      s.cogRd e COGe_STAT_STATE = 1 →
      cogIllegal (s.cogWord e) (s.cogRd e COGe_STAT_PC) = false →
      bitsOf (s.cogWord e) 20 4 = 0x5 →
      u = ((s.passTo (s.cogSt e).due).cogPass e).cogLook e levels →
      x = s.cogWord e →
      exec (.cogAwait e false levels) s = .next (
        if u.awaitHolds e x true then (u.awaitDone e x).cogNext e (u.cogDue e x) else u.cogWait e false (u.cogPattern e x)))
  ∧ (∀ (s : State) (e levels x : Nat) (u : State),
      s.cogRd e COGe_STAT_STATE = 1 →
      cogIllegal (s.cogWord e) (s.cogRd e COGe_STAT_PC) = false →
      bitsOf (s.cogWord e) 20 4 = 0x6 →
      u = ((s.passTo (s.cogSt e).due).cogPass e).cogLook e levels →
      x = s.cogWord e →
      exec (.cogLoop e false levels) s = .next (u.cogLoop e x))
  ∧ (∀ (s : State) (e levels x : Nat) (u : State),
      s.cogRd e COGe_STAT_STATE = 1 →
      cogIllegal (s.cogWord e) (s.cogRd e COGe_STAT_PC) = false →
      bitsOf (s.cogWord e) 20 4 = 0x7 →
      u = ((s.passTo (s.cogSt e).due).cogPass e).cogLook e levels →
      x = s.cogWord e →
      exec (.cogBranch e false levels) s = .next (u.cogBranch e x))
  ∧ (∀ (s : State) (e levels x : Nat) (u : State),
      s.cogRd e COGe_STAT_STATE = 1 →
      cogIllegal (s.cogWord e) (s.cogRd e COGe_STAT_PC) = false →
      bitsOf (s.cogWord e) 20 4 = 0x8 →
      u = ((s.passTo (s.cogSt e).due).cogPass e).cogLook e levels →
      x = s.cogWord e →
      exec (.cogLoad e false levels) s = .next ((u.cogLoad e x).cogNext e (u.cogDue e x)))
  ∧ (∀ (s : State) (e levels x : Nat) (u : State),
      s.cogRd e COGe_STAT_STATE = 1 →
      cogIllegal (s.cogWord e) (s.cogRd e COGe_STAT_PC) = false →
      bitsOf (s.cogWord e) 20 4 = 0x9 →
      u = ((s.passTo (s.cogSt e).due).cogPass e).cogLook e levels →
      x = s.cogWord e →
      exec (.cogMark e false levels) s = .next (
        let ws := if bitAt x 1 then [(u.ringNow % 2 ^ 32, false), (u.ringNow / 2 ^ 32, bitAt x 2)] else [(u.ringNow % 2 ^ 32,
            bitAt x 2)]
        let v := State.cogMarkPut 2 (if (u.cogSt e).mark.isEmpty then u.setCogSt e { u.cogSt e with mark := ws } else u) e
        if bitAt x 0 then
          if u.cogRd e COGe_STAT_MATCH = 1 then (u.cogWr e COGe_STAT_MATCH 0).cogNext e (u.cogDue e x) else u.cogWait e false
              false
        else if (v.cogSt e).mark.isEmpty then v.cogNext e (u.cogDue e x)
        else v.cogWait e true false))
  ∧ (∀ (s : State) (e levels x : Nat) (u : State),
      s.cogRd e COGe_STAT_STATE = 1 →
      cogIllegal (s.cogWord e) (s.cogRd e COGe_STAT_PC) = false →
      bitsOf (s.cogWord e) 20 4 = 0xA →
      u = ((s.passTo (s.cogSt e).due).cogPass e).cogLook e levels →
      x = s.cogWord e →
      exec (.cogSignal e false levels) s = .next ((u.cogSignal e x).cogNext e (u.cogDue e x)))
  ∧ (∀ (s : State) (e levels : Nat) (ferr : Bool) (u : State),
      s.cogRd e COGe_STAT_STATE = 1 →
      u = ((s.passTo (s.cogSt e).due).cogPass e).cogLook e levels →
      ∀ c ∈ [Instr.cogDrive e true levels, .cogSample e true levels, .cogEmit e true levels, .cogTake e true levels ferr,
          .cogGive e true levels,
        .cogAwait e true levels, .cogLoop e true levels, .cogBranch e true levels, .cogLoad e true levels,
            .cogMark e true levels, .cogSignal e true levels],
      exec c s = .next ((u.cogFault e 2).fault (cogPg e) 0x21 1
        (u.globalAddr (cogPg e * 0x1000 + COG_STOREa_WORD.off (u.cogRd e COGe_STAT_PC)))))
  ∧ (∀ (s : State) (e levels : Nat) (ferr : Bool) (u : State),
      s.cogRd e COGe_STAT_STATE = 1 →
      u = ((s.passTo (s.cogSt e).due).cogPass e).cogLook e levels →
      cogIllegal (s.cogWord e) (s.cogRd e COGe_STAT_PC) = true →
      ∀ c ∈ [Instr.cogDrive e false levels, .cogSample e false levels, .cogEmit e false levels, .cogTake e false levels ferr,
          .cogGive e false levels,
        .cogAwait e false levels, .cogLoop e false levels, .cogBranch e false levels, .cogLoad e false levels,
            .cogMark e false levels, .cogSignal e false levels],
      exec c s = .next (u.cogFault e 1))

/-- On a cog page that takes commands the masked engines are started, stopped (keeping their state) and resumed as
R406 to R408 have it; a waiting instruction or launch match is evaluated on each tick and completes on the one that
satisfies it; an AWAIT whose condition does not hold by then times out; a store word, tokens, a claim and settings are
written. Rests on R389, R390, R392, R397, R403, R406, R407, R408, R409, R413. -/
def Obligations.CogControlTakesEffect : Prop :=
  (∀ (s : State) (page mask : Nat),
      page < 8 →
      s.takes (pgCOG + page) = true →
      exec (.cogCmdStart page mask) s = .next ((List.range 4).foldl (fun (t : State) k => if bitAt mask k then t.cogStart (4
          * page + k) else t) s))
  ∧ (∀ (s : State) (page mask : Nat),
      page < 8 →
      s.takes (pgCOG + page) = true →
      exec (.cogCmdStop page mask) s = .next (
        (List.range 4).foldl (fun (t : State) k => if bitAt mask k then
              (if t.node = nsHOLD then t.cogRefuse (4 * page + k) 4
                else if t.cogActive (4 * page + k) then (t.cogStop (4 * page + k)).cogRes (4 * page + k) 0
                else t.cogRefuseOpen (4 * page + k)) else t) s))
  ∧ (∀ (s : State) (page : Nat),
      page < 8 →
      s.takes (pgCOG + page) = true →
      s.node = nsSERVICE →
      s.cogActive (4 * page) = false →
      s.enabled (cogPg (4 * page)) = true →
      s.cogRd (4 * page) COGe_STAT_STATE = 4 →
      s.cogRd (4 * page) COGe_STAT_RESUME_OK ≠ 0 →
      exec (.cogCmdResume page 1) s = .next (
        let e := 4 * page
        let t := ((s.cogWr e COGe_STAT_STATE 1).cogWr e COGe_STAT_DELAY_LEFT 0).cogRes e 0
        t.setCogSt e { t.cogSt e with due := t.now + s.cogRd e COGe_STAT_DELAY_LEFT * t.cogCycle e }))
  ∧ (∀ (s : State) (e levels : Nat) (ferr : Bool) (u : State),
      s.cogWaits e 5 = true →
      u = (let t := ((s.passTo ((s.cogSt e).evalAt + 4)).cogUnstall e).cogLook e levels
        t.setCogSt e { t.cogSt e with evalAt := t.now }) →
      exec (.cogWaitDone e levels ferr) s = .next (
        if u.awaitHolds e (s.cogWord e) false then (u.awaitDone e (s.cogWord e)).cogWaited e (s.cogWord e)
        else u.setCogSt e { u.cogSt e with prev := u.cogPattern e (s.cogWord e) }))
  ∧ (∀ (s : State) (e levels : Nat) (ferr : Bool),
      s.cogWaits e 9 = true →
      bitAt (s.cogWord e) 0 = true →
      s.cogRd e COGe_STAT_MATCH = 1 →
      exec (.cogWaitDone e levels ferr) s = .next ((s.cogWr e COGe_STAT_MATCH 0).cogNext e ((s.cogSt e).matchAt + s.cogDelay
          e (s.cogWord e))))
  ∧ (∀ (s : State) (e : Nat),
      s.cogWaits e 5 = true →
      bitsOf (s.cogWord e) 10 5 ≠ 0 →
      exec (.awaitTimeout e) s = .next (
        let u := (s.passTo ((s.cogSt e).base + bitsOf (s.cogWord e) 10 5 * 256 * s.cogCycle e)).cogLook e (s.cogRd e
            COGe_PINS_LEVEL)
        (if u.awaitHolds e (s.cogWord e) false then u.awaitDone e (s.cogWord e) else u.cogWr e COGe_STAT_TIMEOUT 1).cogWaited
            e (s.cogWord e)))
  ∧ (∀ (s : State) (page addr value : Nat),
      page < 8 →
      addr < 64 →
      s.openTo (pgCOG + page) = true →
      exec (.cogStoreWrite page addr value) s = .next (s.cogStoreWrite page addr value))
  ∧ (∀ (s : State) (page value : Nat),
      page < 8 →
      s.takes (pgCOG + page) = true →
      exec (.cogTokenGive page value) s = .next ((List.range 4).foldl (fun (u : State) t => u.tokenGive (4 * page) t (bitsOf
          value (4 * t) 4)) s))
  ∧ (∀ (s : State) (page value : Nat),
      page < 8 →
      s.takes (pgCOG + page) = true →
      exec (.cogTokenClr page value) s = .next ((List.range 4).foldl (fun (u : State) t => if bitAt value t then u.tokenClear
          (4 * page) t else u) s))
  ∧ (∀ (s : State) (e value : Nat),
      e < 32 →
      s.openTo (cogPg e) = true →
      exec (.cogClaimWrite e value) s = .next (s.cogClaimWrite e value))
  ∧ (∀ (s : State) (e value : Nat),
      e < 32 →
      s.openTo (cogPg e) = true →
      exec (.cogCfgWrite e value) s = .next (s.cogCfgWrite e value))
  ∧ (∀ (s : State) (e levels : Nat) (ferr : Bool) (u : State),
      s.cogWaits e 3 = true →
      u = (let t := ((s.passTo ((s.cogSt e).evalAt + 4)).cogUnstall e).cogLook e levels
        t.setCogSt e { t.cogSt e with evalAt := t.now }) →
      exec (.cogWaitDone e levels ferr) s = .next (
        match u.cogTake e (s.cogWord e) ferr with
        | some t => t.cogWaited e (s.cogWord e)
        | none => u))
  ∧ (∀ (s : State) (e levels : Nat) (ferr : Bool) (u : State),
      s.cogWaits e 4 = true →
      u = (let t := ((s.passTo ((s.cogSt e).evalAt + 4)).cogUnstall e).cogLook e levels
        t.setCogSt e { t.cogSt e with evalAt := t.now }) →
      exec (.cogWaitDone e levels ferr) s = .next (
        match u.cogGive e (s.cogWord e) with
        | some t => t.cogWaited e (s.cogWord e)
        | none => u))
  ∧ (∀ (s : State) (e levels : Nat) (ferr : Bool) (u : State),
      s.cogWaits e 9 = true →
      bitAt (s.cogWord e) 0 = false →
      u = (let t := ((s.passTo ((s.cogSt e).evalAt + 4)).cogUnstall e).cogLook e levels
        t.setCogSt e { t.cogSt e with evalAt := t.now }) →
      exec (.cogWaitDone e levels ferr) s = .next (
        if ((State.cogMarkPut 2 u e).cogSt e).mark.isEmpty then (State.cogMarkPut 2 u e).cogWaited e (s.cogWord e) else
            State.cogMarkPut 2 u e))

/-- A port that hears the bus stores a frame of a format it takes and counts it towards detection; in partial wake it
takes it as a wake or counts it; a CAN FD frame that it does not take is an error or, with PEX_EN, leads to
integration. A pop returns the sequence word of the oldest entry. An attempt of a port that may send begins with the
buffer or the zone frame that is offered. An attempt that succeeds ends as sent; one that is lost or fails ends as
R428 and R430 have it; both end in SERVICE and in QUIET alone, where the port sends. An error is counted against the
receive counter; after bus-off recovery and after integration the port is active, or passive where a counter is above
127. Rests on R422, R423, R424, R428, R430, R438. -/
def Obligations.CanFramesTakeEffect : Prop :=
  (∀ (s : State) (port idw dlc age pulse : Nat) (brs esi res : Bool) (data : List Byte) (f : CanFrame),
      port < 8 →
      s.canHears port = true →
      f = (let g : CanFrame := { idw := idw % 2 ^ 32, dlc := dlc % 16, brs := brs, esi := esi, data := [] }
          { g with data := if g.rtr then [] else data.take (dlcLen g.fdf (dlc % 16)) }) →
      f.fdf = false ∨ (s.on (canPg port) CAN_CTRL_FD_EN = true ∧ res = false) →
      s.on (canPg port) CAN_STAT_PARTIAL = false →
      exec (.canFrameRx port idw dlc brs esi data age res pulse) s = .next (
        let p := canPg port
        let t := (s.canTake port (s.canBack age) f false (s.lockedAt (s.now - 25 * age / 2))).canRecOk port
        if t.on p CAN_DET_STAT_RUNNING then
          let t := t.canPulse port pulse
          let x := t.canSt port
          if max 1 (t.rd p CAN_DET_CTRL_FRAMES) ≤ x.good + 1 then t.canDetectEnd port (some x.cand)
          else t.setCan port { x with good := x.good + 1 }
        else t))
  ∧ (∀ (s : State) (ini : Initiator) (port : Nat) (e : CanEnt) (l : List CanEnt),
      s.held = [] →
      s.on (canPg port) PAGE_STAT_READY = true →
      (s.canSt port).ring = e :: l →
      exec (.canRxPop ini port) s = .next ((s.setCan port { s.canSt port with ring := l }).rsp ini stOK [e.words.getD 19 0]))
  ∧ (∀ (s : State) (port b : Nat) (z : Option ZoneFrame) (w0 : Option Nat),
      port < 8 →
      s.canSends port = true →
      s.canOffer port = some (some b, z, w0) →
      exec (.canAttemptStart port) s = .next (
        let x := s.canSt port
        let v := x.bufAt b
        s.setCan port { x.setBuf b { v with st := 2 } with act := some {
          buf := some b, ctl := v.ctl, frame := { v.frame with esi := v.frame.fdf && s.canState port == 1 }, at_ := s.canBack 0, locked := s.locked, slot := w0 } }))
  ∧ (∀ (s : State) (port lec b : Nat) (clash exempt : Bool) (a : CanTry),
      s.node = nsSERVICE ∨ s.node = nsQUIET →
      (s.canSt port).act = some a →
      a.buf = some b →
      exec (.canAttemptEnd port 0 lec clash exempt) s = .next (
        let p := canPg port
        let wake (u : State) (b : Nat) : State :=
          if ((u.canSt port).bufAt b).st = 1 ∧ u.zRd port ZONEz_CFG_WAKE_ON_TX = 1 then u.zWake port 4 else u
        let own (u : State) : State :=
          let u := u.count p 3
          let u := if u.canFrozen port then u else (u.wr p CAN_ERR_TEC (u.rd p CAN_ERR_TEC - 1)).canConfine port
          let u := if u.canMode port = 4 then u else u.emit (.can port a.frame.idw a.frame.ctlWord (leWords 16 a.frame.data))
          if u.on p CAN_CTRL_SELF_RX || u.canMode port == 4 then u.canTake port a.at_ a.frame true a.locked else u
        let t := s.setCan port { s.canSt port with act := none }
        let x := t.canSt port
        let v := x.bufAt b
        let v' := { v with st := b2n v.latched, latched := false, last := 1, misses := 0, clash := 0, inj := none }
        let t := t.setCan port { x.setBuf b v' with
          win := x.win.map (fun (y : CanWin) => if y.buf = some b then { y with sent := true } else y) }
        let t := (t.wr p CAN_TX_DONE_DONE (setBits (t.rd p CAN_TX_DONE_DONE) b 1 1)).irq p 5
        let t := if bitAt a.ctl 6 then t.txStamp a.at_ a.locked port 1 (bitsOf a.ctl 16 16) else t
        (wake (own t) b).canLater port))
  ∧ (∀ (s : State) (port : Nat),
      port < 8 →
      s.canState port = 2 →
      exec (.canBusoffRecovered port) s = .next ((((s.wr (canPg port) CAN_ERR_RECOV 128).wr (canPg port) CAN_ERR_TEC 0).wr
          (canPg port) CAN_ERR_REC 0).setCanState port 0))
  ∧ (∀ (s : State) (port : Nat),
      port < 8 →
      s.enabled (canPg port) = true →
      s.canState port = 3 →
      s.on (canPg port) CAN_STAT_STANDBY = false →
      s.canDark port = false →
      4 ≤ s.rd pgPWRST PWRST_STATE_STEP →
      s.node ≠ nsHOLD →
      exec (.canIntegrated port) s = .next (
        let passive := decide (127 < s.rd (canPg port) CAN_ERR_TEC ∨ 127 < s.rd (canPg port) CAN_ERR_REC)
        let t := s.setCanState port (b2n passive)
        if passive then t.count (canPg port) 6 else t))
  ∧ (∀ (s : State) (port lec : Nat) (eight : Bool),
      port < 8 →
      s.canHears port = true →
      exec (.canErrorDetected port lec eight) s = .next (s.canRecErr port lec eight))
  ∧ (∀ (s : State) (port idw dlc age pulse : Nat) (brs esi res : Bool) (data : List Byte) (f : CanFrame),
      port < 8 →
      s.canHears port = true →
      f = (let g : CanFrame := { idw := idw % 2 ^ 32, dlc := dlc % 16, brs := brs, esi := esi, data := [] }
          { g with data := if g.rtr then [] else data.take (dlcLen g.fdf (dlc % 16)) }) →
      f.fdf = true →
      s.on (canPg port) CAN_CTRL_FD_EN = false ∨ res = true →
      exec (.canFrameRx port idw dlc brs esi data age res pulse) s = .next (
        if s.on (canPg port) CAN_CTRL_PEX_EN then (s.canIntegrate port).count (canPg port) 13 else s.canRecErr port 2 false))
  ∧ (∀ (s : State) (port idw dlc age pulse : Nat) (brs esi res : Bool) (data : List Byte) (f : CanFrame),
      port < 8 →
      s.canHears port = true →
      f = (let g : CanFrame := { idw := idw % 2 ^ 32, dlc := dlc % 16, brs := brs, esi := esi, data := [] }
          { g with data := if g.rtr then [] else data.take (dlcLen g.fdf (dlc % 16)) }) →
      f.fdf = false ∨ (s.on (canPg port) CAN_CTRL_FD_EN = true ∧ res = false) →
      s.on (canPg port) CAN_STAT_PARTIAL = true →
      exec (.canFrameRx port idw dlc brs esi data age res pulse) s = .next (
        if s.zWakeFrame port f then ((s.canCount port).canStore port (s.canBack age) f false (s.lockedAt (s.now - 25 * age /
            2)) true).zWake port 2
        else s.count (canPg port) 14))
  ∧ (∀ (s : State) (port : Nat) (f : ZoneFrame) (w0 : Option Nat),
      port < 8 →
      s.canSends port = true →
      s.canOffer port = some (none, some f, w0) →
      exec (.canAttemptStart port) s = .next (
        let t := s.setCan port { s.canSt port with act := some {
          buf := none, zone := some f, frame := f.frame, at_ := s.canBack 0, locked := s.locked, slot := w0 } }
        if f.kind = 1 ∧ t.zState port = zsCOMMITTING then t.setZone port { t.zoneSt port with committed := true } else t))
  ∧ (∀ (s : State) (port outcome lec b : Nat) (clash exempt : Bool) (a : CanTry),
      s.node = nsSERVICE ∨ s.node = nsQUIET →
      (s.canSt port).act = some a →
      a.buf = some b →
      outcome ≠ 0 →
      exec (.canAttemptEnd port outcome lec clash exempt) s = .next (
        let p := canPg port
        let wake (u : State) (b : Nat) : State :=
          if ((u.canSt port).bufAt b).st = 1 ∧ u.zRd port ZONEz_CFG_WAKE_ON_TX = 1 then u.zWake port 4 else u
        let failed (u : State) : State :=
          if outcome = 1 then u.count p 4
          else
            let u := (u.count p 5).wr p CAN_ERR_LEC (lec % 8)
            if exempt || u.canFrozen port then u else u.canTecErr port
        let t := s.setCan port { s.canSt port with act := none }
        let x := t.canSt port
        let v := x.bufAt b
        let t := failed (t.setCan port (x.setBuf b (v.failed a.ctl)))
        let t := if outcome = 2 ∧ clash then t.canClash port b a.frame else t
        let open_ := (t.canSt port).win.any (fun y => some y.slot == a.slot)
        let kind := slotKind ((x.slots.find? (fun e => some e.1 == a.slot)).elim 0 (·.2.1))
        let t := if a.slot.isSome && !open_ && (kind == 1 || v.inj.isSome) && ((t.canSt port).bufAt b).st == 1
          then t.canMiss port b else t
        (wake t b).canLater port))
  ∧ (∀ (s : State) (port lec : Nat) (clash exempt : Bool) (a : CanTry) (f : ZoneFrame),
      s.node = nsSERVICE ∨ s.node = nsQUIET →
      (s.canSt port).act = some a →
      a.buf = none →
      a.zone = some f →
      exec (.canAttemptEnd port 0 lec clash exempt) s = .next (
        let p := canPg port
        let own (u : State) : State :=
          let u := u.count p 3
          let u := if u.canFrozen port then u else (u.wr p CAN_ERR_TEC (u.rd p CAN_ERR_TEC - 1)).canConfine port
          let u := if u.canMode port = 4 then u else u.emit (.can port a.frame.idw a.frame.ctlWord (leWords 16 a.frame.data))
          if u.on p CAN_CTRL_SELF_RX || u.canMode port == 4 then u.canTake port a.at_ a.frame true a.locked else u
        let t := s.setCan port { s.canSt port with act := none }
        let t := t.setCan port { t.canSt port with zq := (t.canSt port).zq.erase f }
        ((own t).zSent port f).canLater port))
  ∧ (∀ (s : State) (port outcome lec : Nat) (clash exempt : Bool) (a : CanTry) (f : ZoneFrame),
      s.node = nsSERVICE ∨ s.node = nsQUIET →
      (s.canSt port).act = some a →
      a.buf = none →
      a.zone = some f →
      outcome ≠ 0 →
      exec (.canAttemptEnd port outcome lec clash exempt) s = .next (
        let p := canPg port
        let failed (u : State) : State :=
          if outcome = 1 then u.count p 4
          else
            let u := (u.count p 5).wr p CAN_ERR_LEC (lec % 8)
            if exempt || u.canFrozen port then u else u.canTecErr port
        let t := s.setCan port { s.canSt port with act := none }
        let t := failed t
        let t := if (f.kind = 1 ∧ t.zState port ≠ zsCOMMITTING) ∨ (f.kind = 0 ∧ t.zState port ≠ zsAGREEING) then
          t.setCan port { t.canSt port with zq := (t.canSt port).zq.erase f } else t
        t.canLater port))
  ∧ (∀ (s : State) (port k : Nat),
      port < 8 →
      s.enabled (canPg port) = true →
      s.canState port = 2 →
      s.on (canPg port) CAN_STAT_STANDBY = false →
      s.canDark port = false →
      4 ≤ s.rd pgPWRST PWRST_STATE_STEP →
      s.node ≠ nsHOLD →
      k = s.rd (canPg port) CAN_ERR_RECOV + 1 →
      exec (.canIntegrated port) s = .next (
        if 128 ≤ k then s.canRecovered port else s.wr (canPg port) CAN_ERR_RECOV k))

/-- On a CAN page that takes commands REQUEST acts on a buffer and returns its result, CANCEL returns a pending buffer
to IDLE, RELEASE ends CLASH; detection starts on an enabled port in detect mode and moves on at the end of each dwell,
after the last candidate to its end. A cycle of a schedule, running or due to begin, starts at its boundary, where a
new schedule is loaded first; a slot window of the cycle opens where the schedule runs and the zone is open to it,
else it is counted, and it ends at its end, with a miss for a buffer that it was for and that was not sent. Rests on
R429, R433, R435, R436, R441. -/
def Obligations.CanBuffersAndScheduleTakeEffect : Prop :=
  (∀ (s : State) (ini : Initiator) (port buf : Nat),
      s.takes (canPg port) = true →
      port < 8 →
      buf < 32 →
      exec (.canRequest ini port buf) s = .next ((s.canRequest port buf).1.canRes ini port (s.canRequest port buf).2))
  ∧ (∀ (s : State) (ini : Initiator) (port buf : Nat),
      s.takes (canPg port) = true →
      port < 8 →
      buf < 32 →
      ((s.canSt port).bufAt buf).st = 1 →
      exec (.canCancel ini port buf) s = .next (
        ((s.setCan port ((s.canSt port).setBuf buf { (s.canSt port).bufAt buf with
              st := 0, last := 2, latched := false, inj := none })).count (canPg port) 11).canRes ini port 0))
  ∧ (∀ (s : State) (ini : Initiator) (port buf : Nat),
      s.takes (canPg port) = true →
      port < 8 →
      buf < 32 →
      ((s.canSt port).bufAt buf).st = 3 →
      exec (.canRelease ini port buf) s = .next ((s.setCan port ((s.canSt port).setBuf buf
          { (s.canSt port).bufAt buf with st := 0, clash := 0 })).canRes ini port 0))
  ∧ (∀ (s : State) (port t y : Nat) (u : State),
      port < 8 →
      s.enabled (canPg port) = true →
      bitAt (s.canSt port).sched 0 = true →
      y = (s.canSt port).sched →
      t = boundary (match (s.canSt port).cycle with | some c => max s.ringNow (c + 1) | none => s.ringNow)
            (cycleLen y) (schedPhase y) →
      u = (if (s.canSt port).schedNew && (t - schedPhase y) / cycleLen y % matrixLen y == 0 && (s.passRing t).locked
            then (s.passRing t).canLoad port else s.passRing t) →
      exec (.canCycleStart port) s = .next (
        let x := u.canSt port
        if bitAt x.sched 0 && decide ((t - schedPhase x.sched) % cycleLen x.sched ≠ 0) then u.setCan port
            { x with cycle := none, win := none }
        else if bitAt x.sched 0 then
          ((u.setCan port { x with cycle := some t }).wr (canPg port) CAN_SCHED_STAT_RUNNING (b2n u.locked)).wr (canPg port)
            CAN_SCHED_STAT_CYCLE_CNT ((t - schedPhase x.sched) / cycleLen x.sched % matrixLen x.sched)
        else (u.setCan port { x with cycle := none, win := none }).wr (canPg port) CAN_SCHED_STAT_RUNNING 0))
  ∧ (∀ (s : State) (port slot c a b : Nat) (u : State),
      (s.canSt port).cycle = some c →
      (s.canSt port).slots.find? (fun e => e.1 == slot) = some (slot, a, b) →
      bitAt (s.canSt port).sched 0 = true →
      slotApplies b ((c - schedPhase (s.canSt port).sched) / cycleLen (s.canSt port).sched % matrixLen (s.canSt port).sched)
          = true →
      u = s.passRing (c + slotStart a) →
      u.locked = true →
      u.on (canPg port) CAN_SCHED_STAT_RUNNING = true →
      u.zoneOpen port = true →
      slotKind a ≠ 1 →
      exec (.canWindowStart port slot) s = .next (
        let x := s.canSt port
        let q := if u.zoneTalks port then none else x.claim (c + slotStart a)
        u.setCan port { x with win := some { slot := slot, till := c + slotStart a + slotWin a, buf := q, claimed := q.isSome } }))
  ∧ (∀ (s : State) (port : Nat) (x : CanWin),
      (s.canSt port).win = some x →
      x.buf = none →
      exec (.canWindowEnd port) s = .next ((s.passRing x.till).setCan port { s.canSt port with win := none }))
  ∧ (∀ (s : State) (port : Nat),
      s.takes (canPg port) = true →
      port < 8 →
      s.enabled (canPg port) = true →
      s.canMode port = 3 →
      s.on (canPg port) CAN_DET_STAT_RUNNING = false →
      exec (.canDetectStart port) s = .next (
        let p := canPg port
        let t := ((s.wr p CAN_DET_STAT_RUNNING 1).wr p CAN_DET_STAT_DONE 0).wr p CAN_DET_STAT_FOUND 0
        let t := t.wr p CAN_DET_STAT_MIN_PULSE 0xFFFF
        t.setCan port { t.canSt port with cand := 0, good := 0, dwellEnd := t.now + 1000000 * max 1 (t.rd p CAN_DET_CTRL_DWELL) }))
  ∧ (∀ (s : State) (port pulse : Nat) (u : State),
      port < 8 →
      s.on (canPg port) CAN_DET_STAT_RUNNING = true →
      u = (s.passTo (s.canSt port).dwellEnd).canPulse port pulse →
      (s.canSt port).cand < u.rd (canPg port) CAN_DET_CTRL_CANDS →
      exec (.canDetectDwell port pulse) s = .next (u.setCan port
          { s.canSt port with cand := (s.canSt port).cand + 1, good := 0, dwellEnd := u.now + 1000000 * max 1 (u.rd (canPg port) CAN_DET_CTRL_DWELL) }))
  ∧ (∀ (s : State) (port t y : Nat) (u : State),
      s.locked = true →
      port < 8 →
      s.enabled (canPg port) = true →
      bitAt (s.canSt port).sched 0 = false →
      (s.canSt port).schedNew = true →
      y = (s.word (canPg port) 0x10C).toNat →
      bitAt y 0 = true →
      t = boundary s.ringNow (cycleLen y * matrixLen y) (schedPhase y) →
      u = (if (t - schedPhase y) / cycleLen y % matrixLen y == 0 && (s.passRing t).locked
            then (s.passRing t).canLoad port else s.passRing t) →
      exec (.canCycleStart port) s = .next (
        let x := u.canSt port
        if bitAt x.sched 0 && decide ((t - schedPhase x.sched) % cycleLen x.sched ≠ 0) then u.setCan port
            { x with cycle := none, win := none }
        else if bitAt x.sched 0 then
          ((u.setCan port { x with cycle := some t }).wr (canPg port) CAN_SCHED_STAT_RUNNING (b2n u.locked)).wr (canPg port)
            CAN_SCHED_STAT_CYCLE_CNT ((t - schedPhase x.sched) / cycleLen x.sched % matrixLen x.sched)
        else (u.setCan port { x with cycle := none, win := none }).wr (canPg port) CAN_SCHED_STAT_RUNNING 0))
  ∧ (∀ (s : State) (port slot c a b : Nat) (u : State),
      (s.canSt port).cycle = some c →
      (s.canSt port).slots.find? (fun e => e.1 == slot) = some (slot, a, b) →
      bitAt (s.canSt port).sched 0 = true →
      slotApplies b ((c - schedPhase (s.canSt port).sched) / cycleLen (s.canSt port).sched % matrixLen (s.canSt port).sched)
          = true →
      u = s.passRing (c + slotStart a) →
      u.locked = true →
      u.on (canPg port) CAN_SCHED_STAT_RUNNING = true →
      u.zoneOpen port = true →
      slotKind a = 1 →
      exec (.canWindowStart port slot) s = .next (
        let v := (s.canSt port).bufAt (slotBuf a)
        let t := if bitAt v.ctl 7 && v.st == 0 && !u.badFrame port v then u.canPend port (slotBuf a) none else u
        t.setCan port { t.canSt port with
          win := some { slot := slot, till := c + slotStart a + slotWin a, buf := some (slotBuf a), claimed := true } }))
  ∧ (∀ (s : State) (port slot c a b : Nat) (u : State),
      (s.canSt port).cycle = some c →
      (s.canSt port).slots.find? (fun e => e.1 == slot) = some (slot, a, b) →
      bitAt (s.canSt port).sched 0 = true →
      slotApplies b ((c - schedPhase (s.canSt port).sched) / cycleLen (s.canSt port).sched % matrixLen (s.canSt port).sched)
          = true →
      u = s.passRing (c + slotStart a) →
      u.locked = false ∨ u.on (canPg port) CAN_SCHED_STAT_RUNNING = false ∨ (u.zoneOpen port = false ∧ (slotKind a = 1
          ∨ u.zoneTalks port = false)) →
      exec (.canWindowStart port slot) s = .next (u.count (canPg port) 9))
  ∧ (∀ (s : State) (port b : Nat) (x : CanWin),
      (s.canSt port).win = some x →
      x.buf = some b →
      exec (.canWindowEnd port) s = .next (
        let t := (s.passRing x.till).setCan port { s.canSt port with win := none }
        if x.claimed && !x.sent && ((s.canSt port).bufAt b).st == 1 then t.canMiss port b else t))
  ∧ (∀ (s : State) (port pulse : Nat) (u : State),
      port < 8 →
      s.on (canPg port) CAN_DET_STAT_RUNNING = true →
      u = (s.passTo (s.canSt port).dwellEnd).canPulse port pulse →
      u.rd (canPg port) CAN_DET_CTRL_CANDS ≤ (s.canSt port).cand →
      exec (.canDetectDwell port pulse) s = .next (u.canDetectEnd port none))

/-- On a zone page that takes commands SLEEP of an awake zone with members, whose port is enabled in normal mode,
starts the agreement, and WAKE wakes a zone. Outside HOLD: the agreement that times out is aborted; the end of
ENTERING leaves the zone asleep, and a wake latched meanwhile wakes it one cycle later; the wake pulse ends with its
response timer; at the end of that timer a zone that was answered is awake, one with tries left starts the next pulse,
and one without stays asleep with its fault. The local line wakes a zone outside its pulse and blanking, and a wake on
the bus a sleeping CAN zone. Rests on R443, R444, R445, R446, R447, R457. -/
def Obligations.ZoneCommandsTakeEffect : Prop :=
  (∀ (s : State) (ini : Initiator) (zone : Nat),
      s.takes pgZONE = true →
      zone < 8 →
      (s.node == nsQUIET) = false →
      s.node ≠ nsHOLD →
      s.zState zone = zsAWAKE →
      s.enabled (canPg zone) = true →
      s.canMode zone = 0 →
      s.zRd zone ZONEz_MEMBERS_MEMBERS ≠ 0 →
      exec (.zoneSleep ini zone) s = .next (
        let q := (s.zRd zone ZONEz_STAT_SEQ + 1) % 256
        let t := ((s.zRes ini 0).zWr zone ZONEz_STAT_SEQ q).zWr zone ZONEz_REPLIED_REPLIED 0
        let t := ((t.zWr zone ZONEz_STAT_WAKE_SRC 0).zWr zone ZONEz_STAT_WAKE_LATCHED 0).zMove zone zsAGREEING
        let t := t.setZone zone { t.zoneSt zone with till := none, committed := false }
        t.zFrame zone (t.zRd zone ZONEz_IDS_A_REQ_ID) 0 [BitVec.ofNat 8 q]))
  ∧ (∀ (s : State) (ini : Initiator) (zone : Nat),
      s.takes pgZONE = true →
      zone < 8 →
      exec (.zoneWake ini zone) s = .next ((s.zRes ini 0).zWake zone 3))
  ∧ (∀ (s : State) (zone t : Nat),
      (s.zoneSt zone).till = some t →
      s.zState zone = zsAGREEING →
      s.node ≠ nsHOLD →
      exec (.zoneAgreeTimeout zone) s = .next ((s.passTo t).zAbort zone 3 false))
  ∧ (∀ (s : State) (zone t : Nat),
      (s.zoneSt zone).till = some t →
      s.zState zone = zsENTERING →
      s.node ≠ nsHOLD →
      (((s.passTo t).zAsleep zone 1).count pgZONE zone).zRd zone ZONEz_STAT_WAKE_LATCHED = 0 →
      exec (.zoneEnterDone zone) s = .next (((s.passTo t).zAsleep zone 1).count pgZONE zone))
  ∧ (∀ (s : State) (zone : Nat),
      zone < 8 →
      (s.zoneSt zone).pulse = false →
      (s.zoneSt zone).ignoreTill ≤ s.now →
      exec (.zoneLineWake zone) s = .next (s.zWake zone 0))
  ∧ (∀ (s : State) (zone : Nat),
      zone < 8 →
      s.zState zone = zsASLEEP →
      s.zRd zone ZONEz_CFG_KIND = 0 →
      exec (.zoneBusWake zone) s = .next (s.zWake zone 1))
  ∧ (∀ (s : State) (zone t : Nat),
      (s.zoneSt zone).till = some t →
      s.zState zone = zsWAKING →
      (s.zoneSt zone).pulse = true →
      s.node ≠ nsHOLD →
      exec (.zoneWakePulseEnd zone) s = .next (
        let u := s.passTo t
        u.setZone zone { u.zoneSt zone with
          pulse := false, ignoreTill := u.now + 10000, till := some (u.now + 1000000 * max 1 (u.zRd zone ZONEz_TIMING_WAKE_RSP)) }))
  ∧ (∀ (s : State) (zone t : Nat),
      (s.zoneSt zone).till = some t →
      s.zState zone = zsWAKING →
      (s.zoneSt zone).pulse = false →
      s.node ≠ nsHOLD →
      (s.passTo t).zRd zone ZONEz_REPLIED_REPLIED = 0 →
      max 1 ((s.passTo t).zRd zone ZONEz_CFG_WAKE_TRIES) ≤ (s.passTo t).zRd zone ZONEz_STAT_TRIES →
      exec (.zoneWakeRspTimeout zone) s = .next (((((s.passTo t).zAsleep zone 7).irq pgZONE 6).count pgZONE (16 +
          zone)).fault pgZONE 0x24 1 0))
  ∧ (∀ (s : State) (zone t : Nat),
      (s.zoneSt zone).till = some t →
      s.zState zone = zsWAKING →
      (s.zoneSt zone).pulse = false →
      s.node ≠ nsHOLD →
      (s.passTo t).zRd zone ZONEz_REPLIED_REPLIED = 0 →
      (s.passTo t).zRd zone ZONEz_STAT_TRIES < max 1 ((s.passTo t).zRd zone ZONEz_CFG_WAKE_TRIES) →
      exec (.zoneWakeRspTimeout zone) s = .next (
        let u := s.passTo t
        let u := u.zWr zone ZONEz_STAT_TRIES (u.zRd zone ZONEz_STAT_TRIES + 1)
        u.setZone zone { u.zoneSt zone with till := some (u.zPulseEnd zone), pulse := true }))
  ∧ (∀ (s : State) (zone t : Nat),
      (s.zoneSt zone).till = some t →
      s.zState zone = zsENTERING →
      s.node ≠ nsHOLD →
      (((s.passTo t).zAsleep zone 1).count pgZONE zone).zRd zone ZONEz_STAT_WAKE_LATCHED = 1 →
      exec (.zoneEnterDone zone) s = .next ((State.pass (((s.passTo t).zAsleep zone 1).count pgZONE zone) 1).zWaking zone))
  ∧ (∀ (s : State) (zone t : Nat),
      (s.zoneSt zone).till = some t →
      s.zState zone = zsWAKING →
      (s.zoneSt zone).pulse = false →
      s.node ≠ nsHOLD →
      (s.passTo t).zRd zone ZONEz_REPLIED_REPLIED ≠ 0 →
      exec (.zoneWakeRspTimeout zone) s = .next ((((s.passTo t).zAwake zone 6).irq pgZONE 5).count pgZONE (8 + zone)))

/-- Undervoltage turns off every sluice that ramps or is on, and none ramps before VIN has recovered; overvoltage and
thermal shutdown are recorded with interrupt, counter and fault and act on the sluices; recovery and the end of a
thermal shutdown clear them; a silent link to the logic die is recorded and its end delivers the missed counts and a
tamper alarm raised meanwhile; the PFW pins and the tamper alarm set their bits; a sample stores its measurements.
Rests on R461, R472, R475, R476, R478, R479, R662. -/
def Obligations.PowerDieEventsTakeEffect : Prop :=
  (∀ (s : State),
      exec (.vinUndervolt) s = .next (
        let t := (List.range 8).foldl (fun (t : State) n => if t.sluState n = 1 ∨ t.sluState n = 2 then t.sluTo n 0 else t) s
        State.wr { t with pwd := { t.pwd with waitVin := true } } pgPWD PWD_STAT_VIN_OK 0))
  ∧ (∀ (s : State),
      s.on pgPWD PWD_STAT_OV = false →
      exec (.vinOvervolt) s = .next (((((s.wr pgPWD PWD_STAT_OV 1).pirq pgPWD 4).pcount pgPWD 2).pfault pgPWD 0x26
          1).overvoltOff))
  ∧ (∀ (s : State),
      s.on pgPWD PWD_STAT_OV = true →
      exec (.vinOvRecover) s = .next ((List.range 8).foldl (fun (t : State) n => if t.sluState n = 4
          ∧ t.on (sluPg n) SLU_STAT_LEVEL then t.sluRamp n else t) (s.wr pgPWD PWD_STAT_OV 0)))
  ∧ (∀ (s : State),
      s.on pgPWD PWD_STAT_THERMAL = false →
      exec (.pwdThermal) s = .next ((List.range 8).foldl (fun (t : State) n => t.sluFault n 5) ((((s.wr pgPWD
          PWD_STAT_THERMAL 1).pirq pgPWD 6).pcount pgPWD 5).pfault pgPWD 0x27 1)))
  ∧ (∀ (s : State),
      exec (.pwdThermalClear) s = .next (s.wr pgPWD PWD_STAT_THERMAL 0))
  ∧ (∀ (s : State),
      s.pwd.silent = false →
      s.held = [] →
      exec (.dieLinkSilence) s = .next (
        let t := s.fault pgPWD 0x25 1 0
        { t with pwd := { t.pwd with silent := true, sampleAt := none, view := t.diePages } }))
  ∧ (∀ (s : State),
      s.pwd.silent = true →
      exec (.dieLinkResumed) s = .next (
        let t : State := { s with pwd := { s.pwd with silent := false, view := [], alarm := false } }
        let t := ((t.missedCounts.pirq pgPWD 5).pcount pgPWD 3).sluSafeAll
        if s.pwd.alarm && s.held.isEmpty then t.tamperAct else t))
  ∧ (∀ (s : State),
      s.on pgPWD PWD_STAT_PFW1 = false →
      exec (.pfwAssert 1) s = .next (((s.wr pgPWD PWD_STAT_PFW1 1).pirq pgPWD 3).pcount pgPWD 1))
  ∧ (∀ (s : State),
      s.on pgPWD PWD_STAT_PFW0 = false →
      exec (.pfwAssert 0) s = .next (
        let t := ((s.wr pgPWD PWD_STAT_PFW0 1).pirq pgPWD 2).pcount pgPWD 0
        { t with pwd := { t.pwd with pfwCount := (t.pwd.pfwCount + 1) % 2 ^ 32 } }))
  ∧ (∀ (s : State) (pin : Nat),
      pin < 2 →
      exec (.pfwDeassert pin) s = .next (s.wr pgPWD (if pin = 0 then PWD_STAT_PFW0 else PWD_STAT_PFW1) 0))
  ∧ (∀ (s : State),
      s.on pgPWD PWD_STAT_TAMPER = false →
      (s.wr pgPWD PWD_STAT_TAMPER 1).dieHeard = true →
      exec (.tamperAlarm) s = .next ((s.wr pgPWD PWD_STAT_TAMPER 1).tamperAct))
  ∧ (∀ (s : State) (vin temp t : Nat) (vout sense : List Nat),
      s.pwd.sampleAt = some t →
      exec (.pwdTelemetrySample vin temp vout sense) s = .next (
        let u := ((s.passTo (t + 100000)).wr pgPWD PWD_VIN_VIN (min 0xFFFF vin)).wr pgPWD PWD_TEMP_TEMP temp
        let u := u.wr pgPWD PWD_VIN_VIN_MIN (min (min 0xFFFF vin) (u.rd pgPWD PWD_VIN_VIN_MIN))
        let u := u.wr pgPWD PWD_STAT_VIN_OK (b2n (decide (15500 < vin)))
        let u := (List.range 8).foldl (fun (u : State) n => u.sluSample n vin (vout.getD n 0) (sense.getD n 0)) u
        if u.pwd.silent then u else u.dieSample))
  ∧ (∀ (s : State),
      s.takes pgPWD = true →
      s.pwd.silent = false →
      exec (.clearMin) s = .next (s.wr pgPWD PWD_VIN_VIN_MIN 0xFFFF))
  ∧ (∀ (s : State),
      s.pwd.silent = false →
      s.held ≠ [] →
      exec (.dieLinkSilence) s = .next ({ s with pwd := { s.pwd with silent := true, sampleAt := none, view := s.diePages } }))
  ∧ (∀ (s : State),
      s.on pgPWD PWD_STAT_TAMPER = false →
      (s.wr pgPWD PWD_STAT_TAMPER 1).dieHeard = false →
      exec (.tamperAlarm) s = .next (
        let t := s.wr pgPWD PWD_STAT_TAMPER 1
        { t with pwd := { t.pwd with alarm := t.pwd.alarm || t.pwd.silent } }))

/-- A sluice that ramps or is on enters and leaves its limit, trips on a short, on its fault timer and on a ramp that
lasts too long, comes on at the end of its ramp, qualifies power-good and loses it, retries while its level is on; ON,
OFF and CLEAR act as R470 has it; the sluice of the hub itself ramps after 50 ms of input, and a power cycle turns it
off for OFF_TIME; a shorted FET is detected and its end leaves the sluice off. Rests on R464, R465, R466, R467, R468,
R470, R472, R473, R474. -/
def Obligations.SluicesTakeEffect : Prop :=
  (∀ (s : State) (sluice : Nat),
      sluice < 8 →
      s.sluState sluice = 1 ∨ s.sluState sluice = 2 →
      s.on (sluPg sluice) SLU_STAT_LIMIT = false →
      exec (.sluLimitEntry sluice) s = .next (
        let p := sluPg sluice
        let t := ((((s.sluTick sluice).wr p SLU_STAT_LIMIT 1).pcount p 1).pirq p 7)
        let t := t.setSluSt sluice { t.sluSt sluice with qualAt := t.now }
        if t.on p SLU_CFG_PG_MODE then t.sluPgDrop sluice false else t))
  ∧ (∀ (s : State) (sluice : Nat),
      s.on (sluPg sluice) SLU_STAT_LIMIT = true →
      exec (.sluLimitExit sluice) s = .next (
        let t := (s.sluTick sluice).wr (sluPg sluice) SLU_STAT_LIMIT 0
        t.setSluSt sluice { t.sluSt sluice with qualAt := t.now + 1000 }))
  ∧ (∀ (s : State) (sluice : Nat),
      sluice < 8 →
      s.sluState sluice ≠ 3 →
      s.sluState sluice ≠ 5 →
      exec (.sluShortTrip sluice) s = .next (s.sluFault sluice 2))
  ∧ (∀ (s : State) (sluice : Nat),
      s.on (sluPg sluice) SLU_STAT_LIMIT = true →
      exec (.sluTimerTrip sluice) s = .next ((s.passTo ((s.sluSt sluice).ftAt + (max 1 (s.rd (sluPg sluice) SLU_CFG_TIMER) *
          100 - s.rd (sluPg sluice) SLU_FTIMER_COUNT) * 1000)).sluFault sluice 1))
  ∧ (∀ (s : State) (sluice : Nat),
      s.sluState sluice = 1 →
      exec (.sluRampDone sluice) s = .next (
        let t := s.sluTo sluice 2
        t.setSluSt sluice { t.sluSt sluice with qualAt := t.now }))
  ∧ (∀ (s : State) (sluice : Nat),
      s.sluState sluice = 1 →
      exec (.sluRampTimeout sluice) s = .next ((s.passTo ((s.sluSt sluice).rampAt + 4 * (s.sluSt sluice).rampMs *
          1000000)).sluFault sluice 3))
  ∧ (∀ (s : State) (sluice : Nat),
      s.sluState sluice = 2 →
      s.on (sluPg sluice) SLU_STAT_LIMIT = false →
      s.on (sluPg sluice) SLU_STAT_PG = false →
      exec (.sluPgQualify sluice) s = .next (
        let p := sluPg sluice
        let t := s.passTo ((s.sluSt sluice).qualAt + max 1 (s.rd p SLU_CFG2_PG_QUAL) * 100000)
        let t := (t.wr p SLU_STAT_PG 1).pirq p 4
        t.setSluSt sluice { t.sluSt sluice with pgAt := t.now }))
  ∧ (∀ (s : State) (sluice : Nat),
      sluice < 8 →
      exec (.voutBelowPgFloor sluice) s = .next (s.sluPgDrop sluice false))
  ∧ (∀ (s : State) (sluice t : Nat),
      (s.sluSt sluice).retryAt = some t →
      s.sluState sluice = 3 →
      s.on (sluPg sluice) SLU_STAT_LEVEL = true →
      s.sluMayRetry sluice = true →
      (s.pwd.waitVin || s.rd (sluPg sluice) SLU_STAT_CAUSE == 5 && s.on pgPWD PWD_STAT_THERMAL) = false →
      exec (.sluRetry sluice) s = .next (
        let p := sluPg sluice
        let u := s.passTo (t + max 1 (s.rd p SLU_RETRY_RETRY_DELAY) * 100000000)
        (((u.wr p SLU_STAT_RETRIES (satInc 15 (u.rd p SLU_STAT_RETRIES))).pcount p 5)).sluRamp sluice))
  ∧ (∀ (s : State) (sluice : Nat),
      s.on (sluPg sluice) SLU_STAT_PG = true →
      exec (.sluRetryCountClear sluice) s = .next ((s.passTo ((s.sluSt sluice).pgAt + 1000000000)).wr (sluPg sluice)
          SLU_STAT_RETRIES 0))
  ∧ (∀ (s : State) (sluice : Nat),
      s.sluTakes sluice = true →
      sluice ≠ 0 →
      s.on (sluPg sluice) SLU_CFG_SRC = true →
      s.sluSafeSrc = false →
      s.sluState sluice ≠ 5 →
      exec (.sluOn sluice) s = .next (s.sluLevel sluice true))
  ∧ (∀ (s : State) (sluice : Nat),
      s.sluTakes sluice = true →
      sluice ≠ 0 →
      s.on (sluPg sluice) SLU_CFG_SRC = true →
      s.sluSafeSrc = false →
      s.sluState sluice ≠ 5 →
      exec (.sluOff sluice) s = .next (s.sluLevel sluice false))
  ∧ (∀ (s : State) (sluice : Nat),
      s.sluTakes sluice = true →
      s.sluState sluice = 3 →
      exec (.sluClear sluice) s = .next (
        if s.on (sluPg sluice) SLU_STAT_LEVEL then s.sluRamp sluice else s.sluTo sluice 0))
  ∧ (∀ (s : State),
      s.sluState 0 = 0 →
      s.pwd.offTill = none →
      s.pwd.waitVin = false →
      exec (.slu0StartupRamp) s = .next (((s.passTo (s.pwd.vinAt + 50000000)).wr pgPWD PWD_STAT_VIN_OK 1).sluRamp 0))
  ∧ (∀ (s : State) (offTime : Nat),
      s.takes pgPWD = true →
      s.pwd.silent = false →
      exec (.powerCycle offTime 0xC3) s = .next (
        let t := (s.count pgPWD 4).sluOffForCycle
        { t with pwd := { t.pwd with offTill := some (t.now + max 1 (offTime % 256) * 100000000) } }))
  ∧ (∀ (s : State) (t : Nat),
      s.pwd.offTill = some t →
      exec (.powerCycleRamp) s = .next (
        let u := s.passTo t
        let u : State := { u with pwd := { u.pwd with offTill := none } }
        if u.sluState 0 = 5 then u else u.sluRamp 0))
  ∧ (∀ (s : State) (sluice : Nat),
      sluice < 8 →
      s.sluState sluice = 0 ∨ s.sluState sluice = 3 →
      exec (.sluFetShortDetect sluice) s = .next (((((s.sluTo sluice 5).wr (sluPg sluice) SLU_STAT_CAUSE 6).pirq (sluPg
          sluice) 5).pcount (sluPg sluice) 6).pfault (sluPg sluice) 0x29 1))
  ∧ (∀ (s : State) (sluice : Nat),
      s.sluState sluice = 5 →
      exec (.sluFetShortClear sluice) s = .next (s.sluTo sluice 0))
  ∧ (∀ (s : State) (sluice : Nat) (on_ : Bool),
      s.sluTakes sluice = true →
      sluice = 0 ∨ s.on (sluPg sluice) SLU_CFG_SRC = false ∨ s.sluSafeSrc = true ∨ s.sluState sluice = 5 →
      exec (if on_ then .sluOn sluice else .sluOff sluice) s = .next (s.irq (sluPg sluice) 6))
  ∧ (∀ (s : State) (sluice : Nat),
      s.sluTakes sluice = true →
      s.sluState sluice = 5 →
      exec (.sluClear sluice) s = .next (s.irq (sluPg sluice) 6))

/-- Each of BRG_WRITE_RX, BRG_READ_RX, BRG_WAIT_EXPIRED and BRG_POSTED_ERR_RX completes, on conditions on the state
alone. Wherever a BRG_WRITE is the next access of the bridge, BRG_WRITE_RX takes it and answers a next state: the
write is checked in sequence; one that the hub does not admit is reported DENIED, one of no whole words ALIGN, and any
other is executed, held where a FIFO has no room, and reported where it fails. Wherever a BRG_READ is the next access,
BRG_READ_RX takes it and answers the next state in which it has been answered. Wherever a write is held,
BRG_WAIT_EXPIRED answers the next state in which it is reported WAIT_EXPIRED and waits no longer. Wherever a posted
error waits at the bridge, BRG_POSTED_ERR_RX answers the next state in which it is in the log, one that is LOST with
an entry for each write of it that the hub remembers. Rests on R486, R488, R489, R490, R493, R495, R498. -/
def Obligations.BridgeAsTargetTakesEffect : Prop :=
  (∀ (s : State),
      s.nextAccess = some tBRG_WRITE →
      ∃ (r : RxCell) (u : State), s.takeCell 2 tBRG_WRITE = some (r, u) ∧
        exec .brgWriteRx s = .next (
          let p := r.cell.payload
          let addr := beAt p 0 4 % 2 ^ 29
          let n := p.length - 16
          let t := u.checkWrite r.cell.src (beAt p 8 2)
          let deny := !t.on pgBRG BRG_CFG_REMOTE_WR
          if deny && inPages addr && !decide (addr < demandAddr + 8 ∧ demandAddr < addr + n) then t.reportWrite r stDENIED
          else if n % 4 ≠ 0 then (t.count pgBRG 2).reportWrite r stALIGN
          else
            let x := (t.count pgBRG 2).writeLocal .bridge addr (leWords (n / 4) (p.drop 16))
              (fun (t : State) point value => t.demandRemote r.cell.src r.cell.origin point value) (fun t => t.multicast
                  .bridge) deny
            if !x.rest.isEmpty then
              let t : State := { x.s with brg := { x.s.brg with held := some (r, x.s.now) } }
              (t.count pgBRG 11).waitWords x.rest { ini := .bridge, data := 0, fin := false, at_ := 0, prior := x.status }
            else
              let t := if x.status = stWAIT_EXPIRED then (x.s.count pgBRG 11).count pgBRG 12 else x.s
              if x.status = stOK then t else t.reportWrite r x.status))
  ∧ (∀ (s : State),
      s.nextAccess = some tBRG_READ →
      ∃ (r : RxCell) (u : State), s.takeCell 2 tBRG_READ = some (r, u) ∧
        exec .brgReadRx s = .next (
          let p := r.cell.payload
          let x := ((u.checkRead r.cell.src (beAt p 8 2)).count pgBRG 3).readLocal Initiator.bridge.num (beAt p 0 4 % 2 ^ 29)
            (beAt p 6 2 % 512 + beAt p 10 2 % 512)
          x.1.respond r.cell.src (beAt p 5 1 % 32) (beAt p 12 1) x.2.1 (if x.2.1 = stOK then wordBytes x.2.2.2 else [])))
  ∧ (∀ (s : State),
      s.brg.held.isSome = true →
      ∃ (r : RxCell) (t : Nat), s.brg.held = some (r, t) ∧
        exec .brgWaitExpired s = .next (
          let u := s.passTo (t + 10000 * max 1 (s.rd pgBRG BRG_CFG_BRG_WAIT))
          let u := (u.lane.map (·.1)).foldl (fun (v : State) n =>
            v.setLane n { v.laneSt n with wait := (v.laneSt n).wait.filter (fun (x : LaneWait) => x.ini != .bridge) }) u
          let u : State := { u with brg := { u.brg with held := none }
                                    hk := { u.hk with waits := u.hk.waits.filter (fun (x : HkWait) => x.how.ini != Initiator.bridge) } }
          (u.count pgBRG 12).reportWrite r stWAIT_EXPIRED))
  ∧ (∀ (s : State),
      (s.consQ 2).any (fun x => x.cell.typ == tBRG_POSTED_ERR) = true →
      ∃ (r : RxCell) (u : State), s.takeCell 2 tBRG_POSTED_ERR = some (r, u) ∧
        exec .brgPostedErrRx s = .next (
          let p := r.cell.payload
          let x := r.cell.src
          let kind := beAt p 4 1 / 16
          let t := u.count pgBRG 5
          let multi := bitAt (beAt p 5 1) 0
          let found := (lostSeqs (beAt p 10 2) (beAt p 8 2)).filterMap (fun y => t.brg.hist.find? (fun h => h.target == x &&
              h.wseq == y))
          if kind ≠ stLOST then
            t.perrAdd (perrEntry (beAt p 12 8) (x * 2 ^ 29 + beAt p 0 4 % 2 ^ 29) (beAt p 4 1 % 16) kind (beAt p 6 2) (beAt p
                8 2) 1 multi
              false false t.ringNow)
          else if found.isEmpty then
            t.perrAdd (perrEntry (beAt p 12 8) (x * 2 ^ 29) 0xF kind 0xFFFF (beAt p 8 2) (beAt p 10 2) multi true false
                t.ringNow)
          else
            found.foldl (fun (t : State) h =>
              t.perrAdd (perrEntry (beAt p 12 8) (x * 2 ^ 29 + h.addr) h.initiator kind h.tag h.wseq 1 multi false false
                  t.ringNow)) t))

/-- On a hub that is not held a write of a port to another hub is posted; it is answered OK at once, or when the cell
of it that waits for admission last is admitted. A remote read of 4 to 256 bytes in words takes a context or waits for
one, and a waiting one takes a context that is free. A response to a context or a slot is kept until all parts are
there, and then gives its data, a status other than OK ends the read, and a response that names no open context is
counted; a read that gets none times out. The prefetch entry that expires first leaves. On a BRG page that takes
commands a collection request of 4 to 256 bytes to another hub takes a free slot, else it gets its result; a ready
slot is collected or, at its expiry, discarded; MULTICAST_SEND sends the write described by the registers. Rests on
R487, R494, R495, R496, R497, R501, R502. -/
def Obligations.BridgeAsInitiatorTakesEffect : Prop :=
  (∀ (s : State) (ini : Initiator) (node addr : Nat) (words : List Nat),
      s.iniServes ini = true →
      s.isHere node = false →
      ini ≠ .bridge →
      s.noAuth ini true addr (4 * words.length) = false →
      exec (.brgWriteIssue ini node addr words) s = .next (
        let t := State.post (words.length + 1) s node addr ini.num (s.tagOf ini) (wordBytes words)
        match t.sw.waiting.getLast? with
        | some w =>
          if s.sw.waiting.length < t.sw.waiting.length then
            { t with sw := { t.sw with waiting := t.sw.waiting.dropLast ++ [{ w with ack := some ini }] } }
          else t.rsp ini stOK []
        | none => t.rsp ini stOK []))
  ∧ (∀ (s : State) (ini : Initiator) (node addr len : Nat),
      s.iniServes ini = true →
      s.isHere node = false →
      ini ≠ .bridge →
      len ≠ 0 →
      len ≤ 256 →
      len % 4 = 0 →
      s.noAuth ini false addr len = false →
      exec (.brgReadIssue ini node addr len) s = .next (s.readIssue ini node addr len))
  ∧ (∀ (s : State) (c : ReadCtx) (l : List ReadCtx) (t : State),
      s.brg.waiting = c :: l →
      s.grant c = some t →
      exec (.readContextGrant) s = .next ({ t with brg := { t.brg with waiting := l } }))
  ∧ (∀ (s : State) (r : RxCell) (u : State),
      s.takeCell 2 tBRG_READ_RESP = some (r, u) →
      beAt r.cell.payload 0 1 % 32 < 8 →
      (u.rctx (beAt r.cell.payload 0 1 % 32)).used = true →
      (u.rctx (beAt r.cell.payload 0 1 % 32)).gen = beAt r.cell.payload 1 1 →
      exec (.brgReadRespRx) s = .next (
        let p := r.cell.payload
        let rid := beAt p 0 1 % 32
        let st := beAt p 2 1 % 16
        let c := u.rctx rid
        if st ≠ stOK then u.ctxDone rid st (List.replicate (c.len / 4) 0)
        else
          let m := c.parts.ins (beAt p 4 2 % 1024) (p.drop 8)
          if m.length < bitsOf (beAt p 3 1) 2 2 + 1 then u.setCtx rid { c with parts := m }
          else
            let d := partsData m
            (u.pfAdd c.node (c.addr + c.len) (d.drop c.len)).ctxDone rid stOK (leWords (c.len / 4) d)))
  ∧ (∀ (s : State) (rid : Nat),
      s.readHeld rid = false →
      rid < 8 →
      (s.rctx rid).used = true →
      exec (.brgReadTimeout rid) s = .next (
        let t := ((s.passTo ((s.rctx rid).at_ + s.readTmo)).count pgBRG 7).irq pgBRG 6
        t.ctxDone rid stTIMEOUT (List.replicate ((s.rctx rid).len / 4) 0)))
  ∧ (∀ (s : State) (e : PfEnt),
      s.brg.pf.foldl (fun (a : Option PfEnt) x => match a with
          | some y => if x.till < y.till then some x else a
          | none => some x) none = some e →
      exec (.prefetchExpiry) s = .next (
        let t := s.passTo e.till
        { t with brg := { t.brg with pf := t.brg.pf.erase e } }))
  ∧ (∀ (s : State) (ini : Initiator) (len a i : Nat) (t : State),
      s.takes pgBRG = true →
      4 ≤ len →
      len ≤ 256 →
      a = s.rd64 pgBRG BRG_CREQ_ADDR_LO_ADDR BRG_CREQ_ADDR_HI_ADDR 0 ini.num % 2 ^ 40 →
      s.isHere (a / 2 ^ 29) = false →
      s.takeSlot ini (a / 2 ^ 29) (a % 2 ^ 29) len = some (t, i) →
      exec (.collectRequest ini len) s = .next (
        let u := (t.wr pgBRG BRG_CREQ_RES_RESULT 0 0 ini.num).wr pgBRG BRG_CREQ_RES_SLOT i 0 ini.num
        u.wr pgBRG BRG_CREQ_RES_GEN (u.rd pgBRG BRG_SLOTn_STAT_GEN i) 0 ini.num))
  ∧ (∀ (s : State) (slot : Nat),
      s.takes pgBRG = true →
      s.rd pgBRG BRG_SLOTn_STAT_STATE slot = 2 →
      s.now < s.slotDue slot →
      exec (.slotCollect slot) s = .next (s.setSlot slot 0 0 0 {}))
  ∧ (∀ (s : State) (slot : Nat),
      s.rd pgBRG BRG_SLOTn_STAT_STATE slot = 2 →
      exec (.slotDiscard slot) s = .next (
        let t := s.passTo (s.slotDue slot)
        let u := t.setSlot slot 0 0 0 {}
        if t.slotDue slot ≤ t.now then (u.count pgBRG 15).irq pgBRG 5 else u))
  ∧ (∀ (s : State) (ini : Initiator),
      s.takes pgBRG = true →
      exec (.multicastSend ini) s = .next (s.multicast ini))
  ∧ (∀ (s : State) (r : RxCell) (u : State),
      s.takeCell 2 tBRG_READ_RESP = some (r, u) →
      8 ≤ beAt r.cell.payload 0 1 % 32 →
      beAt r.cell.payload 0 1 % 32 < 24 →
      u.rd pgBRG BRG_SLOTn_STAT_STATE (beAt r.cell.payload 0 1 % 32 - 8) = 1 →
      u.rd pgBRG BRG_SLOTn_STAT_GEN (beAt r.cell.payload 0 1 % 32 - 8) = beAt r.cell.payload 1 1 →
      exec (.brgReadRespRx) s = .next (
        let p := r.cell.payload
        let i := beAt p 0 1 % 32 - 8
        let st := beAt p 2 1 % 16
        let x := u.slotSt i
        if st ≠ stOK then u.slotReady i st []
        else
          let m := x.parts.ins (beAt p 4 2 % 1024) (p.drop 8)
          if m.length < bitsOf (beAt p 3 1) 2 2 + 1 then u.setSlot i 1 0 0 { x with parts := m }
          else u.slotReady i stOK ((partsData m).take x.len)))
  ∧ (∀ (s : State) (r : RxCell) (u : State),
      s.takeCell 2 tBRG_READ_RESP = some (r, u) →
      beAt r.cell.payload 0 1 % 32 < 8 →
      (u.rctx (beAt r.cell.payload 0 1 % 32)).used = false
          ∨ (u.rctx (beAt r.cell.payload 0 1 % 32)).gen ≠ beAt r.cell.payload 1 1 →
      exec (.brgReadRespRx) s = .next (u.count pgBRG 8))
  ∧ (∀ (s : State) (rid : Nat),
      s.readHeld rid = false →
      8 ≤ rid →
      rid < 24 →
      s.rd pgBRG BRG_SLOTn_STAT_STATE (rid - 8) = 1 →
      exec (.brgReadTimeout rid) s = .next ((((s.passTo ((s.slotSt (rid - 8)).at_ + s.readTmo)).count pgBRG 7).irq pgBRG
          6).slotReady (rid - 8) stTIMEOUT []))
  ∧ (∀ (s : State) (ini : Initiator) (len a : Nat),
      s.takes pgBRG = true →
      a = s.rd64 pgBRG BRG_CREQ_ADDR_LO_ADDR BRG_CREQ_ADDR_HI_ADDR 0 ini.num % 2 ^ 40 →
      len < 4 ∨ 256 < len ∨ s.isHere (a / 2 ^ 29) = true ∨ s.takeSlot ini (a / 2 ^ 29) (a % 2 ^ 29) len = none →
      exec (.collectRequest ini len) s = .next (s.wr pgBRG BRG_CREQ_RES_RESULT (if len < 4
          ∨ 256 < len then 2 else if s.isHere (a / 2 ^ 29) then 3 else 1) 0 ini.num))
  ∧ (∀ (s : State) (slot : Nat),
      s.takes pgBRG = true →
      s.rd pgBRG BRG_SLOTn_STAT_STATE slot = 2 →
      s.slotDue slot ≤ s.now →
      exec (.slotCollect slot) s = .next (((s.setSlot slot 0 0 0 {}).count pgBRG 15).irq pgBRG 5))
  ∧ (∀ (s : State) (ini : Initiator) (node addr : Nat) (words : List Nat) (w : Bool),
      s.iniServes ini = true →
      s.isHere node = false →
      ini ≠ .bridge →
      0 < words.length →
      words.length ≤ 64 →
      s.noAuth ini w addr (4 * words.length) = true →
      exec (if w then .brgWriteIssue ini node addr words else .brgReadIssue ini node addr (4 * words.length)) s =
        .next ((s.rsp ini stAUTH_REQUIRED []).count pgUSB 3))

/-- While the link is up, memory is enabled and the function is not in D3hot: a request of whole aligned words through
BAR0, and through an enabled BAR2 window that names this hub, is counted and executed on the local space, another one
through BAR0 completes with ALIGN, one through a window that is not enabled with UNMAPPED and one through BAR2 at an
unaligned address with ALIGN; whole aligned words through an enabled window that names another hub are posted there or
read from there; a request through BAR4 reads or writes the words of the MSI-X table and pending bits, and an MSI-X
table entry is written. A configuration write sets its bits and releases held messages. The link comes up, where its
bank has its supply, its PLL is locked and the port is on, with its speed, width and interrupt; it goes down, and is
reset by a hot reset. Rests on R510, R512, R515, R516, R518. -/
def Obligations.PcieCommandsTakeEffect : Prop :=
  (∀ (s : State) (write : Bool) (off len n : Nat) (data : List Nat),
      s.on pgPCIE PCIE_STAT_LINK_UP = true →
      s.pcie.mem = true →
      s.on pgPCIE PCIE_STAT_D3 = false →
      n = (if write then 4 * data.length else len) →
      (n == 8 && off % 8 == 4) = false →
      exec (.pcieRequest 0 write true off len data) s = .next ((s.count pgPCIE (b2n write)).pcieLocal false write (off % 2 ^
          29) (off % 2 ^ 29) n data))
  ∧ (∀ (s : State) (write : Bool) (off len n : Nat) (data : List Nat) (whole : Bool),
      s.on pgPCIE PCIE_STAT_LINK_UP = true →
      s.pcie.mem = true →
      s.on pgPCIE PCIE_STAT_D3 = false →
      n = (if write then 4 * data.length else len) →
      (whole && !(n == 8 && off % 8 == 4)) = true →
      (s.count pgPCIE (2 + b2n write)).on pgPCIE PCIE_WINk_EN (off / 2 ^ 24 % 64) = true →
      off % 2 ^ 24 % 4 = 0 →
      n % 4 = 0 →
      n ≠ 0 →
      (s.count pgPCIE (2 + b2n write)).isHere ((s.count pgPCIE (2 + b2n write)).rd pgPCIE PCIE_WINk_NODE (off / 2 ^ 24 % 64))
          = true →
      exec (.pcieRequest 2 write whole off len data) s = .next (
        let t := s.count pgPCIE (2 + b2n write)
        let k := off / 2 ^ 24 % 64
        let a := t.rd pgPCIE PCIE_WINk_BASE k * 2 ^ 24 + off % 2 ^ 24
        t.pcieLocal true write a (t.rd pgPCIE PCIE_WINk_NODE k * 2 ^ 29 + a) n data))
  ∧ (∀ (s : State) (mem bme msixEn fmask d3 : Bool),
      s.on pgPCIE PCIE_STAT_LINK_UP = true →
      exec (.pcieConfigWrite mem bme msixEn fmask d3) s = .next (
        let t := State.wr { s with pcie := { mem := mem } } pgPCIE PCIE_STAT_BME (b2n bme)
        let t := (t.wr pgPCIE PCIE_STAT_MSIX_EN (b2n msixEn)).wr pgPCIE PCIE_STAT_FMASK (b2n fmask)
        (t.wr pgPCIE PCIE_STAT_D3 (b2n d3)).msixFlush))
  ∧ (∀ (s : State) (vector addr data : Nat) (masked : Bool),
      s.on pgPCIE PCIE_STAT_LINK_UP = true →
      s.pcie.mem = true →
      s.on pgPCIE PCIE_STAT_D3 = false →
      exec (.msixUnmask vector addr data masked) s = .next (State.msixFlush
          { s with msix := { s.msix with tab := s.msix.tab.set (fun _ => {}) (vector % 32) { addr := addr, data := data, masked := masked } } }))
  ∧ (∀ (s : State) (speed width : Nat),
      s.dark 34 = false →
      s.on pgPCIE PCIE_STAT_LINK_UP = false →
      s.on pgCLK CLK_STAT_PCIE_PLL_LOCK = true →
      s.portOn pgPCIE = true →
      exec (.pcieLinkUp speed width) s = .next ((((s.wr pgPCIE PCIE_STAT_LINK_UP 1).wr pgPCIE PCIE_STAT_SPEED speed).wr
          pgPCIE PCIE_STAT_WIDTH width).irq pgPCIE 2))
  ∧ (∀ (s : State),
      exec (.pcieLinkDown) s = .next (s.pcieDown))
  ∧ (∀ (s : State),
      s.on pgPCIE PCIE_STAT_LINK_UP = true →
      exec (.pcieHotReset) s = .next ((s.pcieConfigReset.irq pgPCIE 4).count pgPCIE 6))
  ∧ (∀ (s : State) (write whole : Bool) (off len n : Nat) (data : List Nat),
      s.on pgPCIE PCIE_STAT_LINK_UP = true →
      s.pcie.mem = true →
      s.on pgPCIE PCIE_STAT_D3 = false →
      n = (if write then 4 * data.length else len) →
      (whole && !(n == 8 && off % 8 == 4)) = false →
      exec (.pcieRequest 0 write whole off len data) s = .next ((s.count pgPCIE (b2n write)).pcieFail false write (off % 2 ^
          29) stALIGN n))
  ∧ (∀ (s : State) (write whole : Bool) (off len : Nat) (data : List Nat),
      s.on pgPCIE PCIE_STAT_LINK_UP = true →
      s.pcie.mem = true →
      s.on pgPCIE PCIE_STAT_D3 = false →
      exec (.pcieRequest 4 write whole off len data) s = .next (
        if write then
          if whole then (List.range data.length).foldl (fun (t : State) i => t.bar4Put ((off + 4 * i) % 0x4000) (data.getD i
              0)) s else s
        else
          let x := (List.range (len / 4)).foldl (fun (a : List Nat × State) i =>
            let b := a.2.bar4Word ((off + 4 * i) % 0x4000)
            (a.1 ++ [b.1], b.2)) ([], s)
          x.2.complete off stOK x.1))
  ∧ (∀ (s : State) (write whole : Bool) (off len : Nat) (data : List Nat),
      s.on pgPCIE PCIE_STAT_LINK_UP = true →
      s.pcie.mem = true →
      s.on pgPCIE PCIE_STAT_D3 = false →
      (s.count pgPCIE (2 + b2n write)).on pgPCIE PCIE_WINk_EN (off / 2 ^ 24 % 64) = false ∨ off % 2 ^ 24 % 4 ≠ 0 →
      exec (.pcieRequest 2 write whole off len data) s = .next (
        let t := s.count pgPCIE (2 + b2n write)
        let k := off / 2 ^ 24 % 64
        t.pcieFail true write (t.rd pgPCIE PCIE_WINk_NODE k * 2 ^ 29 + (t.rd pgPCIE PCIE_WINk_BASE k * 2 ^ 24 + off % 2 ^ 24))
          (if t.on pgPCIE PCIE_WINk_EN k then stALIGN else stUNMAPPED) (if write then 4 * data.length else len)))
  ∧ (∀ (s : State) (write whole : Bool) (off len n : Nat) (data : List Nat),
      s.on pgPCIE PCIE_STAT_LINK_UP = true →
      s.pcie.mem = true →
      s.on pgPCIE PCIE_STAT_D3 = false →
      n = (if write then 4 * data.length else len) →
      (whole && !(n == 8 && off % 8 == 4)) = true →
      (s.count pgPCIE (2 + b2n write)).on pgPCIE PCIE_WINk_EN (off / 2 ^ 24 % 64) = true →
      off % 2 ^ 24 % 4 = 0 →
      n % 4 = 0 →
      n ≠ 0 →
      (s.count pgPCIE (2 + b2n write)).isHere ((s.count pgPCIE (2 + b2n write)).rd pgPCIE PCIE_WINk_NODE (off / 2 ^ 24 % 64))
          = false →
      exec (.pcieRequest 2 write whole off len data) s = .next (
        let t := s.count pgPCIE (2 + b2n write)
        let k := off / 2 ^ 24 % 64
        let node := t.rd pgPCIE PCIE_WINk_NODE k
        let a := t.rd pgPCIE PCIE_WINk_BASE k * 2 ^ 24 + off % 2 ^ 24
        if write then t.postWrite .pcie node a data else State.pcieRemote (n / 256 + 2) t node a n))

/-- A frame of a serving port with no frame in progress is counted. A header that fails its check is recorded as HCRC;
any other is recorded and counted by its operation, and a set reserved bit or an operation outside 1 to 4 is answered
BAD_OP. A READ of this hub answers its words and of another hub USE_TICKET; a WRITE is answered CRC_ERR, executed here
or posted; a TICKET of this hub is answered BAD_OP, and of another hub takes a slot or answers NO_SLOT; a COLLECT
answers by its slot. A WRITE cut short is counted, sets ABORT and is the last operation (whether it was quad is a free
value, the model's choice of log entry 144), and the rise of chip select ends the frame. Rests on R519, R520, R521,
R522, R524, R525. -/
def Obligations.QspiFramesTakeEffect : Prop :=
  (∀ (s : State) (hdr : List Byte),
      s.portsServe pgQSH = true →
      s.qsh.frame = false →
      s.qsh.waiting = false →
      beAt hdr 0 1 / 16 = 1 →
      exec (.qshRead hdr) s = .next (
        let t := State.count (State.wr { s with qsh := { s.qsh with frame := true } } pgQSH QSH_STAT_BUSY 1) pgQSH 0
        if crc16 (hdr.take 7) ≠ beAt hdr 7 2 then (t.qshErr QSH_ERR_HCRC).count pgQSH 5
        else
          let t := ((t.wr pgQSH QSH_STAT_LAST_QUAD (bitsOf (beAt hdr 0 1) 3 1)).wr pgQSH QSH_STAT_LAST_OP 1).count pgQSH 1
          if beAt hdr 0 1 % 8 ≠ 0 ∨ beAt hdr 6 1 / 64 ≠ 0 then t.qshAnswer stBAD_OP []
          else if !t.isHere (qshArg hdr / 2 ^ 29) then t.qshAnswer stUSE_TICKET []
          else
            let x := t.readLocal Initiator.qsh.num (qshArg hdr % 2 ^ 29) (4 * qshCount hdr)
            x.1.qshAnswer x.2.1 (if x.2.1 = stOK then x.2.2.2 else [])))
  ∧ (∀ (s : State) (hdr data : List Byte) (dcrc : Nat),
      s.portsServe pgQSH = true →
      s.qsh.frame = false →
      s.qsh.waiting = false →
      beAt hdr 0 1 / 16 = 2 →
      exec (.qshWrite hdr data dcrc) s = .next (
        let t := State.count (State.wr { s with qsh := { s.qsh with frame := true } } pgQSH QSH_STAT_BUSY 1) pgQSH 0
        if crc16 (hdr.take 7) ≠ beAt hdr 7 2 then (t.qshErr QSH_ERR_HCRC).count pgQSH 5
        else
          let t := ((t.wr pgQSH QSH_STAT_LAST_QUAD (bitsOf (beAt hdr 0 1) 3 1)).wr pgQSH QSH_STAT_LAST_OP 2).count pgQSH 2
          if beAt hdr 0 1 % 8 ≠ 0 ∨ beAt hdr 6 1 / 64 ≠ 0 then t.qshAnswer stBAD_OP []
          else 
            let ws := (List.range (qshCount hdr)).map (fun i => beAt data (4 * i) 4)
            if crc16 (data.take (4 * qshCount hdr)) ≠ dcrc then t.qshAnswer stCRC_ERR []
            else if t.isHere (qshArg hdr / 2 ^ 29) then
              State.portWrite { t with qsh := { t.qsh with waiting := true } } .qsh (qshArg hdr % 2 ^ 29) ws (qshArg hdr % 2
                  ^ 29) false false
            else State.postWrite { t with qsh := { t.qsh with waiting := true } } .qsh (qshArg hdr / 2 ^ 29) (qshArg hdr % 2
                ^ 29) ws))
  ∧ (∀ (s : State) (hdr : List Byte),
      s.portsServe pgQSH = true →
      s.qsh.frame = false →
      s.qsh.waiting = false →
      beAt hdr 0 1 / 16 = 3 →
      exec (.qshTicket hdr) s = .next (
        let t := State.count (State.wr { s with qsh := { s.qsh with frame := true } } pgQSH QSH_STAT_BUSY 1) pgQSH 0
        if crc16 (hdr.take 7) ≠ beAt hdr 7 2 then (t.qshErr QSH_ERR_HCRC).count pgQSH 5
        else
          let t := ((t.wr pgQSH QSH_STAT_LAST_QUAD (bitsOf (beAt hdr 0 1) 3 1)).wr pgQSH QSH_STAT_LAST_OP 3).count pgQSH 3
          if beAt hdr 0 1 % 8 ≠ 0 ∨ beAt hdr 6 1 / 64 ≠ 0 then t.qshAnswer stBAD_OP []
          else if t.isHere (qshArg hdr / 2 ^ 29) then t.qshAnswer stBAD_OP []
            else match t.takeSlot .qsh (qshArg hdr / 2 ^ 29) (qshArg hdr % 2 ^ 29) (4 * qshCount hdr) with
              | none => t.qshAnswer stNO_SLOT []
              | some (u, i) => u.qshAnswer stOK [i + 2 ^ 8 * u.rd pgBRG BRG_SLOTn_STAT_GEN i]))
  ∧ (∀ (s : State) (hdr : List Byte),
      s.portsServe pgQSH = true →
      s.qsh.frame = false →
      s.qsh.waiting = false →
      beAt hdr 0 1 / 16 = 4 →
      exec (.qshCollect hdr) s = .next (
        let t := State.count (State.wr { s with qsh := { s.qsh with frame := true } } pgQSH QSH_STAT_BUSY 1) pgQSH 0
        if crc16 (hdr.take 7) ≠ beAt hdr 7 2 then (t.qshErr QSH_ERR_HCRC).count pgQSH 5
        else
          let t := ((t.wr pgQSH QSH_STAT_LAST_QUAD (bitsOf (beAt hdr 0 1) 3 1)).wr pgQSH QSH_STAT_LAST_OP 4).count pgQSH 4
          if beAt hdr 0 1 % 8 ≠ 0 ∨ beAt hdr 6 1 / 64 ≠ 0 then t.qshAnswer stBAD_OP []
          else 
            let i := qshArg hdr % 16
            let st := t.rd pgBRG BRG_SLOTn_STAT_STATE i
            if t.rd pgBRG BRG_SLOTn_STAT_GEN i ≠ qshArg hdr / 2 ^ 8 % 2 ^ 8 then t.qshAnswer stDISCARDED []
            else if st = 2 then
              (t.slotFree i).qshAnswer (t.rd pgBRG BRG_SLOTn_STAT_STATUS i) (if t.rd pgBRG BRG_SLOTn_STAT_STATUS i = stOK
                then leWords ((t.slotSt i).data.length / 4) (t.slotSt i).data else [])
            else t.qshAnswer (if st = 1 then stNOT_READY else stDISCARDED) []))
  ∧ (∀ (s : State),
      exec (.qshCsRise false) s = .next (State.wr { s with qsh := { s.qsh with frame := false } } pgQSH QSH_STAT_BUSY 0))
  ∧ (∀ (s : State),
      s.qsh.frame = false →
      s.portsServe pgQSH = true →
      exec (.qshCsRise true) s = .next (
        let t := (s.wr pgQSH QSH_STAT_LAST_OP 2).wr pgQSH QSH_STAT_LAST_QUAD (s.freeVal % 2)
        let t := (((t.drawn.count pgQSH 0).count pgQSH 2).qshErr QSH_ERR_ABORT).count pgQSH 7
        State.wr { t with qsh := { t.qsh with frame := false } } pgQSH QSH_STAT_BUSY 0))
  ∧ (∀ (s : State) (hdr : List Byte),
      s.portsServe pgQSH = true →
      s.qsh.frame = false →
      s.qsh.waiting = false →
      beAt hdr 0 1 / 16 = 0 ∨ 5 ≤ beAt hdr 0 1 / 16 →
      exec (.qshRead hdr) s = .next (
        let t := State.count (State.wr { s with qsh := { s.qsh with frame := true } } pgQSH QSH_STAT_BUSY 1) pgQSH 0
        if crc16 (hdr.take 7) ≠ beAt hdr 7 2 then (t.qshErr QSH_ERR_HCRC).count pgQSH 5
        else
          let t := ((t.wr pgQSH QSH_STAT_LAST_QUAD (bitsOf (beAt hdr 0 1) 3 1)).wr pgQSH QSH_STAT_LAST_OP (beAt hdr 0 1 / 16))
          if beAt hdr 0 1 % 8 ≠ 0 ∨ beAt hdr 6 1 / 64 ≠ 0 then t.qshAnswer stBAD_OP []
          else t.qshAnswer stBAD_OP []))

/-- A port that answers requests takes each standard request as USB 2.0 has it, those it does not support, vendor
requests it does not know among them, ending in a stall, and a vendor request of a wrong length is stalled: of the
right length information, the last status and the wake reason (cleared by the read) are returned, a challenge and its
answer authenticate, deauthentication ends it, and register reads and writes that miss authentication end in
AUTH_REQUIRED and else run. An open tunnel with no request waiting answers a malformed request or one whose words fail
in the buffer BAD_OP and one that misses authentication AUTH_REQUIRED, and runs every other; one that comes while
another executes is kept. A halt and its end reach only the endpoints that can halt. A bus reset of an attached port
takes it to DEFAULT with its session ended; suspend keeps the state to which resume returns; a remote wake that is
enabled, has a reason and comes 5 ms after suspend signals, or counts as a resume where the host resumed first; VBUS
rising attaches the port and falling detaches it; a lockout ends at its time. Rests on R529, R530, R531, R532, R533,
R527, R535, R536, R537. -/
def Obligations.UsbRequestsTakeEffect : Prop :=
  (∀ (s : State) (recipient value index length : Nat),
      s.usbLive = true →
      recipient < 32 →
      exec (.usbStandardRequest recipient 5 value index length) s = .next (
        if s.usbState = 3 then s.usbStalls else (s.wr pgUSB USB_STAT_ADDRESS (value % 128)).wr pgUSB USB_STAT_STATE (if value
            % 128 = 0 then 1 else 2)))
  ∧ (∀ (s : State) (recipient value index length : Nat),
      s.usbLive = true →
      recipient < 32 →
      exec (.usbStandardRequest recipient 9 value index length) s = .next (
        if s.usbState = 1 ∨ 1 < value % 256 then s.usbStalls
        else (State.wr { s with usb := { s.usb with halted := [], toggle := [] } } pgUSB USB_STAT_STATE (if value % 256 = 1
            then 3 else 2)).usbDrain))
  ∧ (∀ (s : State) (ep : Nat),
      exec (.usbEndpointHalt ep) s = .next (
        if s.haltable ep then s.epHalt ep else s))
  ∧ (∀ (s : State) (ep : Nat),
      exec (.usbHaltClear ep) s = .next (
        if s.haltable ep then s.epRun ep else s))
  ∧ (∀ (s : State) (length : Nat),
      s.usbLive = true →
      exec (.getInfo length) s = .next (
        if length == 24 then s.usbData 24 (leBytes 8 Config.serial.toNat ++ leBytes 2 s.nodeId ++ leBytes 4 (s.viewWord
            pgPWRST 0x100 3)
            ++ leBytes 4 (s.viewWord pgSYS 0x100 3) ++ leBytes 4 (s.viewWord pgUSB 0x100 3) ++ leBytes 2 0)
        else s.usbStalls))
  ∧ (∀ (s : State) (length : Nat),
      s.usbLive = true →
      exec (.authChallenge length) s = .next (
        if length == 16 && !s.on pgUSB USB_STAT_LOCKOUT && s.authSlot.isSome then
          let x := s.randBytes 16
          State.usbData { x.2 with usb := { x.2.usb with nonce := some (x.1, x.2.now) } } 16 x.1
        else s.usbStalls))
  ∧ (∀ (s : State) (tag : List Byte),
      s.usbLive = true →
      exec (.authResponse tag) s = .next (
        if tag.length == 16 then
          let t : State := { s with usb := { s.usb with nonce := none } }
          let good := match s.usb.nonce, t.authSlot with
            | some (n, a), some i =>
              decide (t.now ≤ a + 10 ^ 10)
                && Config.cmac (t.slotKey i).key (n ++ beBytes 8 Config.serial.toNat) == BitVec.ofNat 128 (beNat tag)
            | _, _ => false
          if good then State.count (State.wr { t with usb := { t.usb with fails := 0 } } pgUSB USB_STAT_AUTH 1) pgUSB 4 else
              t.authFail
        else s.usbStalls))
  ∧ (∀ (s : State) (addr length : Nat),
      s.usbLive = true →
      exec (.usbRegRead addr length) s = .next (
        if length == 4 || length == 8 then
          if s.authMissing false addr length then
            (State.usbData { s with usb := { s.usb with lastStatus := stAUTH_REQUIRED } } length (wordBytes (List.replicate
                (length / 4) 0))).count pgUSB 3
          else
            let x := s.readLocal Initiator.usb.num (addr % 2 ^ 29) length
            State.usbData { x.1 with usb := { x.1.usb with lastStatus := x.2.1 } } length (wordBytes x.2.2.2)
        else s.usbStalls))
  ∧ (∀ (s : State) (addr : Nat) (words : List Nat),
      s.usbLive = true →
      exec (.usbRegWrite addr words) s = .next (
        if words.length == 1 || words.length == 2 then
          if s.authMissing true addr 4 then State.count { s with usb := { s.usb with lastStatus := stAUTH_REQUIRED } } pgUSB 3
          else s.portWrite .usb (addr % 2 ^ 29) words (addr % 2 ^ 29) false true
        else s.usbStalls))
  ∧ (∀ (s : State) (length : Nat),
      s.usbLive = true →
      exec (.getLastStatus length) s = .next (
        if length == 4 then s.usbData 4 (leBytes 4 s.usb.lastStatus) else s.usbStalls))
  ∧ (∀ (s : State) (length : Nat),
      s.usbLive = true →
      exec (.getWakeReason length) s = .next (
        if length == 4 then (s.usbData 4 (leBytes 4 (s.word pgUSB 0x10C).toNat)).setWord pgUSB 0x10C 0 else s.usbStalls))
  ∧ (∀ (s : State) (length : Nat),
      s.usbLive = true →
      exec (.deauth length) s = .next (
        if length == 0 then s.authEnd else s.usbStalls))
  ∧ (∀ (s : State) (hdr : List Byte) (ecc : Bool),
      s.tunnelOpen = true →
      s.usb.test = 0 →
      s.usb.reqs = [] →
      leAt hdr 0 1 ≠ 2 →
      exec (.tunnelRead hdr ecc) s = .next (
        let u := s.usbMoved 1 (16)
        let t : State := { u with usb := { u.usb with reqs := [] } }
        if ecc then (t.drawn.fault pgUSB 0x1E 1 (8 * (t.freeVal % 2 ^ 26))).tunnelAnswer (leAt hdr 0 1) (leAt hdr 2 2)
            stBAD_OP []
        else if tunnelBad hdr then t.tunnelAnswer (leAt hdr 0 1) (leAt hdr 2 2) stBAD_OP []
        else if t.authMissing false (leAt hdr 8 5) (leAt hdr 4 2) then (t.tunnelAnswer (leAt hdr 0 1) (leAt hdr 2 2)
            stAUTH_REQUIRED []).count pgUSB 3
        else
          let t := State.count { t with usb := { t.usb with reading := some { op := leAt hdr 0 1, seq := leAt hdr 2 2 } } }
              pgUSB 2
          let node := leAt hdr 8 5 / 2 ^ 29
          let addr := leAt hdr 8 5 % 2 ^ 29
          if t.isHere node then
            let x := t.readLocal Initiator.usb.num addr (leAt hdr 4 2)
            x.1.rsp .usb x.2.1 x.2.2.2
          else t.readIssue .usb node addr (leAt hdr 4 2)))
  ∧ (∀ (s : State) (hdr data : List Byte) (ecc : Bool),
      s.tunnelOpen = true →
      s.usb.test = 0 →
      s.usb.reqs = [] →
      leAt hdr 0 1 = 2 →
      16 + data.length ≤ 4096 →
      exec (.tunnelWrite hdr data ecc) s = .next (
        let u := s.usbMoved 1 (16 + data.length)
        let t : State := { u with usb := { u.usb with reqs := [] } }
        if ecc then (t.drawn.fault pgUSB 0x1E 1 (8 * (t.freeVal % 2 ^ 26))).tunnelAnswer (2) (leAt hdr 2 2) stBAD_OP []
        else if tunnelBad hdr then t.tunnelAnswer (2) (leAt hdr 2 2) stBAD_OP []
        else if t.authMissing true (leAt hdr 8 5) (leAt hdr 4 2) then (t.tunnelAnswer (2) (leAt hdr 2 2) stAUTH_REQUIRED
            []).count pgUSB 3
        else
          let t := State.count { t with usb := { t.usb with reading := some { op := 2, seq := leAt hdr 2 2 } } } pgUSB 2
          let node := leAt hdr 8 5 / 2 ^ 29
          let addr := leAt hdr 8 5 % 2 ^ 29
          let ws := leWords (leAt hdr 4 2 / 4) data
          if t.isHere node then t.portWrite .usb addr ws addr false false else t.postWrite .usb node addr ws))
  ∧ (∀ (s : State) (highSpeed control : Bool),
      s.usbState ≠ 0 →
      exec (.usbBusReset highSpeed control) s = .next (
        let t := State.usbDrain (State.tunnelFlush { s with usb := { s.usb with halted := [], toggle := [] } })
        let t := ((t.wr pgUSB USB_STAT_STATE 1).wr pgUSB USB_STAT_ADDRESS 0).wr pgUSB USB_STAT_RWAKE_EN 0
        let t := (t.wr pgUSB USB_STAT_HIGH_SPEED (b2n highSpeed)).authEnd
        ((if control then t.count pgUSB 1 else t).count pgUSB 0).irq pgUSB 3))
  ∧ (∀ (s : State),
      s.usbLive = true →
      exec (.usbSuspend) s = .next ((State.wr { s with usb := { s.usb with before := s.usbState, suspAt := s.now } } pgUSB
          USB_STAT_STATE 4).irq pgUSB 4))
  ∧ (∀ (s : State),
      s.usbState = 4 →
      exec (.usbResume) s = .next (s.usbBack))
  ∧ (∀ (s : State) (seen : Nat),
      s.usbState = 4 →
      s.on pgUSB USB_STAT_RWAKE_EN = true →
      (s.rd pgUSB USB_WAKE_REASON_REASON &&& (s.word pgUSB 0x108).toNat % 16) ≠ 0 →
      s.usb.suspAt + 5000000 ≤ s.now →
      exec (.usbRemoteWake seen) s = .next (
        if seen = 0 then ((((s.pass 2500).emit .usbWake).pass 500000).wr pgUSB USB_WAKE_REASON_SIGNALLED 1).count pgUSB 6
        else (((s.pass 2500).wr pgUSB USB_WAKE_REASON_AS_RESUME 1).count pgUSB 7).usbBack))
  ∧ (∀ (s : State),
      exec (.usbVbusRise) s = .next ((s.wr pgUSB USB_STAT_VBUS 1).usbAttach))
  ∧ (∀ (s : State),
      exec (.usbVbusFall) s = .next ((s.wr pgUSB USB_STAT_VBUS 0).usbDetach))
  ∧ (∀ (s : State) (t : Nat),
      s.usb.lockEnd = some t →
      exec (.usbLockoutEnd) s = .next (
        let u := s.passTo t
        State.wr { u with usb := { u.usb with lockEnd := none, fails := 0 } } pgUSB USB_STAT_LOCKOUT 0))
  ∧ (∀ (s : State) (recipient value index length : Nat),
      s.usbLive = true →
      recipient < 32 →
      exec (.usbStandardRequest recipient 0 value index length) s = .next (s.usbData length (leBytes 2 (if recipient = 0 then
          1 + 2 * s.rd pgUSB USB_STAT_RWAKE_EN else if recipient = 2 then b2n (s.usb.halted.contains (index % 256)) else 0))))
  ∧ (∀ (s : State) (recipient value index length : Nat),
      s.usbLive = true →
      recipient < 32 →
      exec (.usbStandardRequest recipient 1 value index length) s = .next (
        if recipient = 0 ∧ value = 1 then s.wr pgUSB USB_STAT_RWAKE_EN 0
        else if recipient = 2 ∧ value = 0 ∧ s.haltable (index % 256) = true then s.epRun (index % 256)
        else s.usbStalls))
  ∧ (∀ (s : State) (recipient value index length : Nat),
      s.usbLive = true →
      recipient < 32 →
      exec (.usbStandardRequest recipient 3 value index length) s = .next (
        if recipient = 0 ∧ value = 1 then s.wr pgUSB USB_STAT_RWAKE_EN 1
        else if recipient = 0 ∧ value = 2 ∧ s.on pgUSB USB_STAT_HIGH_SPEED = true then
              { s with usb := { s.usb with test := index / 256 % 256 } }
        else if recipient = 2 ∧ value = 0 ∧ s.haltable (index % 256) = true then s.epHalt (index % 256)
        else s.usbStalls))
  ∧ (∀ (s : State) (recipient value index length : Nat),
      s.usbLive = true →
      recipient < 32 →
      exec (.usbStandardRequest recipient 6 value index length) s = .next (
        let x := s.descriptor (value / 256 % 256) (value % 256)
        match x.1 with
        | some l => x.2.usbData length l
        | none => x.2.usbStalls))
  ∧ (∀ (s : State) (recipient value index length : Nat),
      s.usbLive = true →
      recipient < 32 →
      exec (.usbStandardRequest recipient 8 value index length) s = .next (s.usbData length (leBytes 1 (b2n (s.usbState
          == 3)))))
  ∧ (∀ (s : State) (recipient value index length : Nat),
      s.usbLive = true →
      recipient < 32 →
      exec (.usbStandardRequest recipient 10 value index length) s = .next (
        if index = 0 ∧ s.usbState = 3 then s.usbData length (leBytes 1 0) else s.usbStalls))
  ∧ (∀ (s : State) (recipient value index length : Nat),
      s.usbLive = true →
      recipient < 32 →
      exec (.usbStandardRequest recipient 11 value index length) s = .next (
        if index = 0 ∧ value = 0 ∧ s.usbState = 3 then s else s.usbStalls))
  ∧ (∀ (s : State) (recipient request value index length : Nat),
      s.usbLive = true →
      request ∉ [0, 1, 3, 5, 6, 8, 9, 10, 11] →
      exec (.usbStandardRequest recipient request value index length) s = .next (s.usbStalls))
  ∧ (∀ (s : State) (recipient request value index length : Nat),
      s.usbLive = true →
      32 ≤ recipient →
      exec (.usbStandardRequest recipient request value index length) s = .next (s.usbStalls))
  ∧ (∀ (s : State) (hdr data : List Byte) (ecc : Bool),
      s.usbState = 3 →
      s.usb.test = 0 →
      s.usb.halted.contains 1 = false →
      s.usb.reading.isSome = true →
      s.usb.reqs = [] →
      data = [] ∨ leAt hdr 0 1 = 2 ∧ 16 + data.length ≤ 4096 →
      exec (if leAt hdr 0 1 = 2 then .tunnelWrite hdr data ecc else .tunnelRead hdr ecc) s = .next (
        let t := s.usbMoved 1 (16 + data.length)
        { t with usb := { t.usb with reqs := [{ hdr := hdr, data := data, ecc := ecc }] } }))

/-- On a hub that is not held a fault message of a kind of its page is recorded with the class of the kind, or handled
as the memory error it reports. A due HUB_RESET action resets the hub for FATAL; an open record closes 100 us after it
was made; corrected-error health ends. A heartbeat of running firmware ends the grace and counts, anew where the last
came more than 2 ms before; a lost heartbeat and a grace that ends stop CLACK at the next boundary, which otherwise
toggles it; the last fatal records are cleared; a restart cause of the housekeeping core is a fault. Rests on R50,
R540, R542, R544, R547, R550, R551, R552, R559. -/
def Obligations.FaultsAndClackTakeEffect : Prop :=
  (∀ (s : State) (source kind addr word victim : Nat) (uc replay : Bool) (k : Kind) (r : KindRow),
      s.held = [] →
      pageKind? (healthPage source) = some k →
      (kindRows k).find? (fun x => x.kind == kind) = some r →
      (r.hk != (source == 0x3F0)) = false →
      eccKinds.contains kind = false →
      ¬(kind = 0x0F ∧ source ≠ pgLINK) →
      ¬(kind = 0x20 ∧ uc = true) →
      exec (.faultMessage source kind uc addr word replay victim) s = .next ((if kind = 0x02
          ∧ inPages (addr % 2 ^ 29) = true then s.parityAt (addr % 2 ^ 29) else s).fault source kind r.forcedCls (addr % 2 ^
          40)))
  ∧ (∀ (s : State) (t : Nat),
      s.flt.resetDue = some t →
      exec (.fatalHubReset) s = .next ((s.passTo t).hubReset 5))
  ∧ (∀ (s : State) (seq : Nat) (r : FltRec),
      ((s.fltExpire).flt.log ++ (s.fltExpire).flt.popped).find? (fun x => x.seq == seq && x.isOpen) = some r →
      exec (.faultRecordClose seq) s = .next (
        let t := s.fltExpire.passTo (r.made + 100000)
        let t : State := { t with flt := { t.flt with
          log := t.flt.log.map (fun (x : FltRec) => if x.seq = seq then { x with isOpen := false } else x)
          popped := t.flt.popped.filter (fun (x : FltRec) => x.seq != seq) } }
        t.fltSync.setHealth (healthPage r.source)))
  ∧ (∀ (s : State) (page : Nat),
      s.flt.ceUntil.get (fun _ => 0) page ≠ 0 →
      exec (.healthCeExpiry page) s = .next (
        let t := s.passTo (s.flt.ceUntil.get (fun _ => 0) page)
        State.setHealth { t with flt := { t.flt with ceUntil := t.flt.ceUntil.set (fun _ => 0) page 0 } } page))
  ∧ (∀ (s : State),
      s.hkUp = true →
      exec (.hkHeartbeat) s = .next (
        let t := match s.flt.lastBeat with
          | some a => s.passTo (a + 500000)
          | none => s
        let stale := match t.flt.lastBeat with
          | some a => decide (a + 2000000 < t.now)
          | none => true
        State.wr { t with flt := { t.flt with lastBeat := some t.now, beats := if stale then 1 else t.flt.beats + 1, graceEnd := none } } pgFLT FLT_CLACK_GRACE 0))
  ∧ (∀ (s : State) (t : Nat),
      s.flt.lastBeat = some t →
      s.flt.graceEnd = none →
      s.on pgFLT FLT_CLACK_RUN = true →
      exec (.heartbeatLoss) s = .next (
        let u := s.passTo (t + 2000004)
        (u.passTo u.clackBoundary).clackTick))
  ∧ (∀ (s : State),
      s.held = [] →
      exec (.clackToggle) s = .next ((s.passTo s.clackBoundary).clackTick))
  ∧ (∀ (s : State) (e : Nat),
      s.flt.graceEnd = some e →
      exec (.clackGraceExpiry) s = .next (
        let t := s.passTo e
        let t := State.wr { t with flt := { t.flt with graceEnd := none } } pgFLT FLT_CLACK_GRACE 0
        let t := t.passTo t.clackBoundary
        (if t.on pgFLT FLT_CLACK_RUN then t.clackStop 4 else t).fault 0x3F0 0x03 1 0))
  ∧ (∀ (s : State),
      s.takes pgFLT = true →
      exec (.fltLastfatalClr) s = .next ((List.range 8).foldl (fun (t : State) i => t.wr pgFLT FLT_LASTFATALn_ENTRY 0 i) s))
  ∧ (∀ (s : State),
      s.held = [] →
      exec (.hkRestart 5) s = .next (s.fault 0x3F0 5 2 0))
  ∧ (∀ (s : State) (kind : Nat),
      s.held = [] →
      kind = 3 ∨ kind = 4 →
      exec (.hkRestart kind) s = .next (
        if kind = 3 then s.fault 0x3F0 3 1 0 else s.drawn.fault 0x3F0 4 1 (8 * (s.freeVal % 2 ^ 26))))
  ∧ (∀ (s : State) (source kind addr word victim : Nat) (uc replay : Bool) (k : Kind) (r : KindRow),
      s.held = [] →
      pageKind? (healthPage source) = some k →
      (kindRows k).find? (fun x => x.kind == kind) = some r →
      (r.hk != (source == 0x3F0)) = false →
      eccKinds.contains kind = true →
      exec (.faultMessage source kind uc addr word replay victim) s = .next (s.memError source kind word uc replay victim))
  ∧ (∀ (s : State) (source kind addr word victim : Nat) (replay : Bool) (k : Kind) (r : KindRow),
      s.held = [] →
      pageKind? (healthPage source) = some k →
      (kindRows k).find? (fun x => x.kind == kind) = some r →
      (r.hk != (source == 0x3F0)) = false →
      kind = 0x20 →
      exec (.faultMessage source kind true addr word replay victim) s = .next (s.fifoUpset (source - pgLANE) word))

/-- A Bedstone whose Runner is late becomes Runner. PEER_ACT follows its level, and a rise deposes a Runner that has
driven longer than 4 ns, while of two that began together the one of the higher ID becomes Bedstone. A journal cell of
the Runner is applied record by record, a gap in the numbers first noticed, and a request of the Bedstone makes the
Runner owe a checkpoint, which it sends. A compared line that differs outside its readback window and a seal missing
at its check are detections; so is the switch command on a Bedstone in sync; RESYNC and REJOIN act, and each of the
three without its key, or a switch elsewhere, is refused. A detected takeover asserts ACT with its fault, and takes
over the demands and the journalled outputs; at first drive the hub publishes its shard with a new tenure, drives and
starts the engines that ran; the takeover is then recorded; a peer still active at the end of the standoff deposes
this hub. Rests on R564, R566, R569, R570, R571, R572, R579, R583, R573, R574, R575. -/
def Obligations.TwinEventsTakeEffect : Prop :=
  (∀ (s : State) (n : Nat),
      s.twin.lateFrom = some n →
      s.isBedstone = true →
      s.peerSealed n = false →
      exec (.twinLateRunner) s = .next ((s.passRing (s.tS (n + 64))).takeRunner))
  ∧ (∀ (s : State) (level : Bool),
      exec (.twinPeerRise level) s = .next (
        let rise := level && !s.on pgTWIN TWIN_STAT_PEER_ACT
        let t := s.wr pgTWIN TWIN_STAT_PEER_ACT (b2n level)
        if !(rise && t.isRunner) then t
        else if t.now ≤ t.twin.driveAt + 4 then (if t.peerId < t.nodeId then t.takeBedstone false else t)
        else t.depose))
  ∧ (∀ (s : State) (r : RxCell) (u : State),
      s.takeCell 3 tJOURNAL = some (r, u) →
      exec (.journalRx) s = .next (
        let n := beAt r.cell.payload 0 4
        let recs := journalRecords 128 (r.cell.payload.drop 8)
        if bitAt (beAt r.cell.payload 7 1) 0 then
          if !u.isRunner then u
          else recs.foldl (fun (v : State) x =>
            if x.1 = 0x0A then { v.count pgTWIN 0 with twin := { (v.count pgTWIN 0).twin with owed := true } } else v.count
                pgTWIN 0) u
        else if !u.isBedstone then u
        else
          let t := if u.twin.jnext.any (fun m => m != n) then u.twinGap else u
          let t := State.wr { t with twin := { t.twin with jnext := some ((n + 1) % 2 ^ 32) } } pgTWIN TWIN_JSTAT_JSEQ ((n +
              1) % 2 ^ 16)
          recs.foldl (fun (v : State) x => (v.count pgTWIN 0).applyRecord x.1 x.2) t))
  ∧ (∀ (s : State),
      s.isRunner = true →
      s.twin.owed = true →
      exec (.fullCheckpointTx) s = .next (
        let e := s.commitEpoch
        let t := State.journal { s with twin := { s.twin with owed := false } } 0x0B (beBytes 8 e)
        let t := t.demandPoints.foldl (fun (u : State) p =>
          let d := u.demandOf p.2
          u.journal 0x02 (beBytes 2 p.1 ++ beBytes 2 d.writer ++ beBytes 8 d.tau
            ++ beBytes 4 (if d.known then d.value else u.startValue u.pubId p.2))) t
        let t := (t.trk.win.filter (fun (x : Nat × Win) => bitAt x.2.ctl 3)).foldl (fun (u : State) x =>
          let u := u.journal 0x05 (beBytes 2 x.1 ++ beBytes 2 0 ++ x.2.record)
          if x.2.active then u.journal 0x03 (beBytes 2 x.1 ++ beBytes 2 0 ++ beBytes 4 x.2.base ++ beBytes 8 x.2.armAt) else
              u) t
        let t := t.launches.foldl (fun (u : State) x => u.journal 0x06 (beBytes 2 x.1 ++ beBytes 2 0 ++ x.2.record)) t
        let t := (List.range 8).foldl (fun (u : State) b =>
          let u := u.journal 0x08 (beBytes 1 b ++ beBytes 3 0 ++ beBytes 4 (u.rd (pgDIO + b) DIO_OUT_HOST_W))
          u.journal 0x09 (beBytes 1 b ++ beBytes 3 0 ++ beBytes 4 (u.rd (pgDIO + b) DIO_RB_FAIL_W))) t
        (t.journal 0x0C (beBytes 8 e)).count pgTWIN 7))
  ∧ (∀ (s : State) (line : Nat),
      s.compares line = true →
      (s.expected line != s.dioBit line DIO_RAW_W) = true →
      exec (.compareMismatch line) s = .next (
        let rb := s.twin.rbFail.get (fun _ => (0, 0)) (line / 32)
        if bitAt rb.1 (line % 32) ∧ s.now ≤ rb.2 + s.cmpDelay then s.count pgTWIN 5 else s.detect 1 line))
  ∧ (∀ (s : State) (t : State),
      s.isBedstone = true →
      s.on pgTWIN TWIN_CFG_SEAL_EN = true →
      s.locked = true →
      s.epoch ≠ ones64 →
      t = s.passRing (s.tS s.epoch + (if (s.shard s.shardId).sealAt = 0 then s.rd pgIMG IMG_EPOCH_SEAL_AT else (s.shard
          s.shardId).sealAt)
          * s.epochLen / 8 + 1000 * max 5 (s.rd pgTWIN TWIN_CFG_SEAL_WAIT)) →
      exec (.sealCheck) s = .next (
        if (t.sealOf s.shardId s.epoch).isSome || ((t.shard s.shardId).at? s.epoch).isSome then t else t.detect 2 0xFF))
  ∧ (∀ (s : State) (key : Nat),
      s.takes pgTWIN = true →
      exec (.twinSwitch key) s = .next (
        if key ≠ 0x96 ∨ s.isBedstone = false ∨ s.rd pgTWIN TWIN_STAT_SYNC ≠ 2 then s.twinRefuse else s.detect 3 0xFF))
  ∧ (∀ (s : State) (key : Nat),
      s.takes pgTWIN = true →
      exec (.twinResync key) s = .next (
        if key ≠ 0x96 then s.twinRefuse else if s.isBedstone then s.ckptReq else s))
  ∧ (∀ (s : State) (key : Nat),
      s.takes pgTWIN = true →
      exec (.twinRejoin key) s = .next (
        if key ≠ 0x96 then s.twinRefuse else if s.enabled pgTWIN && s.role == 3 then s.enterRole else s))
  ∧ (∀ (s : State),
      s.twin.phase = 1 →
      exec (.twinTakeover) s = .next (
        let t := (s.wr pgTWIN TWIN_STAT_ACT 1).fault pgTWIN 0x0C 1 0
        let t : State := { t with img := { t.img with dem := t.twin.demands }, twin := { t.twin with phase := 2 } }
        (List.range 8).foldl (fun (u : State) b =>
          if (u.twin.hostOut.any (fun e => e.1 == b)) then u.outHost b (u.twin.hostOut.get (fun _ => 0) b) else u) t))
  ∧ (∀ (s : State) (t : State),
      s.twin.phase = 2 →
      t = s.twinOffsets →
      exec (.twinFirstDrive) s = .next (
        let e := t.firstEpoch
        let te := (((t.shard s.shardId).tenure.getD 255) + 1) % 256
        let u : State := { t with twin := { t.twin with phase := 3, driving := true, driveAt := t.now, toEpoch := e } }
        let u := ((u.wr pgIMG IMG_OWN_OWNER s.shardId).wr pgIMG IMG_OWN_TENURE te).driveSync
        let run := (u.twin.ckpt.map (fun c => c.2.2.1)).getD 0
        let u := (List.range 32).foldl (fun (v : State) k => if bitAt run k then v.cogStart k else v) u
        let u := State.launchLock (u.launches.length + 1) u
        (u.winEvalAll none).takeoverPublish e))
  ∧ (∀ (s : State),
      s.twin.phase = 3 →
      exec (.twinTakeoverDone) s = .next (
        let us (x : Nat) : Nat := min 255 ((x - s.twin.t0) / 1000)
        let t := s.wr pgTWIN TWIN_STAT_DEGRADED (b2n (s.rd pgTWIN TWIN_STAT_SYNC != 2))
        let t := (t.wr pgTWIN TWIN_STAT_ROLE 1).wr pgTWIN TWIN_STAT_LAST_CAUSE t.twin.cause
        let t := (t.wr64 pgTWIN TWIN_TO_TIME_LO_TIME TWIN_TO_TIME_HI_TIME t.twin.t0Ring).wr pgTWIN TWIN_TO_INFO_LINE
            t.twin.line
        let t := (t.wr pgTWIN TWIN_TO_INFO_DRIVE_US (us t.twin.driveAt)).wr pgTWIN TWIN_TO_INFO_DONE_US (us t.now)
        let t := t.wr pgTWIN TWIN_TO_INFO_TENURE (t.rd pgIMG IMG_OWN_TENURE)
        let t := t.wr64 pgTWIN TWIN_TO_EPOCH_LO_EPOCH TWIN_TO_EPOCH_HI_EPOCH t.twin.toEpoch
        let t : State := { t with twin := { t.twin with phase := 0, jseq := 0, jnext := none, owed := false } }
        ((t.twinSync 0).irq pgTWIN 2).count pgTWIN 4))
  ∧ (∀ (s : State),
      s.on pgTWIN TWIN_STAT_PEER_ACT = true →
      s.twin.driving = true →
      s.twin.cause ≠ 0 →
      s.now ≤ s.twin.driveAt + 20000 →
      exec (.twinStandoff) s = .next ((((s.passTo (s.twin.driveAt + 20000)).depose).irq pgTWIN 6).count pgTWIN 6))

/-- A scrub step of an enabled memory has the effect of what it found, notes a late pass and ends a pass at the last
word. Where DRS is enabled, or at link training, a calibration moves a stamp delay or a sense trim by at most its
step, and is counted, a monitor calibration is counted, and one that fails is noted; the asymmetry of a link is taken
at its training. RUN_NOW starts a calibration run and its end raises the interrupt. On a hub that is not held a flash
operation is counted, and the end of a program of an update slot ends its session where it failed and else frees its
buffer; a ledger record is written while the firmware runs; a logic-die sample stores its items 1 ms after the last.
Rests on R587, R588, R589, R592, R595, R596, R598. -/
def Obligations.DressingTakesEffect : Prop :=
  (∀ (s : State) (m word found victim : Nat) (replay : Bool),
      s.enabled pgDRS = true →
      m < 12 →
      word < scrubWords m →
      s.on pgDRS DRS_SCRUBm_EN m = true →
      exec (.scrubStep m word found replay victim) s = .next (
        let nxt := s.rst.scrubNext.get (fun _ => 0) m
        let t := if word < nxt then (s.scrubLate m).scrubPass m else s
        let start := if nxt = 0 ∨ word < nxt then t.now else t.rst.passAt.get (fun _ => 0) m
        let t : State := { t with rst := { t.rst with
          passAt := t.rst.passAt.set (fun _ => 0) m start
          scrubNext := t.rst.scrubNext.set (fun _ => 0) m ((word + 1) % scrubWords m) } }
        let t := (t.scrubFound m word found replay victim).scrubLate m
        if word + 1 = scrubWords m then t.scrubPass m else t))
  ∧ (∀ (s : State) (i : Nat) (training ok : Bool) (value : Int),
      s.enabled pgDRS = true ∨ training = true →
      i < 4 →
      exec (.calibration 0 i training ok value) s = .next (
        let t := s.calRuns 0 i training
        if !ok then t.calFail DRS_CAL_STAT_TS_FAIL else (t.wr pgDRS DRS_TSDLYp_DELAY (towards (t.rd pgDRS DRS_TSDLYp_DELAY i)
            value 62).toNat i).count pgDRS 14))
  ∧ (∀ (s : State),
      s.takes pgDRS = true →
      s.enabled pgDRS = true →
      exec (.calRunNow) s = .next (s.wr pgDRS DRS_CAL_STAT_BUSY 1))
  ∧ (∀ (s : State),
      s.on pgDRS DRS_CAL_STAT_BUSY = true →
      exec (.calDone) s = .next ((s.wr pgDRS DRS_CAL_STAT_BUSY 0).irq pgDRS 4))
  ∧ (∀ (s : State) (region sector op : Nat) (ok : Bool),
      s.held = [] →
      exec (.flashOpDone region sector op ok) s = .next (
        let t := s.flashOp region sector op ok
        if 2 ≤ region ∨ 128 ≤ sector ∨ op ≠ 1 then t
        else match t.upd.sess with
          | none => t
          | some x =>
            if x.slot ≠ region then t
            else if !ok then t.sessFail x.source 0xB
            else (State.updSync { t with upd := { t.upd with sess := some { x with buf := x.buf - 64 } } }).updServe))
  ∧ (∀ (s : State) (r : List Nat) (l : List (List Nat)),
      s.hk.ledger = r :: l →
      s.hkUp = true →
      s.on pgDRS DRS_WEARr_A_EXHAUSTED 0 = false →
      exec (.ledgerWrite) s = .next (
        let keep := if s.ledgerCap ≤ s.flash.ledger.length then s.flash.ledger.drop 63 else s.flash.ledger
        let t : State := { s with hk := { s.hk with ledger := l }, flash := { s.flash with ledger := keep ++ [r] } }
        (t.wr pgDRS DRS_LEDGER_RAM_HELD l.length).count pgDRS 17))
  ∧ (∀ (s : State) (temp : Int) (core phy08 phy18 : Nat) (vddio : List Nat),
      s.held = [] →
      exec (.logicTelemetrySample temp core phy08 phy18 vddio) s = .next (
        let u := match s.rst.telemAt with
          | some t => s.passTo (t + 1000000)
          | none => s
        let put (m : SMap Nat) (e : Nat × Nat) : SMap Nat := m.set (fun _ => 0) e.1 (e.2 % 2 ^ 31)
        let items := [(0, unsigned 16 temp), (1, core), (2, phy08), (3,
            phy18)] ++ ((vddio.take 32).mapIdx (fun i v => (64 + i, v)))
        { u with rst := { u.rst with telem := items.foldl put u.rst.telem, telemAt := some u.now } }))
  ∧ (∀ (s : State) (i : Nat) (ok : Bool) (value : Int),
      i < 2 →
      exec (.calibration 1 i true ok value) s = .next (
        let t := s.calRuns 1 i true
        if !ok then t.calFail DRS_CAL_STAT_ASYM_FAIL
        else (t.wr pgDRS DRS_ASYM_ASYM (unsigned 32 (if t.rd (pgLINK + i) LINK_CFG_MEDIUM = 0 then value else 0)) i).count
            pgDRS 14))
  ∧ (∀ (s : State) (i : Nat) (training ok : Bool) (value : Int),
      s.enabled pgDRS = true ∨ training = true →
      i < 8 →
      exec (.calibration 2 i training ok value) s = .next (
        let t := s.calRuns 2 i training
        if !ok then t.calFail DRS_CAL_STAT_SENSE_FAIL
        else (t.wr (sluPg i) SLU_SENSE_TRIM (unsigned 16 (towards (signed 16 (t.rd (sluPg i) SLU_SENSE_TRIM)) value
            100))).count pgDRS 14))
  ∧ (∀ (s : State) (i : Nat) (training ok : Bool) (value : Int),
      s.enabled pgDRS = true ∨ training = true →
      i < 2 →
      ¬(i = 1 ∧ s.hkPaused = true) →
      exec (.calibration 3 i training ok value) s = .next (
        let t := s.calRuns 3 i training
        if ok then t.count pgDRS 14 else t.calFail DRS_CAL_STAT_MON_FAIL))

/-- On a Course page that takes commands with the firmware running, a switch with its key gives its result, and one
that nothing forbids is armed, announced and repeated. With the firmware running a switch cell is counted and arms its
switch, is answered by a neighbour that is full, or gives a joining hub the Course in force; a joining hub asks for
that. A store session is opened, refused while another holds it, takes words, is committed after its checks,
completes, is aborted or times out; a Foundation stored into a hub that waits for one takes effect. Rests on R612,
R614, R616, R621, R622. -/
def Obligations.CourseCommandsTakeEffect : Prop :=
  (∀ (s : State) (ini : Initiator) (course key : Nat),
      s.takes pgCRS = true →
      s.hkPaused = false →
      exec (.crsSwitch ini course key) s = .next (
        if key ≠ 0x3C ∨ 8 < course then s
        else
          let e := s.rd64 pgCRS CRS_TARGET_LO_W CRS_TARGET_HI_W 0 ini.num
          let r := s.switchBad e course
          let t := s.wr pgCRS CRS_RES_RESULT r 0 ini.num
          if r ≠ 0 then t
          else
            let a : CrsArm := { epoch := e, course := course, sum := t.courseSum course, stamp := t.ringNow, issuer := t.nodeId }
            let p := switchPayload e 1 0 course t.nodeId a.sum a.stamp ones64
            let t := (t.crsArm (some a)).irq pgCRS 3
            State.originate { t with crs := { t.crs with sends := some (p, 3, t.now + 1000000) } } 2 0 tCOURSE_SWITCH p))
  ∧ (∀ (s : State) (p : List Byte) (n x : Nat),
      s.crs.sends = some (p, n, x) →
      exec (.courseSwitchRepeat) s = .next (
        let t := s.passTo x
        State.originate { t with crs := { t.crs with sends := if n ≤ 1 then none else some (p, n - 1, x + 1000000) } } 2 0
          tCOURSE_SWITCH p))
  ∧ (∀ (s : State) (r : RxCell) (u : State),
      s.hkUp = true →
      s.takeCell 4 tCOURSE_SWITCH = some (r, u) →
      beAt r.cell.payload 8 1 % 16 = 1 →
      exec (.courseSwitchRx) s = .next (
        let p := r.cell.payload
        (u.count pgCRS 1).armSwitch { epoch := beAt p 0 8, course := beAt p 9 1 % 16, sum := beAt p 12 4, stamp := beAt p 16 8
                                      issuer := beAt p 10 2 % 2048 }))
  ∧ (∀ (s : State),
      s.time.firstUp.isSome = true →
      s.hkUp = true →
      s.crs.answered = false →
      (s.crs.once && s.crs.query.isSome) = false →
      s.heldId = true →
      nsJOIN ≤ s.node →
      s.node ≤ nsQUIET →
      exec (.courseQueryTx) s = .next (
        let t := match s.crs.query with
          | some t => s.passTo (t + 64000000)
          | none => s
        let t : State := { t with crs := { t.crs with query := some t.now } }
        t.originate 2 0 tCOURSE_SWITCH (switchPayload ones64 2 0 0 t.nodeId 0 t.ringNow ones64)))
  ∧ (∀ (s : State) (ini : Initiator) (image key : Nat),
      s.takes pgCRS = true →
      s.hkPaused = false →
      exec (.crsStoreOpen ini image key) s = .next (
        let opens := (s.wr pgCRS CRS_STORE_STAT_ERROR 0).setStore (some { ini := ini, image := image, at_ := s.now })
        if s.storeTakes key = false ∨ 8 < image then s
        else match s.crs.store with
          | some x => if x.ini = ini ∧ x.writing = false then opens else s.storeFail 9
          | none => opens))
  ∧ (∀ (s : State) (ini : Initiator) (data : Nat) (x : CrsStore),
      s.takes pgCRS = true →
      s.hkPaused = false →
      s.crs.store = some x →
      exec (.crsStoreData ini data) s = .next (
        if x.ini = ini
            ∧ x.writing = false then s.setStore (some { x with words := data % 2 ^ 32 :: x.words, at_ := s.now }) else s))
  ∧ (∀ (s : State) (ini : Initiator) (key : Nat) (x : CrsStore),
      s.takes pgCRS = true →
      s.hkPaused = false →
      s.crs.store = some x →
      s.storeTakes key = true →
      x.ini = ini →
      x.writing = false →
      exec (.crsStoreCommit ini key) s = .next (
        let line := if s.crs.fnd.isEmpty then none else some (crsLine s.crs.fnd)
        let e := imageError x.image x.bytes line
        if e ≠ 0 then (s.setStore none).storeFail e
        else if s.on pgDRS DRS_WEARr_A_EXHAUSTED 1 then (s.setStore none).flashWorn.storeFail 0xA
        else s.setStore (some { x with writing := true })))
  ∧ (∀ (s : State) (x : CrsStore),
      s.crs.store = some x →
      x.writing = true →
      exec (.crsStoreDone) s = .next (
        let b := x.bytes
        let t : State := { s with flash := { s.flash with
          images := { kind := x.image, bytes := b } :: s.flash.images.filter (fun y => y.kind != x.image) } }
        let t := (t.setStore none).crsHold x.image b
        let t : State := if x.image = 0 then t else
            { t with crs := { t.crs with course := t.crs.course.set (fun _ => []) x.image b } }
        let t := ((t.wr pgCRS CRS_STORE_STAT_ERROR 0).irq pgCRS 5).count pgCRS 4
        if x.image = 0 ∧ t.rd pgPWRST PWRST_STATE_DETAIL = 1 then t.foundation else t))
  ∧ (∀ (s : State) (ini : Initiator) (key : Nat) (x : CrsStore),
      s.takes pgCRS = true →
      s.hkPaused = false →
      s.crs.store = some x →
      exec (.crsStoreAbort ini key) s = .next (
        if s.storeTakes key && x.ini == ini && !x.writing then s.setStore none else s))
  ∧ (∀ (s : State) (x : CrsStore),
      s.crs.store = some x →
      x.writing = false →
      exec (.crsStoreTimeout) s = .next ((s.passTo (x.at_ + 10 ^ 10)).setStore none))
  ∧ (∀ (s : State) (r : RxCell) (u : State),
      s.hkUp = true →
      s.takeCell 4 tCOURSE_SWITCH = some (r, u) →
      beAt r.cell.payload 8 1 % 16 = 2 →
      exec (.courseSwitchRx) s = .next (
        let t := u.count pgCRS 1
        let near := r.cell.src == t.rd pgLINK LINK_STAT_NEIGH_ID || r.cell.src == t.rd (pgLINK + 1) LINK_STAT_NEIGH_ID
        if near && t.on pgIMG IMG_STAT_FULL then t.answerQuery r.cell.src else t))
  ∧ (∀ (s : State) (r : RxCell) (u : State),
      s.hkUp = true →
      s.takeCell 4 tCOURSE_SWITCH = some (r, u) →
      beAt r.cell.payload 8 1 % 16 = 3 →
      exec (.courseSwitchRx) s = .next (
        let t := u.count pgCRS 1
        let joins := !t.crs.answered && t.crs.query.isSome && decide (nsJOIN ≤ t.node ∧ t.node ≤ nsQUIET)
        if joins then t.adoptState r.cell.payload else t))
  ∧ (∀ (s : State) (r : RxCell) (u : State),
      s.hkUp = true →
      s.takeCell 4 tCOURSE_SWITCH = some (r, u) →
      beAt r.cell.payload 8 1 % 16 = 0 ∨ 3 < beAt r.cell.payload 8 1 % 16 →
      exec (.courseSwitchRx) s = .next (u.count pgCRS 1))
  ∧ (∀ (s : State) (ini : Initiator) (data : Nat),
      s.takes pgCRS = true →
      s.hkPaused = false →
      s.crs.store = none →
      exec (.crsStoreData ini data) s = .next (s))

/-- On an update page that takes commands with the firmware running, OPEN of a port that owns no session opens its
header buffer, and in RECOVERY erases the slot where nothing holds it; ABORT ends an open one with result D; PREPARE
erases the slot that is not running, where nothing holds it; a data word is received, and one of an initiator that is
no source is answered. USB data of a configured port is fed where the port is authenticated, and else halts the
endpoint. With the firmware running a ring data cell that is well formed opens or fills the header of its distributor,
or adds its chunk to the session. An erase ends with its interrupt, and a silent source times out. In RECOVERY,
ACTIVATE of a STAGED slot puts it on trial and resets the hub; elsewhere one that nothing forbids restarts the
firmware from that slot under a grace, and any other is refused. CONFIRM ends a running trial, which is also confirmed
by itself after its time unless a fatal fault occurred, or falls back where it may not confirm itself. DISTRIBUTE
sends a slot of the flash to the ring, cell after cell and round after round; firmware that does not run in time is
noted and ends its start. Rests on R632, R633, R635, R636, R637, R639, R640, R642. -/
def Obligations.UpdateTakesEffect : Prop :=
  (∀ (s : State) (ini : Initiator) (src : Nat),
      s.updTakes = true →
      s.hkPaused = false →
      updSource ini = some src →
      exec (.updOpen ini) s = .next (
        if !s.updOn then s.updRefuse ini 0xE
        else if s.upd.sess.any (fun x => x.source == src) then s
        else
          let t := (s.updRes ini 0).setUpdHdr src { open_ := true, at_ := s.now }
          if t.inRecovery && t.upd.sess.isNone && t.upd.erasing.isNone then t.eraseStart t.updSlot else t))
  ∧ (∀ (s : State) (ini : Initiator) (src : Nat),
      s.updTakes = true →
      s.hkPaused = false →
      updSource ini = some src →
      exec (.updAbort ini) s = .next (
        if (s.updHdr src).open_ || s.upd.sess.any (fun x => x.source == src) then s.sessFail src 0xD else s))
  ∧ (∀ (s : State) (ini : Initiator),
      s.updTakes = true →
      s.hkPaused = false →
      exec (.updPrepare ini) s = .next (
        if s.upd.sess.isSome || s.upd.erasing.isSome || (s.fwSlot s.updSlot).st == 4 then s else (s.updRes ini 0).eraseStart
            s.updSlot))
  ∧ (∀ (s : State) (ini : Initiator) (data src : Nat),
      s.updTakes = true →
      s.hkPaused = false →
      updSource ini = some src →
      src ≠ 3 →
      exec (.updDataWrite ini data) s = .next (s.updWord ini src data))
  ∧ (∀ (s : State) (data : List Byte) (bad : Bool),
      s.rd pgUSB USB_STAT_STATE = 3 →
      s.usb.halted.contains 3 = false →
      exec (.updUsbData data bad) s = .next (
        if bad then (s.drawn.epHalt 3).fault pgUSB 0x1E 1 (8 * (s.freeVal % 2 ^ 26))
        else if !s.on pgUSB USB_STAT_AUTH then s.epHalt 3
        else if s.hkPaused || s.updFull 3 data.length then s
        else (s.usbMoved 3 data.length).updFeed 3 data))
  ∧ (∀ (s : State) (r : RxCell) (u : State),
      s.hkUp = true →
      s.takeCell 4 tUPD_DATA = some (r, u) →
      exec (.updDataRx) s = .next (
        let t := u.count pgUPD 6
        let p := r.cell.payload
        let session := beAt p 0 2
        let chunks := beAt p 2 2
        let k := beAt p 4 4
        let data := p.drop 16
        if beAt p 8 2 = 0 ∨ 224 < beAt p 8 2 ∨ p.length ≠ 16 + beAt p 8 2 ∨ chunks ≤ k ∨ t.updOn = false then t
        else
          let h := t.updHdr 8
          let head (v : State) : State :=
            if h.open_ ∧ h.session = session ∧ h.node = r.cell.src then v.ringHdr h k data
            else if h.open_ ∨ (h.session = session ∧ h.node = r.cell.src ∧ h.chunks ≠ 0) then v
            else v.ringHdr { open_ := true, node := r.cell.src, session := session, chunks := chunks } k data
          match t.upd.sess with
          | some x =>
            if x.source = 8 then
              if x.session ≠ session ∨ x.node ≠ r.cell.src then t
              else
                let more := !x.held.any (fun e => e.1 == k) && decide (k < imageChunks (512 + hdrBodyLen x.header))
                let x := { x with held := if more then x.held.ins k data else x.held, at_ := t.now }
                let t := State.updSync { t with upd := { t.upd with sess := some x } }
                if x.held.length < imageChunks (512 + hdrBodyLen x.header) then t
                else t.bodyDone x (slice (x.held.flatMap (·.2)) 512 (hdrBodyLen x.header))
            else head t
          | none => head t))
  ∧ (∀ (s : State) (n : Nat),
      s.upd.erasing = some n →
      exec (.updEraseDone) s = .next ((((State.setFw { s with upd := { s.upd with erasing := none } } n {}).updSync.irq pgUPD
          8).count pgUPD 8).updServe))
  ∧ (∀ (s : State) (src : Nat),
      (s.updHdr src).open_ = true →
      exec (.updSessionTimeout src) s = .next ((s.passTo ((s.updHdr src).at_ + 10 ^ 10)).sessFail src 0xC))
  ∧ (∀ (s : State) (ini : Initiator) (slot : Nat),
      s.updTakes = true →
      s.hkPaused = false →
      slot < 2 →
      exec (.updActivate ini slot 0x69) s = .next (
        let x := s.fwSlot slot
        if s.inRecovery then
          if x.st ≠ 3 then s.updRefuse ini 0xE
          else
            let t := (s.updRes ini 0).setFw slot { x with st := 4, tried := false, seq := s.nextSeqMark }
            { t with rst := { t.rst with due := (t.now, false) :: t.rst.due } }
        else
          let may := x.st == 3 || x.st == 5 && s.upd.run != some slot
          let bad := !s.enabled pgUPD || !may || s.hdrBad x.header true != 0
            || s.upd.run.any (fun r => (s.fwSlot r).st == 4)
            || s.flt.restarts.any (fun t => decide (s.now < t + 10 ^ 9))
            || s.node == nsBOOT || s.node == nsHOLD
          if bad then s.updRefuse ini 0xE
          else
            let t := ((s.updRes ini 0).count pgUPD 4).hkRestart 2
            let t := t.setFw slot { x with st := 4, tried := true, seq := t.nextSeqMark }
            State.wr { t with
              hk := { t.hk with starting := some (slot, false) }
              flt := { t.flt with graceEnd := some (t.now + 64000000) } } pgFLT FLT_CLACK_GRACE 1))
  ∧ (∀ (s : State) (ini : Initiator),
      s.updTakes = true →
      s.hkPaused = false →
      exec (.updConfirm ini) s = .next (
        if s.upd.trialAt.isSome then (s.updRes ini 0).updConfirm else s))
  ∧ (∀ (s : State) (ini : Initiator),
      s.updTakes = true →
      s.hkPaused = false →
      exec (.updDistribute ini) s = .next (
        let n := s.rd pgUPD UPD_DIST_SLOT
        let st := (s.fwSlot n).st
        if !s.enabled pgUPD || decide (st < 3 ∨ 5 < st) || s.upd.dist.isSome then s.updRefuse ini 0xE
        else
          let d : UpdDist := { slot := n, session := s.upd.nextSession, due := s.now }
          let t : State := { s with upd := { s.upd with dist := some d, nextSession := (s.upd.nextSession + 1) % 2 ^ 16 } }
          ((t.updRes ini 0).wr pgUPD UPD_DIST_BUSY 1).wr pgUPD UPD_DIST_ROUND 1))
  ∧ (∀ (s : State) (d : UpdDist),
      s.upd.dist = some d →
      s.hkUp = true →
      exec (.updDistCellTx) s = .next (
        let t := s.passTo d.due
        let img := (t.fwSlot d.slot).image
        let n := imageChunks img.length
        let data := slice img (224 * d.chunk) 224
        let p := beBytes 2 d.session ++ beBytes 2 n ++ beBytes 4 d.chunk ++ beBytes 2 data.length
          ++ beBytes 1 d.round ++ beBytes 5 0 ++ data
        let bc := t.on pgUPD UPD_DIST_BCAST
        let t := (t.originate (if bc then 2 else 1) (if bc then 0 else t.rd pgUPD UPD_DIST_GROUP) tUPD_DATA p).count pgUPD 7
        let due := d.due + 1000 * max 100 (t.rd pgUPD UPD_CFG_DIST_GAP)
        if d.chunk + 1 < n then { t with upd := { t.upd with dist := some { d with chunk := d.chunk + 1, due := due } } }
        else if d.round < max 1 (t.rd pgUPD UPD_DIST_ROUNDS) then
          State.wr { t with upd := { t.upd with dist := some { d with chunk := 0, round := d.round + 1, due := due } } }
              pgUPD UPD_DIST_ROUND (d.round + 1)
        else
          ((State.wr { t with upd := { t.upd with dist := none } } pgUPD UPD_DIST_BUSY 0).wr pgUPD UPD_DIST_ROUND 0).irq
              pgUPD 9))
  ∧ (∀ (s : State) (t : Nat),
      s.upd.trialAt = some t →
      exec (.updAutoConfirm) s = .next (
        let u := s.passTo (t + 10 ^ 9 * max 1 (s.rd pgUPD UPD_CFG_CONFIRM_TMO))
        if !u.on pgUPD UPD_CFG_AUTO_CONFIRM then u.hkRestart 2
        else if u.upd.fatals = 0 then u.updConfirm
        else u))
  ∧ (∀ (s : State) (n : Nat) (second : Bool),
      s.held = [] →
      s.hkUp = false →
      (s.node == nsRECOVERY) = false →
      s.hk.starting = some (n, second) →
      s.rd pgPWRST PWRST_STATE_STEP < 3 →
      exec (.updRunTimeout) s = .next (
        let t := (s.passTo (s.t0 + 40000000)).bootLate PWRST_BOOT_LATE_FIRMWARE
        if t.node = nsBOOT then t.romFail n second else t))
  ∧ (∀ (s : State) (ini : Initiator) (data : Nat),
      s.updTakes = true →
      s.hkPaused = false →
      updSource ini = none ∨ updSource ini = some 3 →
      exec (.updDataWrite ini data) s = .next (s.rsp ini stOK []))
  ∧ (∀ (s : State) (src : Nat) (x : UpdSess),
      (s.updHdr src).open_ = false →
      s.upd.sess = some x →
      x.source = src →
      exec (.updSessionTimeout src) s = .next ((s.passTo (x.at_ + 10 ^ 10)).sessFail src 0xC))
  ∧ (∀ (s : State) (n : Nat) (second : Bool),
      s.held = [] →
      s.hkUp = false →
      (s.node == nsRECOVERY) = false →
      s.hk.starting = some (n, second) →
      3 ≤ s.rd pgPWRST PWRST_STATE_STEP →
      exec (.updRunTimeout) s = .next (
        if s.trialSlot == some n then s.hkRestart 2 else s))

/-- On a key page that takes commands with the firmware running, INSTALL_CLEAR, INSTALL_WRAPPED, GENERATE, DESTROY,
LINK_ARM and LINK_DISARM are each refused with their result where something forbids them: a blocked slot, a bad parent
or usage, a port that is not local, a failed authentication, a key in use, no entropy, worn flash, an epoch that is
too near, no next key. Else an install starts with its material (that given, that unwrapped, or a generated wrap key),
DESTROY takes the key away at once with its descendants, and a link-master switch is armed for an epoch or disarmed;
an operation ends with its interrupt; keys are loaded at start-up, unless the tamper input is latched. A failed
entropy source is noted. A port that is UP starts a new transmit SA once its packet number reaches 0xC0000000; a pair
record of the neighbour is written, with its reserve raised by 16 where it must be; one step of a key search takes 1
us, takes the key that verifies, or goes on, or ends in NO_KEY after the last; a protected link without a verified
frame for 10 ms enters NO_KEY. Rests on R654, R655, R657, R658, R659, R660, R668, R669, R664, R665, R666. -/
def Obligations.KeyCommandsTakeEffect : Prop :=
  (∀ (s : State) (ini : Initiator) (slot parent key : Nat),
      s.keyTakes = true →
      s.hkPaused = false →
      exec (.installClear ini slot parent key) s = .next (
        let usage := s.rd pgKEY KEY_ARG_USAGE 0 ini.num
        let b := s.keyBlocked slot key
        let c := s.installBad slot parent usage
        if b ≠ 0 then s.keyRefuse ini b
        else if c ≠ 0 then s.keyRefuse ini c
        else if ini = .bridge then s.keyRefuse ini 6
        else if s.key.noEntropy then s.keyRefuse ini 0xC
        else if s.on pgDRS DRS_WEARr_A_EXHAUSTED 2 then (s.keyRefuse ini 8).flashWorn
        else s.keyStart { ini := ini, destroy := false, slot := slot, parent := parent, usage := usage }
          (s.keyData ini 0 (materialLen usage))))
  ∧ (∀ (s : State) (ini : Initiator) (slot parent key : Nat),
      s.keyTakes = true →
      s.hkPaused = false →
      exec (.installWrapped ini slot parent key) s = .next (
        let usage := s.rd pgKEY KEY_ARG_USAGE 0 ini.num
        let b := s.keyBlocked slot key
        let c := s.installBad slot parent usage
        let m := (s.wrapKey (s.rd pgKEY KEY_ARG_WRAP_SLOT 0 ini.num)).bind (fun kw =>
          Config.gcmOpen kw (s.keyData ini 0 12) (beBytes 1 slot ++ beBytes 1 usage) (s.keyData ini 12 64)
            (BitVec.ofNat 128 (beNat (s.keyData ini 76 16))))
        if b ≠ 0 then s.keyRefuse ini b
        else if c ≠ 0 then s.keyRefuse ini c
        else match m with
          | none => s.keyRefuse ini 7
          | some p =>
            if s.key.noEntropy then s.keyRefuse ini 0xC
            else if s.on pgDRS DRS_WEARr_A_EXHAUSTED 2 then (s.keyRefuse ini 8).flashWorn
            else s.keyStart { ini := ini, destroy := false, slot := slot, parent := parent, usage := usage }
              (p.take (materialLen usage))))
  ∧ (∀ (s : State) (ini : Initiator) (slot parent key : Nat),
      s.keyTakes = true →
      s.hkPaused = false →
      exec (.generate ini slot parent key) s = .next (
        let usage := s.rd pgKEY KEY_ARG_USAGE 0 ini.num
        let b := s.keyBlocked slot key
        let c := if usage = usWRAP then s.installBad slot parent usage else 2
        if b ≠ 0 then s.keyRefuse ini b
        else if c ≠ 0 then s.keyRefuse ini c
        else if s.key.noEntropy then s.keyRefuse ini 0xC
        else if s.on pgDRS DRS_WEARr_A_EXHAUSTED 2 then (s.keyRefuse ini 8).flashWorn
        else 
          let x := s.randBytes 16
          x.2.keyStart { ini := ini, destroy := false, slot := slot, parent := parent, usage := usage } x.1))
  ∧ (∀ (s : State) (ini : Initiator) (slot key : Nat) (force : Bool),
      s.keyTakes = true →
      s.hkPaused = false →
      exec (.destroy ini slot key force) s = .next (
        let b := s.keyBlocked slot key
        let uses (l : Nat) : Bool :=
          l == slot || (s.slotKey l).st != 0 && (s.ancestors 5 (s.slotKey l).parent).contains slot
        if b ≠ 0 then s.keyRefuse ini b
        else if (uses (s.rd pgKEY KEY_STAT_LINK_SLOT) || uses (s.rd pgKEY KEY_STAT_NEXT_SLOT)) && !force then s.keyRefuse ini
            5
        else if s.key.noEntropy then s.keyRefuse ini 0xC
        else
          let x := s.slotKey slot
          let t := State.orphan 5 s slot
          let t := t.setSlotKey slot { x with st := 4, key := [] }
          let t := if x.usage = usSERVICE_AUTH then t.authEnd else t
          let t := if s.linkMaster.isSome && t.linkMaster.isNone then t.dropSas 1 else t
          t.keyStart { ini := ini, destroy := true, slot := slot, parent := x.parent, usage := x.usage } []))
  ∧ (∀ (s : State) (ini : Initiator) (key : Nat),
      s.keyTakes = true →
      s.hkPaused = false →
      exec (.linkArm ini key) s = .next (
        let e := s.rd64 pgKEY KEY_LINK_AT_LO_EPOCH KEY_LINK_AT_HI_EPOCH
        let b := s.keyBlocked 0 key
        if b ≠ 0 then s.keyRefuse ini b
        else if s.epoch = ones64 ∨ e < s.epoch + s.settle_ + 2 then s.keyRefuse ini 0xB
        else if !s.slotIs (s.rd pgKEY KEY_STAT_NEXT_SLOT) usLINK_MASTER then s.keyRefuse ini 3
        else
          let t := State.wr { s with key := { s.key with at_ := some e } } pgKEY KEY_STAT_ARMED 1
          (((t.keyRes ini 0).irq pgKEY 2).count pgKEY 0).keyClear ini))
  ∧ (∀ (s : State) (ini : Initiator) (key : Nat),
      s.keyTakes = true →
      s.hkPaused = false →
      exec (.linkDisarm ini key) s = .next (
        let b := s.keyBlocked 0 key
        if b ≠ 0 then s.keyRefuse ini b
        else
          let t := State.wr { s with key := { s.key with at_ := none } } pgKEY KEY_STAT_ARMED 0
          (((t.keyRes ini 0).irq pgKEY 2).count pgKEY 0).keyClear ini))
  ∧ (∀ (s : State) (op : KeyOp),
      s.key.op = some op →
      exec (.keyOpDone) s = .next (
        let t := if op.destroy then
            let t := (s.destroyRecs op.slot op.parent op.usage).count pgKEY 2
            (t.setSlotKey op.slot { t.slotKey op.slot with st := 4, gen := t.nextGen op.slot - 1 }).keyRes op.ini 0
          else s.installDone op
        let t := State.keyClear { t with key := { t.key with op := none } } op.ini
        ((t.wr pgKEY KEY_STAT_BUSY 0).irq pgKEY 2).count pgKEY (b2n (t.rd pgKEY KEY_RES_RESULT 0 op.ini.num != 0))))
  ∧ (∀ (s : State),
      s.on pgKEY KEY_STAT_LOADED = false →
      s.hkUp = true ∨ s.node = nsRECOVERY →
      exec (.keyLoad) s = .next (
        if s.on pgPWD PWD_STAT_TAMPER then s.tamperAct
        else ((s.finishDestroy.loadSlots.loadPairs).wr pgKEY KEY_STAT_LOADED 1).keyRetry))
  ∧ (∀ (s : State),
      s.held = [] →
      exec (.entropyHealthFail) s = .next ({ s with key := { s.key with noEntropy := true } }))
  ∧ (∀ (s : State) (port : Nat),
      port < 2 →
      s.linkUp port = true →
      0xC0000000 ≤ (s.protSt port).txPn →
      (s.protSt port).txWait = false →
      exec (.saRekey port) s = .next (s.txSaStart port))
  ∧ (∀ (s : State) (port : Nat) (p : PairEnt),
      (s.protSt port).pairs.find? (fun q => q.serial == s.neighSerial port) = some p →
      exec (.pairRecordWrite port) s = .next (
        let x := s.protSt port
        let raised := x.txWait || decide (p.txRes < p.nextT)
        if !raised && s.flash.pairs.any (fun r => r.port == port && r.serial == p.serial && r.rxMark == p.rxMark) then s
        else
          let p' := if raised then { p with txRes := (p.txRes + 16) % 2 ^ 32 } else p
          let t := (s.setProt port { x.setPair p' with txWait := false }).pairWrite port p'
          if x.txWait = true ∧ (x.txT = none ∨ p.txRes < p.nextT) ∧ t.linkUp port = true then t.txSaStart port else t))
  ∧ (∀ (s : State) (port an n : Nat) (f : Frame) (k : List Byte),
      (s.protSt port).search = some (an, n, f) →
      s.linkMaster = some k →
      exec (.keySearch port) s = .next (
        let x := s.protSt port
        let mark := ((x.pairs.find? (fun q => q.serial == s.neighSerial port)).map (·.rxMark)).getD 0xFFFFFFFF
        let first := (mark + 1) % 2 ^ 32
        let t := (first + (an + 4 - first % 4) % 4 + 4 * n) % 2 ^ 32
        let u := (s.pass 250).count pgKEY 7
        let sak := u.rxSakOf port k t
        match u.openWith port sak f with
        | some _ => u.searchHit port t sak ((f.sec.map (·.pn)).getD 0)
        | none =>
          if 16383 ≤ n then (u.setProt port { x with search := none }).noKey port 3
          else u.setProt port { x with search := some (an, n + 1, f) }))
  ∧ (∀ (s : State) (port t : Nat),
      (s.protSt port).failing = some t →
      s.protected port = true →
      s.linkUp port = true →
      exec (.noVerifyTimeout port) s = .next ((s.passTo (max (s.protSt port).lastOk t + 10000000)).noKey port 4))

/-- On a snapshot page that takes commands with the firmware running, SNAP in IDLE with a range is accepted, RELEASE
and PART_SELECT of the snapshot held act, and any other gives its result; the snapshot is taken, at once or at the
commit it waits for, a page that does not latch in time is left out, the parts and their interrupts follow, and the
hold ends. On an OBS page that takes commands OBS_MARK writes a record and TRACE_CLEAR empties the trace. The test
port takes its instructions while it is on. Rests on R674, R675, R676, R678, R688, R697, R717. -/
def Obligations.PlumbAndTestPortTakeEffect : Prop :=
  (∀ (s : State) (ini : Initiator) (atCommit pin : Bool) (scope tag : Nat),
      s.hkPaused = false →
      s.takes pgPLUMB = true →
      exec (.plumbSnap ini atCommit pin scope tag) s = .next (
        if s.plumbState ≠ 0 then s.plumbRes ini 1
        else if s.rd pgPLUMB PLUMB_RANGE_LAST < s.rd pgPLUMB PLUMB_RANGE_FIRST then s.plumbRes ini 4
        else
          let t := ((s.wr pgPLUMB PLUMB_STAT_STATE 1).wr pgPLUMB PLUMB_STAT_TAG tag).wr pgPLUMB PLUMB_STAT_PINNED 0
          let t := ((t.wr pgPLUMB PLUMB_STAT_PARTS 0).wr pgPLUMB PLUMB_STAT_PART 0).wr pgPLUMB PLUMB_BYTES_BYTES 0
          let t : State := { t with plumb := { snap := some (atCommit, pin, scope % 16, ini.num, t.now) } }
          t.plumbHold.plumbRes ini 0))
  ∧ (∀ (s : State) (ini : Initiator) (tag : Nat),
      s.hkPaused = false →
      s.takes pgPLUMB = true →
      exec (.plumbRelease ini tag) s = .next (
        if s.plumbState = 0 then s.plumbRes ini 3 else if s.rd pgPLUMB PLUMB_STAT_TAG ≠ tag % 256 then s.plumbRes ini 2 else
            s.plumbFree.plumbRes ini 0))
  ∧ (∀ (s : State) (ini : Initiator) (part tag : Nat),
      s.hkPaused = false →
      s.takes pgPLUMB = true →
      exec (.plumbPartSelect ini part tag) s = .next (
        if s.plumbState = 0 then s.plumbRes ini 3
        else if s.rd pgPLUMB PLUMB_STAT_TAG ≠ tag % 256 then s.plumbRes ini 2
        else if s.rd pgPLUMB PLUMB_STAT_PARTS ≤ part % 256 then s.plumbRes ini 4
        else ((State.wr { s with plumb := { s.plumb with build := some (part % 256), window := [] } } pgPLUMB
            PLUMB_STAT_STATE 4).plumbHold).plumbRes ini 0))
  ∧ (∀ (s : State) (atCommit pin : Bool) (scope ini t : Nat),
      s.plumb.snap = some (atCommit, pin, scope, ini, t) →
      exec (.plumbSnapshot) s = .next (
        if !atCommit then s.plumbEdge false pin scope ini
        else
          let u := s.plumbAwait 3 t
          if u.committedSince t then u.plumbEdge true pin scope ini else u))
  ∧ (∀ (s : State) (page : Nat),
      s.plumbState = 2 →
      s.plumb.recs.any (fun (r : List Byte) => leAt r 0 1 == 2 && leAt r 4 2 == page) = true →
      exec (.plumbLatchTimeout page) s = .next (
        let isPage (r : List Byte) : Bool := leAt r 0 1 == 2 && leAt r 4 2 == page
        let recs := s.plumb.recs.flatMap (fun r =>
          if isPage r then [plumbUnavailable page 1] else if leAt r 4 2 = page then [] else [r])
        let t := s.wr page SNAP_GEN_W ((s.rd page SNAP_GEN_W + (2 ^ 32 - 1)) % 2 ^ 32)
        State.plumbLost { t with plumb := { t.plumb with recs := recs, bad := page :: t.plumb.bad } }))
  ∧ (∀ (s : State),
      s.plumbState = 2 →
      s.hkPaused = false →
      exec (.plumbReady) s = .next (
        let split := plumbSplit s.plumb.recs [] 56
        let parts := ((List.range split.length).zip split).map (fun (e : Nat × List (List Byte)) =>
          plumbPart s.plumb.hdr e.2 e.1 split.length)
        let t : State := { s with plumb := { s.plumb with parts := parts, window := parts.getD 0 [], recs := [] } }
        let t := ((t.wr pgPLUMB PLUMB_STAT_PARTS parts.length).wr pgPLUMB PLUMB_STAT_PART 0).wr pgPLUMB PLUMB_BYTES_BYTES
          (parts.foldl (fun a b => a + b.length) 0)
        ((t.wr pgPLUMB PLUMB_STAT_STATE 3).irq pgPLUMB 2).count pgPLUMB 1))
  ∧ (∀ (s : State) (p : Nat),
      s.plumb.build = some p →
      s.hkPaused = false →
      exec (.plumbPartReady) s = .next (
        let t := State.wr { s with plumb := { s.plumb with build := none, window := s.plumb.parts.getD p [] } } pgPLUMB
            PLUMB_STAT_STATE 3
        ((t.wr pgPLUMB PLUMB_STAT_PART p).irq pgPLUMB 3).count pgPLUMB 1))
  ∧ (∀ (s : State) (t : Nat),
      s.plumb.till = some t →
      exec (.plumbHoldExpiry) s = .next ((s.passTo t).plumbFree.count pgPLUMB 3))
  ∧ (∀ (s : State) (data : Nat),
      s.takes pgOBS = true →
      exec (.obsMark data) s = .next (s.trace pgOBS 8 0 (data % 2 ^ 32)))
  ∧ (∀ (s : State),
      s.takes pgOBS = true →
      exec (.traceClear) s = .next (((State.wr { s with obs := { s.obs with since := 0 } } pgOBS OBS_TRC_WPTR_WPTR 0).wr
          pgOBS OBS_TRC_WPTR_WRAPPED 0).wr pgOBS OBS_TRC_WPTR_STOPPED 0))
  ∧ (∀ (s : State) (pins bits : List Bool),
      s.tapOn = true →
      exec (.extest pins bits) s = .next (State.emit
          { s with rst := { s.rst with ir := 0, boundary := (tapShift pins bits).2 } } (.tdo (tapShift pins bits).1)))
  ∧ (∀ (s : State) (pins bits : List Bool),
      s.tapOn = true →
      exec (.samplePreload pins bits) s = .next (State.emit
          { s with rst := { s.rst with ir := 1, boundary := (tapShift pins bits).2 } } (.tdo (tapShift pins bits).1)))
  ∧ (∀ (s : State) (code : Nat) (bits : List Bool),
      s.tapOn = true →
      2 ≤ code % 16 →
      exec (.bypass code bits) s = .next (State.emit { s with rst := { s.rst with ir := 0xF } } (.tdo (tapShift [false]
          bits).1)))
end

