-- ==== Sys2Proof/Laws/Kept.lean ====
section
/-!
SUPPORT. What every command but a reset of the hub leaves alone: the waiting commands, the causes that hold the hub, and the
low supply rails.  Here is the notion with the lemmas that chain it; the files Kept… after this one say it once of each function
of the model, `f_kept` of a function that answers a state and `f_keeps` of a meaning.
-/
set_option Elab.async false

namespace Sys2Proof.Machine

/-- What no command but a reset of the hub may touch: the waiting commands, the causes that hold the hub, the low supply rails. -/
def State.kept (s : State) : List Instr × List Nat × List Nat := (s.pending, s.held, s.rst.lowRails)

/-- A meaning that answers a next state and keeps what only a reset may touch. -/
def Keeps (r : Res) (s : State) : Prop := ∃ t : State, r = .next t ∧ t.kept = s.kept

theorem keeps_next {s t : State} (h : t.kept = s.kept) : Keeps (.next t) s := ⟨t, rfl, h⟩

theorem Keeps.trans {r : Res} {s t : State} (h : Keeps r t) (e : t.kept = s.kept) : Keeps r s := by
  obtain ⟨u, hu, hk⟩ := h
  exact ⟨u, hu, hk.trans e⟩

/-- To show that a state is kept: the three pieces are those of another state that is. -/
theorem kept_of {s t u : State} (h : (t.pending, t.held, t.rst.lowRails) = (u.pending, u.held, u.rst.lowRails))
    (e : u.kept = s.kept) : t.kept = s.kept := Eq.trans h e

theorem kept_img (s : State) (x : ImgSt) : State.kept { s with img := x } = s.kept := rfl

theorem kept_time (s : State) (x : TimeSt) : State.kept { s with time := x } = s.kept := rfl

theorem kept_flt (s : State) (x : FltSt) : State.kept { s with flt := x } = s.kept := rfl

theorem kept_twin (s : State) (x : TwinSt) : State.kept { s with twin := x } = s.kept := rfl

theorem kept_ring (s : State) (x : RingSt) : State.kept { s with ring := x } = s.kept := rfl

theorem kept_upd (s : State) (x : UpdSt) : State.kept { s with upd := x } = s.kept := rfl

theorem foldl_kept {α : Type} {g : State → α → State} (l : List α) (s : State) (h : ∀ t x, (g t x).kept = t.kept) :
    (l.foldl g s).kept = s.kept := by
  induction l generalizing s with
  | nil => rfl
  | cons a l ih => exact (ih _).trans (h s a)

theorem ite_some {α : Type} {c : Prop} [Decidable c] {o : Option α} {p : α} (h : (if c then none else o) = some p) :
    o = some p := by
  split at h
  · cases h
  · exact h

theorem foldl_of_kept {α β : Type} {g : β → α → β} (f : β → State) (l : List α) (b : β)
    (h : ∀ c a, (f (g c a)).kept = (f c).kept) : (f (l.foldl g b)).kept = (f b).kept := by
  induction l generalizing b with
  | nil => rfl
  | cons a l ih => exact (ih _).trans (h b a)

theorem id_kept (s : State) : (id s).kept = s.kept := rfl

theorem foldr_kept {α : Type} {g : α → State → State} (l : List α) (s : State) (h : ∀ x t, (g x t).kept = t.kept) :
    (l.foldr g s).kept = s.kept := by
  induction l with
  | nil => rfl
  | cons a l ih => exact (h a _).trans ih

theorem foldl_fst_kept {α β : Type} {g : State × β → α → State × β} (l : List α) (p : State × β)
    (h : ∀ q x, (g q x).1.kept = q.1.kept) : (l.foldl g p).1.kept = p.1.kept := by
  induction l generalizing p with
  | nil => rfl
  | cons a l ih => exact (ih _).trans (h p a)

theorem ite_kept {c : Prop} [Decidable c] {a b s : State} (ha : a.kept = s.kept) (hb : b.kept = s.kept) :
    (if c then a else b).kept = s.kept := by
  split
  · exact ha
  · exact hb

theorem ite_fst_kept {β : Type} {c : Prop} [Decidable c] {a b : State × β} {s : State} (ha : a.1.kept = s.kept)
    (hb : b.1.kept = s.kept) : (if c then a else b).1.kept = s.kept := by
  split
  · exact ha
  · exact hb

theorem ite_keeps {c : Prop} [Decidable c] {a b : Res} {s : State} (ha : Keeps a s) (hb : Keeps b s) :
    Keeps (if c then a else b) s := by
  split
  · exact ha
  · exact hb

theorem fst_kept {β : Type} {p : State × β} {a : State} {b : β} (h : p = (a, b)) : a.kept = p.1.kept := by
  subst h
  rfl

theorem getD_kept {o : Option State} {d s : State} (h : ∀ t, o = some t → t.kept = s.kept) (hd : d.kept = s.kept) :
    (o.getD d).kept = s.kept := by
  cases o with
  | none => exact hd
  | some t => exact h t rfl

end Sys2Proof.Machine
end

