-- ==== Sys2Proof/Laws/KeptShared.lean ====
section
/-!
SUPPORT. What only a reset of the hub may touch is kept by the functions of the registers, the pins, the shared operations, the resequencer, link protection, links and time.
-/
set_option Elab.async false

namespace Sys2Proof.Machine

/-! ## Regs.lean -/

theorem State.setWord_kept (x1 : State) (x2) (x3) (x4) (x5) :
    State.kept (State.setWord x1 x2 x3 x4 x5) = State.kept x1 := by
  unfold State.setWord
  rfl

theorem State.wr_kept (x1 : State) (x2) (x3) (x4) (x5) (x6) :
    State.kept (State.wr x1 x2 x3 x4 x5 x6) = State.kept x1 := by
  unfold State.wr
  repeat' first
    | with_reducible rfl
    | with_reducible refine (State.setWord_kept _ _ _ _ _).trans ?_

theorem State.setPageSt_kept (x1 : State) (x2) (x3) :
    State.kept (State.setPageSt x1 x2 x3) = State.kept x1 := by
  unfold State.setPageSt
  repeat' first
    | with_reducible refine (State.wr_kept _ _ _ _ _ _).trans ?_
    | dsimp only [State.kept]

theorem State.count_kept (x1 : State) (x2) (x3) (x4) :
    State.kept (State.count x1 x2 x3 x4) = State.kept x1 := by
  unfold State.count
  rfl

theorem State.emit_kept (x1 : State) (x2) :
    State.kept (State.emit x1 x2) = State.kept x1 := by
  unfold State.emit
  rfl

theorem State.sendMsix_kept (x1 : State) (x2) :
    State.kept (State.sendMsix x1 x2) = State.kept x1 := by
  unfold State.sendMsix
  repeat' first
    | with_reducible rfl
    | with_reducible refine (State.count_kept _ _ _ _).trans ?_
    | with_reducible refine (State.emit_kept _ _).trans ?_
    | with_reducible refine ite_kept ?_ ?_
    | dsimp only
    | dsimp only [State.kept]

theorem State.msixRise_kept (x1) (x2 : State) (x3) :
    State.kept (State.msixRise x1 x2 x3) = State.kept x2 := by
  unfold State.msixRise
  repeat' first
    | with_reducible rfl
    | with_reducible refine (State.sendMsix_kept _ _).trans ?_
    | with_reducible refine ite_kept ?_ ?_

theorem State.irqRaw_kept (x1 : State) (x2) (x3) :
    State.kept (State.irqRaw x1 x2 x3) = State.kept x1 := by
  unfold State.irqRaw
  repeat' first
    | with_reducible rfl
    | with_reducible refine (State.msixRise_kept _ _ _).trans ?_
    | with_reducible refine (State.wr_kept _ _ _ _ _ _).trans ?_
    | with_reducible refine ite_kept ?_ ?_

theorem State.traceUsb_kept (x1 : State) (x2) (x3) :
    State.kept (State.traceUsb x1 x2 x3) = State.kept x1 := by
  unfold State.traceUsb
  repeat' first
    | with_reducible rfl
    | with_reducible refine (State.wr_kept _ _ _ _ _ _).trans ?_
    | with_reducible refine (State.irqRaw_kept _ _ _).trans ?_
    | with_reducible refine (State.count_kept _ _ _ _).trans ?_
    | with_reducible refine ite_kept ?_ ?_
    | dsimp only
    | dsimp only [State.kept]

theorem State.pinDrain_kept (x1 : State) :
    State.kept (State.pinDrain x1) = State.kept x1 := by
  unfold State.pinDrain
  repeat' first
    | with_reducible rfl
    | with_reducible refine (State.emit_kept _ _).trans ?_
    | with_reducible refine (State.wr_kept _ _ _ _ _ _).trans ?_
    | with_reducible refine (foldl_kept _ _ (fun _ _ => ?_)).trans ?_
    | with_reducible refine ite_kept ?_ ?_
    | dsimp only
    | fail_if_no_progress (dsimp only [State.kept]; show State.kept _ = State.kept _)

theorem State.tracePin_kept (x1 : State) (x2) (x3) :
    State.kept (State.tracePin x1 x2 x3) = State.kept x1 := by
  unfold State.tracePin
  repeat' first
    | with_reducible rfl
    | with_reducible refine (State.pinDrain_kept _).trans ?_
    | with_reducible refine (State.wr_kept _ _ _ _ _ _).trans ?_
    | with_reducible refine (State.irqRaw_kept _ _ _).trans ?_
    | with_reducible refine (State.count_kept _ _ _ _).trans ?_
    | with_reducible refine ite_kept ?_ ?_
    | dsimp only
    | fail_if_no_progress (dsimp only [State.kept]; show State.kept _ = State.kept _)

theorem State.traceWrite_kept (x1 : State) (x2) (x3) :
    State.kept (State.traceWrite x1 x2 x3) = State.kept x1 := by
  unfold State.traceWrite
  repeat' first
    | with_reducible rfl
    | with_reducible refine (State.count_kept _ _ _ _).trans ?_
    | with_reducible refine (State.wr_kept _ _ _ _ _ _).trans ?_
    | with_reducible refine (State.irqRaw_kept _ _ _).trans ?_
    | with_reducible refine (State.traceUsb_kept _ _ _).trans ?_
    | with_reducible refine (State.tracePin_kept _ _ _).trans ?_
    | with_reducible refine ite_kept ?_ ?_
    | dsimp only
    | dsimp only [State.kept]

theorem State.traceRaw_kept (x1 : State) (x2) (x3) (x4) (x5) :
    State.kept (State.traceRaw x1 x2 x3 x4 x5) = State.kept x1 := by
  unfold State.traceRaw
  repeat' first
    | with_reducible rfl
    | with_reducible refine (State.irqRaw_kept _ _ _).trans ?_
    | with_reducible refine (State.count_kept _ _ _ _).trans ?_
    | with_reducible refine (State.traceWrite_kept _ _ _).trans ?_
    | with_reducible refine ite_kept ?_ ?_
    | dsimp only
    | dsimp only [State.kept]

theorem State.trace_kept (x1 : State) (x2) (x3) (x4) (x5) :
    State.kept (State.trace x1 x2 x3 x4 x5) = State.kept x1 := by
  unfold State.trace
  repeat' first
    | with_reducible rfl
    | with_reducible refine (State.traceRaw_kept _ _ _ _ _).trans ?_
    | with_reducible refine (foldl_kept _ _ (fun _ _ => ?_)).trans ?_
    | with_reducible refine ite_kept ?_ ?_

theorem State.irq_kept (x1 : State) (x2) (x3) :
    State.kept (State.irq x1 x2 x3) = State.kept x1 := by
  unfold State.irq
  repeat' first
    | with_reducible rfl
    | with_reducible refine (State.irqRaw_kept _ _ _).trans ?_
    | with_reducible refine (State.trace_kept _ _ _ _ _).trans ?_
    | with_reducible refine ite_kept ?_ ?_

theorem State.usbWake_kept (x1 : State) (x2) :
    State.kept (State.usbWake x1 x2) = State.kept x1 := by
  unfold State.usbWake
  repeat' first
    | with_reducible rfl
    | with_reducible refine (State.wr_kept _ _ _ _ _ _).trans ?_
    | with_reducible refine ite_kept ?_ ?_

theorem State.drawn_kept (x1 : State) :
    State.kept (State.drawn x1) = State.kept x1 := by
  unfold State.drawn
  rfl

theorem State.pass_kept (x1 : State) (x2) :
    State.kept (State.pass x1 x2) = State.kept x1 := by
  unfold State.pass
  repeat' first
    | dsimp only
    | dsimp only [State.kept]

theorem State.wr64_kept (x1 : State) (x2) (x3) (x4) (x5) (x6) (x7) :
    State.kept (State.wr64 x1 x2 x3 x4 x5 x6 x7) = State.kept x1 := by
  unfold State.wr64
  repeat' first
    | with_reducible rfl
    | with_reducible refine (State.wr_kept _ _ _ _ _ _).trans ?_

theorem State.usbMoved_kept (x1 : State) (x2) (x3) :
    State.kept (State.usbMoved x1 x2 x3) = State.kept x1 := by
  unfold State.usbMoved
  repeat' first
    | dsimp only
    | dsimp only [State.kept]

theorem State.setShadow_kept (x1 : State) (x2) (x3) (x4) :
    State.kept (State.setShadow x1 x2 x3 x4) = State.kept x1 := by
  unfold State.setShadow
  rfl

theorem State.traceMode_kept (x1 : State) :
    State.kept (State.traceMode x1) = State.kept x1 := by
  unfold State.traceMode
  repeat' first
    | with_reducible rfl
    | with_reducible refine (State.wr_kept _ _ _ _ _ _).trans ?_
    | with_reducible refine (State.irqRaw_kept _ _ _).trans ?_
    | with_reducible refine ite_kept ?_ ?_

theorem State.passTo_kept (x1 : State) (x2) :
    State.kept (State.passTo x1 x2) = State.kept x1 := by
  unfold State.passTo
  repeat' first
    | with_reducible rfl
    | with_reducible refine (State.pass_kept _ _).trans ?_

theorem State.irqs_kept (x1 : State) (x2) (x3) :
    State.kept (State.irqs x1 x2 x3) = State.kept x1 := by
  unfold State.irqs
  repeat' first
    | with_reducible rfl
    | with_reducible refine (State.irq_kept _ _ _).trans ?_
    | with_reducible refine (foldl_kept _ _ (fun _ _ => ?_)).trans ?_
    | with_reducible refine ite_kept ?_ ?_

theorem State.randBytes_kept (x1) (x2 : State) :
    State.kept (State.randBytes x1 x2).2 = State.kept x2 := by
  induction x1 generalizing x2 with
  | zero =>
    unfold State.randBytes
    repeat' first
      | with_reducible rfl
  | succ k ih =>
    unfold State.randBytes
    repeat' first
      | with_reducible refine (ih _).trans ?_
      | with_reducible rfl
      | with_reducible refine (State.drawn_kept _).trans ?_

theorem State.usbStream_kept (x1 : State) :
    State.kept (State.usbStream x1) = State.kept x1 := by
  unfold State.usbStream
  repeat' first
    | with_reducible rfl
    | with_reducible refine (State.emit_kept _ _).trans ?_
    | with_reducible refine (State.usbMoved_kept _ _ _).trans ?_
    | with_reducible refine (State.wr_kept _ _ _ _ _ _).trans ?_
    | with_reducible refine ite_kept ?_ ?_
    | dsimp only
    | fail_if_no_progress (dsimp only [State.kept]; show State.kept _ = State.kept _)

/-! ## Drive.lean -/

theorem State.setCogSt_kept (x1 : State) (x2) (x3) :
    State.kept (State.setCogSt x1 x2 x3) = State.kept x1 := by
  unfold State.setCogSt
  rfl

theorem State.cogWr_kept (x1 : State) (x2) (x3) (x4) :
    State.kept (State.cogWr x1 x2 x3 x4) = State.kept x1 := by
  unfold State.cogWr
  repeat' first
    | with_reducible rfl
    | with_reducible refine (State.wr_kept _ _ _ _ _ _).trans ?_

theorem State.cogPins_kept (x1 : State) (x2) (x3) (x4) :
    State.kept (State.cogPins x1 x2 x3 x4) = State.kept x1 := by
  unfold State.cogPins
  repeat' first
    | with_reducible rfl
    | with_reducible refine (State.setCogSt_kept _ _ _).trans ?_
    | with_reducible refine (State.cogWr_kept _ _ _ _).trans ?_

theorem State.setLine_kept (x1 : State) (x2) (x3) :
    State.kept (State.setLine x1 x2 x3) = State.kept x1 := by
  unfold State.setLine
  rfl

theorem State.holdLines_kept (x1 : State) :
    State.kept (State.holdLines x1) = State.kept x1 := by
  unfold State.holdLines
  repeat' first
    | with_reducible rfl
    | with_reducible refine (State.setLine_kept _ _ _).trans ?_
    | with_reducible refine (foldl_kept _ _ (fun _ _ => ?_)).trans ?_

theorem State.lanesGo_kept (x1 : State) :
    State.kept (State.lanesGo x1) = State.kept x1 := by
  unfold State.lanesGo
  rfl

theorem State.cogUnstall_kept (x1 : State) (x2) :
    State.kept (State.cogUnstall x1 x2) = State.kept x1 := by
  unfold State.cogUnstall
  repeat' first
    | with_reducible rfl
    | with_reducible refine (State.setCogSt_kept _ _ _).trans ?_
    | with_reducible refine (State.count_kept _ _ _ _).trans ?_
    | with_reducible refine ite_kept ?_ ?_

theorem State.cogStop_kept (x1 : State) (x2) :
    State.kept (State.cogStop x1 x2) = State.kept x1 := by
  unfold State.cogStop
  repeat' first
    | with_reducible rfl
    | with_reducible refine (State.cogUnstall_kept _ _).trans ?_
    | with_reducible refine (State.cogWr_kept _ _ _ _).trans ?_
    | with_reducible refine (State.irq_kept _ _ _).trans ?_
    | with_reducible refine ite_kept ?_ ?_

theorem State.cogSafe_kept (x1 : State) (x2) :
    State.kept (State.cogSafe x1 x2) = State.kept x1 := by
  unfold State.cogSafe
  repeat' first
    | with_reducible rfl
    | with_reducible refine (State.cogPins_kept _ _ _ _).trans ?_
    | with_reducible refine (foldl_kept _ _ (fun _ _ => ?_)).trans ?_
    | with_reducible refine ite_kept ?_ ?_
    | dsimp only
    | split

theorem State.cogStopAll_kept (x1 : State) (x2) :
    State.kept (State.cogStopAll x1 x2) = State.kept x1 := by
  unfold State.cogStopAll
  repeat' first
    | with_reducible rfl
    | with_reducible refine (State.cogStop_kept _ _).trans ?_
    | with_reducible refine (State.cogSafe_kept _ _).trans ?_
    | with_reducible refine (foldl_kept _ _ (fun _ _ => ?_)).trans ?_
    | with_reducible refine ite_kept ?_ ?_

theorem State.setDioBit_kept (x1 : State) (x2) (x3) (x4) :
    State.kept (State.setDioBit x1 x2 x3 x4) = State.kept x1 := by
  unfold State.setDioBit
  repeat' first
    | with_reducible rfl
    | with_reducible refine (State.wr_kept _ _ _ _ _ _).trans ?_

theorem State.driveLine_kept (x1 : State) (x2) :
    State.kept (State.driveLine x1 x2) = State.kept x1 := by
  unfold State.driveLine
  repeat' first
    | with_reducible rfl
    | with_reducible refine (State.setLine_kept _ _ _).trans ?_
    | with_reducible refine (State.setDioBit_kept _ _ _ _).trans ?_
    | with_reducible refine ite_kept ?_ ?_

theorem State.driveSync_kept (x1 : State) :
    State.kept (State.driveSync x1) = State.kept x1 := by
  unfold State.driveSync
  repeat' first
    | with_reducible rfl
    | with_reducible refine (State.driveLine_kept _ _).trans ?_
    | with_reducible refine (foldl_kept _ _ (fun _ _ => ?_)).trans ?_
    | with_reducible refine ite_kept ?_ ?_

theorem State.setSluSt_kept (x1 : State) (x2) (x3) :
    State.kept (State.setSluSt x1 x2 x3) = State.kept x1 := by
  unfold State.setSluSt
  rfl

theorem State.sluTick_kept (x1 : State) (x2) :
    State.kept (State.sluTick x1 x2) = State.kept x1 := by
  unfold State.sluTick
  repeat' first
    | with_reducible rfl
    | with_reducible refine (State.setSluSt_kept _ _ _).trans ?_
    | with_reducible refine (State.wr_kept _ _ _ _ _ _).trans ?_

theorem State.pirq_kept (x1 : State) (x2) (x3) :
    State.kept (State.pirq x1 x2 x3) = State.kept x1 := by
  unfold State.pirq
  repeat' first
    | with_reducible rfl
    | with_reducible refine (State.irq_kept _ _ _).trans ?_
    | with_reducible refine ite_kept ?_ ?_

theorem State.pcount_kept (x1 : State) (x2) (x3) :
    State.kept (State.pcount x1 x2 x3) = State.kept x1 := by
  unfold State.pcount
  repeat' first
    | with_reducible rfl
    | with_reducible refine (State.count_kept _ _ _ _).trans ?_
    | with_reducible refine ite_kept ?_ ?_
    | dsimp only
    | dsimp only [State.kept]

theorem State.sluPgDrop_kept (x1 : State) (x2) (x3) :
    State.kept (State.sluPgDrop x1 x2 x3) = State.kept x1 := by
  unfold State.sluPgDrop
  repeat' first
    | with_reducible rfl
    | with_reducible refine (State.setSluSt_kept _ _ _).trans ?_
    | with_reducible refine (State.pirq_kept _ _ _).trans ?_
    | with_reducible refine (State.wr_kept _ _ _ _ _ _).trans ?_
    | with_reducible refine (State.pcount_kept _ _ _).trans ?_
    | with_reducible refine ite_kept ?_ ?_

theorem State.sluTo_kept (x1 : State) (x2) (x3) :
    State.kept (State.sluTo x1 x2 x3) = State.kept x1 := by
  unfold State.sluTo
  repeat' first
    | with_reducible rfl
    | with_reducible refine (State.sluTick_kept _ _).trans ?_
    | with_reducible refine (State.sluPgDrop_kept _ _ _).trans ?_
    | with_reducible refine (State.wr_kept _ _ _ _ _ _).trans ?_
    | with_reducible refine (State.setSluSt_kept _ _ _).trans ?_
    | with_reducible refine (State.pirq_kept _ _ _).trans ?_
    | with_reducible refine ite_kept ?_ ?_

theorem State.sluRamp_kept (x1 : State) (x2) :
    State.kept (State.sluRamp x1 x2) = State.kept x1 := by
  unfold State.sluRamp
  repeat' first
    | with_reducible rfl
    | with_reducible refine (State.sluTo_kept _ _ _).trans ?_
    | with_reducible refine (State.pcount_kept _ _ _).trans ?_
    | with_reducible refine (State.setSluSt_kept _ _ _).trans ?_
    | with_reducible refine ite_kept ?_ ?_

theorem State.sluLevel_kept (x1 : State) (x2) (x3) :
    State.kept (State.sluLevel x1 x2 x3) = State.kept x1 := by
  unfold State.sluLevel
  repeat' first
    | with_reducible rfl
    | with_reducible refine (State.wr_kept _ _ _ _ _ _).trans ?_
    | with_reducible refine (State.sluRamp_kept _ _).trans ?_
    | with_reducible refine (State.sluTo_kept _ _ _).trans ?_
    | with_reducible refine ite_kept ?_ ?_

theorem State.sluSafe_kept (x1 : State) (x2) :
    State.kept (State.sluSafe x1 x2) = State.kept x1 := by
  unfold State.sluSafe
  repeat' first
    | with_reducible rfl
    | with_reducible refine (State.sluLevel_kept _ _ _).trans ?_
    | with_reducible refine ite_kept ?_ ?_
    | split

theorem State.sluSafeAll_kept (x1 : State) :
    State.kept (State.sluSafeAll x1) = State.kept x1 := by
  unfold State.sluSafeAll
  repeat' first
    | with_reducible rfl
    | with_reducible refine (State.sluSafe_kept _ _).trans ?_
    | with_reducible refine (foldl_kept _ _ (fun _ _ => ?_)).trans ?_

theorem State.cogMatch_kept (x1 : State) (x2) :
    State.kept (State.cogMatch x1 x2) = State.kept x1 := by
  unfold State.cogMatch
  repeat' first
    | with_reducible rfl
    | with_reducible refine (State.count_kept _ _ _ _).trans ?_
    | with_reducible refine (State.irq_kept _ _ _).trans ?_
    | with_reducible refine (State.setCogSt_kept _ _ _).trans ?_
    | with_reducible refine (State.cogWr_kept _ _ _ _).trans ?_
    | with_reducible refine ite_kept ?_ ?_

theorem State.laneOut_kept (x1 : State) (x2) (x3) :
    State.kept (State.laneOut x1 x2 x3) = State.kept x1 := by
  unfold State.laneOut
  repeat' first
    | with_reducible rfl
    | with_reducible refine (State.emit_kept _ _).trans ?_
    | with_reducible refine ite_kept ?_ ?_

theorem State.missedCounts_kept (x1 : State) :
    State.kept (State.missedCounts x1) = State.kept x1 := by
  unfold State.missedCounts
  repeat' first
    | with_reducible rfl
    | with_reducible refine (State.count_kept _ _ _ _).trans ?_
    | with_reducible refine (foldl_kept _ _ (fun _ _ => ?_)).trans ?_
    | with_reducible refine ite_kept ?_ ?_
    | dsimp only
    | dsimp only [State.kept]

/-! ## Ops.lean -/

theorem State.setHealth_kept (x1 : State) (x2) :
    State.kept (State.setHealth x1 x2) = State.kept x1 := by
  unfold State.setHealth
  repeat' first
    | with_reducible rfl
    | with_reducible refine (State.irq_kept _ _ _).trans ?_
    | with_reducible refine (State.wr_kept _ _ _ _ _ _).trans ?_
    | with_reducible refine ite_kept ?_ ?_

theorem State.fltSync_kept (x1 : State) :
    State.kept (State.fltSync x1) = State.kept x1 := by
  unfold State.fltSync
  repeat' first
    | with_reducible rfl
    | with_reducible refine (State.wr_kept _ _ _ _ _ _).trans ?_

theorem State.fltExpire_kept (x1 : State) :
    State.kept (State.fltExpire x1) = State.kept x1 := by
  unfold State.fltExpire
  repeat' first
    | with_reducible rfl
    | with_reducible refine (State.setHealth_kept _ _).trans ?_
    | with_reducible refine (State.fltSync_kept _).trans ?_
    | with_reducible refine (foldl_kept _ _ (fun _ _ => ?_)).trans ?_
    | with_reducible refine ite_kept ?_ ?_
    | dsimp only
    | dsimp only [State.kept]

theorem State.ledgerAdd_kept (x1 : State) (x2) :
    State.kept (State.ledgerAdd x1 x2) = State.kept x1 := by
  unfold State.ledgerAdd
  repeat' first
    | with_reducible rfl
    | with_reducible refine (State.count_kept _ _ _ _).trans ?_
    | with_reducible refine (State.wr_kept _ _ _ _ _ _).trans ?_
    | with_reducible refine ite_kept ?_ ?_
    | dsimp only
    | fail_if_no_progress (dsimp only [State.kept]; show State.kept _ = State.kept _)

theorem State.lastFatal_kept (x1 : State) (x2) :
    State.kept (State.lastFatal x1 x2) = State.kept x1 := by
  unfold State.lastFatal
  repeat' first
    | with_reducible rfl
    | with_reducible refine (State.wr_kept _ _ _ _ _ _).trans ?_
    | with_reducible refine (foldl_kept _ _ (fun _ _ => ?_)).trans ?_

theorem State.clackStop_kept (x1 : State) (x2) :
    State.kept (State.clackStop x1 x2) = State.kept x1 := by
  unfold State.clackStop
  repeat' first
    | with_reducible refine (State.wr_kept _ _ _ _ _ _).trans ?_
    | with_reducible refine (State.count_kept _ _ _ _).trans ?_
    | with_reducible refine (State.irq_kept _ _ _).trans ?_
    | with_reducible refine ite_kept ?_ ?_
    | dsimp only
    | dsimp only [State.kept]

theorem State.clsSeen_kept (x1 : State) (x2) (x3) :
    State.kept (State.clsSeen x1 x2 x3) = State.kept x1 := by
  unfold State.clsSeen
  repeat' first
    | with_reducible rfl
    | with_reducible refine (State.irq_kept _ _ _).trans ?_
    | with_reducible refine (State.usbWake_kept _ _).trans ?_
    | with_reducible refine (State.ledgerAdd_kept _ _).trans ?_
    | with_reducible refine (State.lastFatal_kept _ _).trans ?_
    | with_reducible refine (State.wr_kept _ _ _ _ _ _).trans ?_
    | with_reducible refine (State.setHealth_kept _ _).trans ?_
    | with_reducible refine (State.clackStop_kept _ _).trans ?_
    | with_reducible refine ite_kept ?_ ?_
    | dsimp only
    | with_reducible refine (kept_flt _ _).trans ?_
    | fail_if_no_progress (dsimp only [State.kept]; show State.kept _ = State.kept _)

theorem State.logOvf_kept (x1 : State) :
    State.kept (State.logOvf x1) = State.kept x1 := by
  unfold State.logOvf
  repeat' first
    | with_reducible rfl
    | with_reducible refine (State.wr_kept _ _ _ _ _ _).trans ?_
    | with_reducible refine (State.count_kept _ _ _ _).trans ?_
    | with_reducible refine (State.irq_kept _ _ _).trans ?_

theorem State.logPlace_kept (x1 : State) (x2) :
    State.kept (State.logPlace x1 x2) = State.kept x1 := by
  unfold State.logPlace
  repeat' first
    | with_reducible refine (State.count_kept _ _ _ _).trans ?_
    | with_reducible refine (State.logOvf_kept _).trans ?_
    | with_reducible refine ite_kept ?_ ?_
    | dsimp only
    | dsimp only [State.kept]

theorem State.faultRecord_kept (x1 : State) (x2) (x3) (x4) (x5) (x6) :
    State.kept (State.faultRecord x1 x2 x3 x4 x5 x6).1 = State.kept x1 := by
  unfold State.faultRecord
  repeat' first
    | with_reducible rfl
    | with_reducible refine (State.count_kept _ _ _ _).trans ?_
    | with_reducible refine (State.fltExpire_kept _).trans ?_
    | with_reducible refine (State.trace_kept _ _ _ _ _).trans ?_
    | with_reducible refine (State.clsSeen_kept _ _ _).trans ?_
    | with_reducible refine (State.clackStop_kept _ _).trans ?_
    | with_reducible refine (State.lastFatal_kept _ _).trans ?_
    | with_reducible refine (State.fltSync_kept _).trans ?_
    | with_reducible refine (State.setHealth_kept _ _).trans ?_
    | with_reducible refine (State.logPlace_kept _ _).trans ?_
    | with_reducible refine ite_kept ?_ ?_
    | with_reducible refine ite_fst_kept ?_ ?_
    | dsimp only
    | fail_if_no_progress (dsimp only [State.kept]; show State.kept _ = State.kept _)
    | split

theorem State.fwSync_kept (x1 : State) :
    State.kept (State.fwSync x1) = State.kept x1 := by
  unfold State.fwSync
  repeat' first
    | with_reducible rfl
    | with_reducible refine (State.wr_kept _ _ _ _ _ _).trans ?_
    | with_reducible refine (foldl_kept _ _ (fun _ _ => ?_)).trans ?_

theorem State.setFw_kept (x1 : State) (x2) (x3) :
    State.kept (State.setFw x1 x2 x3) = State.kept x1 := by
  unfold State.setFw
  repeat' first
    | with_reducible refine (State.fwSync_kept _).trans ?_
    | dsimp only
    | dsimp only [State.kept]

theorem State.trialFail_kept (x1 : State) :
    State.kept (State.trialFail x1) = State.kept x1 := by
  unfold State.trialFail
  repeat' first
    | with_reducible rfl
    | with_reducible refine (State.setFw_kept _ _ _).trans ?_
    | dsimp only
    | fail_if_no_progress (dsimp only [State.kept]; show State.kept _ = State.kept _)
    | split

theorem State.hkRestart_kept (x1 : State) (x2) :
    State.kept (State.hkRestart x1 x2) = State.kept x1 := by
  unfold State.hkRestart
  repeat' first
    | with_reducible rfl
    | with_reducible refine (State.trialFail_kept _).trans ?_
    | with_reducible refine (State.wr_kept _ _ _ _ _ _).trans ?_
    | dsimp only
    | fail_if_no_progress (dsimp only [State.kept]; show State.kept _ = State.kept _)

theorem State.nodeShown_kept (x1 : State) (x2) :
    State.kept (State.nodeShown x1 x2) = State.kept x1 := by
  unfold State.nodeShown
  repeat' first
    | with_reducible refine (State.usbWake_kept _ _).trans ?_
    | with_reducible refine (State.irq_kept _ _ _).trans ?_
    | with_reducible refine (State.count_kept _ _ _ _).trans ?_
    | with_reducible refine (State.wr_kept _ _ _ _ _ _).trans ?_
    | with_reducible refine (State.trace_kept _ _ _ _ _).trans ?_
    | dsimp only
    | dsimp only [State.kept]

theorem State.depthSync_kept (x1 : State) :
    State.kept (State.depthSync x1) = State.kept x1 := by
  unfold State.depthSync
  repeat' first
    | with_reducible rfl
    | with_reducible refine (State.wr_kept _ _ _ _ _ _).trans ?_

theorem State.collect_kept (x1 : State) (x2) :
    State.kept (State.collect x1 x2) = State.kept x1 := by
  unfold State.collect
  repeat' first
    | with_reducible rfl
    | with_reducible refine (State.irq_kept _ _ _).trans ?_
    | with_reducible refine (State.wr_kept _ _ _ _ _ _).trans ?_
    | with_reducible refine (State.depthSync_kept _).trans ?_
    | with_reducible refine (State.count_kept _ _ _ _).trans ?_
    | with_reducible refine ite_kept ?_ ?_
    | dsimp only
    | fail_if_no_progress (dsimp only [State.kept]; show State.kept _ = State.kept _)

theorem State.enterLag_kept (x1 : State) :
    State.kept (State.enterLag x1) = State.kept x1 := by
  unfold State.enterLag
  repeat' first
    | with_reducible rfl
    | with_reducible refine (State.count_kept _ _ _ _).trans ?_
    | with_reducible refine (State.irq_kept _ _ _).trans ?_
    | with_reducible refine (State.wr_kept _ _ _ _ _ _).trans ?_
    | with_reducible refine ite_kept ?_ ?_

theorem State.fallBack_kept (x1 : State) :
    State.kept (State.fallBack x1) = State.kept x1 := by
  unfold State.fallBack
  repeat' first
    | with_reducible rfl
    | with_reducible refine (State.collect_kept _ _).trans ?_
    | with_reducible refine (State.enterLag_kept _).trans ?_
    | dsimp only
    | fail_if_no_progress (dsimp only [State.kept]; show State.kept _ = State.kept _)

theorem State.canResume_kept (x1 : State) :
    State.kept (State.canResume x1) = State.kept x1 := by
  unfold State.canResume
  repeat' first
    | with_reducible rfl
    | with_reducible refine (State.wr_kept _ _ _ _ _ _).trans ?_
    | with_reducible refine (foldl_kept _ _ (fun _ _ => ?_)).trans ?_
    | dsimp only
    | dsimp only [State.kept]

theorem State.wakeRelease_kept (x1 : State) :
    State.kept (State.wakeRelease x1) = State.kept x1 := by
  unfold State.wakeRelease
  repeat' first
    | dsimp only
    | dsimp only [State.kept]

theorem State.setNode_kept (x1 : State) (x2) :
    State.kept (State.setNode x1 x2) = State.kept x1 := by
  unfold State.setNode
  repeat' first
    | with_reducible rfl
    | with_reducible refine (State.nodeShown_kept _ _).trans ?_
    | with_reducible refine (State.fallBack_kept _).trans ?_
    | with_reducible refine (State.holdLines_kept _).trans ?_
    | with_reducible refine (State.lanesGo_kept _).trans ?_
    | with_reducible refine (State.canResume_kept _).trans ?_
    | with_reducible refine (State.wakeRelease_kept _).trans ?_
    | with_reducible refine (State.cogStopAll_kept _ _).trans ?_
    | with_reducible refine (State.driveSync_kept _).trans ?_
    | with_reducible refine (State.sluSafeAll_kept _).trans ?_
    | with_reducible refine (State.clackStop_kept _ _).trans ?_
    | with_reducible refine ite_kept ?_ ?_

theorem State.enterHold_kept (x1 : State) (x2) :
    State.kept (State.enterHold x1 x2) = State.kept x1 := by
  unfold State.enterHold
  repeat' first
    | with_reducible rfl
    | with_reducible refine (State.setNode_kept _ _).trans ?_
    | with_reducible refine (State.wr_kept _ _ _ _ _ _).trans ?_
    | with_reducible refine ite_kept ?_ ?_

theorem State.faultAct_kept (x1 : State) (x2) (x3) :
    State.kept (State.faultAct x1 x2 x3) = State.kept x1 := by
  unfold State.faultAct
  repeat' first
    | with_reducible rfl
    | with_reducible refine (State.enterHold_kept _ _).trans ?_
    | with_reducible refine ite_kept ?_ ?_
    | dsimp only
    | dsimp only [State.kept]

theorem State.fault_kept (x1 : State) (x2) (x3) (x4) (x5) (x6) :
    State.kept (State.fault x1 x2 x3 x4 x5 x6) = State.kept x1 := by
  unfold State.fault
  repeat' first
    | with_reducible rfl
    | with_reducible refine (State.faultRecord_kept _ _ _ _ _ _).trans ?_
    | with_reducible refine (State.drawn_kept _).trans ?_
    | with_reducible refine (State.hkRestart_kept _ _).trans ?_
    | with_reducible refine (State.faultAct_kept _ _ _).trans ?_
    | with_reducible refine ite_kept ?_ ?_
    | split

theorem State.alloc_kept (x1 : State) (x2) (x3) (x4) :
    ∀ t, State.alloc x1 x2 x3 x4 = some t → State.kept t.1 = State.kept x1 := by
  unfold State.alloc
  intro t h
  (try dsimp only at h)
  (repeat' split at h) <;> (try cases h)
  repeat' first
    | with_reducible refine (State.wr_kept _ _ _ _ _ _).trans ?_
    | dsimp only [State.kept]

theorem State.setTxq_kept (x1 : State) (x2) (x3) (x4) :
    State.kept (State.setTxq x1 x2 x3 x4) = State.kept x1 := by
  unfold State.setTxq
  repeat' first
    | dsimp only
    | dsimp only [State.kept]

theorem State.txPush_kept (x1 : State) (x2) (x3) :
    State.kept (State.txPush x1 x2 x3) = State.kept x1 := by
  unfold State.txPush
  repeat' first
    | with_reducible rfl
    | with_reducible refine (State.setTxq_kept _ _ _ _).trans ?_

theorem State.release_kept (x1 : State) (x2) (x3) :
    State.kept (State.release x1 x2 x3) = State.kept x1 := by
  unfold State.release
  repeat' first
    | with_reducible refine (State.wr_kept _ _ _ _ _ _).trans ?_
    | with_reducible refine ite_kept ?_ ?_
    | dsimp only
    | dsimp only [State.kept]

theorem State.replaySync_kept (x1 : State) :
    State.kept (State.replaySync x1) = State.kept x1 := by
  unfold State.replaySync
  repeat' first
    | with_reducible rfl
    | with_reducible refine (State.wr_kept _ _ _ _ _ _).trans ?_

theorem State.replayAdd_kept (x1 : State) (x2) (x3) :
    State.kept (State.replayAdd x1 x2 x3) = State.kept x1 := by
  unfold State.replayAdd
  repeat' first
    | with_reducible refine (State.replaySync_kept _).trans ?_
    | with_reducible refine (State.count_kept _ _ _ _).trans ?_
    | dsimp only
    | dsimp only [State.kept]

theorem State.admitCell_kept (x1 : State) (x2) :
    ∀ t, State.admitCell x1 x2 = some t → State.kept t = State.kept x1 := by
  unfold State.admitCell
  intro t h
  (try dsimp only at h)
  (repeat' split at h) <;> (try cases h)
  repeat' first
    | with_reducible rfl
    | with_reducible refine (State.alloc_kept _ _ _ _ _ (by assumption)).trans ?_
    | with_reducible refine (State.count_kept _ _ _ _).trans ?_
    | with_reducible refine (State.txPush_kept _ _ _).trans ?_
    | with_reducible refine (State.release_kept _ _ _).trans ?_
    | with_reducible refine (State.replayAdd_kept _ _ _).trans ?_
    | with_reducible refine (foldl_kept _ _ (fun _ _ => ?_)).trans ?_
    | fail_if_no_progress (dsimp only [State.kept]; show State.kept _ = State.kept _)

theorem State.submit_kept (x1 : State) (x2) :
    State.kept (State.submit x1 x2) = State.kept x1 := by
  unfold State.submit
  repeat' first
    | with_reducible rfl
    | with_reducible refine (State.count_kept _ _ _ _).trans ?_
    | with_reducible refine (State.admitCell_kept _ _ _ (by assumption)).trans ?_
    | with_reducible refine ite_kept ?_ ?_
    | dsimp only
    | fail_if_no_progress (dsimp only [State.kept] <;> show State.kept _ = State.kept _)
    | split

theorem State.originate_kept (x1 : State) (x2) (x3) (x4) (x5) :
    State.kept (State.originate x1 x2 x3 x4 x5) = State.kept x1 := by
  unfold State.originate
  repeat' first
    | with_reducible rfl
    | with_reducible refine (State.submit_kept _ _).trans ?_

theorem State.stepDone_kept (x1 : State) (x2) :
    State.kept (State.stepDone x1 x2) = State.kept x1 := by
  unfold State.stepDone
  repeat' first
    | with_reducible rfl
    | with_reducible refine (State.wr_kept _ _ _ _ _ _).trans ?_
    | with_reducible refine (State.driveSync_kept _).trans ?_
    | with_reducible refine (State.sluSafeAll_kept _).trans ?_
    | with_reducible refine ite_kept ?_ ?_

theorem State.copied_kept (x1 : State) (x2) :
    State.kept (State.copied x1 x2) = State.kept x1 := by
  unfold State.copied
  repeat' first
    | with_reducible rfl
    | with_reducible refine (State.irq_kept _ _ _).trans ?_
    | with_reducible refine (State.wr_kept _ _ _ _ _ _).trans ?_

theorem State.applyDone_kept (x1 : State) (x2) :
    State.kept (State.applyDone x1 x2) = State.kept x1 := by
  unfold State.applyDone
  repeat' first
    | with_reducible rfl
    | with_reducible refine (State.copied_kept _ _).trans ?_
    | with_reducible refine (State.setPageSt_kept _ _ _).trans ?_
    | with_reducible refine ite_kept ?_ ?_

theorem State.sendLink_kept (x1 : State) (x2) (x3) (x4) :
    State.kept (State.sendLink x1 x2 x3 x4) = State.kept x1 := by
  unfold State.sendLink
  repeat' first
    | with_reducible rfl
    | with_reducible refine (State.submit_kept _ _).trans ?_
    | with_reducible refine ite_kept ?_ ?_

theorem State.detailSync_kept (x1 : State) :
    State.kept (State.detailSync x1) = State.kept x1 := by
  unfold State.detailSync
  repeat' first
    | with_reducible rfl
    | with_reducible refine (State.wr_kept _ _ _ _ _ _).trans ?_
    | with_reducible refine ite_kept ?_ ?_

theorem State.mirMode_kept (x1 : State) :
    State.kept (State.mirMode x1) = State.kept x1 := by
  unfold State.mirMode
  repeat' first
    | with_reducible rfl
    | with_reducible refine (State.wr_kept _ _ _ _ _ _).trans ?_
    | with_reducible refine (State.irq_kept _ _ _).trans ?_
    | with_reducible refine ite_kept ?_ ?_

theorem State.flashWorn_kept (x1 : State) :
    State.kept (State.flashWorn x1) = State.kept x1 := by
  unfold State.flashWorn
  repeat' first
    | with_reducible rfl
    | with_reducible refine (State.fault_kept _ _ _ _ _ _).trans ?_
    | with_reducible refine (State.irq_kept _ _ _).trans ?_
    | with_reducible refine (State.count_kept _ _ _ _).trans ?_

theorem State.mirror_kept (x1 : State) (x2) (x3) (x4) :
    State.kept (State.mirror x1 x2 x3 x4) = State.kept x1 := by
  unfold State.mirror
  repeat' first
    | with_reducible rfl
    | with_reducible refine (State.count_kept _ _ _ _).trans ?_
    | with_reducible refine (State.drawn_kept _).trans ?_
    | with_reducible refine (State.wr_kept _ _ _ _ _ _).trans ?_
    | with_reducible refine (State.irq_kept _ _ _).trans ?_
    | with_reducible refine (State.mirMode_kept _).trans ?_
    | with_reducible refine ite_kept ?_ ?_
    | fail_if_no_progress (dsimp only [State.kept]; show State.kept _ = State.kept _)

theorem State.detailClear_kept (x1 : State) :
    State.kept (State.detailClear x1) = State.kept x1 := by
  unfold State.detailClear
  repeat' first
    | with_reducible rfl
    | with_reducible refine (State.detailSync_kept _).trans ?_
    | with_reducible refine (State.wr_kept _ _ _ _ _ _).trans ?_

/-! ## Reseq.lean -/

theorem State.setConsQ_kept (x1 : State) (x2) (x3) :
    State.kept (State.setConsQ x1 x2 x3) = State.kept x1 := by
  unfold State.setConsQ
  repeat' first
    | with_reducible refine (State.wr_kept _ _ _ _ _ _).trans ?_
    | dsimp only
    | dsimp only [State.kept]

theorem State.takeCell_kept (x1 : State) (x2) (x3) :
    ∀ t, State.takeCell x1 x2 x3 = some t → State.kept t.2 = State.kept x1 := by
  unfold State.takeCell
  intro t h
  (repeat' split at h) <;> (try cases h)
  repeat' first
    | with_reducible rfl
    | with_reducible refine (State.release_kept _ _ _).trans ?_
    | with_reducible refine (State.setConsQ_kept _ _ _).trans ?_

theorem State.setRetry_kept (x1 : State) (x2) :
    State.kept (State.setRetry x1 x2) = State.kept x1 := by
  unfold State.setRetry
  repeat' first
    | with_reducible refine (State.wr_kept _ _ _ _ _ _).trans ?_
    | dsimp only
    | dsimp only [State.kept]

theorem State.declareLost_kept (x1 : State) (x2) (x3) (x4) :
    State.kept (State.declareLost x1 x2 x3 x4) = State.kept x1 := by
  unfold State.declareLost
  repeat' first
    | with_reducible rfl
    | with_reducible refine (State.count_kept _ _ _ _).trans ?_
    | with_reducible refine (State.wr_kept _ _ _ _ _ _).trans ?_
    | with_reducible refine (State.mirror_kept _ _ _ _).trans ?_
    | with_reducible refine (State.fault_kept _ _ _ _ _ _).trans ?_
    | with_reducible refine (State.irq_kept _ _ _).trans ?_
    | dsimp only
    | fail_if_no_progress (dsimp only [State.kept]; show State.kept _ = State.kept _)

theorem State.refuseCopy_kept (x1 : State) (x2) (x3) :
    State.kept (State.refuseCopy x1 x2 x3) = State.kept x1 := by
  unfold State.refuseCopy
  repeat' first
    | with_reducible rfl
    | with_reducible refine (State.mirror_kept _ _ _ _).trans ?_
    | with_reducible refine (State.irq_kept _ _ _).trans ?_
    | with_reducible refine (State.count_kept _ _ _ _).trans ?_
    | with_reducible refine (State.release_kept _ _ _).trans ?_
    | with_reducible refine (State.setRetry_kept _ _).trans ?_
    | with_reducible refine (State.declareLost_kept _ _ _ _).trans ?_
    | with_reducible refine ite_kept ?_ ?_
    | dsimp only
    | fail_if_no_progress (dsimp only [State.kept]; show State.kept _ = State.kept _)

theorem State.steer_kept (x1 : State) (x2) :
    State.kept (State.steer x1 x2) = State.kept x1 := by
  unfold State.steer
  repeat' first
    | with_reducible rfl
    | with_reducible refine (State.release_kept _ _ _).trans ?_
    | with_reducible refine (State.refuseCopy_kept _ _ _).trans ?_
    | with_reducible refine (State.mirror_kept _ _ _ _).trans ?_
    | with_reducible refine (State.setConsQ_kept _ _ _).trans ?_
    | with_reducible refine ite_kept ?_ ?_
    | split

theorem State.deliver_kept (x1 : State) (x2) :
    State.kept (State.deliver x1 x2) = State.kept x1 := by
  unfold State.deliver
  repeat' first
    | with_reducible rfl
    | with_reducible refine (State.release_kept _ _ _).trans ?_
    | with_reducible refine (State.steer_kept _ _).trans ?_
    | with_reducible refine ite_kept ?_ ?_

theorem State.skipRuns_kept (x1) (x2) (x3) (x4 : State) (x5) (x6) :
    State.kept (State.skipRuns x1 x2 x3 x4 x5 x6) = State.kept x4 := by
  induction x6 generalizing x4 x5 with
  | nil =>
    unfold State.skipRuns
    repeat' first
      | with_reducible rfl
      | with_reducible refine (State.declareLost_kept _ _ _ _).trans ?_
      | with_reducible refine ite_kept ?_ ?_
  | cons a l ih =>
    unfold State.skipRuns
    repeat' first
      | with_reducible refine (ih _ _).trans ?_
      | with_reducible rfl
      | with_reducible refine (State.declareLost_kept _ _ _ _).trans ?_
      | with_reducible refine (State.deliver_kept _ _).trans ?_
      | with_reducible refine ite_kept ?_ ?_

theorem State.setDdt_kept (x1 : State) (x2) (x3) :
    State.kept (State.setDdt x1 x2 x3) = State.kept x1 := by
  unfold State.setDdt
  repeat' first
    | with_reducible refine (State.wr_kept _ _ _ _ _ _).trans ?_
    | dsimp only [State.kept]

theorem State.drain_kept (x1) (x2 : State) (x3) :
    State.kept (State.drain x1 x2 x3) = State.kept x2 := by
  induction x1 generalizing x2 with
  | zero =>
    unfold State.drain
    repeat' first
      | with_reducible rfl
  | succ k ih =>
    unfold State.drain
    repeat' first
      | with_reducible refine (ih _).trans ?_
      | with_reducible rfl
      | with_reducible refine (State.deliver_kept _ _).trans ?_
      | with_reducible refine (State.setDdt_kept _ _ _).trans ?_
      | with_reducible refine ite_kept ?_ ?_
      | dsimp only
      | split

theorem State.skip_kept (x1 : State) (x2) (x3) :
    State.kept (State.skip x1 x2 x3) = State.kept x1 := by
  unfold State.skip
  repeat' first
    | with_reducible rfl
    | with_reducible refine (State.skipRuns_kept _ _ _ _ _ _).trans ?_
    | with_reducible refine (State.drain_kept _ _ _).trans ?_
    | with_reducible refine (State.setDdt_kept _ _ _).trans ?_

theorem State.invalidate_kept (x1 : State) (x2) :
    State.kept (State.invalidate x1 x2) = State.kept x1 := by
  unfold State.invalidate
  repeat' first
    | with_reducible rfl
    | with_reducible refine (State.skip_kept _ _ _).trans ?_
    | with_reducible refine (State.count_kept _ _ _ _).trans ?_
    | with_reducible refine (State.setDdt_kept _ _ _).trans ?_
    | with_reducible refine ite_kept ?_ ?_

theorem State.duplicate_kept (x1 : State) (x2) :
    State.kept (State.duplicate x1 x2) = State.kept x1 := by
  unfold State.duplicate
  repeat' first
    | with_reducible rfl
    | with_reducible refine (State.refuseCopy_kept _ _ _).trans ?_
    | with_reducible refine (State.steer_kept _ _).trans ?_
    | with_reducible refine (State.count_kept _ _ _ _).trans ?_
    | with_reducible refine (State.setRetry_kept _ _).trans ?_
    | with_reducible refine (State.release_kept _ _ _).trans ?_
    | with_reducible refine (State.mirror_kept _ _ _ _).trans ?_
    | with_reducible refine ite_kept ?_ ?_
    | split

theorem State.inWindow_kept (x1 : State) (x2) :
    State.kept (State.inWindow x1 x2) = State.kept x1 := by
  unfold State.inWindow
  repeat' first
    | with_reducible rfl
    | with_reducible refine (State.count_kept _ _ _ _).trans ?_
    | with_reducible refine (State.drain_kept _ _ _).trans ?_
    | with_reducible refine (State.deliver_kept _ _).trans ?_
    | with_reducible refine (State.setDdt_kept _ _ _).trans ?_
    | with_reducible refine (State.release_kept _ _ _).trans ?_
    | with_reducible refine (State.mirror_kept _ _ _ _).trans ?_
    | with_reducible refine (State.irq_kept _ _ _).trans ?_
    | with_reducible refine ite_kept ?_ ?_

theorem State.resequence_kept (x1 : State) (x2) :
    State.kept (State.resequence x1 x2) = State.kept x1 := by
  unfold State.resequence
  repeat' first
    | with_reducible rfl
    | with_reducible refine (State.setDdt_kept _ _ _).trans ?_
    | with_reducible refine (State.duplicate_kept _ _).trans ?_
    | with_reducible refine (State.inWindow_kept _ _).trans ?_
    | with_reducible refine (State.skip_kept _ _ _).trans ?_
    | with_reducible refine (State.count_kept _ _ _ _).trans ?_
    | with_reducible refine ite_kept ?_ ?_

/-! ## Protect.lean -/

theorem State.setProt_kept (x1 : State) (x2) (x3) :
    State.kept (State.setProt x1 x2 x3) = State.kept x1 := by
  unfold State.setProt
  repeat' first
    | with_reducible refine (State.wr_kept _ _ _ _ _ _).trans ?_
    | dsimp only [State.kept]

theorem State.txSaStart_kept (x1 : State) (x2) :
    State.kept (State.txSaStart x1 x2) = State.kept x1 := by
  unfold State.txSaStart
  repeat' first
    | with_reducible rfl
    | with_reducible refine (State.wr_kept _ _ _ _ _ _).trans ?_
    | with_reducible refine (State.setProt_kept _ _ _).trans ?_
    | with_reducible refine (State.count_kept _ _ _ _).trans ?_
    | with_reducible refine ite_kept ?_ ?_

theorem State.rxVerified_kept (x1 : State) (x2) (x3) (x4) :
    State.kept (State.rxVerified x1 x2 x3 x4) = State.kept x1 := by
  unfold State.rxVerified
  repeat' first
    | with_reducible rfl
    | with_reducible refine (State.setProt_kept _ _ _).trans ?_

theorem State.searchStart_kept (x1 : State) (x2) (x3) (x4) :
    State.kept (State.searchStart x1 x2 x3 x4) = State.kept x1 := by
  unfold State.searchStart
  repeat' first
    | with_reducible rfl
    | with_reducible refine (State.count_kept _ _ _ _).trans ?_
    | with_reducible refine (State.setProt_kept _ _ _).trans ?_

theorem State.protReceive_kept (x1 : State) (x2) (x3) (x4) :
    State.kept (State.protReceive x1 x2 x3 x4).1 = State.kept x1 := by
  unfold State.protReceive
  repeat' first
    | with_reducible rfl
    | with_reducible refine (State.count_kept _ _ _ _).trans ?_
    | with_reducible refine (State.setProt_kept _ _ _).trans ?_
    | with_reducible refine (State.rxVerified_kept _ _ _ _).trans ?_
    | with_reducible refine (State.searchStart_kept _ _ _ _).trans ?_
    | with_reducible refine ite_fst_kept ?_ ?_
    | dsimp only
    | split

theorem State.protSend_kept (x1 : State) (x2) (x3) :
    ∀ t, State.protSend x1 x2 x3 = some t → State.kept t.1 = State.kept x1 := by
  unfold State.protSend
  intro t h
  (try dsimp only at h)
  (repeat' split at h) <;> (try cases h)
  repeat' first
    | with_reducible rfl
    | with_reducible refine (State.setProt_kept _ _ _).trans ?_

/-! ## Links.lean -/

theorem State.topoSoon_kept (x1 : State) :
    State.kept (State.topoSoon x1) = State.kept x1 := by
  unfold State.topoSoon
  repeat' first
    | dsimp only
    | dsimp only [State.kept]

theorem State.setLnk_kept (x1 : State) (x2) (x3) :
    State.kept (State.setLnk x1 x2 x3) = State.kept x1 := by
  unfold State.setLnk
  rfl

theorem State.hopSync_kept (x1 : State) :
    State.kept (State.hopSync x1) = State.kept x1 := by
  unfold State.hopSync
  repeat' first
    | with_reducible rfl
    | with_reducible refine (State.wr_kept _ _ _ _ _ _).trans ?_

theorem State.ringView_kept (x1 : State) :
    State.kept (State.ringView x1) = State.kept x1 := by
  unfold State.ringView
  repeat' first
    | with_reducible refine (State.wr_kept _ _ _ _ _ _).trans ?_
    | with_reducible refine (State.hopSync_kept _).trans ?_
    | with_reducible refine (State.irq_kept _ _ _).trans ?_
    | with_reducible refine ite_kept ?_ ?_
    | dsimp only
    | fail_if_no_progress (dsimp only [State.kept] <;> show State.kept _ = State.kept _)

theorem State.flushPort_kept (x1 : State) (x2) :
    State.kept (State.flushPort x1 x2) = State.kept x1 := by
  unfold State.flushPort
  repeat' first
    | with_reducible rfl
    | with_reducible refine (State.release_kept _ _ _).trans ?_
    | with_reducible refine (State.count_kept _ _ _ _).trans ?_
    | with_reducible refine (State.setTxq_kept _ _ _ _).trans ?_
    | with_reducible refine (foldl_kept _ _ (fun _ _ => ?_)).trans ?_
    | dsimp only
    | fail_if_no_progress (dsimp only [State.kept]; show State.kept _ = State.kept _)

theorem State.setLink_kept (x1 : State) (x2) (x3) :
    State.kept (State.setLink x1 x2 x3) = State.kept x1 := by
  unfold State.setLink
  repeat' first
    | with_reducible rfl
    | with_reducible refine (State.wr_kept _ _ _ _ _ _).trans ?_
    | with_reducible refine (State.wr64_kept _ _ _ _ _ _ _).trans ?_
    | with_reducible refine (State.irq_kept _ _ _).trans ?_
    | with_reducible refine (State.trace_kept _ _ _ _ _).trans ?_
    | with_reducible refine (State.count_kept _ _ _ _).trans ?_
    | with_reducible refine (State.topoSoon_kept _).trans ?_
    | with_reducible refine (State.setLnk_kept _ _ _).trans ?_
    | with_reducible refine (State.txSaStart_kept _ _).trans ?_
    | with_reducible refine (State.detailSync_kept _).trans ?_
    | with_reducible refine (State.stepDone_kept _ _).trans ?_
    | with_reducible refine (State.ringView_kept _).trans ?_
    | with_reducible refine (State.fault_kept _ _ _ _ _ _).trans ?_
    | with_reducible refine (State.flushPort_kept _ _).trans ?_
    | with_reducible refine (State.setProt_kept _ _ _).trans ?_
    | with_reducible refine (State.setNode_kept _ _).trans ?_
    | with_reducible refine ite_kept ?_ ?_
    | dsimp only
    | fail_if_no_progress (dsimp only [State.kept]; show State.kept _ = State.kept _)

theorem State.noKey_kept (x1 : State) (x2) (x3) :
    State.kept (State.noKey x1 x2 x3) = State.kept x1 := by
  unfold State.noKey
  repeat' first
    | with_reducible rfl
    | with_reducible refine (State.count_kept _ _ _ _).trans ?_
    | with_reducible refine (State.irq_kept _ _ _).trans ?_
    | with_reducible refine (State.setLink_kept _ _ _).trans ?_
    | with_reducible refine (State.wr_kept _ _ _ _ _ _).trans ?_

theorem State.settle_kept (x1 : State) (x2) :
    State.kept (State.settle x1 x2) = State.kept x1 := by
  unfold State.settle
  repeat' first
    | with_reducible rfl
    | with_reducible refine (State.setLink_kept _ _ _).trans ?_
    | with_reducible refine (State.noKey_kept _ _ _).trans ?_
    | with_reducible refine ite_kept ?_ ?_

theorem State.linkDown_kept (x1 : State) (x2) :
    State.kept (State.linkDown x1 x2) = State.kept x1 := by
  unfold State.linkDown
  repeat' first
    | with_reducible rfl
    | with_reducible refine (State.wr_kept _ _ _ _ _ _).trans ?_
    | with_reducible refine (State.setLink_kept _ _ _).trans ?_
    | with_reducible refine (State.settle_kept _ _).trans ?_

theorem State.losSync_kept (x1 : State) (x2) :
    State.kept (State.losSync x1 x2) = State.kept x1 := by
  unfold State.losSync
  repeat' first
    | with_reducible rfl
    | with_reducible refine (State.wr_kept _ _ _ _ _ _).trans ?_

theorem State.linkApplied_kept (x1) (x2 : State) (x3) :
    State.kept (State.linkApplied x1 x2 x3) = State.kept x2 := by
  unfold State.linkApplied
  repeat' first
    | with_reducible rfl
    | with_reducible refine (State.losSync_kept _ _).trans ?_
    | with_reducible refine (State.wr_kept _ _ _ _ _ _).trans ?_
    | with_reducible refine (State.linkDown_kept _ _).trans ?_
    | with_reducible refine ite_kept ?_ ?_

theorem State.linkEnable_kept (x1 : State) (x2) :
    State.kept (State.linkEnable x1 x2) = State.kept x1 := by
  unfold State.linkEnable
  repeat' first
    | with_reducible rfl
    | with_reducible refine (State.settle_kept _ _).trans ?_
    | with_reducible refine (State.wr_kept _ _ _ _ _ _).trans ?_
    | with_reducible refine (State.setLink_kept _ _ _).trans ?_
    | with_reducible refine ite_kept ?_ ?_

theorem State.awake_keeps {s : State} {r : Res} (h : Keeps r s) : Keeps (State.awake s r) s := by
  unfold State.awake
  exact ite_keeps h (keeps_next rfl)

theorem execPhyPllUnlock_keeps (x1) (x2 : State) :
    Keeps (execPhyPllUnlock x1 x2) x2 := by
  unfold execPhyPllUnlock
  repeat' first
    | with_reducible rfl
    | with_reducible refine (State.wr_kept _ _ _ _ _ _).trans ?_
    | with_reducible refine (State.count_kept _ _ _ _).trans ?_
    | with_reducible refine (State.irq_kept _ _ _).trans ?_
    | with_reducible refine (State.linkDown_kept _ _).trans ?_
    | with_reducible refine keeps_next ?_
    | with_reducible refine ite_keeps ?_ ?_

theorem execCableTest_keeps (x1) (x2 : State) :
    Keeps (execCableTest x1 x2) x2 := by
  unfold execCableTest
  repeat' first
    | with_reducible rfl
    | with_reducible refine (State.wr_kept _ _ _ _ _ _).trans ?_
    | with_reducible refine (State.setLnk_kept _ _ _).trans ?_
    | with_reducible refine (State.irq_kept _ _ _).trans ?_
    | with_reducible refine keeps_next ?_
    | with_reducible refine ite_keeps ?_ ?_

theorem execLinkRetrain_keeps (x1) (x2 : State) :
    Keeps (execLinkRetrain x1 x2) x2 := by
  unfold execLinkRetrain
  repeat' first
    | with_reducible rfl
    | with_reducible refine (State.linkDown_kept _ _).trans ?_
    | with_reducible refine keeps_next ?_
    | with_reducible refine ite_keeps ?_ ?_

theorem execClearWorst_keeps (x1) (x2 : State) :
    Keeps (execClearWorst x1 x2) x2 := by
  unfold execClearWorst
  repeat' first
    | with_reducible rfl
    | with_reducible refine (State.wr_kept _ _ _ _ _ _).trans ?_
    | with_reducible refine keeps_next ?_
    | with_reducible refine ite_keeps ?_ ?_

theorem State.sendClaim_kept (x1 : State) :
    State.kept (State.sendClaim x1) = State.kept x1 := by
  unfold State.sendClaim
  repeat' first
    | with_reducible rfl
    | with_reducible refine (State.originate_kept _ _ _ _ _).trans ?_
    | with_reducible refine (State.count_kept _ _ _ _).trans ?_
    | dsimp only
    | fail_if_no_progress (dsimp only [State.kept]; show State.kept _ = State.kept _)

theorem State.startClaim_kept (x1 : State) :
    State.kept (State.startClaim x1) = State.kept x1 := by
  unfold State.startClaim
  repeat' first
    | with_reducible rfl
    | with_reducible refine (State.topoSoon_kept _).trans ?_
    | with_reducible refine (State.wr_kept _ _ _ _ _ _).trans ?_
    | with_reducible refine (State.sendClaim_kept _).trans ?_
    | dsimp only
    | fail_if_no_progress (dsimp only [State.kept]; show State.kept _ = State.kept _)

theorem execRingIdSet_keeps (x1) (x2) (x3 : State) :
    Keeps (execRingIdSet x1 x2 x3) x3 := by
  unfold execRingIdSet
  repeat' first
    | with_reducible rfl
    | with_reducible refine (State.wr_kept _ _ _ _ _ _).trans ?_
    | with_reducible refine (State.startClaim_kept _).trans ?_
    | with_reducible refine keeps_next ?_
    | with_reducible refine ite_keeps ?_ ?_
    | dsimp only
    | dsimp only [State.kept]

theorem State.derive_kept (x1 : State) (x2) :
    State.kept (State.derive x1 x2) = State.kept x1 := by
  unfold State.derive
  repeat' first
    | with_reducible refine (State.sluSafeAll_kept _).trans ?_
    | with_reducible refine (State.driveSync_kept _).trans ?_
    | with_reducible refine (State.wr_kept _ _ _ _ _ _).trans ?_
    | with_reducible refine ite_kept ?_ ?_
    | dsimp only
    | dsimp only [State.kept]

theorem State.dupEvent_kept (x1 : State) (x2) (x3) (x4) :
    State.kept (State.dupEvent x1 x2 x3 x4) = State.kept x1 := by
  unfold State.dupEvent
  repeat' first
    | with_reducible rfl
    | with_reducible refine (State.wr_kept _ _ _ _ _ _).trans ?_
    | with_reducible refine (State.wr64_kept _ _ _ _ _ _ _).trans ?_
    | with_reducible refine (State.fault_kept _ _ _ _ _ _).trans ?_
    | with_reducible refine (State.count_kept _ _ _ _).trans ?_
    | with_reducible refine (State.irq_kept _ _ _).trans ?_

theorem State.refuse_kept (x1 : State) (x2) (x3) (x4) :
    State.kept (State.refuse x1 x2 x3 x4) = State.kept x1 := by
  unfold State.refuse
  repeat' first
    | with_reducible refine (State.originate_kept _ _ _ _ _).trans ?_
    | dsimp only
    | dsimp only [State.kept]

theorem State.refused_kept (x1 : State) :
    State.kept (State.refused x1) = State.kept x1 := by
  unfold State.refused
  repeat' first
    | with_reducible rfl
    | with_reducible refine (State.wr_kept _ _ _ _ _ _).trans ?_
    | with_reducible refine (State.ringView_kept _).trans ?_
    | with_reducible refine (State.sluSafeAll_kept _).trans ?_
    | with_reducible refine (State.driveSync_kept _).trans ?_
    | with_reducible refine (State.topoSoon_kept _).trans ?_
    | with_reducible refine ite_kept ?_ ?_

theorem State.topoDup_kept (x1 : State) (x2) :
    State.kept (State.topoDup x1 x2) = State.kept x1 := by
  unfold State.topoDup
  repeat' first
    | with_reducible rfl
    | with_reducible refine (State.dupEvent_kept _ _ _ _).trans ?_
    | with_reducible refine (State.refuse_kept _ _ _ _).trans ?_
    | with_reducible refine (State.refused_kept _).trans ?_
    | with_reducible refine ite_kept ?_ ?_

theorem State.ownAfresh_kept (x1 : State) :
    State.kept (State.ownAfresh x1) = State.kept x1 := by
  unfold State.ownAfresh
  repeat' first
    | with_reducible rfl
    | with_reducible refine ite_kept ?_ ?_
    | dsimp only
    | dsimp only [State.kept]

theorem State.claimHeld_kept (x1 : State) :
    State.kept (State.claimHeld x1) = State.kept x1 := by
  delta State.claimHeld
  extract_lets s1 s2 s3 r s4 s5
  have h1 : s1.kept = x1.kept := State.passTo_kept _ _
  clear_value s1
  have h2 : s2.kept = x1.kept := (State.wr_kept _ _ _ _ _ _).trans ((State.wr_kept _ _ _ _ _ _).trans h1)
  clear_value s2
  have h3 : s3.kept = x1.kept := ite_kept ((State.detailClear_kept _).trans h2) h2
  clear_value s3
  have h4 : s4.kept = x1.kept := (State.ringView_kept _).trans ((kept_ring s3 _).trans h3)
  clear_value r s4
  have h5 : s5.kept = x1.kept := (State.driveSync_kept _).trans h4
  clear_value s5
  exact (State.topoSoon_kept _).trans ((State.irq_kept _ _ _).trans ((State.ownAfresh_kept _).trans h5))

theorem execIdClaimRepeat_keeps (x1 : State) :
    Keeps (execIdClaimRepeat x1) x1 := by
  unfold execIdClaimRepeat
  repeat' first
    | with_reducible rfl
    | with_reducible refine (State.sendClaim_kept _).trans ?_
    | with_reducible refine (State.passTo_kept _ _).trans ?_
    | with_reducible refine keeps_next ?_
    | with_reducible refine ite_keeps ?_ ?_

theorem execPositionTimeout_keeps (x1 : State) :
    Keeps (execPositionTimeout x1) x1 := by
  unfold execPositionTimeout
  repeat' first
    | with_reducible rfl
    | with_reducible refine (State.derive_kept _ _).trans ?_
    | with_reducible refine (State.passTo_kept _ _).trans ?_
    | with_reducible refine keeps_next ?_
    | with_reducible refine ite_keeps ?_ ?_
    | split

theorem State.onClaim_kept (x1 : State) (x2) (x3) :
    State.kept (State.onClaim x1 x2 x3) = State.kept x1 := by
  unfold State.onClaim
  repeat' first
    | with_reducible rfl
    | with_reducible refine (State.dupEvent_kept _ _ _ _).trans ?_
    | with_reducible refine (State.refuse_kept _ _ _ _).trans ?_
    | with_reducible refine (State.refused_kept _).trans ?_
    | with_reducible refine ite_kept ?_ ?_

theorem State.sendTopo_kept (x1 : State) :
    State.kept (State.sendTopo x1) = State.kept x1 := by
  unfold State.sendTopo
  repeat' first
    | with_reducible rfl
    | with_reducible refine (State.originate_kept _ _ _ _ _).trans ?_
    | with_reducible refine ite_kept ?_ ?_
    | dsimp only
    | fail_if_no_progress (dsimp only [State.kept]; show State.kept _ = State.kept _)

theorem execTopoEventTx_keeps (x1 : State) :
    Keeps (execTopoEventTx x1) x1 := by
  unfold execTopoEventTx
  repeat' first
    | with_reducible rfl
    | with_reducible refine (State.sendTopo_kept _).trans ?_
    | with_reducible refine keeps_next ?_
    | with_reducible refine ite_keeps ?_ ?_
    | dsimp only
    | dsimp only [State.kept]

theorem execPhyPllLock_keeps (x1) (x2 : State) :
    Keeps (execPhyPllLock x1 x2) x2 := by
  unfold execPhyPllLock
  repeat' first
    | with_reducible rfl
    | with_reducible refine (State.wr_kept _ _ _ _ _ _).trans ?_
    | with_reducible refine keeps_next ?_
    | with_reducible refine ite_keeps ?_ ?_

theorem State.hello_kept (x1 : State) (x2) (x3) :
    State.kept (State.hello x1 x2 x3) = State.kept x1 := by
  unfold State.hello
  repeat' first
    | with_reducible rfl
    | with_reducible refine (State.sendLink_kept _ _ _ _).trans ?_
    | with_reducible refine (State.setLnk_kept _ _ _).trans ?_

theorem execPcsLockGained_keeps (x1) (x2) (x3) (x4) (x5 : State) :
    Keeps (execPcsLockGained x1 x2 x3 x4 x5) x5 := by
  unfold execPcsLockGained
  repeat' first
    | with_reducible rfl
    | with_reducible refine (State.wr_kept _ _ _ _ _ _).trans ?_
    | with_reducible refine (State.noKey_kept _ _ _).trans ?_
    | with_reducible refine (State.setLnk_kept _ _ _).trans ?_
    | with_reducible refine (State.hello_kept _ _ _).trans ?_
    | with_reducible refine (State.setLink_kept _ _ _).trans ?_
    | with_reducible refine keeps_next ?_
    | with_reducible refine ite_keeps ?_ ?_

theorem execPcsLockLost_keeps (x1) (x2 : State) :
    Keeps (execPcsLockLost x1 x2) x2 := by
  unfold execPcsLockLost
  repeat' first
    | with_reducible rfl
    | with_reducible refine (State.linkDown_kept _ _).trans ?_
    | with_reducible refine keeps_next ?_
    | with_reducible refine ite_keeps ?_ ?_

theorem execSdLosRise_keeps (x1) (x2 : State) :
    Keeps (execSdLosRise x1 x2) x2 := by
  unfold execSdLosRise
  repeat' first
    | with_reducible rfl
    | with_reducible refine (State.losSync_kept _ _).trans ?_
    | with_reducible refine (State.setLnk_kept _ _ _).trans ?_
    | with_reducible refine (State.linkDown_kept _ _).trans ?_
    | with_reducible refine keeps_next ?_
    | with_reducible refine ite_keeps ?_ ?_

theorem execSdLosFall_keeps (x1) (x2 : State) :
    Keeps (execSdLosFall x1 x2) x2 := by
  unfold execSdLosFall
  repeat' first
    | with_reducible rfl
    | with_reducible refine (State.settle_kept _ _).trans ?_
    | with_reducible refine (State.losSync_kept _ _).trans ?_
    | with_reducible refine (State.setLnk_kept _ _ _).trans ?_
    | with_reducible refine keeps_next ?_

theorem execHelloTx_keeps (x1) (x2 : State) :
    Keeps (execHelloTx x1 x2) x2 := by
  unfold execHelloTx
  repeat' first
    | with_reducible rfl
    | with_reducible refine (State.hello_kept _ _ _).trans ?_
    | with_reducible refine (State.passTo_kept _ _).trans ?_
    | with_reducible refine keeps_next ?_
    | with_reducible refine ite_keeps ?_ ?_

theorem execHelloTimeout_keeps (x1) (x2 : State) :
    Keeps (execHelloTimeout x1 x2) x2 := by
  unfold execHelloTimeout
  repeat' first
    | with_reducible rfl
    | with_reducible refine (State.passTo_kept _ _).trans ?_
    | with_reducible refine (State.count_kept _ _ _ _).trans ?_
    | with_reducible refine (State.linkDown_kept _ _).trans ?_
    | with_reducible refine keeps_next ?_
    | with_reducible refine ite_keeps ?_ ?_

theorem execCableTestDone_keeps (x1) (x2) (x3) (x4 : State) :
    Keeps (execCableTestDone x1 x2 x3 x4) x4 := by
  unfold execCableTestDone
  repeat' first
    | with_reducible rfl
    | with_reducible refine (State.wr_kept _ _ _ _ _ _).trans ?_
    | with_reducible refine (State.setLnk_kept _ _ _).trans ?_
    | with_reducible refine (State.irq_kept _ _ _).trans ?_
    | with_reducible refine keeps_next ?_
    | with_reducible refine ite_keeps ?_ ?_

theorem execSqiUpdate_keeps (x1) (x2) (x3 : State) :
    Keeps (execSqiUpdate x1 x2 x3) x3 := by
  unfold execSqiUpdate
  repeat' first
    | with_reducible rfl
    | with_reducible refine (State.wr_kept _ _ _ _ _ _).trans ?_
    | with_reducible refine keeps_next ?_
    | with_reducible refine ite_keeps ?_ ?_

theorem State.neighbour_kept (x1 : State) (x2) (x3) :
    State.kept (State.neighbour x1 x2 x3) = State.kept x1 := by
  unfold State.neighbour
  repeat' first
    | with_reducible rfl
    | with_reducible refine (State.wr_kept _ _ _ _ _ _).trans ?_
    | with_reducible refine (State.wr64_kept _ _ _ _ _ _ _).trans ?_

theorem execHelloRx_keeps (x1 : State) :
    Keeps (execHelloRx x1) x1 := by
  unfold execHelloRx
  repeat' first
    | with_reducible rfl
    | with_reducible refine (State.takeCell_kept _ _ _ _ (by assumption)).trans ?_
    | with_reducible refine (State.neighbour_kept _ _ _).trans ?_
    | with_reducible refine (State.setLnk_kept _ _ _).trans ?_
    | with_reducible refine (State.noKey_kept _ _ _).trans ?_
    | with_reducible refine (State.setLink_kept _ _ _).trans ?_
    | with_reducible refine keeps_next ?_
    | with_reducible refine ite_keeps ?_ ?_
    | dsimp only
    | split

theorem execClaimStart_keeps (x1 : State) :
    Keeps (execClaimStart x1) x1 := by
  unfold execClaimStart
  repeat' first
    | with_reducible rfl
    | with_reducible refine (State.startClaim_kept _).trans ?_
    | with_reducible refine keeps_next ?_
    | with_reducible refine ite_keeps ?_ ?_

theorem execIdRefuseRx_keeps (x1 : State) :
    Keeps (execIdRefuseRx x1) x1 := by
  unfold execIdRefuseRx
  repeat' first
    | with_reducible rfl
    | with_reducible refine (State.takeCell_kept _ _ _ _ (ite_some (by assumption))).trans ?_
    | with_reducible refine (State.dupEvent_kept _ _ _ _).trans ?_
    | with_reducible refine (State.refused_kept _).trans ?_
    | with_reducible refine keeps_next ?_
    | with_reducible refine ite_keeps ?_ ?_
    | dsimp only
    | split

theorem execIdRefuseRepeat_keeps (x1 : State) :
    Keeps (execIdRefuseRepeat x1) x1 := by
  unfold execIdRefuseRepeat
  repeat' first
    | with_reducible rfl
    | with_reducible refine (State.passTo_kept _ _).trans ?_
    | with_reducible refine (State.originate_kept _ _ _ _ _).trans ?_
    | with_reducible refine keeps_next ?_
    | dsimp only
    | fail_if_no_progress (dsimp only [State.kept] <;> show State.kept _ = State.kept _)
    | split

theorem execTopoTx_keeps (x1 : State) :
    Keeps (execTopoTx x1) x1 := by
  unfold execTopoTx
  repeat' first
    | with_reducible rfl
    | with_reducible refine (State.passTo_kept _ _).trans ?_
    | with_reducible refine (State.sendTopo_kept _).trans ?_
    | with_reducible refine keeps_next ?_
    | with_reducible refine ite_keeps ?_ ?_
    | dsimp only
    | fail_if_no_progress (dsimp only [State.kept]; show State.kept _ = State.kept _)

theorem execTopoRx_keeps (x1 : State) :
    Keeps (execTopoRx x1) x1 := by
  unfold execTopoRx
  repeat' first
    | with_reducible rfl
    | with_reducible refine (State.takeCell_kept _ _ _ _ (ite_some (by assumption))).trans ?_
    | with_reducible refine (State.derive_kept _ _).trans ?_
    | with_reducible refine (State.ringView_kept _).trans ?_
    | with_reducible refine keeps_next ?_
    | with_reducible refine ite_kept ?_ ?_
    | dsimp only
    | fail_if_no_progress (dsimp only [State.kept] <;> show State.kept _ = State.kept _)
    | split

theorem execTopoExpire_keeps (x1 : State) :
    Keeps (execTopoExpire x1) x1 := by
  unfold execTopoExpire
  repeat' first
    | with_reducible rfl
    | with_reducible refine (State.ringView_kept _).trans ?_
    | with_reducible refine (State.passTo_kept _ _).trans ?_
    | with_reducible refine keeps_next ?_
    | dsimp only
    | split

/-! ## Time.lean -/

theorem State.passRing_kept (x1 : State) (x2) :
    State.kept (State.passRing x1 x2) = State.kept x1 := by
  unfold State.passRing
  repeat' first
    | with_reducible rfl
    | with_reducible refine (State.pass_kept _ _).trans ?_

theorem State.timeApplied_kept (x1) (x2 : State) :
    State.kept (State.timeApplied x1 x2) = State.kept x2 := by
  unfold State.timeApplied
  repeat' first
    | with_reducible rfl
    | with_reducible refine ite_kept ?_ ?_
    | dsimp only
    | fail_if_no_progress (dsimp only [State.kept] <;> show State.kept _ = State.kept _)

theorem State.setEpoch_kept (x1 : State) (x2) :
    State.kept (State.setEpoch x1 x2) = State.kept x1 := by
  unfold State.setEpoch
  repeat' first
    | with_reducible rfl
    | with_reducible refine (State.wr64_kept _ _ _ _ _ _ _).trans ?_

theorem State.takeBase_kept (x1 : State) (x2) :
    State.kept (State.takeBase x1 x2) = State.kept x1 := by
  unfold State.takeBase
  repeat' first
    | with_reducible rfl
    | with_reducible refine (State.setWord_kept _ _ _ _ _).trans ?_
    | with_reducible refine (State.wr64_kept _ _ _ _ _ _ _).trans ?_
    | with_reducible refine ite_kept ?_ ?_
    | dsimp only
    | fail_if_no_progress (dsimp only [State.kept] <;> show State.kept _ = State.kept _)
    | split

theorem State.gmChanged_kept (x1 : State) :
    State.kept (State.gmChanged x1) = State.kept x1 := by
  unfold State.gmChanged
  repeat' first
    | with_reducible refine (State.count_kept _ _ _ _).trans ?_
    | with_reducible refine (State.irq_kept _ _ _).trans ?_
    | dsimp only
    | dsimp only [State.kept]

theorem State.dropBase_kept (x1 : State) :
    State.kept (State.dropBase x1) = State.kept x1 := by
  unfold State.dropBase
  repeat' first
    | with_reducible rfl
    | with_reducible refine (State.setWord_kept _ _ _ _ _).trans ?_
    | dsimp only
    | fail_if_no_progress (dsimp only [State.kept] <;> show State.kept _ = State.kept _)
    | split

theorem State.setTod_kept (x1 : State) (x2) :
    State.kept (State.setTod x1 x2) = State.kept x1 := by
  unfold State.setTod
  repeat' first
    | with_reducible rfl
    | with_reducible refine (State.wr64_kept _ _ _ _ _ _ _).trans ?_

theorem State.adoptBase_kept (x1 : State) :
    State.kept (State.adoptBase x1) = State.kept x1 := by
  unfold State.adoptBase
  repeat' first
    | with_reducible rfl
    | with_reducible refine (State.dropBase_kept _).trans ?_
    | with_reducible refine (State.wr64_kept _ _ _ _ _ _ _).trans ?_
    | with_reducible refine (State.wr_kept _ _ _ _ _ _).trans ?_
    | with_reducible refine (State.setTod_kept _ _).trans ?_
    | with_reducible refine ite_kept ?_ ?_
    | dsimp only
    | split

theorem State.skipPassed_kept (x1 : State) :
    State.kept (State.skipPassed x1) = State.kept x1 := by
  unfold State.skipPassed
  repeat' first
    | with_reducible rfl
    | with_reducible refine ite_kept ?_ ?_
    | dsimp only
    | dsimp only [State.kept]

theorem State.gainLock_kept (x1 : State) (x2) :
    State.kept (State.gainLock x1 x2) = State.kept x1 := by
  unfold State.gainLock
  repeat' first
    | with_reducible refine (State.adoptBase_kept _).trans ?_
    | with_reducible refine (State.takeBase_kept _ _).trans ?_
    | with_reducible refine (State.setEpoch_kept _ _).trans ?_
    | with_reducible refine (State.collect_kept _ _).trans ?_
    | with_reducible refine (State.skipPassed_kept _).trans ?_
    | with_reducible refine (State.detailSync_kept _).trans ?_
    | with_reducible refine (State.stepDone_kept _ _).trans ?_
    | with_reducible refine ite_kept ?_ ?_
    | dsimp only
    | fail_if_no_progress (dsimp only [State.kept] <;> show State.kept _ = State.kept _)
    | split

theorem State.endLock_kept (x1 : State) :
    State.kept (State.endLock x1) = State.kept x1 := by
  unfold State.endLock
  repeat' first
    | with_reducible rfl
    | with_reducible refine (State.fault_kept _ _ _ _ _ _).trans ?_
    | with_reducible refine (State.count_kept _ _ _ _).trans ?_
    | with_reducible refine (State.setEpoch_kept _ _).trans ?_
    | with_reducible refine (State.wr_kept _ _ _ _ _ _).trans ?_
    | with_reducible refine (State.enterLag_kept _).trans ?_
    | with_reducible refine (State.setNode_kept _ _).trans ?_
    | with_reducible refine (foldl_kept _ _ (fun _ _ => ?_)).trans ?_
    | with_reducible refine ite_kept ?_ ?_
    | dsimp only
    | with_reducible refine (kept_time _ _).trans ?_

theorem State.setGov_kept (x1 : State) (x2) :
    State.kept (State.setGov x1 x2) = State.kept x1 := by
  unfold State.setGov
  repeat' first
    | with_reducible rfl
    | with_reducible refine (State.wr_kept _ _ _ _ _ _).trans ?_
    | with_reducible refine (State.count_kept _ _ _ _).trans ?_
    | with_reducible refine (State.irq_kept _ _ _).trans ?_
    | with_reducible refine (State.gainLock_kept _ _).trans ?_
    | with_reducible refine (State.endLock_kept _).trans ?_
    | with_reducible refine ite_kept ?_ ?_
    | dsimp only
    | fail_if_no_progress (dsimp only [State.kept]; show State.kept _ = State.kept _)

theorem State.moveAxes_kept (x1 : State) (x2) :
    State.kept (State.moveAxes x1 x2) = State.kept x1 := by
  unfold State.moveAxes
  repeat' first
    | dsimp only
    | dsimp only [State.kept]

theorem State.establish_kept (x1 : State) :
    State.kept (State.establish x1) = State.kept x1 := by
  unfold State.establish
  repeat' first
    | with_reducible rfl
    | with_reducible refine (State.setTod_kept _ _).trans ?_
    | with_reducible refine (State.moveAxes_kept _ _).trans ?_
    | with_reducible refine (State.dropBase_kept _).trans ?_
    | with_reducible refine (State.wr64_kept _ _ _ _ _ _ _).trans ?_
    | with_reducible refine ite_kept ?_ ?_
    | dsimp only
    | dsimp only [State.kept]

theorem State.becomeGm_kept (x1 : State) :
    State.kept (State.becomeGm x1) = State.kept x1 := by
  unfold State.becomeGm
  repeat' first
    | with_reducible rfl
    | with_reducible refine (State.establish_kept _).trans ?_
    | with_reducible refine (State.wr_kept _ _ _ _ _ _).trans ?_
    | with_reducible refine (State.setGov_kept _ _).trans ?_
    | with_reducible refine ite_kept ?_ ?_
    | dsimp only
    | fail_if_no_progress (dsimp only [State.kept]; show State.kept _ = State.kept _)

theorem State.chooseGm_kept (x1 : State) :
    State.kept (State.chooseGm x1) = State.kept x1 := by
  unfold State.chooseGm
  repeat' first
    | with_reducible refine (State.gmChanged_kept _).trans ?_
    | with_reducible refine (State.wr_kept _ _ _ _ _ _).trans ?_
    | with_reducible refine (State.setGov_kept _ _).trans ?_
    | with_reducible refine (State.becomeGm_kept _).trans ?_
    | with_reducible refine ite_kept ?_ ?_
    | dsimp only
    | fail_if_no_progress (dsimp only [State.kept] <;> show State.kept _ = State.kept _)
    | split

theorem stepTimeAnnounceRx_keeps (x1 : State) :
    Keeps (stepTimeAnnounceRx x1) x1 := by
  unfold stepTimeAnnounceRx
  repeat' first
    | with_reducible rfl
    | with_reducible refine (State.takeCell_kept _ _ _ _ (by assumption)).trans ?_
    | with_reducible refine (State.chooseGm_kept _).trans ?_
    | with_reducible refine (State.wr_kept _ _ _ _ _ _).trans ?_
    | with_reducible refine (State.setTod_kept _ _).trans ?_
    | with_reducible refine keeps_next ?_
    | with_reducible refine ite_keeps ?_ ?_
    | dsimp only
    | fail_if_no_progress (dsimp only [State.kept] <;> show State.kept _ = State.kept _)
    | split

theorem State.servo_kept (x1 : State) (x2) (x3) :
    State.kept (State.servo x1 x2 x3) = State.kept x1 := by
  unfold State.servo
  repeat' first
    | with_reducible refine (State.wr_kept _ _ _ _ _ _).trans ?_
    | dsimp only
    | dsimp only [State.kept]

theorem State.applied_kept (x1 : State) (x2) :
    State.kept (State.applied x1 x2) = State.kept x1 := by
  unfold State.applied
  repeat' first
    | with_reducible rfl
    | with_reducible refine (State.count_kept _ _ _ _).trans ?_
    | with_reducible refine (State.servo_kept _ _ _).trans ?_
    | dsimp only
    | fail_if_no_progress (dsimp only [State.kept]; show State.kept _ = State.kept _)

theorem State.stepBy_kept (x1 : State) (x2) :
    State.kept (State.stepBy x1 x2) = State.kept x1 := by
  unfold State.stepBy
  repeat' first
    | with_reducible refine (State.moveAxes_kept _ _).trans ?_
    | with_reducible refine (State.setConsQ_kept _ _ _).trans ?_
    | dsimp only
    | dsimp only [State.kept]

theorem State.loseLock_kept (x1 : State) :
    State.kept (State.loseLock x1) = State.kept x1 := by
  unfold State.loseLock
  repeat' first
    | with_reducible rfl
    | with_reducible refine (State.setGov_kept _ _).trans ?_

theorem State.rejected_kept (x1 : State) :
    State.kept (State.rejected x1) = State.kept x1 := by
  unfold State.rejected
  repeat' first
    | with_reducible rfl
    | with_reducible refine (State.count_kept _ _ _ _).trans ?_
    | with_reducible refine (State.loseLock_kept _).trans ?_
    | with_reducible refine ite_kept ?_ ?_
    | dsimp only
    | fail_if_no_progress (dsimp only [State.kept]; show State.kept _ = State.kept _)

theorem State.sample_kept (x1 : State) (x2) (x3) (x4) :
    State.kept (State.sample x1 x2 x3 x4) = State.kept x1 := by
  unfold State.sample
  repeat' first
    | with_reducible rfl
    | with_reducible refine (State.wr_kept _ _ _ _ _ _).trans ?_
    | with_reducible refine (State.applied_kept _ _).trans ?_
    | with_reducible refine (State.count_kept _ _ _ _).trans ?_
    | with_reducible refine (State.stepBy_kept _ _).trans ?_
    | with_reducible refine (State.setGov_kept _ _).trans ?_
    | with_reducible refine (State.rejected_kept _).trans ?_
    | with_reducible refine ite_kept ?_ ?_
    | dsimp only
    | fail_if_no_progress (dsimp only [State.kept]; show State.kept _ = State.kept _)

theorem State.syncRecord_kept (x1 : State) (x2) (x3) (x4) :
    State.kept (State.syncRecord x1 x2 x3 x4) = State.kept x1 := by
  unfold State.syncRecord
  repeat' first
    | with_reducible rfl
    | with_reducible refine (State.count_kept _ _ _ _).trans ?_
    | with_reducible refine ite_kept ?_ ?_
    | dsimp only
    | fail_if_no_progress (dsimp only [State.kept]; show State.kept _ = State.kept _)

theorem execTimeCapture_keeps (x1 : State) :
    Keeps (execTimeCapture x1) x1 := by
  unfold execTimeCapture
  repeat' first
    | with_reducible rfl
    | with_reducible refine (State.wr64_kept _ _ _ _ _ _ _).trans ?_
    | with_reducible refine keeps_next ?_
    | with_reducible refine ite_keeps ?_ ?_

theorem State.txtsPop_kept (x1 : State) :
    State.kept (State.txtsPop x1) = State.kept x1 := by
  unfold State.txtsPop
  repeat' first
    | with_reducible rfl
    | with_reducible refine (State.wr_kept _ _ _ _ _ _).trans ?_
    | dsimp only
    | fail_if_no_progress (dsimp only [State.kept] <;> show State.kept _ = State.kept _)
    | split

theorem State.txStamp_kept (x1 : State) (x2) (x3) (x4) (x5) (x6) :
    State.kept (State.txStamp x1 x2 x3 x4 x5 x6) = State.kept x1 := by
  unfold State.txStamp
  repeat' first
    | with_reducible refine (State.wr_kept _ _ _ _ _ _).trans ?_
    | with_reducible refine (State.count_kept _ _ _ _).trans ?_
    | with_reducible refine (State.irq_kept _ _ _).trans ?_
    | with_reducible refine ite_kept ?_ ?_
    | dsimp only
    | dsimp only [State.kept]

theorem State.setPd_kept (x1 : State) (x2) (x3) :
    State.kept (State.setPd x1 x2 x3) = State.kept x1 := by
  unfold State.setPd
  repeat' first
    | dsimp only
    | dsimp only [State.kept]

theorem execPdelayRespRx_keeps (x1 : State) :
    Keeps (execPdelayRespRx x1) x1 := by
  unfold execPdelayRespRx
  repeat' first
    | with_reducible rfl
    | with_reducible refine (State.takeCell_kept _ _ _ _ (by assumption)).trans ?_
    | with_reducible refine (State.setPd_kept _ _ _).trans ?_
    | with_reducible refine keeps_next ?_
    | with_reducible refine ite_keeps ?_ ?_
    | dsimp only
    | split

theorem stepSyncDecision_keeps (x1) (x2 : State) :
    Keeps (stepSyncDecision x1 x2) x2 := by
  unfold stepSyncDecision
  repeat' first
    | with_reducible rfl
    | with_reducible refine (State.passTo_kept _ _).trans ?_
    | with_reducible refine (State.count_kept _ _ _ _).trans ?_
    | with_reducible refine (State.sample_kept _ _ _ _).trans ?_
    | with_reducible refine keeps_next ?_
    | with_reducible refine ite_kept ?_ ?_
    | dsimp only
    | fail_if_no_progress (dsimp only [State.kept] <;> show State.kept _ = State.kept _)
    | split

theorem execPpsOutRise_keeps (x1 : State) :
    Keeps (execPpsOutRise x1) x1 := by
  unfold execPpsOutRise
  repeat' first
    | with_reducible rfl
    | with_reducible refine (State.passRing_kept _ _).trans ?_
    | with_reducible refine keeps_next ?_
    | with_reducible refine ite_keeps ?_ ?_
    | dsimp only
    | fail_if_no_progress (dsimp only [State.kept]; show State.kept _ = State.kept _)

theorem stepPpsInEdge_keeps (x1 : State) :
    Keeps (stepPpsInEdge x1) x1 := by
  unfold stepPpsInEdge
  repeat' first
    | with_reducible rfl
    | with_reducible refine (State.wr64_kept _ _ _ _ _ _ _).trans ?_
    | with_reducible refine (State.wr_kept _ _ _ _ _ _).trans ?_
    | with_reducible refine (State.setTod_kept _ _).trans ?_
    | with_reducible refine (State.irq_kept _ _ _).trans ?_
    | with_reducible refine (State.servo_kept _ _ _).trans ?_
    | with_reducible refine (State.count_kept _ _ _ _).trans ?_
    | with_reducible refine keeps_next ?_
    | with_reducible refine ite_kept ?_ ?_
    | with_reducible refine ite_keeps ?_ ?_
    | dsimp only
    | fail_if_no_progress (dsimp only [State.kept]; show State.kept _ = State.kept _)

theorem stepTimeSyncTx_keeps (x1 : State) :
    Keeps (stepTimeSyncTx x1) x1 := by
  unfold stepTimeSyncTx
  repeat' first
    | with_reducible rfl
    | with_reducible refine (State.passRing_kept _ _).trans ?_
    | with_reducible refine (State.originate_kept _ _ _ _ _).trans ?_
    | with_reducible refine keeps_next ?_
    | with_reducible refine ite_keeps ?_ ?_
    | dsimp only
    | fail_if_no_progress (dsimp only [State.kept] <;> show State.kept _ = State.kept _)
    | split

theorem State.takeRecord_kept (x1 : State) (x2) :
    State.kept (State.takeRecord x1 x2).1 = State.kept x1 := by
  unfold State.takeRecord
  repeat' first
    | with_reducible rfl
    | dsimp only
    | fail_if_no_progress (dsimp only [State.kept] <;> show State.kept _ = State.kept _)
    | split

theorem State.timeDepart_kept (x1 : State) (x2) (x3) (x4) :
    State.kept (State.timeDepart x1 x2 x3 x4) = State.kept x1 := by
  unfold State.timeDepart
  repeat' first
    | with_reducible rfl
    | with_reducible refine (State.setPd_kept _ _ _).trans ?_
    | with_reducible refine (State.takeRecord_kept _ _).trans ?_
    | with_reducible refine (State.sendLink_kept _ _ _ _).trans ?_
    | with_reducible refine ite_kept ?_ ?_
    | dsimp only
    | dsimp only [State.kept]

theorem execPdelayReqTx_keeps (x1) (x2 : State) :
    Keeps (execPdelayReqTx x1 x2) x2 := by
  unfold execPdelayReqTx
  repeat' first
    | with_reducible rfl
    | with_reducible refine (State.passTo_kept _ _).trans ?_
    | with_reducible refine (State.setPd_kept _ _ _).trans ?_
    | with_reducible refine (State.sendLink_kept _ _ _ _).trans ?_
    | with_reducible refine keeps_next ?_
    | with_reducible refine ite_keeps ?_ ?_
    | dsimp only
    | split

theorem execPdelayTimeout_keeps (x1) (x2 : State) :
    Keeps (execPdelayTimeout x1 x2) x2 := by
  unfold execPdelayTimeout
  repeat' first
    | with_reducible rfl
    | with_reducible refine (State.count_kept _ _ _ _).trans ?_
    | with_reducible refine (State.passTo_kept _ _).trans ?_
    | with_reducible refine (State.wr_kept _ _ _ _ _ _).trans ?_
    | with_reducible refine (State.setPd_kept _ _ _).trans ?_
    | with_reducible refine keeps_next ?_
    | with_reducible refine ite_keeps ?_ ?_

theorem execSyncRecordTx_keeps (x1) (x2 : State) :
    Keeps (execSyncRecordTx x1 x2) x2 := by
  unfold execSyncRecordTx
  repeat' first
    | with_reducible rfl
    | with_reducible refine (State.takeRecord_kept _ _).trans ?_
    | with_reducible refine (State.sendLink_kept _ _ _ _).trans ?_
    | with_reducible refine keeps_next ?_
    | with_reducible refine ite_keeps ?_ ?_

theorem execSyncRecordTimeout_keeps (x1) (x2) (x3 : State) :
    Keeps (execSyncRecordTimeout x1 x2 x3) x3 := by
  unfold execSyncRecordTimeout
  repeat' first
    | with_reducible rfl
    | with_reducible refine (State.count_kept _ _ _ _).trans ?_
    | with_reducible refine (State.passTo_kept _ _).trans ?_
    | with_reducible refine keeps_next ?_
    | dsimp only
    | fail_if_no_progress (dsimp only [State.kept] <;> show State.kept _ = State.kept _)
    | split

theorem execPdelayReqRx_keeps (x1 : State) :
    Keeps (execPdelayReqRx x1) x1 := by
  unfold execPdelayReqRx
  repeat' first
    | with_reducible rfl
    | with_reducible refine (State.takeCell_kept _ _ _ _ (by assumption)).trans ?_
    | with_reducible refine (State.sendLink_kept _ _ _ _).trans ?_
    | with_reducible refine keeps_next ?_
    | split

theorem State.pdSample_kept (x1 : State) (x2) (x3) :
    State.kept (State.pdSample x1 x2 x3) = State.kept x1 := by
  unfold State.pdSample
  repeat' first
    | with_reducible rfl
    | with_reducible refine (State.count_kept _ _ _ _).trans ?_
    | with_reducible refine (State.setPd_kept _ _ _).trans ?_
    | with_reducible refine (State.wr_kept _ _ _ _ _ _).trans ?_
    | with_reducible refine ite_kept ?_ ?_
    | dsimp only
    | split

theorem execPdelayRespFuRx_keeps (x1 : State) :
    Keeps (execPdelayRespFuRx x1) x1 := by
  unfold execPdelayRespFuRx
  repeat' first
    | with_reducible rfl
    | with_reducible refine (State.takeCell_kept _ _ _ _ (by assumption)).trans ?_
    | with_reducible refine (State.pdSample_kept _ _ _).trans ?_
    | with_reducible refine (State.syncRecord_kept _ _ _ _).trans ?_
    | with_reducible refine keeps_next ?_
    | with_reducible refine ite_kept ?_ ?_
    | with_reducible refine ite_keeps ?_ ?_
    | dsimp only
    | split

theorem stepTimeSyncRx_keeps (x1 : State) :
    Keeps (stepTimeSyncRx x1) x1 := by
  unfold stepTimeSyncRx
  repeat' first
    | with_reducible rfl
    | with_reducible refine (State.takeCell_kept _ _ _ _ (by assumption)).trans ?_
    | with_reducible refine (State.setGov_kept _ _).trans ?_
    | with_reducible refine keeps_next ?_
    | with_reducible refine ite_kept ?_ ?_
    | with_reducible refine ite_keeps ?_ ?_
    | dsimp only
    | fail_if_no_progress (dsimp only [State.kept] <;> show State.kept _ = State.kept _)
    | split

theorem stepTimeAnnounceTx_keeps (x1 : State) :
    Keeps (stepTimeAnnounceTx x1) x1 := by
  unfold stepTimeAnnounceTx
  repeat' first
    | with_reducible rfl
    | with_reducible refine (State.passTo_kept _ _).trans ?_
    | with_reducible refine (State.originate_kept _ _ _ _ _).trans ?_
    | with_reducible refine (State.chooseGm_kept _).trans ?_
    | with_reducible refine keeps_next ?_
    | with_reducible refine ite_keeps ?_ ?_
    | dsimp only
    | fail_if_no_progress (dsimp only [State.kept]; show State.kept _ = State.kept _)
    | split

theorem stepGmDrop_keeps (x1 : State) :
    Keeps (stepGmDrop x1) x1 := by
  unfold stepGmDrop
  repeat' first
    | with_reducible rfl
    | with_reducible refine (State.passTo_kept _ _).trans ?_
    | with_reducible refine (State.chooseGm_kept _).trans ?_
    | with_reducible refine keeps_next ?_
    | with_reducible refine ite_keeps ?_ ?_
    | dsimp only
    | fail_if_no_progress (dsimp only [State.kept]; show State.kept _ = State.kept _)

theorem execHoldoverEntry_keeps (x1 : State) :
    Keeps (execHoldoverEntry x1) x1 := by
  unfold execHoldoverEntry
  repeat' first
    | with_reducible rfl
    | with_reducible refine (State.setGov_kept _ _).trans ?_
    | with_reducible refine (State.passTo_kept _ _).trans ?_
    | with_reducible refine keeps_next ?_
    | with_reducible refine ite_keeps ?_ ?_

theorem stepHoldoverExpiry_keeps (x1 : State) :
    Keeps (stepHoldoverExpiry x1) x1 := by
  unfold stepHoldoverExpiry
  repeat' first
    | with_reducible rfl
    | with_reducible refine (State.loseLock_kept _).trans ?_
    | with_reducible refine (State.passTo_kept _ _).trans ?_
    | with_reducible refine keeps_next ?_
    | with_reducible refine ite_keeps ?_ ?_

theorem execPpsMiss_keeps (x1 : State) :
    Keeps (execPpsMiss x1) x1 := by
  unfold execPpsMiss
  repeat' first
    | with_reducible rfl
    | with_reducible refine (State.passTo_kept _ _).trans ?_
    | with_reducible refine (State.irq_kept _ _ _).trans ?_
    | with_reducible refine keeps_next ?_
    | with_reducible refine ite_keeps ?_ ?_
    | dsimp only
    | fail_if_no_progress (dsimp only [State.kept] <;> show State.kept _ = State.kept _)
    | split

theorem execPpsHoldover_keeps (x1 : State) :
    Keeps (execPpsHoldover x1) x1 := by
  unfold execPpsHoldover
  repeat' first
    | with_reducible rfl
    | with_reducible refine (State.passTo_kept _ _).trans ?_
    | with_reducible refine keeps_next ?_
    | with_reducible refine ite_keeps ?_ ?_
    | dsimp only
    | fail_if_no_progress (dsimp only [State.kept] <;> show State.kept _ = State.kept _)
    | split

theorem execPpsOutFall_keeps (x1 : State) :
    Keeps (execPpsOutFall x1) x1 := by
  unfold execPpsOutFall
  repeat' first
    | with_reducible rfl
    | with_reducible refine (State.passRing_kept _ _).trans ?_
    | with_reducible refine keeps_next ?_
    | dsimp only
    | fail_if_no_progress (dsimp only [State.kept] <;> show State.kept _ = State.kept _)
    | split

end Sys2Proof.Machine
end

