-- ==== Sys2Proof/Laws/KeptImage.lean ====
section
/-!
SUPPORT. What only a reset of the hub may touch is kept by the functions of the site image, the host ports' answers and the bridge.
-/
set_option Elab.async false

namespace Sys2Proof.Machine

/-! ## Image.lean -/

theorem State.setShard_kept (x1 : State) (x2) (x3) :
    State.kept (State.setShard x1 x2 x3) = State.kept x1 := by
  unfold State.setShard
  repeat' first
    | dsimp only
    | dsimp only [State.kept]

theorem State.repairSync_kept (x1 : State) :
    State.kept (State.repairSync x1) = State.kept x1 := by
  unfold State.repairSync
  repeat' first
    | with_reducible rfl
    | with_reducible refine (State.wr_kept _ _ _ _ _ _).trans ?_

theorem State.sendRepair_kept (x1 : State) (x2) :
    State.kept (State.sendRepair x1 x2) = State.kept x1 := by
  unfold State.sendRepair
  repeat' first
    | with_reducible rfl
    | with_reducible refine (State.count_kept _ _ _ _).trans ?_
    | with_reducible refine (State.originate_kept _ _ _ _ _).trans ?_

theorem State.repairFlush_kept (x1) (x2 : State) :
    State.kept (State.repairFlush x1 x2) = State.kept x2 := by
  induction x1 generalizing x2 with
  | zero =>
    unfold State.repairFlush
    repeat' first
      | with_reducible rfl
      | with_reducible refine (State.repairSync_kept _).trans ?_
  | succ k ih =>
    unfold State.repairFlush
    repeat' first
      | with_reducible refine (ih _).trans ?_
      | with_reducible rfl
      | with_reducible refine (State.repairSync_kept _).trans ?_
      | with_reducible refine (State.sendRepair_kept _ _).trans ?_
      | with_reducible refine ite_kept ?_ ?_
      | dsimp only
      | fail_if_no_progress (dsimp only [State.kept] <;> show State.kept _ = State.kept _)
      | split

theorem State.askRepair_kept (x1 : State) (x2) (x3) (x4) (x5) (x6) (x7) :
    State.kept (State.askRepair x1 x2 x3 x4 x5 x6 x7) = State.kept x1 := by
  unfold State.askRepair
  repeat' first
    | with_reducible rfl
    | with_reducible refine (State.repairFlush_kept _ _).trans ?_
    | with_reducible refine ite_kept ?_ ?_
    | dsimp only
    | dsimp only [State.kept]

theorem State.askFor_kept (x1 : State) (x2) (x3) (x4) :
    State.kept (State.askFor x1 x2 x3 x4) = State.kept x1 := by
  unfold State.askFor
  repeat' first
    | with_reducible rfl
    | with_reducible refine (State.askRepair_kept _ _ _ _ _ _ _).trans ?_
    | with_reducible refine (foldl_kept _ _ (fun _ _ => ?_)).trans ?_
    | with_reducible refine ite_kept ?_ ?_

theorem State.setBank_kept (x1 : State) (x2) (x3) :
    State.kept (State.setBank x1 x2 x3) = State.kept x1 := by
  unfold State.setBank
  repeat' first
    | dsimp only
    | dsimp only [State.kept]

theorem State.shadowPut_kept (x1 : State) (x2) (x3) :
    State.kept (State.shadowPut x1 x2 x3) = State.kept x1 := by
  unfold State.shadowPut
  repeat' first
    | with_reducible rfl
    | with_reducible refine (State.setBank_kept _ _ _).trans ?_
    | with_reducible refine ite_kept ?_ ?_
    | dsimp only
    | split

theorem State.shadowFill_kept (x1 : State) :
    State.kept (State.shadowFill x1) = State.kept x1 := by
  unfold State.shadowFill
  repeat' first
    | with_reducible rfl
    | with_reducible refine (State.shadowPut_kept _ _ _).trans ?_
    | with_reducible refine (foldl_kept _ _ (fun _ _ => ?_)).trans ?_
    | split

theorem State.setMcastStage_kept (x1 : State) (x2) :
    State.kept (State.setMcastStage x1 x2) = State.kept x1 := by
  unfold State.setMcastStage
  repeat' first
    | with_reducible rfl
    | with_reducible refine (State.wr64_kept _ _ _ _ _ _ _).trans ?_

theorem State.pmapStageWrite_kept (x1 : State) (x2) (x3) :
    State.kept (State.pmapStageWrite x1 x2 x3) = State.kept x1 := by
  unfold State.pmapStageWrite
  repeat' first
    | with_reducible rfl
    | with_reducible refine (State.irq_kept _ _ _).trans ?_
    | with_reducible refine (State.wr_kept _ _ _ _ _ _).trans ?_
    | with_reducible refine (State.setMcastStage_kept _ _).trans ?_
    | with_reducible refine ite_kept ?_ ?_
    | dsimp only
    | fail_if_no_progress (dsimp only [State.kept]; show State.kept _ = State.kept _)

theorem State.mapAdvance_kept (x1 : State) (x2) :
    State.kept (State.mapAdvance x1 x2) = State.kept x1 := by
  unfold State.mapAdvance
  repeat' first
    | with_reducible refine (State.wr64_kept _ _ _ _ _ _ _).trans ?_
    | with_reducible refine (State.wr_kept _ _ _ _ _ _).trans ?_
    | with_reducible refine (State.count_kept _ _ _ _).trans ?_
    | with_reducible refine (State.irq_kept _ _ _).trans ?_
    | dsimp only
    | dsimp only [State.kept]

theorem execPmapStageWrite_keeps (x1) (x2) (x3 : State) :
    Keeps (execPmapStageWrite x1 x2 x3) x3 := by
  unfold execPmapStageWrite
  repeat' first
    | with_reducible rfl
    | with_reducible refine (State.pmapStageWrite_kept _ _ _).trans ?_
    | with_reducible refine keeps_next ?_
    | with_reducible refine ite_keeps ?_ ?_

theorem State.repairData_kept (x1 : State) (x2) (x3) (x4) (x5) (x6) :
    State.kept (State.repairData x1 x2 x3 x4 x5 x6) = State.kept x1 := by
  unfold State.repairData
  repeat' first
    | with_reducible rfl
    | with_reducible refine (State.originate_kept _ _ _ _ _).trans ?_

theorem State.repairBusy_kept (x1 : State) (x2) (x3) :
    State.kept (State.repairBusy x1 x2 x3) = State.kept x1 := by
  unfold State.repairBusy
  repeat' first
    | with_reducible rfl
    | with_reducible refine (State.count_kept _ _ _ _).trans ?_
    | with_reducible refine (State.repairData_kept _ _ _ _ _ _).trans ?_

theorem execRepairReqRx_keeps (x1 : State) :
    Keeps (execRepairReqRx x1) x1 := by
  unfold execRepairReqRx
  repeat' first
    | with_reducible rfl
    | with_reducible refine (State.takeCell_kept _ _ _ _ (by assumption)).trans ?_
    | with_reducible refine (State.count_kept _ _ _ _).trans ?_
    | with_reducible refine (State.repairBusy_kept _ _ _).trans ?_
    | with_reducible refine (State.repairSync_kept _).trans ?_
    | with_reducible refine keeps_next ?_
    | with_reducible refine ite_keeps ?_ ?_
    | dsimp only
    | fail_if_no_progress (dsimp only [State.kept] <;> show State.kept _ = State.kept _)
    | split

theorem State.tallySeal_kept (x1 : State) (x2) (x3) :
    State.kept (State.tallySeal x1 x2 x3) = State.kept x1 := by
  unfold State.tallySeal
  repeat' first
    | with_reducible refine (State.fault_kept _ _ _ _ _ _).trans ?_
    | with_reducible refine (State.wr_kept _ _ _ _ _ _).trans ?_
    | with_reducible refine ite_kept ?_ ?_
    | dsimp only
    | dsimp only [State.kept]

theorem State.lostGen_kept (x1 : State) :
    State.kept (State.lostGen x1) = State.kept x1 := by
  unfold State.lostGen
  repeat' first
    | with_reducible rfl
    | with_reducible refine (State.collect_kept _ _).trans ?_
    | with_reducible refine ite_kept ?_ ?_

theorem State.holdChange_kept (x1 : State) (x2) (x3) :
    State.kept (State.holdChange x1 x2 x3) = State.kept x1 := by
  unfold State.holdChange
  repeat' first
    | with_reducible rfl
    | with_reducible refine (State.lostGen_kept _).trans ?_
    | with_reducible refine (State.count_kept _ _ _ _).trans ?_
    | with_reducible refine ite_kept ?_ ?_
    | dsimp only
    | fail_if_no_progress (dsimp only [State.kept] <;> show State.kept _ = State.kept _)
    | split

theorem execChangeRx_keeps (x1 : State) :
    Keeps (execChangeRx x1) x1 := by
  unfold execChangeRx
  repeat' first
    | with_reducible rfl
    | with_reducible refine (State.takeCell_kept _ _ _ _ (by assumption)).trans ?_
    | with_reducible refine (State.count_kept _ _ _ _).trans ?_
    | with_reducible refine (State.holdChange_kept _ _ _).trans ?_
    | with_reducible refine keeps_next ?_
    | with_reducible refine ite_keeps ?_ ?_
    | dsimp only
    | split

theorem execMarginClear_keeps (x1 : State) :
    Keeps (execMarginClear x1) x1 := by
  unfold execMarginClear
  repeat' first
    | with_reducible rfl
    | with_reducible refine (State.wr_kept _ _ _ _ _ _).trans ?_
    | with_reducible refine keeps_next ?_
    | with_reducible refine ite_keeps ?_ ?_

theorem execRenew_keeps (x1) (x2 : State) :
    Keeps (execRenew x1 x2) x2 := by
  unfold execRenew
  repeat' first
    | with_reducible rfl
    | with_reducible refine keeps_next ?_
    | with_reducible refine ite_keeps ?_ ?_
    | dsimp only
    | dsimp only [State.kept]

theorem State.unpin_kept (x1 : State) :
    State.kept (State.unpin x1) = State.kept x1 := by
  unfold State.unpin
  repeat' first
    | with_reducible rfl
    | with_reducible refine (State.wr_kept _ _ _ _ _ _).trans ?_
    | with_reducible refine (State.wr64_kept _ _ _ _ _ _ _).trans ?_
    | with_reducible refine ite_kept ?_ ?_
    | dsimp only
    | with_reducible refine (kept_img _ _).trans ?_

theorem execUnpin_keeps (x1) (x2 : State) :
    Keeps (execUnpin x1 x2) x2 := by
  unfold execUnpin
  repeat' first
    | with_reducible rfl
    | with_reducible refine (State.unpin_kept _).trans ?_
    | with_reducible refine keeps_next ?_
    | with_reducible refine ite_keeps ?_ ?_

theorem State.pmapRefuse_kept (x1 : State) (x2) :
    State.kept (State.pmapRefuse x1 x2) = State.kept x1 := by
  unfold State.pmapRefuse
  repeat' first
    | with_reducible rfl
    | with_reducible refine (State.wr_kept _ _ _ _ _ _).trans ?_

theorem execPmapCopy_keeps (x1 : State) :
    Keeps (execPmapCopy x1) x1 := by
  unfold execPmapCopy
  repeat' first
    | with_reducible rfl
    | with_reducible refine (State.pmapRefuse_kept _ _).trans ?_
    | with_reducible refine (State.wr_kept _ _ _ _ _ _).trans ?_
    | with_reducible refine (State.setMcastStage_kept _ _).trans ?_
    | with_reducible refine keeps_next ?_
    | with_reducible refine ite_keeps ?_ ?_
    | dsimp only
    | dsimp only [State.kept]

theorem execPmapValidate_keeps (x1 : State) :
    Keeps (execPmapValidate x1) x1 := by
  unfold execPmapValidate
  repeat' first
    | with_reducible rfl
    | with_reducible refine (State.pmapRefuse_kept _ _).trans ?_
    | with_reducible refine keeps_next ?_
    | with_reducible refine ite_keeps ?_ ?_
    | dsimp only
    | dsimp only [State.kept]

theorem execPmapArm_keeps (x1 : State) :
    Keeps (execPmapArm x1) x1 := by
  unfold execPmapArm
  repeat' first
    | with_reducible rfl
    | with_reducible refine (State.pmapRefuse_kept _ _).trans ?_
    | with_reducible refine (State.wr_kept _ _ _ _ _ _).trans ?_
    | with_reducible refine keeps_next ?_
    | with_reducible refine ite_keeps ?_ ?_

theorem execPmapDisarm_keeps (x1 : State) :
    Keeps (execPmapDisarm x1) x1 := by
  unfold execPmapDisarm
  repeat' first
    | with_reducible rfl
    | with_reducible refine (State.wr_kept _ _ _ _ _ _).trans ?_
    | with_reducible refine (State.pmapRefuse_kept _ _).trans ?_
    | with_reducible refine keeps_next ?_
    | with_reducible refine ite_keeps ?_ ?_

theorem execPmapAdopt_keeps (x1) (x2 : State) :
    Keeps (execPmapAdopt x1 x2) x2 := by
  unfold execPmapAdopt
  repeat' first
    | with_reducible rfl
    | with_reducible refine (State.wr_kept _ _ _ _ _ _).trans ?_
    | with_reducible refine (State.wr64_kept _ _ _ _ _ _ _).trans ?_
    | with_reducible refine (State.collect_kept _ _).trans ?_
    | with_reducible refine (State.pmapRefuse_kept _ _).trans ?_
    | with_reducible refine keeps_next ?_
    | with_reducible refine ite_keeps ?_ ?_
    | dsimp only
    | dsimp only [State.kept]

theorem State.lossNotice_kept (x1 : State) (x2) :
    State.kept (State.lossNotice x1 x2) = State.kept x1 := by
  unfold State.lossNotice
  repeat' first
    | with_reducible rfl
    | with_reducible refine (State.askFor_kept _ _ _ _).trans ?_
    | with_reducible refine (foldl_kept _ _ (fun _ _ => ?_)).trans ?_
    | with_reducible refine ite_kept ?_ ?_

theorem State.imageCell_kept (x1 : State) (x2) (x3) (x4) (x5) :
    State.kept (State.imageCell x1 x2 x3 x4 x5) = State.kept x1 := by
  unfold State.imageCell
  repeat' first
    | with_reducible rfl
    | with_reducible refine (State.submit_kept _ _).trans ?_

theorem State.setOwn_kept (x1 : State) (x2) :
    State.kept (State.setOwn x1 x2) = State.kept x1 := by
  unfold State.setOwn
  repeat' first
    | dsimp only
    | dsimp only [State.kept]

theorem State.publish_kept (x1 : State) (x2) :
    State.kept (State.publish x1 x2) = State.kept x1 := by
  unfold State.publish
  repeat' first
    | with_reducible rfl
    | with_reducible refine (State.count_kept _ _ _ _).trans ?_
    | with_reducible refine (State.imageCell_kept _ _ _ _ _).trans ?_
    | with_reducible refine (State.setOwn_kept _ _).trans ?_
    | with_reducible refine (foldl_kept _ _ (fun _ _ => ?_)).trans ?_

theorem execChangePublish_keeps (x1 : State) :
    Keeps (execChangePublish x1) x1 := by
  unfold execChangePublish
  repeat' first
    | with_reducible rfl
    | with_reducible refine (State.publish_kept _ _).trans ?_
    | with_reducible refine keeps_next ?_
    | with_reducible refine ite_keeps ?_ ?_
    | split

theorem State.mismatch_kept (x1 : State) (x2) (x3) (x4) :
    State.kept (State.mismatch x1 x2 x3 x4) = State.kept x1 := by
  unfold State.mismatch
  repeat' first
    | with_reducible rfl
    | with_reducible refine (State.fault_kept _ _ _ _ _ _).trans ?_
    | with_reducible refine (State.irq_kept _ _ _).trans ?_
    | with_reducible refine (State.count_kept _ _ _ _).trans ?_
    | with_reducible refine (State.setShard_kept _ _ _).trans ?_
    | with_reducible refine (State.askFor_kept _ _ _ _).trans ?_
    | with_reducible refine ite_kept ?_ ?_
    | dsimp only
    | fail_if_no_progress (dsimp only [State.kept]; show State.kept _ = State.kept _)

theorem State.margin2_kept (x1 : State) (x2) :
    State.kept (State.margin2 x1 x2) = State.kept x1 := by
  unfold State.margin2
  repeat' first
    | with_reducible rfl
    | with_reducible refine (State.wr_kept _ _ _ _ _ _).trans ?_
    | with_reducible refine (State.irq_kept _ _ _).trans ?_
    | with_reducible refine ite_kept ?_ ?_

theorem State.dropRepairs_kept (x1 : State) (x2) :
    State.kept (State.dropRepairs x1 x2) = State.kept x1 := by
  unfold State.dropRepairs
  repeat' first
    | with_reducible refine (State.repairFlush_kept _ _).trans ?_
    | dsimp only
    | dsimp only [State.kept]

theorem State.margin1_kept (x1 : State) (x2) (x3) :
    State.kept (State.margin1 x1 x2 x3) = State.kept x1 := by
  unfold State.margin1
  repeat' first
    | with_reducible rfl
    | with_reducible refine (State.wr_kept _ _ _ _ _ _).trans ?_
    | with_reducible refine ite_kept ?_ ?_

theorem State.holdSeal_kept (x1 : State) (x2) (x3) (x4) :
    State.kept (State.holdSeal x1 x2 x3 x4) = State.kept x1 := by
  unfold State.holdSeal
  repeat' first
    | with_reducible rfl
    | with_reducible refine (State.tallySeal_kept _ _ _).trans ?_
    | with_reducible refine (State.irq_kept _ _ _).trans ?_
    | with_reducible refine (State.count_kept _ _ _ _).trans ?_
    | with_reducible refine (State.setShard_kept _ _ _).trans ?_
    | with_reducible refine (State.fault_kept _ _ _ _ _ _).trans ?_
    | with_reducible refine (State.margin1_kept _ _ _).trans ?_
    | with_reducible refine ite_kept ?_ ?_
    | dsimp only
    | fail_if_no_progress (dsimp only [State.kept]; show State.kept _ = State.kept _)
    | split

theorem State.addVer_kept (x1 : State) (x2) (x3) :
    State.kept (State.addVer x1 x2 x3) = State.kept x1 := by
  unfold State.addVer
  repeat' first
    | with_reducible rfl
    | with_reducible refine (State.dropRepairs_kept _ _).trans ?_
    | with_reducible refine (State.shadowPut_kept _ _ _).trans ?_
    | with_reducible refine (State.setShard_kept _ _ _).trans ?_

theorem State.resync_kept (x1 : State) (x2) (x3) (x4) :
    State.kept (State.resync x1 x2 x3 x4) = State.kept x1 := by
  unfold State.resync
  repeat' first
    | with_reducible rfl
    | with_reducible refine (State.lostGen_kept _).trans ?_
    | with_reducible refine (State.irq_kept _ _ _).trans ?_
    | with_reducible refine (State.count_kept _ _ _ _).trans ?_
    | with_reducible refine (State.setShard_kept _ _ _).trans ?_
    | with_reducible refine (State.addVer_kept _ _ _).trans ?_
    | with_reducible refine (State.dropRepairs_kept _ _).trans ?_
    | with_reducible refine ite_kept ?_ ?_
    | dsimp only
    | fail_if_no_progress (dsimp only [State.kept] <;> show State.kept _ = State.kept _)
    | split

theorem execRepairDataRx_keeps (x1 : State) :
    Keeps (execRepairDataRx x1) x1 := by
  unfold execRepairDataRx
  repeat' first
    | with_reducible rfl
    | with_reducible refine (State.takeCell_kept _ _ _ _ (by assumption)).trans ?_
    | with_reducible refine (State.holdChange_kept _ _ _).trans ?_
    | with_reducible refine (State.dropRepairs_kept _ _).trans ?_
    | with_reducible refine (State.holdSeal_kept _ _ _ _).trans ?_
    | with_reducible refine (State.lostGen_kept _).trans ?_
    | with_reducible refine (State.count_kept _ _ _ _).trans ?_
    | with_reducible refine (State.resync_kept _ _ _ _).trans ?_
    | with_reducible refine keeps_next ?_
    | with_reducible refine ite_keeps ?_ ?_
    | dsimp only
    | fail_if_no_progress (dsimp only [State.kept] <;> show State.kept _ = State.kept _)
    | split

theorem execRepairReqRetry_keeps (x1) (x2 : State) :
    Keeps (execRepairReqRetry x1 x2) x2 := by
  unfold execRepairReqRetry
  repeat' first
    | with_reducible rfl
    | with_reducible refine (State.passTo_kept _ _).trans ?_
    | with_reducible refine (State.sendRepair_kept _ _).trans ?_
    | with_reducible refine keeps_next ?_
    | dsimp only
    | fail_if_no_progress (dsimp only [State.kept] <;> show State.kept _ = State.kept _)
    | split

theorem State.serveShard_kept (x1 : State) (x2) (x3) :
    State.kept (State.serveShard x1 x2 x3) = State.kept x1 := by
  unfold State.serveShard
  repeat' first
    | with_reducible rfl
    | with_reducible refine (State.repairData_kept _ _ _ _ _ _).trans ?_
    | with_reducible refine (foldl_kept _ _ (fun _ _ => ?_)).trans ?_

theorem State.tryVerify_kept (x1 : State) (x2) (x3) :
    State.kept (State.tryVerify x1 x2 x3) = State.kept x1 := by
  unfold State.tryVerify
  repeat' first
    | with_reducible rfl
    | with_reducible refine (State.mismatch_kept _ _ _ _).trans ?_
    | with_reducible refine (State.addVer_kept _ _ _).trans ?_
    | with_reducible refine ite_kept ?_ ?_
    | dsimp only
    | split

theorem execShardVerify_keeps (x1) (x2) (x3 : State) :
    Keeps (execShardVerify x1 x2 x3) x3 := by
  unfold execShardVerify
  repeat' first
    | with_reducible rfl
    | with_reducible refine (State.tryVerify_kept _ _ _).trans ?_
    | with_reducible refine keeps_next ?_

theorem execProxyShardRequest_keeps (x1) (x2 : State) :
    Keeps (execProxyShardRequest x1 x2) x2 := by
  unfold execProxyShardRequest
  repeat' first
    | with_reducible rfl
    | with_reducible refine (State.askRepair_kept _ _ _ _ _ _ _).trans ?_
    | with_reducible refine keeps_next ?_
    | with_reducible refine ite_keeps ?_ ?_

theorem State.sealEpoch_kept (x1 : State) (x2) :
    State.kept (State.sealEpoch x1 x2) = State.kept x1 := by
  unfold State.sealEpoch
  repeat' first
    | with_reducible rfl
    | with_reducible refine (State.count_kept _ _ _ _).trans ?_
    | with_reducible refine (State.imageCell_kept _ _ _ _ _).trans ?_
    | with_reducible refine (State.wr64_kept _ _ _ _ _ _ _).trans ?_
    | with_reducible refine (State.wr_kept _ _ _ _ _ _).trans ?_
    | with_reducible refine (State.setOwn_kept _ _).trans ?_
    | with_reducible refine (State.setShard_kept _ _ _).trans ?_
    | with_reducible refine (State.addVer_kept _ _ _).trans ?_
    | with_reducible refine ite_kept ?_ ?_
    | dsimp only
    | fail_if_no_progress (dsimp only [State.kept]; show State.kept _ = State.kept _)

theorem execSealTx_keeps (x1 : State) :
    Keeps (execSealTx x1) x1 := by
  unfold execSealTx
  repeat' first
    | with_reducible rfl
    | with_reducible refine (State.passRing_kept _ _).trans ?_
    | with_reducible refine (State.sealEpoch_kept _ _).trans ?_
    | with_reducible refine keeps_next ?_
    | with_reducible refine ite_keeps ?_ ?_
    | dsimp only
    | split

theorem execRefreshRx_keeps (x1 : State) :
    Keeps (execRefreshRx x1) x1 := by
  unfold execRefreshRx
  repeat' first
    | with_reducible rfl
    | with_reducible refine (State.takeCell_kept _ _ _ _ (by assumption)).trans ?_
    | with_reducible refine (State.count_kept _ _ _ _).trans ?_
    | with_reducible refine (State.lostGen_kept _).trans ?_
    | with_reducible refine keeps_next ?_
    | with_reducible refine ite_keeps ?_ ?_
    | dsimp only
    | fail_if_no_progress (dsimp only [State.kept] <;> show State.kept _ = State.kept _)
    | split

theorem execRepairServe_keeps (x1 : State) :
    Keeps (execRepairServe x1) x1 := by
  unfold execRepairServe
  repeat' first
    | with_reducible rfl
    | with_reducible refine (State.repairSync_kept _).trans ?_
    | with_reducible refine (State.repairBusy_kept _ _ _).trans ?_
    | with_reducible refine (State.count_kept _ _ _ _).trans ?_
    | with_reducible refine (State.repairData_kept _ _ _ _ _ _).trans ?_
    | with_reducible refine (State.serveShard_kept _ _ _).trans ?_
    | with_reducible refine keeps_next ?_
    | with_reducible refine (foldl_kept _ _ (fun _ _ => ?_)).trans ?_
    | with_reducible refine ite_keeps ?_ ?_
    | dsimp only
    | dsimp only [State.kept]
    | split

theorem State.bankFollow_kept (x1 : State) (x2) (x3) :
    State.kept (State.bankFollow x1 x2 x3) = State.kept x1 := by
  unfold State.bankFollow
  repeat' first
    | with_reducible rfl
    | with_reducible refine (State.setBank_kept _ _ _).trans ?_

theorem execBankCatchupDone_keeps (x1 : State) :
    Keeps (execBankCatchupDone x1) x1 := by
  unfold execBankCatchupDone
  repeat' first
    | with_reducible rfl
    | with_reducible refine (State.shadowFill_kept _).trans ?_
    | with_reducible refine (State.wr_kept _ _ _ _ _ _).trans ?_
    | with_reducible refine (State.bankFollow_kept _ _ _).trans ?_
    | with_reducible refine keeps_next ?_
    | with_reducible refine ite_keeps ?_ ?_

theorem execPmapValidateDone_keeps (x1 : State) :
    Keeps (execPmapValidateDone x1) x1 := by
  unfold execPmapValidateDone
  repeat' first
    | with_reducible rfl
    | with_reducible refine (State.wr_kept _ _ _ _ _ _).trans ?_
    | with_reducible refine (State.count_kept _ _ _ _).trans ?_
    | with_reducible refine (State.irq_kept _ _ _).trans ?_
    | with_reducible refine keeps_next ?_
    | with_reducible refine ite_kept ?_ ?_
    | with_reducible refine ite_keeps ?_ ?_
    | dsimp only
    | fail_if_no_progress (dsimp only [State.kept] <;> show State.kept _ = State.kept _)
    | split

theorem execPinLeaseExpiry_keeps (x1 : State) :
    Keeps (execPinLeaseExpiry x1) x1 := by
  unfold execPinLeaseExpiry
  repeat' first
    | with_reducible rfl
    | with_reducible refine (State.count_kept _ _ _ _).trans ?_
    | with_reducible refine (State.irq_kept _ _ _).trans ?_
    | with_reducible refine (State.unpin_kept _).trans ?_
    | with_reducible refine (State.passTo_kept _ _).trans ?_
    | with_reducible refine keeps_next ?_
    | with_reducible refine ite_keeps ?_ ?_

/-! ## Hosts.lean -/

theorem State.hkWait_kept (x1 : State) (x2) (x3) (x4) :
    State.kept (State.hkWait x1 x2 x3 x4) = State.kept x1 := by
  unfold State.hkWait
  repeat' first
    | dsimp only
    | dsimp only [State.kept]

theorem State.hkDefer_kept (x1 : State) (x2) (x3) (x4) (x5) :
    State.kept (State.hkDefer x1 x2 x3 x4 x5) = State.kept x1 := by
  unfold State.hkDefer
  repeat' first
    | with_reducible rfl
    | with_reducible refine (State.hkWait_kept _ _ _ _).trans ?_
    | with_reducible refine ite_kept ?_ ?_
    | dsimp only
    | dsimp only [State.kept]

theorem State.tunnelFlush_kept (x1 : State) :
    State.kept (State.tunnelFlush x1) = State.kept x1 := by
  unfold State.tunnelFlush
  repeat' first
    | dsimp only
    | dsimp only [State.kept]

theorem State.qshErr_kept (x1 : State) (x2) :
    State.kept (State.qshErr x1 x2) = State.kept x1 := by
  unfold State.qshErr
  repeat' first
    | with_reducible rfl
    | with_reducible refine (State.irq_kept _ _ _).trans ?_
    | with_reducible refine (State.wr_kept _ _ _ _ _ _).trans ?_

theorem State.qshAnswer_kept (x1 : State) (x2) (x3) :
    State.kept (State.qshAnswer x1 x2 x3) = State.kept x1 := by
  unfold State.qshAnswer
  repeat' first
    | with_reducible refine (State.wr_kept _ _ _ _ _ _).trans ?_
    | with_reducible refine (State.emit_kept _ _).trans ?_
    | with_reducible refine (State.count_kept _ _ _ _).trans ?_
    | with_reducible refine (State.qshErr_kept _ _).trans ?_
    | with_reducible refine ite_kept ?_ ?_
    | dsimp only
    | dsimp only [State.kept]

theorem State.tunnelAnswer_kept (x1 : State) (x2) (x3) (x4) (x5) :
    State.kept (State.tunnelAnswer x1 x2 x3 x4 x5) = State.kept x1 := by
  unfold State.tunnelAnswer
  repeat' first
    | with_reducible refine (State.emit_kept _ _).trans ?_
    | with_reducible refine (State.usbMoved_kept _ _ _).trans ?_
    | with_reducible refine ite_kept ?_ ?_
    | dsimp only
    | dsimp only [State.kept]

theorem State.rsp_kept (x1 : State) (x2) (x3) (x4) :
    State.kept (State.rsp x1 x2 x3 x4) = State.kept x1 := by
  unfold State.rsp
  repeat' first
    | with_reducible rfl
    | with_reducible refine (State.qshAnswer_kept _ _ _).trans ?_
    | with_reducible refine (State.emit_kept _ _).trans ?_
    | with_reducible refine (State.tunnelAnswer_kept _ _ _ _ _).trans ?_
    | with_reducible refine ite_kept ?_ ?_
    | dsimp only
    | fail_if_no_progress (dsimp only [State.kept] <;> show State.kept _ = State.kept _)
    | split

theorem State.pcieErr_kept (x1 : State) (x2) (x3) (x4) (x5) :
    State.kept (State.pcieErr x1 x2 x3 x4 x5) = State.kept x1 := by
  unfold State.pcieErr
  repeat' first
    | with_reducible rfl
    | with_reducible refine (State.wr_kept _ _ _ _ _ _).trans ?_
    | with_reducible refine (State.count_kept _ _ _ _).trans ?_
    | with_reducible refine (State.irq_kept _ _ _).trans ?_

theorem State.pcieConfigReset_kept (x1 : State) :
    State.kept (State.pcieConfigReset x1) = State.kept x1 := by
  unfold State.pcieConfigReset
  repeat' first
    | with_reducible rfl
    | with_reducible refine (State.wr_kept _ _ _ _ _ _).trans ?_
    | with_reducible refine (foldl_kept _ _ (fun _ _ => ?_)).trans ?_
    | dsimp only
    | dsimp only [State.kept]

theorem State.pcieDown_kept (x1 : State) :
    State.kept (State.pcieDown x1) = State.kept x1 := by
  unfold State.pcieDown
  repeat' first
    | with_reducible rfl
    | with_reducible refine (State.wr_kept _ _ _ _ _ _).trans ?_
    | with_reducible refine (State.count_kept _ _ _ _).trans ?_
    | with_reducible refine (State.irq_kept _ _ _).trans ?_
    | with_reducible refine (State.pcieConfigReset_kept _).trans ?_
    | with_reducible refine ite_kept ?_ ?_

theorem State.usbAttach_kept (x1 : State) :
    State.kept (State.usbAttach x1) = State.kept x1 := by
  unfold State.usbAttach
  repeat' first
    | with_reducible rfl
    | with_reducible refine (State.irq_kept _ _ _).trans ?_
    | with_reducible refine (State.wr_kept _ _ _ _ _ _).trans ?_
    | with_reducible refine ite_kept ?_ ?_

theorem State.usbDetach_kept (x1 : State) :
    State.kept (State.usbDetach x1) = State.kept x1 := by
  unfold State.usbDetach
  repeat' first
    | with_reducible refine (State.tunnelFlush_kept _).trans ?_
    | with_reducible refine (State.wr_kept _ _ _ _ _ _).trans ?_
    | with_reducible refine (State.irq_kept _ _ _).trans ?_
    | with_reducible refine ite_kept ?_ ?_
    | dsimp only
    | dsimp only [State.kept]

theorem State.portsSync_kept (x1 : State) :
    State.kept (State.portsSync x1) = State.kept x1 := by
  unfold State.portsSync
  repeat' first
    | with_reducible rfl
    | with_reducible refine (State.pcieDown_kept _).trans ?_
    | with_reducible refine (State.usbAttach_kept _).trans ?_
    | with_reducible refine (State.usbDetach_kept _).trans ?_
    | with_reducible refine ite_kept ?_ ?_

theorem State.readDone_kept (x1 : State) (x2) (x3) (x4) (x5) (x6) :
    State.kept (State.readDone x1 x2 x3 x4 x5 x6) = State.kept x1 := by
  unfold State.readDone
  repeat' first
    | with_reducible rfl
    | with_reducible refine (State.rsp_kept _ _ _ _).trans ?_
    | with_reducible refine (State.pcieErr_kept _ _ _ _ _).trans ?_
    | with_reducible refine ite_kept ?_ ?_

theorem State.authRefused_kept (x1 : State) (x2) :
    State.kept (State.authRefused x1 x2) = State.kept x1 := by
  unfold State.authRefused
  repeat' first
    | with_reducible rfl
    | with_reducible refine (State.count_kept _ _ _ _).trans ?_
    | with_reducible refine (State.rsp_kept _ _ _ _).trans ?_

/-! ## Bridge.lean -/

theorem State.sendJournal_kept (x1 : State) (x2) (x3) (x4) :
    State.kept (State.sendJournal x1 x2 x3 x4) = State.kept x1 := by
  unfold State.sendJournal
  repeat' first
    | with_reducible rfl
    | with_reducible refine (State.count_kept _ _ _ _).trans ?_
    | with_reducible refine (State.sendLink_kept _ _ _ _).trans ?_
    | with_reducible refine (State.wr_kept _ _ _ _ _ _).trans ?_
    | with_reducible refine ite_kept ?_ ?_
    | dsimp only
    | fail_if_no_progress (dsimp only [State.kept]; show State.kept _ = State.kept _)

theorem State.journal_kept (x1 : State) (x2) (x3) :
    State.kept (State.journal x1 x2 x3) = State.kept x1 := by
  unfold State.journal
  repeat' first
    | with_reducible rfl
    | with_reducible refine (State.sendJournal_kept _ _ _ _).trans ?_
    | with_reducible refine ite_kept ?_ ?_

theorem State.confAdd_kept (x1 : State) (x2) :
    State.kept (State.confAdd x1 x2) = State.kept x1 := by
  unfold State.confAdd
  repeat' first
    | with_reducible rfl
    | with_reducible refine (State.wr_kept _ _ _ _ _ _).trans ?_
    | with_reducible refine (State.irq_kept _ _ _).trans ?_
    | with_reducible refine ite_kept ?_ ?_
    | dsimp only
    | dsimp only [State.kept]

theorem State.demandRefuse_kept (x1 : State) (x2) (x3) :
    State.kept (State.demandRefuse x1 x2 x3).1 = State.kept x1 := by
  unfold State.demandRefuse
  repeat' first
    | with_reducible rfl
    | with_reducible refine (State.count_kept _ _ _ _).trans ?_
    | with_reducible refine (State.confAdd_kept _ _).trans ?_

theorem State.setDemand_kept (x1 : State) (x2) (x3) :
    State.kept (State.setDemand x1 x2 x3) = State.kept x1 := by
  unfold State.setDemand
  repeat' first
    | dsimp only
    | dsimp only [State.kept]

theorem State.demandHere_kept (x1 : State) (x2) (x3) (x4) (x5) (x6) (x7) :
    State.kept (State.demandHere x1 x2 x3 x4 x5 x6 x7).1 = State.kept x1 := by
  unfold State.demandHere
  repeat' first
    | with_reducible rfl
    | with_reducible refine (State.count_kept _ _ _ _).trans ?_
    | with_reducible refine (State.confAdd_kept _ _).trans ?_
    | with_reducible refine (State.setDemand_kept _ _ _).trans ?_
    | with_reducible refine (State.journal_kept _ _ _).trans ?_
    | with_reducible refine ite_kept ?_ ?_
    | with_reducible refine ite_fst_kept ?_ ?_

theorem State.perrAdd_kept (x1 : State) (x2) :
    State.kept (State.perrAdd x1 x2) = State.kept x1 := by
  unfold State.perrAdd
  repeat' first
    | with_reducible rfl
    | with_reducible refine (State.wr_kept _ _ _ _ _ _).trans ?_
    | with_reducible refine (State.count_kept _ _ _ _).trans ?_
    | with_reducible refine (State.irq_kept _ _ _).trans ?_
    | with_reducible refine (State.usbWake_kept _ _).trans ?_
    | with_reducible refine ite_kept ?_ ?_
    | dsimp only
    | dsimp only [State.kept]

theorem State.perrLocal_kept (x1 : State) (x2) (x3) (x4) (x5) (x6) (x7) :
    State.kept (State.perrLocal x1 x2 x3 x4 x5 x6 x7) = State.kept x1 := by
  unfold State.perrLocal
  repeat' first
    | with_reducible rfl
    | with_reducible refine (State.perrAdd_kept _ _).trans ?_

theorem State.pfInvalidate_kept (x1 : State) (x2) (x3) (x4) :
    State.kept (State.pfInvalidate x1 x2 x3 x4) = State.kept x1 := by
  unfold State.pfInvalidate
  repeat' first
    | with_reducible refine (State.count_kept _ _ _ _).trans ?_
    | dsimp only
    | dsimp only [State.kept]

theorem State.postCell_kept (x1 : State) (x2) (x3) (x4) (x5) (x6) :
    State.kept (State.postCell x1 x2 x3 x4 x5 x6) = State.kept x1 := by
  unfold State.postCell
  repeat' first
    | with_reducible rfl
    | with_reducible refine (State.perrLocal_kept _ _ _ _ _ _ _).trans ?_
    | with_reducible refine (State.count_kept _ _ _ _).trans ?_
    | with_reducible refine (State.pfInvalidate_kept _ _ _ _).trans ?_
    | with_reducible refine (State.originate_kept _ _ _ _ _).trans ?_
    | with_reducible refine ite_kept ?_ ?_
    | dsimp only
    | dsimp only [State.kept]

theorem State.demandLocal_kept (x1 : State) (x2) (x3) (x4) (x5) (x6) :
    State.kept (State.demandLocal x1 x2 x3 x4 x5 x6).1 = State.kept x1 := by
  unfold State.demandLocal
  repeat' first
    | with_reducible rfl
    | with_reducible refine (State.demandRefuse_kept _ _ _).trans ?_
    | with_reducible refine (State.demandHere_kept _ _ _ _ _ _ _).trans ?_
    | with_reducible refine (State.postCell_kept _ _ _ _ _ _).trans ?_
    | with_reducible refine ite_fst_kept ?_ ?_
    | dsimp only
    | split

theorem State.postedErr_kept (x1 : State) (x2) (x3) (x4) (x5) (x6) (x7) (x8) (x9) :
    State.kept (State.postedErr x1 x2 x3 x4 x5 x6 x7 x8 x9) = State.kept x1 := by
  unfold State.postedErr
  repeat' first
    | with_reducible rfl
    | with_reducible refine (State.count_kept _ _ _ _).trans ?_
    | with_reducible refine (State.originate_kept _ _ _ _ _).trans ?_

theorem State.reportWrite_kept (x1 : State) (x2) (x3) :
    State.kept (State.reportWrite x1 x2 x3) = State.kept x1 := by
  unfold State.reportWrite
  repeat' first
    | with_reducible rfl
    | with_reducible refine (State.postedErr_kept _ _ _ _ _ _ _ _ _).trans ?_

theorem State.demandRemote_kept (x1 : State) (x2) (x3) (x4) (x5) :
    State.kept (State.demandRemote x1 x2 x3 x4 x5).1 = State.kept x1 := by
  unfold State.demandRemote
  repeat' first
    | with_reducible rfl
    | with_reducible refine (State.demandRefuse_kept _ _ _).trans ?_
    | with_reducible refine (State.demandHere_kept _ _ _ _ _ _ _).trans ?_
    | with_reducible refine ite_fst_kept ?_ ?_
    | split

theorem State.confPop_kept (x1 : State) :
    State.kept (State.confPop x1) = State.kept x1 := by
  unfold State.confPop
  repeat' first
    | with_reducible rfl
    | with_reducible refine (State.wr_kept _ _ _ _ _ _).trans ?_
    | dsimp only
    | fail_if_no_progress (dsimp only [State.kept] <;> show State.kept _ = State.kept _)
    | split

theorem State.perrPop_kept (x1 : State) :
    State.kept (State.perrPop x1) = State.kept x1 := by
  unfold State.perrPop
  repeat' first
    | with_reducible rfl
    | with_reducible refine (State.wr_kept _ _ _ _ _ _).trans ?_
    | dsimp only
    | fail_if_no_progress (dsimp only [State.kept] <;> show State.kept _ = State.kept _)
    | split

theorem State.setSlot_kept (x1 : State) (x2) (x3) (x4) (x5) (x6) :
    State.kept (State.setSlot x1 x2 x3 x4 x5 x6) = State.kept x1 := by
  unfold State.setSlot
  repeat' first
    | with_reducible refine (State.wr_kept _ _ _ _ _ _).trans ?_
    | dsimp only
    | dsimp only [State.kept]

theorem State.slotReady_kept (x1 : State) (x2) (x3) (x4) :
    State.kept (State.slotReady x1 x2 x3 x4) = State.kept x1 := by
  unfold State.slotReady
  repeat' first
    | with_reducible rfl
    | with_reducible refine (State.irq_kept _ _ _).trans ?_
    | with_reducible refine (State.setSlot_kept _ _ _ _ _ _).trans ?_

theorem State.sendRead_kept (x1 : State) (x2) (x3) (x4) (x5) (x6) (x7) (x8) :
    State.kept (State.sendRead x1 x2 x3 x4 x5 x6 x7 x8) = State.kept x1 := by
  unfold State.sendRead
  repeat' first
    | with_reducible rfl
    | with_reducible refine (State.count_kept _ _ _ _).trans ?_
    | with_reducible refine (State.originate_kept _ _ _ _ _).trans ?_

theorem State.takeSlot_kept (x1 : State) (x2) (x3) (x4) (x5) :
    ∀ t, State.takeSlot x1 x2 x3 x4 x5 = some t → State.kept t.1 = State.kept x1 := by
  unfold State.takeSlot
  intro t h
  (try dsimp only at h)
  obtain ⟨_, _, rfl⟩ := Option.map_eq_some_iff.mp h
  repeat' first
    | with_reducible rfl
    | with_reducible refine (State.wr_kept _ _ _ _ _ _).trans ?_
    | with_reducible refine (State.setSlot_kept _ _ _ _ _ _).trans ?_
    | with_reducible refine (State.slotReady_kept _ _ _ _).trans ?_
    | with_reducible refine (State.sendRead_kept _ _ _ _ _ _ _ _).trans ?_
    | with_reducible refine ite_kept ?_ ?_

theorem execCollectRequest_keeps (x1) (x2) (x3 : State) :
    Keeps (execCollectRequest x1 x2 x3) x3 := by
  unfold execCollectRequest
  repeat' first
    | with_reducible rfl
    | with_reducible refine (State.wr_kept _ _ _ _ _ _).trans ?_
    | with_reducible refine (State.takeSlot_kept _ _ _ _ _ _ (by assumption)).trans ?_
    | with_reducible refine keeps_next ?_
    | with_reducible refine ite_keeps ?_ ?_
    | dsimp only
    | split

theorem State.slotFree_kept (x1 : State) (x2) :
    State.kept (State.slotFree x1 x2) = State.kept x1 := by
  unfold State.slotFree
  repeat' first
    | with_reducible rfl
    | with_reducible refine (State.setSlot_kept _ _ _ _ _ _).trans ?_
    | with_reducible refine (State.irq_kept _ _ _).trans ?_
    | with_reducible refine (State.count_kept _ _ _ _).trans ?_
    | with_reducible refine ite_kept ?_ ?_

theorem execSlotCollect_keeps (x1) (x2 : State) :
    Keeps (execSlotCollect x1 x2) x2 := by
  unfold execSlotCollect
  repeat' first
    | with_reducible rfl
    | with_reducible refine (State.slotFree_kept _ _).trans ?_
    | with_reducible refine keeps_next ?_
    | with_reducible refine ite_keeps ?_ ?_

theorem State.post_kept (x1) (x2 : State) (x3) (x4) (x5) (x6) (x7) :
    State.kept (State.post x1 x2 x3 x4 x5 x6 x7) = State.kept x2 := by
  induction x1 generalizing x2 x4 x7 with
  | zero =>
    unfold State.post
    repeat' first
      | with_reducible rfl
  | succ k ih =>
    unfold State.post
    repeat' first
      | with_reducible refine (ih _ _ _).trans ?_
      | with_reducible rfl
      | with_reducible refine (State.postCell_kept _ _ _ _ _ _).trans ?_
      | with_reducible refine ite_kept ?_ ?_

theorem State.postWrite_kept (x1 : State) (x2) (x3) (x4) (x5) :
    State.kept (State.postWrite x1 x2 x3 x4 x5) = State.kept x1 := by
  unfold State.postWrite
  repeat' first
    | with_reducible rfl
    | with_reducible refine (State.post_kept _ _ _ _ _ _ _).trans ?_
    | with_reducible refine (State.rsp_kept _ _ _ _).trans ?_
    | with_reducible refine ite_kept ?_ ?_
    | dsimp only
    | fail_if_no_progress (dsimp only [State.kept]; show State.kept _ = State.kept _)
    | split

theorem State.setCtx_kept (x1 : State) (x2) (x3) :
    State.kept (State.setCtx x1 x2 x3) = State.kept x1 := by
  unfold State.setCtx
  repeat' first
    | with_reducible refine (State.wr_kept _ _ _ _ _ _).trans ?_
    | dsimp only
    | dsimp only [State.kept]

theorem State.grant_kept (x1 : State) (x2) :
    ∀ t, State.grant x1 x2 = some t → State.kept t = State.kept x1 := by
  unfold State.grant
  intro t h
  (try dsimp only at h)
  obtain ⟨_, _, rfl⟩ := Option.map_eq_some_iff.mp h
  repeat' first
    | with_reducible rfl
    | with_reducible refine (State.setCtx_kept _ _ _).trans ?_
    | with_reducible refine (State.sendRead_kept _ _ _ _ _ _ _ _).trans ?_

theorem State.readIssue_kept (x1 : State) (x2) (x3) (x4) (x5) :
    State.kept (State.readIssue x1 x2 x3 x4 x5) = State.kept x1 := by
  unfold State.readIssue
  repeat' first
    | with_reducible rfl
    | with_reducible refine (State.readDone_kept _ _ _ _ _ _).trans ?_
    | with_reducible refine (State.rsp_kept _ _ _ _).trans ?_
    | with_reducible refine (State.count_kept _ _ _ _).trans ?_
    | with_reducible refine (State.grant_kept _ _ _ (by assumption)).trans ?_
    | with_reducible refine ite_kept ?_ ?_
    | dsimp only
    | fail_if_no_progress (dsimp only [State.kept] <;> show State.kept _ = State.kept _)
    | split

theorem State.pfAdd_kept (x1 : State) (x2) (x3) (x4) :
    State.kept (State.pfAdd x1 x2 x3 x4) = State.kept x1 := by
  unfold State.pfAdd
  repeat' first
    | with_reducible rfl
    | with_reducible refine ite_kept ?_ ?_
    | dsimp only
    | dsimp only [State.kept]

theorem execDemandWrite_keeps (x1) (x2) (x3) (x4 : State) :
    Keeps (execDemandWrite x1 x2 x3 x4) x4 := by
  unfold execDemandWrite
  repeat' first
    | with_reducible rfl
    | with_reducible refine (State.authRefused_kept _ _).trans ?_
    | with_reducible refine (State.rsp_kept _ _ _ _).trans ?_
    | with_reducible refine (State.demandLocal_kept _ _ _ _ _ _).trans ?_
    | with_reducible refine (State.pcieErr_kept _ _ _ _ _).trans ?_
    | with_reducible refine keeps_next ?_
    | with_reducible refine ite_kept ?_ ?_
    | with_reducible refine ite_keeps ?_ ?_

theorem execPrefetchExpiry_keeps (x1 : State) :
    Keeps (execPrefetchExpiry x1) x1 := by
  unfold execPrefetchExpiry
  repeat' first
    | with_reducible rfl
    | with_reducible refine (State.passTo_kept _ _).trans ?_
    | with_reducible refine keeps_next ?_
    | dsimp only
    | fail_if_no_progress (dsimp only [State.kept] <;> show State.kept _ = State.kept _)
    | split

theorem execReadContextGrant_keeps (x1 : State) :
    Keeps (execReadContextGrant x1) x1 := by
  unfold execReadContextGrant
  repeat' first
    | with_reducible rfl
    | with_reducible refine (State.grant_kept _ _ _ (by assumption)).trans ?_
    | with_reducible refine keeps_next ?_
    | dsimp only
    | fail_if_no_progress (dsimp only [State.kept] <;> show State.kept _ = State.kept _)
    | split

theorem execBrgWriteIssue_keeps (x1) (x2) (x3) (x4) (x5 : State) :
    Keeps (execBrgWriteIssue x1 x2 x3 x4 x5) x5 := by
  unfold execBrgWriteIssue
  repeat' first
    | with_reducible rfl
    | with_reducible refine (State.authRefused_kept _ _).trans ?_
    | with_reducible refine (State.postWrite_kept _ _ _ _ _).trans ?_
    | with_reducible refine keeps_next ?_
    | with_reducible refine ite_keeps ?_ ?_

theorem execBrgReadIssue_keeps (x1) (x2) (x3) (x4) (x5 : State) :
    Keeps (execBrgReadIssue x1 x2 x3 x4 x5) x5 := by
  unfold execBrgReadIssue
  repeat' first
    | with_reducible rfl
    | with_reducible refine (State.authRefused_kept _ _).trans ?_
    | with_reducible refine (State.readIssue_kept _ _ _ _ _).trans ?_
    | with_reducible refine keeps_next ?_
    | with_reducible refine ite_keeps ?_ ?_

theorem State.freeCtx_kept (x1 : State) (x2) :
    State.kept (State.freeCtx x1 x2) = State.kept x1 := by
  unfold State.freeCtx
  repeat' first
    | with_reducible rfl
    | with_reducible refine (State.setCtx_kept _ _ _).trans ?_

theorem State.ctxDone_kept (x1 : State) (x2) (x3) (x4) :
    State.kept (State.ctxDone x1 x2 x3 x4) = State.kept x1 := by
  unfold State.ctxDone
  repeat' first
    | with_reducible rfl
    | with_reducible refine (State.freeCtx_kept _ _).trans ?_
    | with_reducible refine (State.readDone_kept _ _ _ _ _ _).trans ?_
    | with_reducible refine ite_kept ?_ ?_

theorem execBrgReadTimeout_keeps (x1) (x2 : State) :
    Keeps (execBrgReadTimeout x1 x2) x2 := by
  unfold execBrgReadTimeout
  repeat' first
    | with_reducible rfl
    | with_reducible refine (State.irq_kept _ _ _).trans ?_
    | with_reducible refine (State.count_kept _ _ _ _).trans ?_
    | with_reducible refine (State.passTo_kept _ _).trans ?_
    | with_reducible refine (State.ctxDone_kept _ _ _ _).trans ?_
    | with_reducible refine (State.slotReady_kept _ _ _ _).trans ?_
    | with_reducible refine keeps_next ?_
    | with_reducible refine ite_keeps ?_ ?_

theorem execSlotDiscard_keeps (x1) (x2 : State) :
    Keeps (execSlotDiscard x1 x2) x2 := by
  unfold execSlotDiscard
  repeat' first
    | with_reducible rfl
    | with_reducible refine (State.slotFree_kept _ _).trans ?_
    | with_reducible refine (State.passTo_kept _ _).trans ?_
    | with_reducible refine keeps_next ?_
    | with_reducible refine ite_keeps ?_ ?_

theorem execBrgReadRespRx_keeps (x1 : State) :
    Keeps (execBrgReadRespRx x1) x1 := by
  unfold execBrgReadRespRx
  repeat' first
    | with_reducible rfl
    | with_reducible refine (State.takeCell_kept _ _ _ _ (by assumption)).trans ?_
    | with_reducible refine (State.ctxDone_kept _ _ _ _).trans ?_
    | with_reducible refine (State.setCtx_kept _ _ _).trans ?_
    | with_reducible refine (State.pfAdd_kept _ _ _ _).trans ?_
    | with_reducible refine (State.slotReady_kept _ _ _ _).trans ?_
    | with_reducible refine (State.setSlot_kept _ _ _ _ _ _).trans ?_
    | with_reducible refine (State.count_kept _ _ _ _).trans ?_
    | with_reducible refine keeps_next ?_
    | with_reducible refine ite_keeps ?_ ?_
    | dsimp only
    | split

theorem execBrgPostedErrRx_keeps (x1 : State) :
    Keeps (execBrgPostedErrRx x1) x1 := by
  unfold execBrgPostedErrRx
  repeat' first
    | with_reducible rfl
    | with_reducible refine (State.takeCell_kept _ _ _ _ (by assumption)).trans ?_
    | with_reducible refine (State.count_kept _ _ _ _).trans ?_
    | with_reducible refine (State.perrAdd_kept _ _).trans ?_
    | with_reducible refine keeps_next ?_
    | with_reducible refine (foldl_kept _ _ (fun _ _ => ?_)).trans ?_
    | with_reducible refine ite_keeps ?_ ?_
    | dsimp only
    | split

end Sys2Proof.Machine
end

