-- ==== Sys2Proof/Laws/KeptField.lean ====
section
/-!
SUPPORT. What only a reset of the hub may touch is kept by the functions of lanes, CAN ports, launches, tracking, lines, cog engines and the power die.
-/
set_option Elab.async false

namespace Sys2Proof.Machine

/-! ## LaneTx.lean -/

theorem State.setLane_kept (x1 : State) (x2) (x3) :
    State.kept (State.setLane x1 x2 x3) = State.kept x1 := by
  unfold State.setLane
  repeat' first
    | with_reducible refine (State.wr_kept _ _ _ _ _ _).trans ?_
    | with_reducible refine (State.irq_kept _ _ _).trans ?_
    | with_reducible refine ite_kept ?_ ?_
    | dsimp only [State.kept]

theorem State.laneErr_kept (x1 : State) (x2) (x3) :
    State.kept (State.laneErr x1 x2 x3) = State.kept x1 := by
  unfold State.laneErr
  repeat' first
    | with_reducible rfl
    | with_reducible refine (State.irq_kept _ _ _).trans ?_
    | with_reducible refine (State.wr_kept _ _ _ _ _ _).trans ?_

theorem State.laneUnder_kept (x1 : State) (x2) :
    State.kept (State.laneUnder x1 x2) = State.kept x1 := by
  unfold State.laneUnder
  repeat' first
    | with_reducible rfl
    | with_reducible refine (State.setLane_kept _ _ _).trans ?_
    | with_reducible refine (State.count_kept _ _ _ _).trans ?_
    | with_reducible refine (State.laneErr_kept _ _ _).trans ?_
    | with_reducible refine ite_kept ?_ ?_
    | dsimp only
    | split

theorem State.laneBegin_kept (x1 : State) (x2) (x3) :
    State.kept (State.laneBegin x1 x2 x3) = State.kept x1 := by
  unfold State.laneBegin
  repeat' first
    | with_reducible rfl
    | with_reducible refine (State.count_kept _ _ _ _).trans ?_
    | with_reducible refine (State.setLane_kept _ _ _).trans ?_
    | dsimp only
    | split

theorem State.laneSync_kept (x1 : State) (x2) :
    State.kept (State.laneSync x1 x2) = State.kept x1 := by
  unfold State.laneSync
  repeat' first
    | with_reducible rfl
    | with_reducible refine (State.laneUnder_kept _ _).trans ?_
    | with_reducible refine (State.laneBegin_kept _ _ _).trans ?_
    | with_reducible refine ite_kept ?_ ?_
    | dsimp only
    | split

theorem State.laneHalt_kept (x1 : State) (x2) :
    State.kept (State.laneHalt x1 x2) = State.kept x1 := by
  unfold State.laneHalt
  repeat' first
    | with_reducible rfl
    | with_reducible refine (State.laneSync_kept _ _).trans ?_
    | with_reducible refine (State.setLane_kept _ _ _).trans ?_

theorem State.lanesHalt_kept (x1 : State) :
    State.kept (State.lanesHalt x1) = State.kept x1 := by
  unfold State.lanesHalt
  repeat' first
    | with_reducible rfl
    | with_reducible refine (State.laneHalt_kept _ _).trans ?_
    | with_reducible refine (foldl_kept _ _ (fun _ _ => ?_)).trans ?_

theorem State.ssiStart_kept (x1 : State) (x2) (x3) :
    State.kept (State.ssiStart x1 x2 x3) = State.kept x1 := by
  unfold State.ssiStart
  repeat' first
    | with_reducible rfl
    | with_reducible refine (State.count_kept _ _ _ _).trans ?_
    | with_reducible refine (State.setLane_kept _ _ _).trans ?_
    | with_reducible refine ite_kept ?_ ?_

theorem State.laneStart_kept (x1 : State) (x2) (x3) (x4) :
    State.kept (State.laneStart x1 x2 x3 x4) = State.kept x1 := by
  unfold State.laneStart
  repeat' first
    | with_reducible rfl
    | with_reducible refine (State.setLane_kept _ _ _).trans ?_

theorem State.laneLaunch_kept (x1 : State) (x2) (x3) :
    State.kept (State.laneLaunch x1 x2 x3) = State.kept x1 := by
  unfold State.laneLaunch
  repeat' first
    | with_reducible rfl
    | with_reducible refine (State.ssiStart_kept _ _ _).trans ?_
    | with_reducible refine (State.count_kept _ _ _ _).trans ?_
    | with_reducible refine (State.setLane_kept _ _ _).trans ?_
    | with_reducible refine (State.laneErr_kept _ _ _).trans ?_
    | with_reducible refine (State.laneStart_kept _ _ _ _).trans ?_
    | with_reducible refine ite_kept ?_ ?_

theorem State.lanePush_kept (x1 : State) (x2) (x3) (x4) :
    State.kept (State.lanePush x1 x2 x3 x4) = State.kept x1 := by
  unfold State.lanePush
  repeat' first
    | with_reducible rfl
    | with_reducible refine (State.laneSync_kept _ _).trans ?_
    | with_reducible refine (State.setLane_kept _ _ _).trans ?_

theorem State.waitDone_kept (x1 : State) (x2) (x3) :
    State.kept (State.waitDone x1 x2 x3) = State.kept x1 := by
  unfold State.waitDone
  repeat' first
    | with_reducible rfl
    | with_reducible refine (State.reportWrite_kept _ _ _).trans ?_
    | with_reducible refine (State.perrLocal_kept _ _ _ _ _ _ _).trans ?_
    | with_reducible refine (State.rsp_kept _ _ _ _).trans ?_
    | with_reducible refine (State.pcieErr_kept _ _ _ _ _).trans ?_
    | with_reducible refine ite_kept ?_ ?_
    | dsimp only
    | fail_if_no_progress (dsimp only [State.kept] <;> show State.kept _ = State.kept _)
    | split

theorem State.laneDrain_kept (x1) (x2 : State) (x3) :
    State.kept (State.laneDrain x1 x2 x3) = State.kept x2 := by
  induction x1 generalizing x2 with
  | zero =>
    unfold State.laneDrain
    repeat' first
      | with_reducible rfl
  | succ k ih =>
    unfold State.laneDrain
    repeat' first
      | with_reducible refine (ih _).trans ?_
      | with_reducible rfl
      | with_reducible refine (State.lanePush_kept _ _ _ _).trans ?_
      | with_reducible refine (State.setLane_kept _ _ _).trans ?_
      | with_reducible refine (State.waitDone_kept _ _ _).trans ?_
      | with_reducible refine ite_kept ?_ ?_
      | dsimp only
      | split

theorem State.laneNow_kept (x1 : State) (x2) :
    State.kept (State.laneNow x1 x2) = State.kept x1 := by
  unfold State.laneNow
  repeat' first
    | with_reducible rfl
    | with_reducible refine (State.laneDrain_kept _ _ _).trans ?_
    | with_reducible refine (State.laneSync_kept _ _).trans ?_

theorem State.laneGo_kept (x1 : State) (x2) :
    State.kept (State.laneGo x1 x2) = State.kept x1 := by
  unfold State.laneGo
  repeat' first
    | with_reducible rfl
    | with_reducible refine (State.setLane_kept _ _ _).trans ?_
    | with_reducible refine ite_kept ?_ ?_

theorem State.laneWrite_kept (x1 : State) (x2) (x3) (x4) (x5) :
    State.kept (State.laneWrite x1 x2 x3 x4 x5) = State.kept x1 := by
  unfold State.laneWrite
  repeat' first
    | with_reducible rfl
    | with_reducible refine (State.laneNow_kept _ _).trans ?_
    | with_reducible refine (State.rsp_kept _ _ _ _).trans ?_
    | with_reducible refine (State.lanePush_kept _ _ _ _).trans ?_
    | with_reducible refine (State.setLane_kept _ _ _).trans ?_
    | with_reducible refine ite_kept ?_ ?_

theorem execLaneTxdEnd_keeps (x1) (x2) (x3) (x4 : State) :
    Keeps (execLaneTxdEnd x1 x2 x3 x4) x4 := by
  unfold execLaneTxdEnd
  repeat' first
    | with_reducible rfl
    | with_reducible refine (State.laneWrite_kept _ _ _ _ _).trans ?_
    | with_reducible refine keeps_next ?_
    | with_reducible refine ite_keeps ?_ ?_

theorem execSsiRead_keeps (x1) (x2 : State) :
    Keeps (execSsiRead x1 x2) x2 := by
  unfold execSsiRead
  repeat' first
    | with_reducible rfl
    | with_reducible refine (State.ssiStart_kept _ _ _).trans ?_
    | with_reducible refine keeps_next ?_
    | with_reducible refine ite_keeps ?_ ?_

theorem execIolWurq_keeps (x1) (x2 : State) :
    Keeps (execIolWurq x1 x2) x2 := by
  unfold execIolWurq
  repeat' first
    | with_reducible rfl
    | with_reducible refine (State.setLane_kept _ _ _).trans ?_
    | with_reducible refine keeps_next ?_
    | with_reducible refine ite_keeps ?_ ?_

theorem execTxFifoRoom_keeps (x1) (x2 : State) :
    Keeps (execTxFifoRoom x1 x2) x2 := by
  unfold execTxFifoRoom
  repeat' first
    | with_reducible rfl
    | with_reducible refine (State.laneNow_kept _ _).trans ?_
    | with_reducible refine (State.passTo_kept _ _).trans ?_
    | with_reducible refine keeps_next ?_
    | with_reducible refine ite_keeps ?_ ?_
    | dsimp only
    | split

theorem State.hkExpire_kept (x1 : State) :
    State.kept (State.hkExpire x1) = State.kept x1 := by
  unfold State.hkExpire
  repeat' first
    | with_reducible rfl
    | with_reducible refine (State.waitDone_kept _ _ _).trans ?_
    | with_reducible refine (foldl_kept _ _ (fun _ _ => ?_)).trans ?_
    | with_reducible refine ite_kept ?_ ?_
    | dsimp only
    | dsimp only [State.kept]

theorem execLaneTxd_keeps (x1) (x2) (x3) (x4 : State) :
    Keeps (execLaneTxd x1 x2 x3 x4) x4 := by
  unfold execLaneTxd
  repeat' first
    | with_reducible rfl
    | with_reducible refine (State.laneWrite_kept _ _ _ _ _).trans ?_
    | with_reducible refine keeps_next ?_
    | with_reducible refine ite_keeps ?_ ?_

theorem laneExpired_keeps (x1) (x2 : State) :
    Keeps (laneExpired x1 x2) x2 := by
  unfold laneExpired
  repeat' first
    | with_reducible rfl
    | with_reducible refine (State.laneNow_kept _ _).trans ?_
    | with_reducible refine (State.passTo_kept _ _).trans ?_
    | with_reducible refine (State.waitDone_kept _ _ _).trans ?_
    | with_reducible refine (State.setLane_kept _ _ _).trans ?_
    | with_reducible refine keeps_next ?_
    | with_reducible refine ite_keeps ?_ ?_
    | dsimp only
    | split

theorem execIolWurqEnd_keeps (x1) (x2 : State) :
    Keeps (execIolWurqEnd x1 x2) x2 := by
  unfold execIolWurqEnd
  repeat' first
    | with_reducible rfl
    | with_reducible refine (State.passTo_kept _ _).trans ?_
    | with_reducible refine (State.setLane_kept _ _ _).trans ?_
    | with_reducible refine keeps_next ?_
    | dsimp only
    | split

theorem execLaneFrameStart_keeps (x1) (x2 : State) :
    Keeps (execLaneFrameStart x1 x2) x2 := by
  unfold execLaneFrameStart
  repeat' first
    | with_reducible rfl
    | with_reducible refine (State.laneStart_kept _ _ _ _).trans ?_
    | with_reducible refine keeps_next ?_
    | with_reducible refine ite_keeps ?_ ?_

/-! ## Can.lean -/

theorem State.setCan_kept (x1 : State) (x2) (x3) :
    State.kept (State.setCan x1 x2 x3) = State.kept x1 := by
  unfold State.setCan
  repeat' first
    | with_reducible refine (State.wr_kept _ _ _ _ _ _).trans ?_
    | dsimp only [State.kept]

theorem State.zWr_kept (x1 : State) (x2) (x3) (x4) :
    State.kept (State.zWr x1 x2 x3 x4) = State.kept x1 := by
  unfold State.zWr
  repeat' first
    | with_reducible rfl
    | with_reducible refine (State.wr_kept _ _ _ _ _ _).trans ?_

theorem State.zMove_kept (x1 : State) (x2) (x3) :
    State.kept (State.zMove x1 x2 x3) = State.kept x1 := by
  unfold State.zMove
  repeat' first
    | with_reducible rfl
    | with_reducible refine (State.irq_kept _ _ _).trans ?_
    | with_reducible refine (State.zWr_kept _ _ _ _).trans ?_

theorem State.setZone_kept (x1 : State) (x2) (x3) :
    State.kept (State.setZone x1 x2 x3) = State.kept x1 := by
  unfold State.setZone
  rfl

theorem State.zAwake_kept (x1 : State) (x2) (x3) :
    State.kept (State.zAwake x1 x2 x3) = State.kept x1 := by
  unfold State.zAwake
  repeat' first
    | with_reducible rfl
    | with_reducible refine (State.zWr_kept _ _ _ _).trans ?_
    | with_reducible refine (State.zMove_kept _ _ _).trans ?_
    | with_reducible refine (State.setWord_kept _ _ _ _ _).trans ?_
    | with_reducible refine (State.setZone_kept _ _ _).trans ?_
    | with_reducible refine (State.applyDone_kept _ _).trans ?_
    | with_reducible refine (foldl_kept _ _ (fun _ _ => ?_)).trans ?_
    | with_reducible refine ite_kept ?_ ?_

theorem State.zFrame_kept (x1 : State) (x2) (x3) (x4) (x5) :
    State.kept (State.zFrame x1 x2 x3 x4 x5) = State.kept x1 := by
  unfold State.zFrame
  repeat' first
    | with_reducible rfl
    | with_reducible refine (State.setCan_kept _ _ _).trans ?_

theorem State.zAbort_kept (x1 : State) (x2) (x3) (x4) :
    State.kept (State.zAbort x1 x2 x3 x4) = State.kept x1 := by
  unfold State.zAbort
  repeat' first
    | with_reducible rfl
    | with_reducible refine (State.setCan_kept _ _ _).trans ?_
    | with_reducible refine (State.irq_kept _ _ _).trans ?_
    | with_reducible refine (State.zAwake_kept _ _ _).trans ?_
    | with_reducible refine (State.zFrame_kept _ _ _ _ _).trans ?_
    | with_reducible refine ite_kept ?_ ?_

theorem State.zQuiet_kept (x1 : State) (x2) :
    State.kept (State.zQuiet x1 x2) = State.kept x1 := by
  unfold State.zQuiet
  repeat' first
    | with_reducible rfl
    | with_reducible refine (State.zAbort_kept _ _ _ _).trans ?_
    | with_reducible refine ite_kept ?_ ?_

theorem State.setCanState_kept (x1 : State) (x2) (x3) :
    State.kept (State.setCanState x1 x2 x3) = State.kept x1 := by
  unfold State.setCanState
  repeat' first
    | with_reducible rfl
    | with_reducible refine (State.irq_kept _ _ _).trans ?_
    | with_reducible refine (State.wr_kept _ _ _ _ _ _).trans ?_
    | with_reducible refine ite_kept ?_ ?_

theorem State.canIntegrate_kept (x1 : State) (x2) :
    State.kept (State.canIntegrate x1 x2) = State.kept x1 := by
  unfold State.canIntegrate
  repeat' first
    | with_reducible rfl
    | with_reducible refine (State.setCanState_kept _ _ _).trans ?_
    | with_reducible refine ite_kept ?_ ?_

theorem State.zWaking_kept (x1 : State) (x2) :
    State.kept (State.zWaking x1 x2) = State.kept x1 := by
  unfold State.zWaking
  repeat' first
    | with_reducible rfl
    | with_reducible refine (State.zMove_kept _ _ _).trans ?_
    | with_reducible refine (State.wr_kept _ _ _ _ _ _).trans ?_
    | with_reducible refine (State.setCan_kept _ _ _).trans ?_
    | with_reducible refine (State.canIntegrate_kept _ _).trans ?_
    | with_reducible refine (State.zWr_kept _ _ _ _).trans ?_
    | with_reducible refine (State.setZone_kept _ _ _).trans ?_

theorem State.zWake_kept (x1 : State) (x2) (x3) :
    State.kept (State.zWake x1 x2 x3) = State.kept x1 := by
  unfold State.zWake
  repeat' first
    | with_reducible rfl
    | with_reducible refine (State.zWr_kept _ _ _ _).trans ?_
    | with_reducible refine (State.zAbort_kept _ _ _ _).trans ?_
    | with_reducible refine (State.zWaking_kept _ _).trans ?_
    | with_reducible refine ite_kept ?_ ?_

theorem State.canPend_kept (x1 : State) (x2) (x3) (x4) :
    State.kept (State.canPend x1 x2 x3 x4) = State.kept x1 := by
  unfold State.canPend
  repeat' first
    | with_reducible rfl
    | with_reducible refine (State.setCan_kept _ _ _).trans ?_
    | with_reducible refine (State.zWake_kept _ _ _).trans ?_
    | with_reducible refine ite_kept ?_ ?_

theorem State.canInject_kept (x1 : State) (x2) (x3) (x4) :
    ∀ t, State.canInject x1 x2 x3 x4 = some t → State.kept t = State.kept x1 := by
  unfold State.canInject
  intro t h
  (repeat' split at h) <;> (try cases h)
  repeat' first
    | with_reducible rfl
    | with_reducible refine (State.count_kept _ _ _ _).trans ?_
    | with_reducible refine (State.canPend_kept _ _ _ _).trans ?_

theorem State.canRequest_kept (x1 : State) (x2) (x3) :
    State.kept (State.canRequest x1 x2 x3).1 = State.kept x1 := by
  unfold State.canRequest
  repeat' first
    | with_reducible rfl
    | with_reducible refine (State.canPend_kept _ _ _ _).trans ?_
    | with_reducible refine (State.setCan_kept _ _ _).trans ?_
    | with_reducible refine ite_fst_kept ?_ ?_
    | split

theorem State.canLater_kept (x1 : State) (x2) :
    State.kept (State.canLater x1 x2) = State.kept x1 := by
  unfold State.canLater
  repeat' first
    | with_reducible rfl
    | with_reducible refine (State.setWord_kept _ _ _ _ _).trans ?_
    | with_reducible refine (State.applyDone_kept _ _).trans ?_
    | with_reducible refine (State.setCan_kept _ _ _).trans ?_
    | with_reducible refine (State.canIntegrate_kept _ _).trans ?_
    | with_reducible refine (foldl_kept _ _ (fun _ _ => ?_)).trans ?_
    | dsimp only
    | split

theorem execZoneBusWake_keeps (x1) (x2 : State) :
    Keeps (execZoneBusWake x1 x2) x2 := by
  unfold execZoneBusWake
  repeat' first
    | with_reducible rfl
    | with_reducible refine (State.zWake_kept _ _ _).trans ?_
    | with_reducible refine keeps_next ?_
    | with_reducible refine ite_keeps ?_ ?_

theorem State.zRes_kept (x1 : State) (x2) (x3) :
    State.kept (State.zRes x1 x2 x3) = State.kept x1 := by
  unfold State.zRes
  repeat' first
    | with_reducible rfl
    | with_reducible refine (State.wr_kept _ _ _ _ _ _).trans ?_
    | with_reducible refine (State.irq_kept _ _ _).trans ?_
    | with_reducible refine ite_kept ?_ ?_

theorem State.zSleep_kept (x1 : State) (x2) (x3) :
    State.kept (State.zSleep x1 x2 x3) = State.kept x1 := by
  unfold State.zSleep
  repeat' first
    | with_reducible rfl
    | with_reducible refine (State.zRes_kept _ _ _).trans ?_
    | with_reducible refine (State.zWr_kept _ _ _ _).trans ?_
    | with_reducible refine (State.zMove_kept _ _ _).trans ?_
    | with_reducible refine (State.setZone_kept _ _ _).trans ?_
    | with_reducible refine (State.zFrame_kept _ _ _ _ _).trans ?_
    | with_reducible refine ite_kept ?_ ?_

theorem execZoneSleep_keeps (x1) (x2) (x3 : State) :
    Keeps (execZoneSleep x1 x2 x3) x3 := by
  unfold execZoneSleep
  repeat' first
    | with_reducible rfl
    | with_reducible refine (State.zSleep_kept _ _ _).trans ?_
    | with_reducible refine keeps_next ?_
    | with_reducible refine ite_keeps ?_ ?_

theorem State.canConfine_kept (x1 : State) (x2) :
    State.kept (State.canConfine x1 x2) = State.kept x1 := by
  unfold State.canConfine
  repeat' first
    | with_reducible rfl
    | with_reducible refine (State.setCanState_kept _ _ _).trans ?_
    | with_reducible refine (State.count_kept _ _ _ _).trans ?_
    | with_reducible refine ite_kept ?_ ?_

theorem State.canRecErr_kept (x1 : State) (x2) (x3) (x4) :
    State.kept (State.canRecErr x1 x2 x3 x4) = State.kept x1 := by
  unfold State.canRecErr
  repeat' first
    | with_reducible rfl
    | with_reducible refine (State.wr_kept _ _ _ _ _ _).trans ?_
    | with_reducible refine (State.count_kept _ _ _ _).trans ?_
    | with_reducible refine (State.setCan_kept _ _ _).trans ?_
    | with_reducible refine (State.canConfine_kept _ _).trans ?_
    | with_reducible refine ite_kept ?_ ?_

theorem State.canStore_kept (x1 : State) (x2) (x3) (x4) (x5) (x6) (x7) :
    State.kept (State.canStore x1 x2 x3 x4 x5 x6 x7) = State.kept x1 := by
  unfold State.canStore
  repeat' first
    | with_reducible rfl
    | with_reducible refine (State.setCan_kept _ _ _).trans ?_
    | with_reducible refine (State.wr_kept _ _ _ _ _ _).trans ?_
    | with_reducible refine (State.count_kept _ _ _ _).trans ?_
    | with_reducible refine (State.irq_kept _ _ _).trans ?_
    | with_reducible refine ite_kept ?_ ?_

theorem State.canCount_kept (x1 : State) (x2) :
    State.kept (State.canCount x1 x2) = State.kept x1 := by
  unfold State.canCount
  repeat' first
    | with_reducible rfl
    | with_reducible refine (State.count_kept _ _ _ _).trans ?_
    | with_reducible refine (State.setCan_kept _ _ _).trans ?_

theorem State.canRecOk_kept (x1 : State) (x2) :
    State.kept (State.canRecOk x1 x2) = State.kept x1 := by
  unfold State.canRecOk
  repeat' first
    | with_reducible rfl
    | with_reducible refine (State.canConfine_kept _ _).trans ?_
    | with_reducible refine (State.drawn_kept _).trans ?_
    | with_reducible refine (State.wr_kept _ _ _ _ _ _).trans ?_
    | with_reducible refine ite_kept ?_ ?_

theorem State.canMailboxes_kept (x1 : State) (x2) (x3) :
    State.kept (State.canMailboxes x1 x2 x3) = State.kept x1 := by
  unfold State.canMailboxes
  repeat' first
    | with_reducible rfl
    | with_reducible refine (State.wr_kept _ _ _ _ _ _).trans ?_
    | with_reducible refine (foldl_kept _ _ (fun _ _ => ?_)).trans ?_
    | with_reducible refine ite_kept ?_ ?_

theorem State.zReply_kept (x1 : State) (x2) (x3) :
    State.kept (State.zReply x1 x2 x3) = State.kept x1 := by
  unfold State.zReply
  repeat' first
    | with_reducible rfl
    | with_reducible refine (State.zWr_kept _ _ _ _).trans ?_
    | with_reducible refine (State.count_kept _ _ _ _).trans ?_
    | with_reducible refine (State.irq_kept _ _ _).trans ?_
    | with_reducible refine (State.zAwake_kept _ _ _).trans ?_
    | with_reducible refine (State.zMove_kept _ _ _).trans ?_
    | with_reducible refine (State.setZone_kept _ _ _).trans ?_
    | with_reducible refine (State.zFrame_kept _ _ _ _ _).trans ?_
    | with_reducible refine (State.zAbort_kept _ _ _ _).trans ?_
    | with_reducible refine ite_kept ?_ ?_

theorem State.canTake_kept (x1 : State) (x2) (x3) (x4) (x5) (x6) :
    State.kept (State.canTake x1 x2 x3 x4 x5 x6) = State.kept x1 := by
  unfold State.canTake
  repeat' first
    | with_reducible rfl
    | with_reducible refine (State.canCount_kept _ _).trans ?_
    | with_reducible refine (State.canMailboxes_kept _ _ _).trans ?_
    | with_reducible refine (State.canStore_kept _ _ _ _ _ _ _).trans ?_
    | with_reducible refine (State.zReply_kept _ _ _).trans ?_
    | with_reducible refine ite_kept ?_ ?_

theorem State.canPulse_kept (x1 : State) (x2) (x3) :
    State.kept (State.canPulse x1 x2 x3) = State.kept x1 := by
  unfold State.canPulse
  repeat' first
    | with_reducible rfl
    | with_reducible refine (State.wr_kept _ _ _ _ _ _).trans ?_
    | with_reducible refine ite_kept ?_ ?_

theorem State.canDetectEnd_kept (x1 : State) (x2) (x3) :
    State.kept (State.canDetectEnd x1 x2 x3) = State.kept x1 := by
  unfold State.canDetectEnd
  repeat' first
    | with_reducible rfl
    | with_reducible refine (State.wr_kept _ _ _ _ _ _).trans ?_
    | with_reducible refine (State.setShadow_kept _ _ _ _).trans ?_
    | with_reducible refine (State.setWord_kept _ _ _ _ _).trans ?_
    | with_reducible refine (State.irq_kept _ _ _).trans ?_
    | with_reducible refine (State.setCan_kept _ _ _).trans ?_
    | with_reducible refine (State.canIntegrate_kept _ _).trans ?_
    | with_reducible refine ite_kept ?_ ?_
    | dsimp only
    | split

theorem execCanFrameRx_keeps (x1) (x2) (x3) (x4) (x5) (x6) (x7) (x8) (x9) (x10 : State) :
    Keeps (execCanFrameRx x1 x2 x3 x4 x5 x6 x7 x8 x9 x10) x10 := by
  unfold execCanFrameRx
  repeat' first
    | with_reducible rfl
    | with_reducible refine (State.count_kept _ _ _ _).trans ?_
    | with_reducible refine (State.canIntegrate_kept _ _).trans ?_
    | with_reducible refine (State.canRecErr_kept _ _ _ _).trans ?_
    | with_reducible refine (State.zWake_kept _ _ _).trans ?_
    | with_reducible refine (State.canStore_kept _ _ _ _ _ _ _).trans ?_
    | with_reducible refine (State.canCount_kept _ _).trans ?_
    | with_reducible refine (State.canRecOk_kept _ _).trans ?_
    | with_reducible refine (State.canTake_kept _ _ _ _ _ _).trans ?_
    | with_reducible refine (State.canPulse_kept _ _ _).trans ?_
    | with_reducible refine (State.canDetectEnd_kept _ _ _).trans ?_
    | with_reducible refine (State.setCan_kept _ _ _).trans ?_
    | with_reducible refine keeps_next ?_
    | with_reducible refine ite_keeps ?_ ?_

theorem execCanRxPop_keeps (x1) (x2) (x3 : State) :
    Keeps (execCanRxPop x1 x2 x3) x3 := by
  unfold execCanRxPop
  repeat' first
    | with_reducible rfl
    | with_reducible refine State.awake_keeps ?_
    | with_reducible refine (State.rsp_kept _ _ _ _).trans ?_
    | with_reducible refine (State.setCan_kept _ _ _).trans ?_
    | with_reducible refine keeps_next ?_
    | dsimp only
    | split

theorem State.zSent_kept (x1 : State) (x2) (x3) :
    State.kept (State.zSent x1 x2 x3) = State.kept x1 := by
  unfold State.zSent
  repeat' first
    | with_reducible rfl
    | with_reducible refine (State.setZone_kept _ _ _).trans ?_
    | with_reducible refine (State.zMove_kept _ _ _).trans ?_
    | with_reducible refine ite_kept ?_ ?_

theorem execCanDetectStart_keeps (x1) (x2 : State) :
    Keeps (execCanDetectStart x1 x2) x2 := by
  unfold execCanDetectStart
  repeat' first
    | with_reducible rfl
    | with_reducible refine (State.wr_kept _ _ _ _ _ _).trans ?_
    | with_reducible refine (State.setCan_kept _ _ _).trans ?_
    | with_reducible refine keeps_next ?_
    | with_reducible refine ite_keeps ?_ ?_

theorem State.canRes_kept (x1 : State) (x2) (x3) (x4) :
    State.kept (State.canRes x1 x2 x3 x4) = State.kept x1 := by
  unfold State.canRes
  repeat' first
    | with_reducible rfl
    | with_reducible refine (State.wr_kept _ _ _ _ _ _).trans ?_

theorem execCanRequest_keeps (x1) (x2) (x3) (x4 : State) :
    Keeps (execCanRequest x1 x2 x3 x4) x4 := by
  unfold execCanRequest
  repeat' first
    | with_reducible rfl
    | with_reducible refine (State.canRequest_kept _ _ _).trans ?_
    | with_reducible refine (State.canRes_kept _ _ _ _).trans ?_
    | with_reducible refine keeps_next ?_
    | with_reducible refine ite_keeps ?_ ?_

theorem execCanCancel_keeps (x1) (x2) (x3) (x4 : State) :
    Keeps (execCanCancel x1 x2 x3 x4) x4 := by
  unfold execCanCancel
  repeat' first
    | with_reducible rfl
    | with_reducible refine (State.setCan_kept _ _ _).trans ?_
    | with_reducible refine (State.canRes_kept _ _ _ _).trans ?_
    | with_reducible refine (State.count_kept _ _ _ _).trans ?_
    | with_reducible refine keeps_next ?_
    | with_reducible refine ite_keeps ?_ ?_
    | dsimp only
    | split

theorem execCanRelease_keeps (x1) (x2) (x3) (x4 : State) :
    Keeps (execCanRelease x1 x2 x3 x4) x4 := by
  unfold execCanRelease
  repeat' first
    | with_reducible rfl
    | with_reducible refine (State.canRes_kept _ _ _ _).trans ?_
    | with_reducible refine (State.setCan_kept _ _ _).trans ?_
    | with_reducible refine keeps_next ?_
    | with_reducible refine ite_keeps ?_ ?_

theorem execZoneWake_keeps (x1) (x2) (x3 : State) :
    Keeps (execZoneWake x1 x2 x3) x3 := by
  unfold execZoneWake
  repeat' first
    | with_reducible rfl
    | with_reducible refine (State.zWake_kept _ _ _).trans ?_
    | with_reducible refine (State.zRes_kept _ _ _).trans ?_
    | with_reducible refine keeps_next ?_
    | with_reducible refine ite_keeps ?_ ?_

theorem execZoneWakePulseEnd_keeps (x1) (x2 : State) :
    Keeps (execZoneWakePulseEnd x1 x2) x2 := by
  unfold execZoneWakePulseEnd
  repeat' first
    | with_reducible rfl
    | with_reducible refine (State.passTo_kept _ _).trans ?_
    | with_reducible refine (State.setZone_kept _ _ _).trans ?_
    | with_reducible refine keeps_next ?_
    | with_reducible refine ite_keeps ?_ ?_
    | dsimp only
    | split

theorem State.canRecovered_kept (x1 : State) (x2) :
    State.kept (State.canRecovered x1 x2) = State.kept x1 := by
  unfold State.canRecovered
  repeat' first
    | with_reducible rfl
    | with_reducible refine (State.setCanState_kept _ _ _).trans ?_
    | with_reducible refine (State.wr_kept _ _ _ _ _ _).trans ?_

theorem execCanBusoffRecovered_keeps (x1) (x2 : State) :
    Keeps (execCanBusoffRecovered x1 x2) x2 := by
  unfold execCanBusoffRecovered
  repeat' first
    | with_reducible rfl
    | with_reducible refine (State.canRecovered_kept _ _).trans ?_
    | with_reducible refine keeps_next ?_
    | with_reducible refine ite_keeps ?_ ?_

theorem execCanIntegrated_keeps (x1) (x2 : State) :
    Keeps (execCanIntegrated x1 x2) x2 := by
  unfold execCanIntegrated
  repeat' first
    | with_reducible rfl
    | with_reducible refine (State.setCanState_kept _ _ _).trans ?_
    | with_reducible refine (State.count_kept _ _ _ _).trans ?_
    | with_reducible refine (State.canRecovered_kept _ _).trans ?_
    | with_reducible refine (State.wr_kept _ _ _ _ _ _).trans ?_
    | with_reducible refine keeps_next ?_
    | with_reducible refine ite_kept ?_ ?_
    | with_reducible refine ite_keeps ?_ ?_

theorem execCanWindowStart_keeps (x1) (x2) (x3 : State) :
    Keeps (execCanWindowStart x1 x2 x3) x3 := by
  unfold execCanWindowStart
  repeat' first
    | with_reducible rfl
    | with_reducible refine (State.passRing_kept _ _).trans ?_
    | with_reducible refine (State.count_kept _ _ _ _).trans ?_
    | with_reducible refine (State.canPend_kept _ _ _ _).trans ?_
    | with_reducible refine (State.setCan_kept _ _ _).trans ?_
    | with_reducible refine keeps_next ?_
    | with_reducible refine ite_kept ?_ ?_
    | with_reducible refine ite_keeps ?_ ?_
    | dsimp only
    | split

theorem State.zAsleep_kept (x1 : State) (x2) (x3) :
    State.kept (State.zAsleep x1 x2 x3) = State.kept x1 := by
  unfold State.zAsleep
  repeat' first
    | with_reducible rfl
    | with_reducible refine (State.zWr_kept _ _ _ _).trans ?_
    | with_reducible refine (State.zMove_kept _ _ _).trans ?_
    | with_reducible refine (State.wr_kept _ _ _ _ _ _).trans ?_
    | with_reducible refine (State.setCan_kept _ _ _).trans ?_
    | with_reducible refine (State.setZone_kept _ _ _).trans ?_
    | with_reducible refine ite_kept ?_ ?_

theorem State.canMiss_kept (x1 : State) (x2) (x3) :
    State.kept (State.canMiss x1 x2 x3) = State.kept x1 := by
  unfold State.canMiss
  repeat' first
    | with_reducible rfl
    | with_reducible refine (State.setCan_kept _ _ _).trans ?_
    | with_reducible refine (State.irq_kept _ _ _).trans ?_
    | with_reducible refine (State.count_kept _ _ _ _).trans ?_

theorem execCanAttemptStart_keeps (x1) (x2 : State) :
    Keeps (execCanAttemptStart x1 x2) x2 := by
  unfold execCanAttemptStart
  repeat' first
    | with_reducible rfl
    | with_reducible refine (State.setCan_kept _ _ _).trans ?_
    | with_reducible refine (State.setZone_kept _ _ _).trans ?_
    | with_reducible refine keeps_next ?_
    | with_reducible refine ite_keeps ?_ ?_
    | dsimp only
    | split

theorem State.canTecErr_kept (x1 : State) (x2) :
    State.kept (State.canTecErr x1 x2) = State.kept x1 := by
  unfold State.canTecErr
  repeat' first
    | with_reducible rfl
    | with_reducible refine (State.setCanState_kept _ _ _).trans ?_
    | with_reducible refine (State.wr_kept _ _ _ _ _ _).trans ?_
    | with_reducible refine (State.fault_kept _ _ _ _ _ _).trans ?_
    | with_reducible refine (State.count_kept _ _ _ _).trans ?_
    | with_reducible refine (State.canConfine_kept _ _).trans ?_
    | with_reducible refine ite_kept ?_ ?_

theorem State.canClash_kept (x1 : State) (x2) (x3) (x4) :
    State.kept (State.canClash x1 x2 x3 x4) = State.kept x1 := by
  unfold State.canClash
  repeat' first
    | with_reducible rfl
    | with_reducible refine (State.setCan_kept _ _ _).trans ?_
    | with_reducible refine (State.wr_kept _ _ _ _ _ _).trans ?_
    | with_reducible refine (State.count_kept _ _ _ _).trans ?_
    | with_reducible refine (State.irq_kept _ _ _).trans ?_
    | with_reducible refine ite_kept ?_ ?_

theorem execCanAttemptEnd_keeps (x1) (x2) (x3) (x4) (x5) (x6 : State) :
    Keeps (execCanAttemptEnd x1 x2 x3 x4 x5 x6) x6 := by
  unfold execCanAttemptEnd
  repeat' first
    | with_reducible rfl
    | with_reducible refine (State.setCan_kept _ _ _).trans ?_
    | with_reducible refine (State.zWake_kept _ _ _).trans ?_
    | with_reducible refine (State.count_kept _ _ _ _).trans ?_
    | with_reducible refine (State.canConfine_kept _ _).trans ?_
    | with_reducible refine (State.wr_kept _ _ _ _ _ _).trans ?_
    | with_reducible refine (State.emit_kept _ _).trans ?_
    | with_reducible refine (State.canTake_kept _ _ _ _ _ _).trans ?_
    | with_reducible refine (State.canTecErr_kept _ _).trans ?_
    | with_reducible refine (State.irq_kept _ _ _).trans ?_
    | with_reducible refine (State.txStamp_kept _ _ _ _ _ _).trans ?_
    | with_reducible refine (State.canLater_kept _ _).trans ?_
    | with_reducible refine (State.canClash_kept _ _ _ _).trans ?_
    | with_reducible refine (State.canMiss_kept _ _ _).trans ?_
    | with_reducible refine (State.zSent_kept _ _ _).trans ?_
    | with_reducible refine keeps_next ?_
    | with_reducible refine ite_kept ?_ ?_
    | with_reducible refine ite_keeps ?_ ?_
    | dsimp only
    | split

theorem State.canLoad_kept (x1 : State) (x2) :
    State.kept (State.canLoad x1 x2) = State.kept x1 := by
  unfold State.canLoad
  repeat' first
    | with_reducible rfl
    | with_reducible refine (State.setCan_kept _ _ _).trans ?_
    | with_reducible refine (State.irq_kept _ _ _).trans ?_
    | with_reducible refine (State.wr_kept _ _ _ _ _ _).trans ?_
    | dsimp only
    | split

theorem execCanCycleStart_keeps (x1) (x2 : State) :
    Keeps (execCanCycleStart x1 x2) x2 := by
  unfold execCanCycleStart
  repeat' first
    | with_reducible rfl
    | with_reducible refine (State.passRing_kept _ _).trans ?_
    | with_reducible refine (State.canLoad_kept _ _).trans ?_
    | with_reducible refine (State.setCan_kept _ _ _).trans ?_
    | with_reducible refine (State.wr_kept _ _ _ _ _ _).trans ?_
    | with_reducible refine keeps_next ?_
    | with_reducible refine ite_kept ?_ ?_
    | with_reducible refine ite_keeps ?_ ?_

theorem execCanWindowEnd_keeps (x1) (x2 : State) :
    Keeps (execCanWindowEnd x1 x2) x2 := by
  unfold execCanWindowEnd
  repeat' first
    | with_reducible rfl
    | with_reducible refine (State.passRing_kept _ _).trans ?_
    | with_reducible refine (State.setCan_kept _ _ _).trans ?_
    | with_reducible refine (State.canMiss_kept _ _ _).trans ?_
    | with_reducible refine keeps_next ?_
    | with_reducible refine ite_keeps ?_ ?_
    | dsimp only
    | split

theorem execCanDetectDwell_keeps (x1) (x2) (x3 : State) :
    Keeps (execCanDetectDwell x1 x2 x3) x3 := by
  unfold execCanDetectDwell
  repeat' first
    | with_reducible rfl
    | with_reducible refine (State.canPulse_kept _ _ _).trans ?_
    | with_reducible refine (State.passTo_kept _ _).trans ?_
    | with_reducible refine (State.canDetectEnd_kept _ _ _).trans ?_
    | with_reducible refine (State.setCan_kept _ _ _).trans ?_
    | with_reducible refine keeps_next ?_
    | with_reducible refine ite_keeps ?_ ?_

theorem execZoneAgreeTimeout_keeps (x1) (x2 : State) :
    Keeps (execZoneAgreeTimeout x1 x2) x2 := by
  unfold execZoneAgreeTimeout
  repeat' first
    | with_reducible rfl
    | with_reducible refine (State.zAbort_kept _ _ _ _).trans ?_
    | with_reducible refine (State.passTo_kept _ _).trans ?_
    | with_reducible refine keeps_next ?_
    | with_reducible refine ite_keeps ?_ ?_
    | split

theorem execZoneEnterDone_keeps (x1) (x2 : State) :
    Keeps (execZoneEnterDone x1 x2) x2 := by
  unfold execZoneEnterDone
  repeat' first
    | with_reducible rfl
    | with_reducible refine (State.count_kept _ _ _ _).trans ?_
    | with_reducible refine (State.zAsleep_kept _ _ _).trans ?_
    | with_reducible refine (State.passTo_kept _ _).trans ?_
    | with_reducible refine (State.zWaking_kept _ _).trans ?_
    | with_reducible refine (State.pass_kept _ _).trans ?_
    | with_reducible refine keeps_next ?_
    | with_reducible refine ite_keeps ?_ ?_
    | dsimp only
    | split

theorem execZoneLineWake_keeps (x1) (x2 : State) :
    Keeps (execZoneLineWake x1 x2) x2 := by
  unfold execZoneLineWake
  repeat' first
    | with_reducible rfl
    | with_reducible refine (State.zWake_kept _ _ _).trans ?_
    | with_reducible refine keeps_next ?_
    | with_reducible refine ite_keeps ?_ ?_

theorem execZoneWakeRspTimeout_keeps (x1) (x2 : State) :
    Keeps (execZoneWakeRspTimeout x1 x2) x2 := by
  unfold execZoneWakeRspTimeout
  repeat' first
    | with_reducible rfl
    | with_reducible refine (State.passTo_kept _ _).trans ?_
    | with_reducible refine (State.count_kept _ _ _ _).trans ?_
    | with_reducible refine (State.irq_kept _ _ _).trans ?_
    | with_reducible refine (State.zAwake_kept _ _ _).trans ?_
    | with_reducible refine (State.zWr_kept _ _ _ _).trans ?_
    | with_reducible refine (State.setZone_kept _ _ _).trans ?_
    | with_reducible refine (State.zAsleep_kept _ _ _).trans ?_
    | with_reducible refine (State.fault_kept _ _ _ _ _ _).trans ?_
    | with_reducible refine keeps_next ?_
    | with_reducible refine ite_keeps ?_ ?_
    | dsimp only
    | split

theorem execCanErrorDetected_keeps (x1) (x2) (x3) (x4 : State) :
    Keeps (execCanErrorDetected x1 x2 x3 x4) x4 := by
  unfold execCanErrorDetected
  repeat' first
    | with_reducible rfl
    | with_reducible refine (State.canRecErr_kept _ _ _ _).trans ?_
    | with_reducible refine keeps_next ?_
    | with_reducible refine ite_keeps ?_ ?_

/-! ## Launch.lean -/

theorem State.setLaunch_kept (x1 : State) (x2) (x3) :
    State.kept (State.setLaunch x1 x2 x3) = State.kept x1 := by
  unfold State.setLaunch
  repeat' first
    | with_reducible refine (State.wr_kept _ _ _ _ _ _).trans ?_
    | with_reducible refine (State.wr64_kept _ _ _ _ _ _ _).trans ?_
    | dsimp only
    | dsimp only [State.kept]

theorem State.launchExc_kept (x1 : State) (x2) (x3) :
    State.kept (State.launchExc x1 x2 x3) = State.kept x1 := by
  unfold State.launchExc
  repeat' first
    | with_reducible rfl
    | with_reducible refine (State.wr_kept _ _ _ _ _ _).trans ?_
    | with_reducible refine (State.irq_kept _ _ _).trans ?_
    | with_reducible refine ite_kept ?_ ?_
    | dsimp only
    | dsimp only [State.kept]

theorem State.dropLaunch_kept (x1 : State) (x2) (x3) :
    State.kept (State.dropLaunch x1 x2 x3) = State.kept x1 := by
  unfold State.dropLaunch
  repeat' first
    | with_reducible rfl
    | with_reducible refine (State.setLaunch_kept _ _ _).trans ?_

theorem State.launchFail_kept (x1 : State) (x2) (x3) :
    State.kept (State.launchFail x1 x2 x3) = State.kept x1 := by
  unfold State.launchFail
  repeat' first
    | with_reducible rfl
    | with_reducible refine (State.count_kept _ _ _ _).trans ?_
    | with_reducible refine (State.launchExc_kept _ _ _).trans ?_

theorem State.doSlot_kept (x1 : State) (x2) (x3) :
    State.kept (State.doSlot x1 x2 x3) = State.kept x1 := by
  unfold State.doSlot
  repeat' first
    | with_reducible rfl
    | with_reducible refine (State.count_kept _ _ _ _).trans ?_
    | with_reducible refine (State.launchExc_kept _ _ _).trans ?_
    | with_reducible refine (State.pass_kept _ _).trans ?_
    | with_reducible refine ite_kept ?_ ?_
    | dsimp only
    | fail_if_no_progress (dsimp only [State.kept]; show State.kept _ = State.kept _)

theorem State.launchDo_kept (x1 : State) (x2) (x3) (x4) :
    State.kept (State.launchDo x1 x2 x3 x4).1 = State.kept x1 := by
  unfold State.launchDo
  repeat' first
    | with_reducible rfl
    | with_reducible refine (State.launchFail_kept _ _ _).trans ?_
    | with_reducible refine (State.doSlot_kept _ _ _).trans ?_
    | with_reducible refine (State.driveLine_kept _ _).trans ?_
    | with_reducible refine (State.setLine_kept _ _ _).trans ?_
    | with_reducible refine ite_fst_kept ?_ ?_

theorem State.launchEffect_kept (x1 : State) (x2) (x3) (x4) :
    State.kept (State.launchEffect x1 x2 x3 x4).1 = State.kept x1 := by
  unfold State.launchEffect
  repeat' first
    | with_reducible rfl
    | with_reducible refine (State.count_kept _ _ _ _).trans ?_
    | with_reducible refine (State.demandLocal_kept _ _ _ _ _ _).trans ?_
    | with_reducible refine (State.launchFail_kept _ _ _).trans ?_
    | with_reducible refine (State.launchDo_kept _ _ _ _).trans ?_
    | with_reducible refine (State.laneLaunch_kept _ _ _).trans ?_
    | with_reducible refine (State.cogMatch_kept _ _).trans ?_
    | with_reducible refine (State.canInject_kept _ _ _ _ _ (by assumption)).trans ?_
    | with_reducible refine ite_fst_kept ?_ ?_
    | split

theorem State.launchRun_kept (x1 : State) (x2) (x3) (x4) :
    State.kept (State.launchRun x1 x2 x3 x4) = State.kept x1 := by
  unfold State.launchRun
  repeat' first
    | with_reducible rfl
    | with_reducible refine (State.dropLaunch_kept _ _ _).trans ?_
    | with_reducible refine (State.launchEffect_kept _ _ _ _).trans ?_
    | with_reducible refine (State.trace_kept _ _ _ _ _).trans ?_
    | with_reducible refine (State.count_kept _ _ _ _).trans ?_
    | with_reducible refine (State.launchExc_kept _ _ _).trans ?_
    | with_reducible refine ite_kept ?_ ?_

theorem State.launchLate_kept (x1 : State) (x2) (x3) :
    State.kept (State.launchLate x1 x2 x3).1 = State.kept x1 := by
  unfold State.launchLate
  repeat' first
    | with_reducible rfl
    | with_reducible refine (State.count_kept _ _ _ _).trans ?_
    | with_reducible refine (State.launchExc_kept _ _ _).trans ?_
    | with_reducible refine (State.dropLaunch_kept _ _ _).trans ?_
    | with_reducible refine (State.launchRun_kept _ _ _ _).trans ?_
    | with_reducible refine ite_fst_kept ?_ ?_

theorem State.launchInsert_kept (x1 : State) (x2) (x3) (x4) (x5) :
    State.kept (State.launchInsert x1 x2 x3 x4 x5).1 = State.kept x1 := by
  unfold State.launchInsert
  repeat' first
    | with_reducible rfl
    | with_reducible refine (State.count_kept _ _ _ _).trans ?_
    | with_reducible refine (State.irq_kept _ _ _).trans ?_
    | with_reducible refine (State.setLaunch_kept _ _ _).trans ?_
    | with_reducible refine (State.launchLate_kept _ _ _).trans ?_
    | with_reducible refine (State.journal_kept _ _ _).trans ?_
    | with_reducible refine ite_fst_kept ?_ ?_
    | dsimp only
    | dsimp only [State.kept]

theorem State.lnchDel_kept (x1 : State) (x2) :
    State.kept (State.lnchDel x1 x2) = State.kept x1 := by
  unfold State.lnchDel
  repeat' first
    | with_reducible rfl
    | with_reducible refine (State.journal_kept _ _ _).trans ?_

theorem State.launchExcPop_kept (x1 : State) :
    State.kept (State.launchExcPop x1) = State.kept x1 := by
  unfold State.launchExcPop
  repeat' first
    | with_reducible rfl
    | with_reducible refine (State.wr_kept _ _ _ _ _ _).trans ?_
    | dsimp only
    | fail_if_no_progress (dsimp only [State.kept] <;> show State.kept _ = State.kept _)
    | split

theorem State.lnchRes_kept (x1 : State) (x2) (x3) (x4) (x5) :
    State.kept (State.lnchRes x1 x2 x3 x4 x5) = State.kept x1 := by
  unfold State.lnchRes
  repeat' first
    | with_reducible rfl
    | with_reducible refine (State.wr_kept _ _ _ _ _ _).trans ?_

theorem execLnchInsert_keeps (x1) (x2 : State) :
    Keeps (execLnchInsert x1 x2) x2 := by
  unfold execLnchInsert
  repeat' first
    | with_reducible rfl
    | with_reducible refine (State.launchInsert_kept _ _ _ _ _).trans ?_
    | with_reducible refine (State.lnchRes_kept _ _ _ _ _).trans ?_
    | with_reducible refine keeps_next ?_
    | with_reducible refine ite_keeps ?_ ?_

theorem execLnchCancel_keeps (x1) (x2) (x3 : State) :
    Keeps (execLnchCancel x1 x2 x3) x3 := by
  unfold execLnchCancel
  repeat' first
    | with_reducible rfl
    | with_reducible refine (State.lnchRes_kept _ _ _ _ _).trans ?_
    | with_reducible refine (State.count_kept _ _ _ _).trans ?_
    | with_reducible refine (State.lnchDel_kept _ _).trans ?_
    | with_reducible refine (State.dropLaunch_kept _ _ _).trans ?_
    | with_reducible refine keeps_next ?_
    | with_reducible refine ite_keeps ?_ ?_

theorem execFlushTarget_keeps (x1) (x2 : State) :
    Keeps (execFlushTarget x1 x2) x2 := by
  unfold execFlushTarget
  repeat' first
    | with_reducible rfl
    | with_reducible refine (State.lnchDel_kept _ _).trans ?_
    | with_reducible refine (State.dropLaunch_kept _ _ _).trans ?_
    | with_reducible refine (State.lnchRes_kept _ _ _ _ _).trans ?_
    | with_reducible refine (State.count_kept _ _ _ _).trans ?_
    | with_reducible refine keeps_next ?_
    | with_reducible refine (foldl_kept _ _ (fun _ _ => ?_)).trans ?_
    | with_reducible refine ite_keeps ?_ ?_

theorem State.launchCold_kept (x1 : State) (x2) (x3) :
    State.kept (State.launchCold x1 x2 x3) = State.kept x1 := by
  unfold State.launchCold
  repeat' first
    | with_reducible rfl
    | with_reducible refine (State.dropLaunch_kept _ _ _).trans ?_
    | with_reducible refine (State.setLine_kept _ _ _).trans ?_
    | with_reducible refine ite_kept ?_ ?_

theorem State.launchDue_kept (x1 : State) (x2) :
    State.kept (State.launchDue x1 x2) = State.kept x1 := by
  unfold State.launchDue
  repeat' first
    | with_reducible rfl
    | with_reducible refine (State.passRing_kept _ _).trans ?_
    | with_reducible refine (State.launchRun_kept _ _ _ _).trans ?_
    | with_reducible refine (State.launchCold_kept _ _ _).trans ?_
    | with_reducible refine ite_kept ?_ ?_
    | dsimp only
    | split

theorem execPointWrite_keeps (x1 : State) :
    Keeps (execPointWrite x1) x1 := by
  unfold execPointWrite
  repeat' first
    | with_reducible rfl
    | with_reducible refine (State.launchDue_kept _ _).trans ?_
    | with_reducible refine keeps_next ?_

theorem execLaunchStage_keeps (x1 : State) :
    Keeps (execLaunchStage x1) x1 := by
  unfold execLaunchStage
  repeat' first
    | with_reducible rfl
    | with_reducible refine (State.setLaunch_kept _ _ _).trans ?_
    | with_reducible refine (State.passRing_kept _ _).trans ?_
    | with_reducible refine keeps_next ?_
    | with_reducible refine ite_keeps ?_ ?_
    | split

theorem execPulseEnd_keeps (x1) (x2 : State) :
    Keeps (execPulseEnd x1 x2) x2 := by
  unfold execPulseEnd
  repeat' first
    | with_reducible rfl
    | with_reducible refine (State.passRing_kept _ _).trans ?_
    | with_reducible refine (State.driveLine_kept _ _).trans ?_
    | with_reducible refine (State.setLine_kept _ _ _).trans ?_
    | with_reducible refine keeps_next ?_
    | dsimp only
    | split

theorem State.launchLock_kept (x1) (x2 : State) :
    State.kept (State.launchLock x1 x2) = State.kept x2 := by
  induction x1 generalizing x2 with
  | zero =>
    unfold State.launchLock
    repeat' first
      | with_reducible rfl
  | succ k ih =>
    unfold State.launchLock
    repeat' first
      | with_reducible refine (ih _).trans ?_
      | with_reducible rfl
      | with_reducible refine (State.launchCold_kept _ _ _).trans ?_
      | with_reducible refine (State.count_kept _ _ _ _).trans ?_
      | with_reducible refine (State.dropLaunch_kept _ _ _).trans ?_
      | with_reducible refine (State.launchLate_kept _ _ _).trans ?_
      | with_reducible refine ite_kept ?_ ?_
      | split

theorem afterLock_keeps (old : State) {r : Res} {s : State} (h : Keeps r s) : Keeps (afterLock old r) s := by
  obtain ⟨t, ht, hk⟩ := h
  subst ht
  unfold afterLock
  exact ite_keeps (keeps_next ((State.launchLock_kept _ _).trans hk)) (keeps_next hk)

theorem execSyncDecision_keeps (x1) (x2 : State) :
    Keeps (execSyncDecision x1 x2) x2 := by
  unfold execSyncDecision
  repeat' first
    | with_reducible rfl
    | with_reducible refine afterLock_keeps _ ?_
    | with_reducible refine Keeps.trans (stepSyncDecision_keeps _ _) ?_

theorem execTimeSyncTx_keeps (x1 : State) :
    Keeps (execTimeSyncTx x1) x1 := by
  unfold execTimeSyncTx
  repeat' first
    | with_reducible rfl
    | with_reducible refine afterLock_keeps _ ?_
    | with_reducible refine Keeps.trans (stepTimeSyncTx_keeps _) ?_

theorem execTimeSyncRx_keeps (x1 : State) :
    Keeps (execTimeSyncRx x1) x1 := by
  unfold execTimeSyncRx
  repeat' first
    | with_reducible rfl
    | with_reducible refine afterLock_keeps _ ?_
    | with_reducible refine Keeps.trans (stepTimeSyncRx_keeps _) ?_

theorem execTimeAnnounceTx_keeps (x1 : State) :
    Keeps (execTimeAnnounceTx x1) x1 := by
  unfold execTimeAnnounceTx
  repeat' first
    | with_reducible rfl
    | with_reducible refine afterLock_keeps _ ?_
    | with_reducible refine Keeps.trans (stepTimeAnnounceTx_keeps _) ?_

theorem execTimeAnnounceRx_keeps (x1 : State) :
    Keeps (execTimeAnnounceRx x1) x1 := by
  unfold execTimeAnnounceRx
  repeat' first
    | with_reducible rfl
    | with_reducible refine afterLock_keeps _ ?_
    | with_reducible refine Keeps.trans (stepTimeAnnounceRx_keeps _) ?_

theorem execGmDrop_keeps (x1 : State) :
    Keeps (execGmDrop x1) x1 := by
  unfold execGmDrop
  repeat' first
    | with_reducible rfl
    | with_reducible refine afterLock_keeps _ ?_
    | with_reducible refine Keeps.trans (stepGmDrop_keeps _) ?_

theorem execHoldoverExpiry_keeps (x1 : State) :
    Keeps (execHoldoverExpiry x1) x1 := by
  unfold execHoldoverExpiry
  repeat' first
    | with_reducible rfl
    | with_reducible refine afterLock_keeps _ ?_
    | with_reducible refine Keeps.trans (stepHoldoverExpiry_keeps _) ?_

theorem execPpsInEdge_keeps (x1 : State) :
    Keeps (execPpsInEdge x1) x1 := by
  unfold execPpsInEdge
  repeat' first
    | with_reducible rfl
    | with_reducible refine afterLock_keeps _ ?_
    | with_reducible refine Keeps.trans (stepPpsInEdge_keeps _) ?_

theorem execDoSet_keeps (x1 : State) :
    Keeps (execDoSet x1) x1 := by
  unfold execDoSet
  repeat' first
    | with_reducible rfl
    | with_reducible refine (State.launchDue_kept _ _).trans ?_
    | with_reducible refine keeps_next ?_

theorem execDoClear_keeps (x1 : State) :
    Keeps (execDoClear x1) x1 := by
  unfold execDoClear
  repeat' first
    | with_reducible rfl
    | with_reducible refine (State.launchDue_kept _ _).trans ?_
    | with_reducible refine keeps_next ?_

theorem execDoPulse_keeps (x1 : State) :
    Keeps (execDoPulse x1) x1 := by
  unfold execDoPulse
  repeat' first
    | with_reducible rfl
    | with_reducible refine (State.launchDue_kept _ _).trans ?_
    | with_reducible refine keeps_next ?_

theorem execLaneStart_keeps (x1 : State) :
    Keeps (execLaneStart x1) x1 := by
  unfold execLaneStart
  repeat' first
    | with_reducible rfl
    | with_reducible refine (State.launchDue_kept _ _).trans ?_
    | with_reducible refine keeps_next ?_

theorem execCogStart_keeps (x1 : State) :
    Keeps (execCogStart x1) x1 := by
  unfold execCogStart
  repeat' first
    | with_reducible rfl
    | with_reducible refine (State.launchDue_kept _ _).trans ?_
    | with_reducible refine keeps_next ?_

theorem execCanInject_keeps (x1 : State) :
    Keeps (execCanInject x1) x1 := by
  unfold execCanInject
  repeat' first
    | with_reducible rfl
    | with_reducible refine (State.launchDue_kept _ _).trans ?_
    | with_reducible refine keeps_next ?_

/-! ## Tracking.lean -/

theorem State.refSync_kept (x1 : State) (x2) :
    State.kept (State.refSync x1 x2) = State.kept x1 := by
  unfold State.refSync
  repeat' first
    | with_reducible rfl
    | with_reducible refine (State.irq_kept _ _ _).trans ?_
    | with_reducible refine (State.count_kept _ _ _ _).trans ?_
    | with_reducible refine ite_kept ?_ ?_
    | dsimp only
    | dsimp only [State.kept]

theorem State.refCommit_kept (x1 : State) (x2) (x3) (x4) (x5) (x6) :
    State.kept (State.refCommit x1 x2 x3 x4 x5 x6) = State.kept x1 := by
  unfold State.refCommit
  repeat' first
    | with_reducible refine (State.refSync_kept _ _).trans ?_
    | dsimp only
    | dsimp only [State.kept]

theorem State.outcomeLog_kept (x1 : State) (x2) (x3) :
    State.kept (State.outcomeLog x1 x2 x3) = State.kept x1 := by
  unfold State.outcomeLog
  repeat' first
    | with_reducible rfl
    | with_reducible refine (State.wr_kept _ _ _ _ _ _).trans ?_
    | with_reducible refine (State.irq_kept _ _ _).trans ?_
    | with_reducible refine ite_kept ?_ ?_
    | dsimp only
    | dsimp only [State.kept]

theorem State.setWin_kept (x1 : State) (x2) (x3) :
    State.kept (State.setWin x1 x2 x3) = State.kept x1 := by
  unfold State.setWin
  repeat' first
    | with_reducible refine (State.wr_kept _ _ _ _ _ _).trans ?_
    | dsimp only
    | dsimp only [State.kept]

theorem State.winEnd_kept (x1 : State) (x2) (x3) :
    State.kept (State.winEnd x1 x2 x3) = State.kept x1 := by
  unfold State.winEnd
  repeat' first
    | with_reducible rfl
    | with_reducible refine (State.outcomeLog_kept _ _ _).trans ?_
    | with_reducible refine (State.journal_kept _ _ _).trans ?_
    | with_reducible refine (State.trace_kept _ _ _ _ _).trans ?_
    | with_reducible refine (State.setWin_kept _ _ _).trans ?_
    | with_reducible refine ite_kept ?_ ?_

theorem State.winLost_kept (x1 : State) (x2) (x3) :
    State.kept (State.winLost x1 x2 x3) = State.kept x1 := by
  unfold State.winLost
  repeat' first
    | with_reducible rfl
    | with_reducible refine (State.count_kept _ _ _ _).trans ?_
    | with_reducible refine (State.irq_kept _ _ _).trans ?_
    | with_reducible refine (State.winEnd_kept _ _ _).trans ?_

theorem State.winLaunch_kept (x1 : State) (x2) (x3) (x4) (x5) (x6) :
    State.kept (State.winLaunch x1 x2 x3 x4 x5 x6) = State.kept x1 := by
  unfold State.winLaunch
  repeat' first
    | with_reducible rfl
    | with_reducible refine (State.launchInsert_kept _ _ _ _ _).trans ?_
    | with_reducible refine (State.winEnd_kept _ _ _).trans ?_
    | with_reducible refine (State.count_kept _ _ _ _).trans ?_
    | with_reducible refine (State.irq_kept _ _ _).trans ?_
    | with_reducible refine ite_kept ?_ ?_

theorem State.winOutcome_kept (x1 : State) (x2) (x3) (x4) (x5) (x6) :
    State.kept (State.winOutcome x1 x2 x3 x4 x5 x6) = State.kept x1 := by
  unfold State.winOutcome
  repeat' first
    | with_reducible rfl
    | with_reducible refine (State.count_kept _ _ _ _).trans ?_
    | with_reducible refine (State.winEnd_kept _ _ _).trans ?_
    | with_reducible refine (State.irq_kept _ _ _).trans ?_
    | with_reducible refine (State.winLaunch_kept _ _ _ _ _ _).trans ?_
    | with_reducible refine (State.setWin_kept _ _ _).trans ?_
    | with_reducible refine ite_kept ?_ ?_

theorem State.winDefer_kept (x1 : State) (x2) (x3) :
    State.kept (State.winDefer x1 x2 x3) = State.kept x1 := by
  unfold State.winDefer
  repeat' first
    | with_reducible rfl
    | with_reducible refine (State.winLaunch_kept _ _ _ _ _ _).trans ?_
    | with_reducible refine ite_kept ?_ ?_
    | split

theorem State.winEval_kept (x1 : State) (x2) (x3) :
    State.kept (State.winEval x1 x2 x3) = State.kept x1 := by
  unfold State.winEval
  repeat' first
    | with_reducible rfl
    | with_reducible refine (State.winLost_kept _ _ _).trans ?_
    | with_reducible refine (State.winDefer_kept _ _ _).trans ?_
    | with_reducible refine (State.setWin_kept _ _ _).trans ?_
    | with_reducible refine (State.winOutcome_kept _ _ _ _ _ _).trans ?_
    | with_reducible refine ite_kept ?_ ?_
    | dsimp only
    | split

theorem State.winArm_kept (x1 : State) (x2) (x3) (x4) :
    State.kept (State.winArm x1 x2 x3 x4) = State.kept x1 := by
  unfold State.winArm
  repeat' first
    | with_reducible rfl
    | with_reducible refine (State.count_kept _ _ _ _).trans ?_
    | with_reducible refine (State.setWin_kept _ _ _).trans ?_
    | with_reducible refine (State.journal_kept _ _ _).trans ?_
    | with_reducible refine (State.winLost_kept _ _ _).trans ?_
    | with_reducible refine (State.winEval_kept _ _ _).trans ?_
    | with_reducible refine ite_kept ?_ ?_

theorem State.trkEvent_kept (x1 : State) (x2) (x3) (x4) (x5) (x6) :
    State.kept (State.trkEvent x1 x2 x3 x4 x5 x6) = State.kept x1 := by
  unfold State.trkEvent
  repeat' first
    | with_reducible rfl
    | with_reducible refine (State.winLost_kept _ _ _).trans ?_
    | with_reducible refine (State.winOutcome_kept _ _ _ _ _ _).trans ?_
    | with_reducible refine (State.winArm_kept _ _ _ _).trans ?_
    | with_reducible refine (State.count_kept _ _ _ _).trans ?_
    | with_reducible refine (State.irq_kept _ _ _).trans ?_
    | with_reducible refine (foldl_kept _ _ (fun _ _ => ?_)).trans ?_
    | with_reducible refine (foldl_fst_kept _ _ (fun _ _ => ?_)).trans ?_
    | with_reducible refine ite_kept ?_ ?_
    | with_reducible refine ite_fst_kept ?_ ?_
    | dsimp only
    | split

theorem State.winEvalAll_kept (x1 : State) (x2) :
    State.kept (State.winEvalAll x1 x2) = State.kept x1 := by
  unfold State.winEvalAll
  repeat' first
    | with_reducible rfl
    | with_reducible refine (State.winEval_kept _ _ _).trans ?_
    | with_reducible refine (foldl_kept _ _ (fun _ _ => ?_)).trans ?_
    | with_reducible refine ite_kept ?_ ?_

theorem State.loseWindows_kept (x1 : State) (x2) :
    State.kept (State.loseWindows x1 x2) = State.kept x1 := by
  unfold State.loseWindows
  repeat' first
    | with_reducible rfl
    | with_reducible refine (State.winLost_kept _ _ _).trans ?_
    | with_reducible refine (foldl_kept _ _ (fun _ _ => ?_)).trans ?_

theorem State.setAxis_kept (x1 : State) (x2) (x3) :
    State.kept (State.setAxis x1 x2 x3) = State.kept x1 := by
  unfold State.setAxis
  repeat' first
    | dsimp only
    | dsimp only [State.kept]

theorem State.axisSet_kept (x1 : State) (x2) (x3) (x4) :
    State.kept (State.axisSet x1 x2 x3 x4) = State.kept x1 := by
  unfold State.axisSet
  repeat' first
    | with_reducible rfl
    | with_reducible refine (State.wr_kept _ _ _ _ _ _).trans ?_
    | with_reducible refine (State.setAxis_kept _ _ _).trans ?_

theorem State.axisLoad_kept (x1 : State) (x2) :
    State.kept (State.axisLoad x1 x2) = State.kept x1 := by
  unfold State.axisLoad
  repeat' first
    | with_reducible rfl
    | with_reducible refine (State.setAxis_kept _ _ _).trans ?_

theorem State.axisPresetAt_kept (x1 : State) (x2) (x3) :
    State.kept (State.axisPresetAt x1 x2 x3).1 = State.kept x1 := by
  unfold State.axisPresetAt
  repeat' first
    | with_reducible rfl
    | with_reducible refine (State.setAxis_kept _ _ _).trans ?_
    | with_reducible refine (State.wr_kept _ _ _ _ _ _).trans ?_
    | with_reducible refine (State.axisSet_kept _ _ _ _).trans ?_
    | with_reducible refine (State.loseWindows_kept _ _).trans ?_
    | with_reducible refine (State.count_kept _ _ _ _).trans ?_
    | with_reducible refine (State.irq_kept _ _ _).trans ?_
    | with_reducible refine ite_fst_kept ?_ ?_
    | dsimp only
    | split

theorem State.axisRecord_kept (x1 : State) (x2) (x3) :
    State.kept (State.axisRecord x1 x2 x3).1 = State.kept x1 := by
  unfold State.axisRecord
  repeat' first
    | with_reducible rfl
    | with_reducible refine (State.axisPresetAt_kept _ _ _).trans ?_
    | with_reducible refine (State.setAxis_kept _ _ _).trans ?_

theorem State.axisSsi_kept (x1 : State) (x2) (x3) (x4) :
    State.kept (State.axisSsi x1 x2 x3 x4) = State.kept x1 := by
  unfold State.axisSsi
  repeat' first
    | with_reducible rfl
    | with_reducible refine (State.irq_kept _ _ _).trans ?_
    | with_reducible refine (State.wr_kept _ _ _ _ _ _).trans ?_
    | with_reducible refine (State.count_kept _ _ _ _).trans ?_
    | with_reducible refine (State.setAxis_kept _ _ _).trans ?_
    | with_reducible refine (State.axisSet_kept _ _ _ _).trans ?_
    | with_reducible refine ite_kept ?_ ?_
    | dsimp only
    | split

theorem State.outcomePop_kept (x1 : State) :
    State.kept (State.outcomePop x1) = State.kept x1 := by
  unfold State.outcomePop
  repeat' first
    | with_reducible rfl
    | with_reducible refine (State.wr_kept _ _ _ _ _ _).trans ?_
    | dsimp only
    | fail_if_no_progress (dsimp only [State.kept] <;> show State.kept _ = State.kept _)
    | split

theorem execAxisPreset_keeps (x1) (x2 : State) :
    Keeps (execAxisPreset x1 x2) x2 := by
  unfold execAxisPreset
  repeat' first
    | with_reducible rfl
    | with_reducible refine (State.setAxis_kept _ _ _).trans ?_
    | with_reducible refine (State.wr_kept _ _ _ _ _ _).trans ?_
    | with_reducible refine keeps_next ?_
    | with_reducible refine ite_keeps ?_ ?_

theorem State.trkRes_kept (x1 : State) (x2) (x3) :
    State.kept (State.trkRes x1 x2 x3) = State.kept x1 := by
  unfold State.trkRes
  repeat' first
    | with_reducible rfl
    | with_reducible refine (State.wr_kept _ _ _ _ _ _).trans ?_

theorem execTrkRead_keeps (x1) (x2 : State) :
    Keeps (execTrkRead x1 x2) x2 := by
  unfold execTrkRead
  repeat' first
    | with_reducible rfl
    | with_reducible refine (State.wr_kept _ _ _ _ _ _).trans ?_
    | with_reducible refine (State.trkRes_kept _ _ _).trans ?_
    | with_reducible refine keeps_next ?_
    | with_reducible refine (foldl_kept _ _ (fun _ _ => ?_)).trans ?_
    | with_reducible refine ite_keeps ?_ ?_

theorem State.winRecord_kept (x1 : State) (x2) :
    State.kept (State.winRecord x1 x2) = State.kept x1 := by
  unfold State.winRecord
  repeat' first
    | with_reducible rfl
    | with_reducible refine (State.journal_kept _ _ _).trans ?_

theorem execTrkWrite_keeps (x1) (x2 : State) :
    Keeps (execTrkWrite x1 x2) x2 := by
  unfold execTrkWrite
  repeat' first
    | with_reducible rfl
    | with_reducible refine (State.trkRes_kept _ _ _).trans ?_
    | with_reducible refine (State.count_kept _ _ _ _).trans ?_
    | with_reducible refine (State.winRecord_kept _ _).trans ?_
    | with_reducible refine (State.setWin_kept _ _ _).trans ?_
    | with_reducible refine keeps_next ?_
    | with_reducible refine ite_keeps ?_ ?_

theorem execTrkDisarm_keeps (x1) (x2 : State) :
    Keeps (execTrkDisarm x1 x2) x2 := by
  unfold execTrkDisarm
  repeat' first
    | with_reducible rfl
    | with_reducible refine (State.winRecord_kept _ _).trans ?_
    | with_reducible refine (State.setWin_kept _ _ _).trans ?_
    | with_reducible refine (State.trkRes_kept _ _ _).trans ?_
    | with_reducible refine keeps_next ?_
    | with_reducible refine ite_kept ?_ ?_
    | with_reducible refine ite_keeps ?_ ?_

theorem execArmSoft_keeps (x1) (x2 : State) :
    Keeps (execArmSoft x1 x2) x2 := by
  unfold execArmSoft
  repeat' first
    | with_reducible rfl
    | with_reducible refine (State.trkRes_kept _ _ _).trans ?_
    | with_reducible refine (State.winArm_kept _ _ _ _).trans ?_
    | with_reducible refine keeps_next ?_
    | with_reducible refine ite_keeps ?_ ?_

theorem execWindowEvaluate_keeps (x1 : State) :
    Keeps (execWindowEvaluate x1) x1 := by
  unfold execWindowEvaluate
  repeat' first
    | with_reducible rfl
    | with_reducible refine (State.winEvalAll_kept _ _).trans ?_
    | with_reducible refine keeps_next ?_

theorem execAxisQuadCount_keeps (x1) (x2 : State) :
    Keeps (execAxisQuadCount x1 x2) x2 := by
  unfold execAxisQuadCount
  repeat' first
    | with_reducible rfl
    | with_reducible refine (State.axisLoad_kept _ _).trans ?_
    | with_reducible refine (State.count_kept _ _ _ _).trans ?_
    | with_reducible refine (State.irq_kept _ _ _).trans ?_
    | with_reducible refine (State.wr_kept _ _ _ _ _ _).trans ?_
    | with_reducible refine (State.axisSet_kept _ _ _ _).trans ?_
    | with_reducible refine keeps_next ?_
    | with_reducible refine ite_keeps ?_ ?_

theorem execAxisSsiStart_keeps (x1) (x2 : State) :
    Keeps (execAxisSsiStart x1 x2) x2 := by
  unfold execAxisSsiStart
  repeat' first
    | with_reducible rfl
    | with_reducible refine (State.passRing_kept _ _).trans ?_
    | with_reducible refine (State.ssiStart_kept _ _ _).trans ?_
    | with_reducible refine keeps_next ?_
    | with_reducible refine ite_keeps ?_ ?_

theorem execExtrapMaxExpiry_keeps (x1) (x2 : State) :
    Keeps (execExtrapMaxExpiry x1 x2) x2 := by
  unfold execExtrapMaxExpiry
  repeat' first
    | with_reducible rfl
    | with_reducible refine (State.refSync_kept _ _).trans ?_
    | with_reducible refine (State.passRing_kept _ _).trans ?_
    | with_reducible refine keeps_next ?_
    | with_reducible refine ite_keeps ?_ ?_
    | split

/-! ## Dio.lean -/

theorem State.rawTake_kept (x1 : State) (x2) (x3) :
    State.kept (State.rawTake x1 x2 x3) = State.kept x1 := by
  unfold State.rawTake
  repeat' first
    | with_reducible rfl
    | with_reducible refine (State.setLine_kept _ _ _).trans ?_
    | with_reducible refine (State.setDioBit_kept _ _ _ _).trans ?_

theorem State.dioEvent_kept (x1 : State) (x2) (x3) (x4) (x5) (x6) :
    State.kept (State.dioEvent x1 x2 x3 x4 x5 x6) = State.kept x1 := by
  unfold State.dioEvent
  repeat' first
    | with_reducible rfl
    | with_reducible refine (State.wr_kept _ _ _ _ _ _).trans ?_
    | with_reducible refine (State.count_kept _ _ _ _).trans ?_
    | with_reducible refine (State.irq_kept _ _ _).trans ?_
    | with_reducible refine ite_kept ?_ ?_
    | dsimp only [State.kept]

theorem State.lineLevel_kept (x1 : State) (x2) (x3) (x4) (x5) :
    State.kept (State.lineLevel x1 x2 x3 x4 x5) = State.kept x1 := by
  unfold State.lineLevel
  repeat' first
    | with_reducible rfl
    | with_reducible refine (State.setDioBit_kept _ _ _ _).trans ?_
    | with_reducible refine (State.setLine_kept _ _ _).trans ?_
    | with_reducible refine (State.dioEvent_kept _ _ _ _ _ _).trans ?_
    | with_reducible refine (State.trkEvent_kept _ _ _ _ _ _).trans ?_
    | with_reducible refine ite_kept ?_ ?_

theorem State.lineRestart_kept (x1 : State) (x2) :
    State.kept (State.lineRestart x1 x2) = State.kept x1 := by
  unfold State.lineRestart
  repeat' first
    | with_reducible rfl
    | with_reducible refine (State.rawTake_kept _ _ _).trans ?_
    | with_reducible refine (State.lineLevel_kept _ _ _ _ _).trans ?_
    | with_reducible refine ite_kept ?_ ?_

theorem State.outHost_kept (x1 : State) (x2) (x3) :
    State.kept (State.outHost x1 x2 x3) = State.kept x1 := by
  unfold State.outHost
  repeat' first
    | with_reducible rfl
    | with_reducible refine (State.journal_kept _ _ _).trans ?_
    | with_reducible refine (State.wr_kept _ _ _ _ _ _).trans ?_
    | with_reducible refine (State.driveLine_kept _ _).trans ?_
    | with_reducible refine (foldl_kept _ _ (fun _ _ => ?_)).trans ?_
    | with_reducible refine ite_kept ?_ ?_

theorem execDioOutClr_keeps (x1) (x2) (x3 : State) :
    Keeps (execDioOutClr x1 x2 x3) x3 := by
  unfold execDioOutClr
  repeat' first
    | with_reducible rfl
    | with_reducible refine (State.outHost_kept _ _ _).trans ?_
    | with_reducible refine keeps_next ?_
    | with_reducible refine ite_keeps ?_ ?_

theorem State.dioPop_kept (x1 : State) (x2) :
    State.kept (State.dioPop x1 x2) = State.kept x1 := by
  unfold State.dioPop
  repeat' first
    | with_reducible rfl
    | with_reducible refine (State.wr_kept _ _ _ _ _ _).trans ?_
    | dsimp only
    | fail_if_no_progress (dsimp only [State.kept] <;> show State.kept _ = State.kept _)
    | split

theorem execDioOutSet_keeps (x1) (x2) (x3 : State) :
    Keeps (execDioOutSet x1 x2 x3) x3 := by
  unfold execDioOutSet
  repeat' first
    | with_reducible rfl
    | with_reducible refine (State.outHost_kept _ _ _).trans ?_
    | with_reducible refine keeps_next ?_
    | with_reducible refine ite_keeps ?_ ?_

theorem execDioCntClr_keeps (x1) (x2) (x3 : State) :
    Keeps (execDioCntClr x1 x2 x3) x3 := by
  unfold execDioCntClr
  repeat' first
    | with_reducible rfl
    | with_reducible refine (State.wr_kept _ _ _ _ _ _).trans ?_
    | with_reducible refine keeps_next ?_
    | with_reducible refine (foldl_kept _ _ (fun _ _ => ?_)).trans ?_
    | with_reducible refine ite_kept ?_ ?_
    | with_reducible refine ite_keeps ?_ ?_

theorem State.chatEdge_kept (x1 : State) (x2) :
    State.kept (State.chatEdge x1 x2) = State.kept x1 := by
  unfold State.chatEdge
  repeat' first
    | with_reducible rfl
    | with_reducible refine (State.setLine_kept _ _ _).trans ?_
    | with_reducible refine (State.count_kept _ _ _ _).trans ?_
    | with_reducible refine (State.irq_kept _ _ _).trans ?_
    | with_reducible refine (State.setDioBit_kept _ _ _ _).trans ?_
    | with_reducible refine (State.dioEvent_kept _ _ _ _ _ _).trans ?_
    | with_reducible refine ite_kept ?_ ?_

theorem execDioFilteredChange_keeps (x1) (x2) (x3 : State) :
    Keeps (execDioFilteredChange x1 x2 x3) x3 := by
  unfold execDioFilteredChange
  repeat' first
    | with_reducible rfl
    | with_reducible refine (State.setLine_kept _ _ _).trans ?_
    | with_reducible refine (State.rawTake_kept _ _ _).trans ?_
    | with_reducible refine (State.wr_kept _ _ _ _ _ _).trans ?_
    | with_reducible refine (State.chatEdge_kept _ _).trans ?_
    | with_reducible refine keeps_next ?_
    | with_reducible refine ite_kept ?_ ?_
    | with_reducible refine ite_keeps ?_ ?_

theorem execDioStuck_keeps (x1) (x2 : State) :
    Keeps (execDioStuck x1 x2) x2 := by
  unfold execDioStuck
  repeat' first
    | with_reducible rfl
    | with_reducible refine (State.passTo_kept _ _).trans ?_
    | with_reducible refine (State.count_kept _ _ _ _).trans ?_
    | with_reducible refine (State.irq_kept _ _ _).trans ?_
    | with_reducible refine (State.setDioBit_kept _ _ _ _).trans ?_
    | with_reducible refine (State.dioEvent_kept _ _ _ _ _ _).trans ?_
    | with_reducible refine keeps_next ?_
    | with_reducible refine ite_keeps ?_ ?_
    | dsimp only
    | split

theorem execChatterEnd_keeps (x1) (x2 : State) :
    Keeps (execChatterEnd x1 x2) x2 := by
  unfold execChatterEnd
  repeat' first
    | with_reducible rfl
    | with_reducible refine (State.passTo_kept _ _).trans ?_
    | with_reducible refine (State.setDioBit_kept _ _ _ _).trans ?_
    | with_reducible refine (State.dioEvent_kept _ _ _ _ _ _).trans ?_
    | with_reducible refine keeps_next ?_
    | with_reducible refine ite_keeps ?_ ?_

theorem execDioEdge_keeps (x1) (x2 : State) :
    Keeps (execDioEdge x1 x2) x2 := by
  unfold execDioEdge
  repeat' first
    | with_reducible rfl
    | with_reducible refine (State.passTo_kept _ _).trans ?_
    | with_reducible refine (State.lineLevel_kept _ _ _ _ _).trans ?_
    | with_reducible refine keeps_next ?_
    | with_reducible refine ite_keeps ?_ ?_

theorem execChatterWindow_keeps (x1) (x2 : State) :
    Keeps (execChatterWindow x1 x2) x2 := by
  unfold execChatterWindow
  repeat' first
    | with_reducible rfl
    | with_reducible refine State.awake_keeps ?_
    | with_reducible refine (State.passRing_kept _ _).trans ?_
    | with_reducible refine (State.setLine_kept _ _ _).trans ?_
    | with_reducible refine keeps_next ?_
    | with_reducible refine (foldl_kept _ _ (fun _ _ => ?_)).trans ?_
    | with_reducible refine ite_kept ?_ ?_

theorem execRbFail_keeps (x1) (x2 : State) :
    Keeps (execRbFail x1 x2) x2 := by
  unfold execRbFail
  repeat' first
    | with_reducible rfl
    | with_reducible refine (State.passTo_kept _ _).trans ?_
    | with_reducible refine (State.count_kept _ _ _ _).trans ?_
    | with_reducible refine (State.irq_kept _ _ _).trans ?_
    | with_reducible refine (State.setDioBit_kept _ _ _ _).trans ?_
    | with_reducible refine (State.fault_kept _ _ _ _ _ _).trans ?_
    | with_reducible refine (State.journal_kept _ _ _).trans ?_
    | with_reducible refine keeps_next ?_
    | with_reducible refine ite_keeps ?_ ?_
    | dsimp only
    | split

theorem execDioOutHostWrite_keeps (x1) (x2) (x3 : State) :
    Keeps (execDioOutHostWrite x1 x2 x3) x3 := by
  unfold execDioOutHostWrite
  repeat' first
    | with_reducible rfl
    | with_reducible refine (State.outHost_kept _ _ _).trans ?_
    | with_reducible refine keeps_next ?_
    | with_reducible refine ite_keeps ?_ ?_

/-! ## Lanes.lean -/

theorem State.mbxFrame_kept (x1 : State) (x2) (x3) :
    State.kept (State.mbxFrame x1 x2 x3) = State.kept x1 := by
  unfold State.mbxFrame
  repeat' first
    | with_reducible rfl
    | with_reducible refine (State.laneNow_kept _ _).trans ?_
    | with_reducible refine (State.count_kept _ _ _ _).trans ?_
    | with_reducible refine (State.irq_kept _ _ _).trans ?_
    | with_reducible refine (State.lanePush_kept _ _ _ _).trans ?_
    | with_reducible refine (foldl_kept _ _ (fun _ _ => ?_)).trans ?_
    | with_reducible refine ite_kept ?_ ?_

theorem State.laneMbx_kept (x1 : State) (x2) (x3) (x4) :
    State.kept (State.laneMbx x1 x2 x3 x4) = State.kept x1 := by
  unfold State.laneMbx
  repeat' first
    | with_reducible rfl
    | with_reducible refine (State.wr_kept _ _ _ _ _ _).trans ?_
    | with_reducible refine ite_kept ?_ ?_

theorem State.laneReset_kept (x1 : State) (x2) :
    State.kept (State.laneReset x1 x2) = State.kept x1 := by
  unfold State.laneReset
  repeat' first
    | with_reducible rfl
    | with_reducible refine (State.setLane_kept _ _ _).trans ?_
    | with_reducible refine (State.wr_kept _ _ _ _ _ _).trans ?_
    | with_reducible refine (State.laneDrain_kept _ _ _).trans ?_
    | with_reducible refine (foldl_kept _ _ (fun _ _ => ?_)).trans ?_

theorem State.laneConfig_kept (x1 : State) (x2) (x3) :
    State.kept (State.laneConfig x1 x2 x3) = State.kept x1 := by
  unfold State.laneConfig
  repeat' first
    | with_reducible rfl
    | with_reducible refine (State.setWord_kept _ _ _ _ _).trans ?_
    | with_reducible refine (State.setLane_kept _ _ _).trans ?_
    | with_reducible refine (State.laneReset_kept _ _).trans ?_
    | with_reducible refine (foldl_kept _ _ (fun _ _ => ?_)).trans ?_
    | with_reducible refine ite_kept ?_ ?_

theorem State.fifoPerr_kept (x1 : State) (x2) :
    State.kept (State.fifoPerr x1 x2) = State.kept x1 := by
  unfold State.fifoPerr
  repeat' first
    | with_reducible rfl
    | with_reducible refine (State.drawn_kept _).trans ?_
    | with_reducible refine (State.fault_kept _ _ _ _ _ _).trans ?_
    | with_reducible refine (State.count_kept _ _ _ _).trans ?_
    | with_reducible refine (State.laneErr_kept _ _ _).trans ?_

theorem State.rxPut_kept (x1 : State) (x2) (x3) :
    State.kept (State.rxPut x1 x2 x3) = State.kept x1 := by
  unfold State.rxPut
  repeat' first
    | with_reducible rfl
    | with_reducible refine (State.setLane_kept _ _ _).trans ?_
    | with_reducible refine (State.irq_kept _ _ _).trans ?_
    | with_reducible refine ite_kept ?_ ?_

theorem State.fifoUpset_kept (x1 : State) (x2) (x3) :
    State.kept (State.fifoUpset x1 x2 x3) = State.kept x1 := by
  unfold State.fifoUpset
  repeat' first
    | with_reducible rfl
    | with_reducible refine (State.setLane_kept _ _ _).trans ?_

theorem State.rxTake_kept (x1 : State) (x2) (x3) :
    State.kept (State.rxTake x1 x2 x3) = State.kept x1 := by
  unfold State.rxTake
  repeat' first
    | with_reducible rfl
    | with_reducible refine (State.laneSync_kept _ _).trans ?_
    | with_reducible refine (State.setLane_kept _ _ _).trans ?_
    | with_reducible refine (State.ssiStart_kept _ _ _).trans ?_
    | with_reducible refine ite_kept ?_ ?_

theorem execRxFlush_keeps (x1) (x2 : State) :
    Keeps (execRxFlush x1 x2) x2 := by
  unfold execRxFlush
  repeat' first
    | with_reducible rfl
    | with_reducible refine (State.wr_kept _ _ _ _ _ _).trans ?_
    | with_reducible refine (State.rxTake_kept _ _ _).trans ?_
    | with_reducible refine (State.setLane_kept _ _ _).trans ?_
    | with_reducible refine keeps_next ?_
    | with_reducible refine ite_keeps ?_ ?_

theorem State.laneAbort_kept (x1 : State) (x2) (x3) :
    State.kept (State.laneAbort x1 x2 x3) = State.kept x1 := by
  unfold State.laneAbort
  repeat' first
    | with_reducible rfl
    | with_reducible refine (State.laneOut_kept _ _ _).trans ?_
    | with_reducible refine (State.setLane_kept _ _ _).trans ?_
    | dsimp only
    | split

theorem State.mbxInc_kept (x1 : State) (x2) (x3) :
    State.kept (State.mbxInc x1 x2 x3) = State.kept x1 := by
  unfold State.mbxInc
  repeat' first
    | with_reducible rfl
    | with_reducible refine (State.wr_kept _ _ _ _ _ _).trans ?_

theorem State.rxEnd_kept (x1 : State) (x2) :
    State.kept (State.rxEnd x1 x2) = State.kept x1 := by
  unfold State.rxEnd
  repeat' first
    | with_reducible rfl
    | with_reducible refine (State.setLane_kept _ _ _).trans ?_
    | with_reducible refine (State.rxPut_kept _ _ _).trans ?_
    | with_reducible refine (State.wr_kept _ _ _ _ _ _).trans ?_
    | with_reducible refine (State.mbxInc_kept _ _ _).trans ?_
    | with_reducible refine (State.count_kept _ _ _ _).trans ?_
    | with_reducible refine (State.irq_kept _ _ _).trans ?_
    | with_reducible refine (State.trkEvent_kept _ _ _ _ _ _).trans ?_
    | with_reducible refine (foldl_kept _ _ (fun _ _ => ?_)).trans ?_
    | with_reducible refine ite_kept ?_ ?_
    | dsimp only
    | split

theorem State.laneLater_kept (x1 : State) (x2) :
    State.kept (State.laneLater x1 x2) = State.kept x1 := by
  unfold State.laneLater
  repeat' first
    | with_reducible rfl
    | with_reducible refine (State.applyDone_kept _ _).trans ?_
    | with_reducible refine (State.laneConfig_kept _ _ _).trans ?_
    | with_reducible refine ite_kept ?_ ?_
    | split

theorem execTxFlush_keeps (x1) (x2 : State) :
    Keeps (execTxFlush x1 x2) x2 := by
  unfold execTxFlush
  repeat' first
    | with_reducible rfl
    | with_reducible refine (State.laneSync_kept _ _).trans ?_
    | with_reducible refine (State.laneAbort_kept _ _ _).trans ?_
    | with_reducible refine (State.setLane_kept _ _ _).trans ?_
    | with_reducible refine (State.rxEnd_kept _ _).trans ?_
    | with_reducible refine (State.laneLater_kept _ _).trans ?_
    | with_reducible refine (State.laneDrain_kept _ _ _).trans ?_
    | with_reducible refine keeps_next ?_
    | with_reducible refine ite_kept ?_ ?_
    | with_reducible refine ite_keeps ?_ ?_
    | dsimp only
    | split

theorem execRxDropRest_keeps (x1) (x2 : State) :
    Keeps (execRxDropRest x1 x2) x2 := by
  unfold execRxDropRest
  repeat' first
    | with_reducible rfl
    | with_reducible refine (State.rxTake_kept _ _ _).trans ?_
    | with_reducible refine (State.setLane_kept _ _ _).trans ?_
    | with_reducible refine (State.wr_kept _ _ _ _ _ _).trans ?_
    | with_reducible refine keeps_next ?_
    | with_reducible refine ite_kept ?_ ?_
    | with_reducible refine ite_keeps ?_ ?_

theorem execTxDropHead_keeps (x1) (x2 : State) :
    Keeps (execTxDropHead x1 x2) x2 := by
  unfold execTxDropHead
  repeat' first
    | with_reducible rfl
    | with_reducible refine (State.laneDrain_kept _ _ _).trans ?_
    | with_reducible refine (State.setLane_kept _ _ _).trans ?_
    | with_reducible refine keeps_next ?_
    | with_reducible refine ite_keeps ?_ ?_

theorem State.setMover_kept (x1 : State) (x2) (x3) :
    State.kept (State.setMover x1 x2 x3) = State.kept x1 := by
  unfold State.setMover
  repeat' first
    | with_reducible refine (State.wr_kept _ _ _ _ _ _).trans ?_
    | dsimp only [State.kept]

theorem State.movFlag_kept (x1 : State) (x2) (x3) (x4) (x5) :
    State.kept (State.movFlag x1 x2 x3 x4 x5) = State.kept x1 := by
  unfold State.movFlag
  repeat' first
    | with_reducible rfl
    | with_reducible refine (State.irq_kept _ _ _).trans ?_
    | with_reducible refine (State.wr64_kept _ _ _ _ _ _ _).trans ?_

theorem State.movError_kept (x1 : State) (x2) (x3) :
    State.kept (State.movError x1 x2 x3) = State.kept x1 := by
  unfold State.movError
  repeat' first
    | with_reducible rfl
    | with_reducible refine (State.wr_kept _ _ _ _ _ _).trans ?_
    | with_reducible refine (State.count_kept _ _ _ _).trans ?_
    | with_reducible refine (State.movFlag_kept _ _ _ _ _).trans ?_

theorem execMoverStart_keeps (x1) (x2 : State) :
    Keeps (execMoverStart x1 x2) x2 := by
  unfold execMoverStart
  repeat' first
    | with_reducible rfl
    | with_reducible refine (State.wr_kept _ _ _ _ _ _).trans ?_
    | with_reducible refine (State.setMover_kept _ _ _).trans ?_
    | with_reducible refine (State.movError_kept _ _ _).trans ?_
    | with_reducible refine keeps_next ?_
    | with_reducible refine ite_keeps ?_ ?_

theorem execMoverStop_keeps (x1) (x2 : State) :
    Keeps (execMoverStop x1 x2) x2 := by
  unfold execMoverStop
  repeat' first
    | with_reducible rfl
    | with_reducible refine (State.wr_kept _ _ _ _ _ _).trans ?_
    | with_reducible refine keeps_next ?_
    | with_reducible refine ite_keeps ?_ ?_

theorem State.rxPop_kept (x1 : State) (x2) (x3) :
    State.kept (State.rxPop x1 x2 x3).1 = State.kept x1 := by
  unfold State.rxPop
  repeat' first
    | with_reducible rfl
    | with_reducible refine (State.rxTake_kept _ _ _).trans ?_
    | with_reducible refine (State.fifoPerr_kept _ _).trans ?_
    | with_reducible refine ite_kept ?_ ?_
    | dsimp only
    | split

theorem State.frameEnd_kept (x1 : State) (x2) (x3) :
    State.kept (State.frameEnd x1 x2 x3) = State.kept x1 := by
  unfold State.frameEnd
  repeat' first
    | with_reducible rfl
    | with_reducible refine (State.count_kept _ _ _ _).trans ?_
    | with_reducible refine (State.laneOut_kept _ _ _).trans ?_
    | with_reducible refine (State.irq_kept _ _ _).trans ?_
    | with_reducible refine (State.txStamp_kept _ _ _ _ _ _).trans ?_
    | with_reducible refine (State.setLane_kept _ _ _).trans ?_
    | with_reducible refine (State.rxEnd_kept _ _).trans ?_
    | with_reducible refine ite_kept ?_ ?_
    | dsimp only
    | split

theorem State.rxWord_kept (x1 : State) (x2) (x3) (x4) :
    State.kept (State.rxWord x1 x2 x3 x4) = State.kept x1 := by
  unfold State.rxWord
  repeat' first
    | with_reducible rfl
    | with_reducible refine (State.count_kept _ _ _ _).trans ?_
    | with_reducible refine (State.mbxInc_kept _ _ _).trans ?_
    | with_reducible refine (State.setLane_kept _ _ _).trans ?_
    | with_reducible refine (State.laneErr_kept _ _ _).trans ?_
    | with_reducible refine (State.rxPut_kept _ _ _).trans ?_
    | with_reducible refine ite_kept ?_ ?_

theorem State.rxStatus_kept (x1 : State) (x2) (x3) :
    State.kept (State.rxStatus x1 x2 x3) = State.kept x1 := by
  unfold State.rxStatus
  repeat' first
    | with_reducible rfl
    | with_reducible refine (State.rxEnd_kept _ _).trans ?_
    | with_reducible refine (State.rxWord_kept _ _ _ _).trans ?_

theorem execLaneFrameDone_keeps (x1) (x2) (x3 : State) :
    Keeps (execLaneFrameDone x1 x2 x3) x3 := by
  unfold execLaneFrameDone
  repeat' first
    | with_reducible rfl
    | with_reducible refine (State.laneNow_kept _ _).trans ?_
    | with_reducible refine (State.laneAbort_kept _ _ _).trans ?_
    | with_reducible refine (State.passTo_kept _ _).trans ?_
    | with_reducible refine (State.rxStatus_kept _ _ _).trans ?_
    | with_reducible refine (State.count_kept _ _ _ _).trans ?_
    | with_reducible refine (State.laneErr_kept _ _ _).trans ?_
    | with_reducible refine (State.laneLater_kept _ _).trans ?_
    | with_reducible refine (State.laneDrain_kept _ _ _).trans ?_
    | with_reducible refine (State.laneSync_kept _ _).trans ?_
    | with_reducible refine (State.setLane_kept _ _ _).trans ?_
    | with_reducible refine (State.frameEnd_kept _ _ _).trans ?_
    | with_reducible refine keeps_next ?_
    | with_reducible refine ite_keeps ?_ ?_
    | dsimp only
    | split

theorem State.movDone_kept (x1 : State) (x2) :
    State.kept (State.movDone x1 x2) = State.kept x1 := by
  unfold State.movDone
  repeat' first
    | with_reducible rfl
    | with_reducible refine (State.movFlag_kept _ _ _ _ _).trans ?_
    | with_reducible refine (State.wr_kept _ _ _ _ _ _).trans ?_

theorem execI2cStretchTimeout_keeps (x1) (x2 : State) :
    Keeps (execI2cStretchTimeout x1 x2) x2 := by
  unfold execI2cStretchTimeout
  repeat' first
    | with_reducible rfl
    | with_reducible refine (State.laneNow_kept _ _).trans ?_
    | with_reducible refine (State.laneAbort_kept _ _ _).trans ?_
    | with_reducible refine (State.pass_kept _ _).trans ?_
    | with_reducible refine (State.emit_kept _ _).trans ?_
    | with_reducible refine (State.laneLater_kept _ _).trans ?_
    | with_reducible refine (State.laneDrain_kept _ _ _).trans ?_
    | with_reducible refine (State.rxStatus_kept _ _ _).trans ?_
    | with_reducible refine (State.laneErr_kept _ _ _).trans ?_
    | with_reducible refine keeps_next ?_
    | with_reducible refine ite_kept ?_ ?_
    | with_reducible refine ite_keeps ?_ ?_
    | dsimp only
    | split

theorem execSsiReadDone_keeps (x1) (x2) (x3) (x4) (x5) (x6 : State) :
    Keeps (execSsiReadDone x1 x2 x3 x4 x5 x6) x6 := by
  unfold execSsiReadDone
  repeat' first
    | with_reducible rfl
    | with_reducible refine (State.passRing_kept _ _).trans ?_
    | with_reducible refine (State.setLane_kept _ _ _).trans ?_
    | with_reducible refine (State.count_kept _ _ _ _).trans ?_
    | with_reducible refine (State.laneErr_kept _ _ _).trans ?_
    | with_reducible refine (State.rxEnd_kept _ _).trans ?_
    | with_reducible refine (State.rxWord_kept _ _ _ _).trans ?_
    | with_reducible refine (State.axisSsi_kept _ _ _ _).trans ?_
    | with_reducible refine (State.laneLater_kept _ _).trans ?_
    | with_reducible refine keeps_next ?_
    | with_reducible refine ite_kept ?_ ?_
    | dsimp only
    | split

theorem execLanePacketEnd_keeps (x1) (x2 : State) :
    Keeps (execLanePacketEnd x1 x2) x2 := by
  unfold execLanePacketEnd
  repeat' first
    | with_reducible rfl
    | with_reducible refine (State.rxEnd_kept _ _).trans ?_
    | with_reducible refine (State.passTo_kept _ _).trans ?_
    | with_reducible refine (State.setLane_kept _ _ _).trans ?_
    | with_reducible refine keeps_next ?_
    | with_reducible refine ite_keeps ?_ ?_

theorem execLaneRxPop_keeps (x1) (x2) (x3) (x4) (x5 : State) :
    Keeps (execLaneRxPop x1 x2 x3 x4 x5) x5 := by
  unfold execLaneRxPop
  repeat' first
    | with_reducible rfl
    | with_reducible refine State.awake_keeps ?_
    | with_reducible refine (State.rxPop_kept _ _ _).trans ?_
    | with_reducible refine (State.rsp_kept _ _ _ _).trans ?_
    | with_reducible refine keeps_next ?_
    | with_reducible refine ite_fst_kept ?_ ?_

theorem State.rxController_kept (x1 : State) (x2) (x3) :
    State.kept (State.rxController x1 x2 x3) = State.kept x1 := by
  unfold State.rxController
  repeat' first
    | with_reducible rfl
    | with_reducible refine (State.laneSync_kept _ _).trans ?_
    | with_reducible refine (State.passTo_kept _ _).trans ?_
    | with_reducible refine (State.laneBegin_kept _ _ _).trans ?_
    | with_reducible refine (State.setLane_kept _ _ _).trans ?_
    | with_reducible refine (State.rxWord_kept _ _ _ _).trans ?_
    | with_reducible refine ite_kept ?_ ?_
    | dsimp only
    | split

theorem execLaneRxChar_keeps (x1) (x2) (x3) (x4) (x5) (x6) (x7 : State) :
    Keeps (execLaneRxChar x1 x2 x3 x4 x5 x6 x7) x7 := by
  unfold execLaneRxChar
  repeat' first
    | with_reducible rfl
    | with_reducible refine (State.rxController_kept _ _ _).trans ?_
    | with_reducible refine (State.count_kept _ _ _ _).trans ?_
    | with_reducible refine (State.laneErr_kept _ _ _).trans ?_
    | with_reducible refine (State.rxStatus_kept _ _ _).trans ?_
    | with_reducible refine (State.setLane_kept _ _ _).trans ?_
    | with_reducible refine (State.rxWord_kept _ _ _ _).trans ?_
    | with_reducible refine (State.rxEnd_kept _ _).trans ?_
    | with_reducible refine keeps_next ?_
    | with_reducible refine ite_kept ?_ ?_
    | with_reducible refine ite_keeps ?_ ?_

theorem execIolNoResponse_keeps (x1) (x2 : State) :
    Keeps (execIolNoResponse x1 x2) x2 := by
  unfold execIolNoResponse
  repeat' first
    | with_reducible rfl
    | with_reducible refine (State.passTo_kept _ _).trans ?_
    | with_reducible refine (State.setLane_kept _ _ _).trans ?_
    | with_reducible refine (State.rxStatus_kept _ _ _).trans ?_
    | with_reducible refine (State.count_kept _ _ _ _).trans ?_
    | with_reducible refine (State.laneErr_kept _ _ _).trans ?_
    | with_reducible refine keeps_next ?_
    | with_reducible refine ite_keeps ?_ ?_

theorem execMoverBackoffEnd_keeps (x1) (x2 : State) :
    Keeps (execMoverBackoffEnd x1 x2) x2 := by
  unfold execMoverBackoffEnd
  repeat' first
    | with_reducible rfl
    | with_reducible refine (State.passTo_kept _ _).trans ?_
    | with_reducible refine (State.setMover_kept _ _ _).trans ?_
    | with_reducible refine keeps_next ?_
    | dsimp only
    | split

/-! ## Cog.lean -/

theorem State.cogClk_kept (x1 : State) (x2) (x3) :
    State.kept (State.cogClk x1 x2 x3) = State.kept x1 := by
  unfold State.cogClk
  repeat' first
    | with_reducible rfl
    | with_reducible refine (State.cogPins_kept _ _ _ _).trans ?_
    | with_reducible refine ite_kept ?_ ?_
    | split

theorem State.setSR_kept (x1 : State) (x2) (x3) (x4) :
    State.kept (State.setSR x1 x2 x3 x4) = State.kept x1 := by
  unfold State.setSR
  repeat' first
    | with_reducible rfl
    | with_reducible refine (State.cogWr_kept _ _ _ _).trans ?_

theorem State.cogEmit_kept (x1 : State) (x2) (x3) :
    State.kept (State.cogEmit x1 x2 x3) = State.kept x1 := by
  unfold State.cogEmit
  repeat' first
    | with_reducible rfl
    | with_reducible refine (State.cogClk_kept _ _ _).trans ?_
    | with_reducible refine (State.setSR_kept _ _ _ _).trans ?_
    | with_reducible refine (State.cogPins_kept _ _ _ _).trans ?_

theorem State.cogMbxSet_kept (x1 : State) (x2) (x3) (x4) :
    State.kept (State.cogMbxSet x1 x2 x3 x4) = State.kept x1 := by
  unfold State.cogMbxSet
  repeat' first
    | with_reducible rfl
    | with_reducible refine (State.setCogSt_kept _ _ _).trans ?_
    | with_reducible refine (State.wr_kept _ _ _ _ _ _).trans ?_

theorem State.cogDisable_kept (x1 : State) (x2) :
    State.kept (State.cogDisable x1 x2) = State.kept x1 := by
  unfold State.cogDisable
  repeat' first
    | with_reducible rfl
    | with_reducible refine (State.cogStop_kept _ _).trans ?_
    | with_reducible refine (foldl_kept _ _ (fun _ _ => ?_)).trans ?_

theorem State.cogNoResume_kept (x1 : State) (x2) :
    State.kept (State.cogNoResume x1 x2) = State.kept x1 := by
  unfold State.cogNoResume
  repeat' first
    | with_reducible rfl
    | with_reducible refine (State.cogWr_kept _ _ _ _).trans ?_
    | with_reducible refine (foldl_kept _ _ (fun _ _ => ?_)).trans ?_

theorem State.cogGen_kept (x1 : State) (x2) :
    State.kept (State.cogGen x1 x2) = State.kept x1 := by
  unfold State.cogGen
  repeat' first
    | with_reducible rfl
    | with_reducible refine (State.cogNoResume_kept _ _).trans ?_
    | with_reducible refine (State.wr_kept _ _ _ _ _ _).trans ?_

theorem State.cogStoreWrite_kept (x1 : State) (x2) (x3) (x4) :
    State.kept (State.cogStoreWrite x1 x2 x3 x4) = State.kept x1 := by
  unfold State.cogStoreWrite
  repeat' first
    | with_reducible rfl
    | with_reducible refine (State.wr_kept _ _ _ _ _ _).trans ?_
    | with_reducible refine (State.count_kept _ _ _ _).trans ?_
    | with_reducible refine (State.irq_kept _ _ _).trans ?_
    | with_reducible refine (State.cogGen_kept _ _).trans ?_
    | with_reducible refine ite_kept ?_ ?_

theorem State.cogTouched_kept (x1 : State) (x2) :
    State.kept (State.cogTouched x1 x2) = State.kept x1 := by
  unfold State.cogTouched
  repeat' first
    | with_reducible rfl
    | with_reducible refine (State.cogWr_kept _ _ _ _).trans ?_
    | with_reducible refine ite_kept ?_ ?_

theorem State.cogCfgWrite_kept (x1 : State) (x2) (x3) :
    State.kept (State.cogCfgWrite x1 x2 x3) = State.kept x1 := by
  unfold State.cogCfgWrite
  repeat' first
    | with_reducible rfl
    | with_reducible refine (State.cogTouched_kept _ _).trans ?_
    | with_reducible refine (State.setWord_kept _ _ _ _ _).trans ?_
    | with_reducible refine ite_kept ?_ ?_

theorem State.cogRelease_kept (x1 : State) (x2) :
    State.kept (State.cogRelease x1 x2) = State.kept x1 := by
  unfold State.cogRelease
  repeat' first
    | with_reducible rfl
    | with_reducible refine (State.wr_kept _ _ _ _ _ _).trans ?_
    | with_reducible refine (State.cogPins_kept _ _ _ _).trans ?_
    | with_reducible refine (State.cogWr_kept _ _ _ _).trans ?_
    | with_reducible refine ite_kept ?_ ?_

theorem State.cogClaim_kept (x1 : State) (x2) :
    State.kept (State.cogClaim x1 x2) = State.kept x1 := by
  unfold State.cogClaim
  repeat' first
    | with_reducible rfl
    | with_reducible refine (State.cogWr_kept _ _ _ _).trans ?_
    | with_reducible refine (State.setLane_kept _ _ _).trans ?_
    | with_reducible refine (State.wr_kept _ _ _ _ _ _).trans ?_
    | with_reducible refine (State.cogPins_kept _ _ _ _).trans ?_
    | with_reducible refine ite_kept ?_ ?_

theorem State.cogClaimWrite_kept (x1 : State) (x2) (x3) :
    State.kept (State.cogClaimWrite x1 x2 x3) = State.kept x1 := by
  unfold State.cogClaimWrite
  repeat' first
    | with_reducible rfl
    | with_reducible refine (State.cogRelease_kept _ _).trans ?_
    | with_reducible refine (State.cogWr_kept _ _ _ _).trans ?_
    | with_reducible refine (State.cogTouched_kept _ _).trans ?_
    | with_reducible refine (State.cogClaim_kept _ _).trans ?_
    | with_reducible refine ite_kept ?_ ?_

theorem State.setToken_kept (x1 : State) (x2) (x3) (x4) :
    State.kept (State.setToken x1 x2 x3 x4) = State.kept x1 := by
  unfold State.setToken
  repeat' first
    | with_reducible refine (State.wr_kept _ _ _ _ _ _).trans ?_
    | dsimp only [State.kept]

theorem State.awaitDone_kept (x1 : State) (x2) (x3) :
    State.kept (State.awaitDone x1 x2 x3) = State.kept x1 := by
  unfold State.awaitDone
  repeat' first
    | with_reducible rfl
    | with_reducible refine (State.cogWr_kept _ _ _ _).trans ?_
    | with_reducible refine (State.setToken_kept _ _ _ _).trans ?_
    | with_reducible refine ite_kept ?_ ?_

theorem State.cogLook_kept (x1 : State) (x2) (x3) :
    State.kept (State.cogLook x1 x2 x3) = State.kept x1 := by
  unfold State.cogLook
  repeat' first
    | with_reducible rfl
    | with_reducible refine (State.cogWr_kept _ _ _ _).trans ?_

theorem State.loopWr_kept (x1 : State) (x2) (x3) (x4) (x5) :
    State.kept (State.loopWr x1 x2 x3 x4 x5) = State.kept x1 := by
  unfold State.loopWr
  repeat' first
    | with_reducible rfl
    | with_reducible refine (State.wr_kept _ _ _ _ _ _).trans ?_

theorem State.loopClose_kept (x1 : State) (x2) :
    State.kept (State.loopClose x1 x2) = State.kept x1 := by
  unfold State.loopClose
  repeat' first
    | with_reducible rfl
    | with_reducible refine (State.loopWr_kept _ _ _ _ _).trans ?_
    | split

theorem State.cogPass_kept (x1 : State) (x2) :
    State.kept (State.cogPass x1 x2) = State.kept x1 := by
  unfold State.cogPass
  repeat' first
    | with_reducible rfl
    | with_reducible refine (State.setCogSt_kept _ _ _).trans ?_
    | with_reducible refine (State.loopWr_kept _ _ _ _ _).trans ?_
    | with_reducible refine (State.loopClose_kept _ _).trans ?_
    | with_reducible refine ite_kept ?_ ?_
    | dsimp only
    | split

theorem State.cogFault_kept (x1 : State) (x2) (x3) :
    State.kept (State.cogFault x1 x2 x3) = State.kept x1 := by
  unfold State.cogFault
  repeat' first
    | with_reducible rfl
    | with_reducible refine (State.cogWr_kept _ _ _ _).trans ?_
    | with_reducible refine (State.cogUnstall_kept _ _).trans ?_
    | with_reducible refine (State.count_kept _ _ _ _).trans ?_
    | with_reducible refine (State.irq_kept _ _ _).trans ?_

theorem State.cogFetch_kept (x1 : State) (x2) (x3) (x4) (x5) (x6) (hb : ∀ t w, State.kept (x6 t w) = State.kept t) :
    State.kept (State.cogFetch x1 x2 x3 x4 x5 x6) = State.kept x1 := by
  unfold State.cogFetch
  repeat' first
    | with_reducible rfl
    | with_reducible refine (hb _ _).trans ?_
    | with_reducible refine (State.cogLook_kept _ _ _).trans ?_
    | with_reducible refine (State.cogPass_kept _ _).trans ?_
    | with_reducible refine (State.passTo_kept _ _).trans ?_
    | with_reducible refine (State.fault_kept _ _ _ _ _ _).trans ?_
    | with_reducible refine (State.cogFault_kept _ _ _).trans ?_
    | with_reducible refine ite_kept ?_ ?_

theorem State.cogGo_kept (x1 : State) (x2) (x3) (x4) :
    State.kept (State.cogGo x1 x2 x3 x4) = State.kept x1 := by
  unfold State.cogGo
  repeat' first
    | with_reducible rfl
    | with_reducible refine (State.cogWr_kept _ _ _ _).trans ?_
    | with_reducible refine (State.cogUnstall_kept _ _).trans ?_
    | with_reducible refine (State.setCogSt_kept _ _ _).trans ?_
    | with_reducible refine (State.count_kept _ _ _ _).trans ?_

theorem State.cogLoop_kept (x1 : State) (x2) (x3) :
    State.kept (State.cogLoop x1 x2 x3) = State.kept x1 := by
  unfold State.cogLoop
  repeat' first
    | with_reducible rfl
    | with_reducible refine (State.cogGo_kept _ _ _ _).trans ?_
    | with_reducible refine (State.cogFault_kept _ _ _).trans ?_
    | with_reducible refine (State.loopWr_kept _ _ _ _ _).trans ?_
    | with_reducible refine ite_kept ?_ ?_
    | dsimp only
    | split

theorem execCogLoop_keeps (x1) (x2) (x3) (x4 : State) :
    Keeps (execCogLoop x1 x2 x3 x4) x4 := by
  unfold execCogLoop
  repeat' first
    | with_reducible rfl
    | with_reducible refine (State.cogFetch_kept _ _ _ _ _ _ (fun _ _ => ?_)).trans ?_
    | with_reducible refine (State.cogLoop_kept _ _ _).trans ?_
    | with_reducible refine keeps_next ?_

theorem State.cogEnd_kept (x1 : State) (x2) :
    State.kept (State.cogEnd x1 x2).1 = State.kept x1 := by
  unfold State.cogEnd
  repeat' first
    | with_reducible rfl
    | with_reducible refine (State.setCogSt_kept _ _ _).trans ?_
    | with_reducible refine ite_fst_kept ?_ ?_
    | dsimp only
    | split

theorem State.cogNext_kept (x1 : State) (x2) (x3) :
    State.kept (State.cogNext x1 x2 x3) = State.kept x1 := by
  unfold State.cogNext
  repeat' first
    | with_reducible rfl
    | with_reducible refine (State.cogEnd_kept _ _).trans ?_
    | with_reducible refine (State.cogGo_kept _ _ _ _).trans ?_

theorem State.setCogG_kept (x1 : State) (x2) (x3) (x4) :
    State.kept (State.setCogG x1 x2 x3 x4) = State.kept x1 := by
  unfold State.setCogG
  repeat' first
    | with_reducible rfl
    | with_reducible refine (State.cogWr_kept _ _ _ _).trans ?_

theorem State.cogTake_kept (x1 : State) (x2) (x3) (x4) :
    ∀ t, State.cogTake x1 x2 x3 x4 = some t → State.kept t = State.kept x1 := by
  unfold State.cogTake
  intro t h
  (try dsimp only at h)
  (repeat' split at h) <;> (try cases h)
  repeat' first
    | with_reducible rfl
    | with_reducible refine (State.count_kept _ _ _ _).trans ?_
    | with_reducible refine (State.setLane_kept _ _ _).trans ?_
    | with_reducible refine (State.fifoPerr_kept _ _).trans ?_
    | with_reducible refine (State.cogWr_kept _ _ _ _).trans ?_
    | with_reducible refine (State.setCogG_kept _ _ _ _).trans ?_
    | with_reducible refine (State.setSR_kept _ _ _ _).trans ?_
    | with_reducible refine (State.laneDrain_kept _ _ _).trans ?_

theorem State.cogWaited_kept (x1 : State) (x2) (x3) :
    State.kept (State.cogWaited x1 x2 x3) = State.kept x1 := by
  unfold State.cogWaited
  repeat' first
    | with_reducible rfl
    | with_reducible refine (State.cogNext_kept _ _ _).trans ?_

theorem State.cogPut_kept (x1 : State) (x2) (x3) (x4) :
    ∀ t, State.cogPut x1 x2 x3 x4 = some t → State.kept t = State.kept x1 := by
  unfold State.cogPut
  intro t h
  (try dsimp only at h)
  (repeat' split at h) <;> (try cases h)
  repeat' first
    | with_reducible rfl
    | with_reducible refine (State.count_kept _ _ _ _).trans ?_
    | with_reducible refine (State.wr_kept _ _ _ _ _ _).trans ?_
    | with_reducible refine (State.rxPut_kept _ _ _).trans ?_
    | with_reducible refine (State.trkEvent_kept _ _ _ _ _ _).trans ?_
    | with_reducible refine (State.irq_kept _ _ _).trans ?_

theorem State.cogGive_kept (x1 : State) (x2) (x3) :
    ∀ t, State.cogGive x1 x2 x3 = some t → State.kept t = State.kept x1 := by
  unfold State.cogGive
  intro t h
  (try dsimp only at h)
  (repeat' split at h) <;> (try cases h) <;> (try obtain ⟨_, _, rfl⟩ := Option.map_eq_some_iff.mp h)
  repeat' first
    | with_reducible rfl
    | with_reducible refine (State.setSR_kept _ _ _ _).trans ?_
    | with_reducible refine (State.wr_kept _ _ _ _ _ _).trans ?_
    | with_reducible refine (State.setCogSt_kept _ _ _).trans ?_
    | with_reducible refine (State.cogPut_kept _ _ _ _ _ (by assumption)).trans ?_

theorem State.cogMarkPut_kept (x1) (x2 : State) (x3) :
    State.kept (State.cogMarkPut x1 x2 x3) = State.kept x2 := by
  induction x1 generalizing x2 with
  | zero =>
    unfold State.cogMarkPut
    repeat' first
      | with_reducible rfl
  | succ k ih =>
    unfold State.cogMarkPut
    repeat' first
      | with_reducible refine (ih _).trans ?_
      | with_reducible rfl
      | with_reducible refine (State.cogPut_kept _ _ _ _ _ (by assumption)).trans ?_
      | with_reducible refine (State.setCogSt_kept _ _ _).trans ?_
      | dsimp only
      | split

theorem execCogWaitDone_keeps (x1) (x2) (x3) (x4 : State) :
    Keeps (execCogWaitDone x1 x2 x3 x4) x4 := by
  unfold execCogWaitDone
  repeat' first
    | with_reducible rfl
    | with_reducible refine (State.cogNext_kept _ _ _).trans ?_
    | with_reducible refine (State.cogWr_kept _ _ _ _).trans ?_
    | with_reducible refine (State.cogLook_kept _ _ _).trans ?_
    | with_reducible refine (State.cogUnstall_kept _ _).trans ?_
    | with_reducible refine (State.passTo_kept _ _).trans ?_
    | with_reducible refine (State.setCogSt_kept _ _ _).trans ?_
    | with_reducible refine (State.cogTake_kept _ _ _ _ _ (by assumption)).trans ?_
    | with_reducible refine (State.cogWaited_kept _ _ _).trans ?_
    | with_reducible refine (State.cogGive_kept _ _ _ _ (by assumption)).trans ?_
    | with_reducible refine (State.awaitDone_kept _ _ _).trans ?_
    | with_reducible refine (State.cogMarkPut_kept _ _ _).trans ?_
    | with_reducible refine keeps_next ?_
    | with_reducible refine ite_keeps ?_ ?_
    | dsimp only
    | split

theorem State.cogWait_kept (x1 : State) (x2) (x3) (x4) :
    State.kept (State.cogWait x1 x2 x3 x4) = State.kept x1 := by
  unfold State.cogWait
  repeat' first
    | with_reducible rfl
    | with_reducible refine (State.cogWr_kept _ _ _ _).trans ?_
    | with_reducible refine (State.setCogSt_kept _ _ _).trans ?_

theorem execCogAwait_keeps (x1) (x2) (x3) (x4 : State) :
    Keeps (execCogAwait x1 x2 x3 x4) x4 := by
  unfold execCogAwait
  repeat' first
    | with_reducible rfl
    | with_reducible refine (State.cogFetch_kept _ _ _ _ _ _ (fun _ _ => ?_)).trans ?_
    | with_reducible refine (State.cogNext_kept _ _ _).trans ?_
    | with_reducible refine (State.awaitDone_kept _ _ _).trans ?_
    | with_reducible refine (State.cogWait_kept _ _ _ _).trans ?_
    | with_reducible refine keeps_next ?_
    | with_reducible refine ite_kept ?_ ?_

theorem State.cogSoft_kept (x1 : State) (x2) :
    State.kept (State.cogSoft x1 x2) = State.kept x1 := by
  unfold State.cogSoft
  repeat' first
    | with_reducible rfl
    | with_reducible refine (State.cogRelease_kept _ _).trans ?_
    | with_reducible refine (State.cogUnstall_kept _ _).trans ?_
    | with_reducible refine (State.setCogSt_kept _ _ _).trans ?_
    | with_reducible refine (foldl_kept _ _ (fun _ _ => ?_)).trans ?_
    | dsimp only [State.kept]

theorem State.tokenClear_kept (x1 : State) (x2) (x3) :
    State.kept (State.tokenClear x1 x2 x3) = State.kept x1 := by
  unfold State.tokenClear
  repeat' first
    | with_reducible rfl
    | with_reducible refine (State.setToken_kept _ _ _ _).trans ?_

theorem State.cogBranch_kept (x1 : State) (x2) (x3) :
    State.kept (State.cogBranch x1 x2 x3) = State.kept x1 := by
  unfold State.cogBranch
  repeat' first
    | with_reducible rfl
    | with_reducible refine (State.cogGo_kept _ _ _ _).trans ?_
    | with_reducible refine (State.loopClose_kept _ _).trans ?_
    | with_reducible refine (State.cogNext_kept _ _ _).trans ?_
    | with_reducible refine ite_kept ?_ ?_

theorem State.tokenGive_kept (x1 : State) (x2) (x3) (x4) :
    State.kept (State.tokenGive x1 x2 x3 x4) = State.kept x1 := by
  unfold State.tokenGive
  repeat' first
    | with_reducible rfl
    | with_reducible refine (State.setToken_kept _ _ _ _).trans ?_
    | with_reducible refine (State.count_kept _ _ _ _).trans ?_
    | with_reducible refine (State.irq_kept _ _ _).trans ?_
    | with_reducible refine ite_kept ?_ ?_

theorem State.cogSignal_kept (x1 : State) (x2) (x3) :
    State.kept (State.cogSignal x1 x2 x3) = State.kept x1 := by
  unfold State.cogSignal
  repeat' first
    | with_reducible rfl
    | with_reducible refine (State.count_kept _ _ _ _).trans ?_
    | with_reducible refine (State.setCogSt_kept _ _ _).trans ?_
    | with_reducible refine (State.trkEvent_kept _ _ _ _ _ _).trans ?_
    | with_reducible refine (State.irq_kept _ _ _).trans ?_
    | with_reducible refine (State.tokenGive_kept _ _ _ _).trans ?_
    | with_reducible refine ite_kept ?_ ?_

theorem execCogSignal_keeps (x1) (x2) (x3) (x4 : State) :
    Keeps (execCogSignal x1 x2 x3 x4) x4 := by
  unfold execCogSignal
  repeat' first
    | with_reducible rfl
    | with_reducible refine (State.cogFetch_kept _ _ _ _ _ _ (fun _ _ => ?_)).trans ?_
    | with_reducible refine (State.cogNext_kept _ _ _).trans ?_
    | with_reducible refine (State.cogSignal_kept _ _ _).trans ?_
    | with_reducible refine keeps_next ?_

theorem State.cogMask_kept (x1 : State) (x2) (x3) (x4) (hb : ∀ t w, State.kept (x4 t w) = State.kept t) :
    State.kept (State.cogMask x1 x2 x3 x4) = State.kept x1 := by
  unfold State.cogMask
  repeat' first
    | with_reducible rfl
    | with_reducible refine (hb _ _).trans ?_
    | with_reducible refine (foldl_kept _ _ (fun _ _ => ?_)).trans ?_
    | with_reducible refine ite_kept ?_ ?_

theorem State.cogRes_kept (x1 : State) (x2) (x3) :
    State.kept (State.cogRes x1 x2 x3) = State.kept x1 := by
  unfold State.cogRes
  repeat' first
    | with_reducible rfl
    | with_reducible refine (State.wr_kept _ _ _ _ _ _).trans ?_

theorem State.cogRefuse_kept (x1 : State) (x2) (x3) :
    State.kept (State.cogRefuse x1 x2 x3) = State.kept x1 := by
  unfold State.cogRefuse
  repeat' first
    | with_reducible rfl
    | with_reducible refine (State.count_kept _ _ _ _).trans ?_
    | with_reducible refine (State.irq_kept _ _ _).trans ?_
    | with_reducible refine (State.cogRes_kept _ _ _).trans ?_

theorem State.cogRefuseOpen_kept (x1 : State) (x2) :
    State.kept (State.cogRefuseOpen x1 x2) = State.kept x1 := by
  unfold State.cogRefuseOpen
  repeat' first
    | with_reducible rfl
    | with_reducible refine (State.drawn_kept _).trans ?_
    | with_reducible refine (State.cogRefuse_kept _ _ _).trans ?_

theorem State.cogStart_kept (x1 : State) (x2) :
    State.kept (State.cogStart x1 x2) = State.kept x1 := by
  unfold State.cogStart
  repeat' first
    | with_reducible rfl
    | with_reducible refine (State.cogRefuse_kept _ _ _).trans ?_
    | with_reducible refine (State.cogRefuseOpen_kept _ _).trans ?_
    | with_reducible refine (State.cogWr_kept _ _ _ _).trans ?_
    | with_reducible refine (State.setCogG_kept _ _ _ _).trans ?_
    | with_reducible refine (State.setSR_kept _ _ _ _).trans ?_
    | with_reducible refine (State.setWord_kept _ _ _ _ _).trans ?_
    | with_reducible refine (State.cogRes_kept _ _ _).trans ?_
    | with_reducible refine (State.setCogSt_kept _ _ _).trans ?_
    | with_reducible refine (foldl_kept _ _ (fun _ _ => ?_)).trans ?_
    | with_reducible refine ite_kept ?_ ?_

theorem execCogCmdStart_keeps (x1) (x2) (x3 : State) :
    Keeps (execCogCmdStart x1 x2 x3) x3 := by
  unfold execCogCmdStart
  repeat' first
    | with_reducible rfl
    | with_reducible refine (State.cogMask_kept _ _ _ _ (fun _ _ => ?_)).trans ?_
    | with_reducible refine (State.cogStart_kept _ _).trans ?_
    | with_reducible refine keeps_next ?_

theorem execCogCmdStop_keeps (x1) (x2) (x3 : State) :
    Keeps (execCogCmdStop x1 x2 x3) x3 := by
  unfold execCogCmdStop
  repeat' first
    | with_reducible rfl
    | with_reducible refine (State.cogMask_kept _ _ _ _ (fun _ _ => ?_)).trans ?_
    | with_reducible refine (State.cogRefuse_kept _ _ _).trans ?_
    | with_reducible refine (State.cogRes_kept _ _ _).trans ?_
    | with_reducible refine (State.cogStop_kept _ _).trans ?_
    | with_reducible refine (State.cogRefuseOpen_kept _ _).trans ?_
    | with_reducible refine keeps_next ?_
    | with_reducible refine ite_kept ?_ ?_

theorem execCogCmdResume_keeps (x1) (x2) (x3 : State) :
    Keeps (execCogCmdResume x1 x2 x3) x3 := by
  unfold execCogCmdResume
  repeat' first
    | with_reducible rfl
    | with_reducible refine (State.cogMask_kept _ _ _ _ (fun _ _ => ?_)).trans ?_
    | with_reducible refine (State.cogRefuse_kept _ _ _).trans ?_
    | with_reducible refine (State.cogRefuseOpen_kept _ _).trans ?_
    | with_reducible refine (State.cogRes_kept _ _ _).trans ?_
    | with_reducible refine (State.cogWr_kept _ _ _ _).trans ?_
    | with_reducible refine (State.setCogSt_kept _ _ _).trans ?_
    | with_reducible refine keeps_next ?_
    | with_reducible refine ite_kept ?_ ?_

theorem execCogTokenGive_keeps (x1) (x2) (x3 : State) :
    Keeps (execCogTokenGive x1 x2 x3) x3 := by
  unfold execCogTokenGive
  repeat' first
    | with_reducible rfl
    | with_reducible refine (State.tokenGive_kept _ _ _ _).trans ?_
    | with_reducible refine keeps_next ?_
    | with_reducible refine (foldl_kept _ _ (fun _ _ => ?_)).trans ?_
    | with_reducible refine ite_keeps ?_ ?_

theorem execCogTokenClr_keeps (x1) (x2) (x3 : State) :
    Keeps (execCogTokenClr x1 x2 x3) x3 := by
  unfold execCogTokenClr
  repeat' first
    | with_reducible rfl
    | with_reducible refine (State.tokenClear_kept _ _ _).trans ?_
    | with_reducible refine keeps_next ?_
    | with_reducible refine (foldl_kept _ _ (fun _ _ => ?_)).trans ?_
    | with_reducible refine ite_kept ?_ ?_
    | with_reducible refine ite_keeps ?_ ?_

theorem execCogMark_keeps (x1) (x2) (x3) (x4 : State) :
    Keeps (execCogMark x1 x2 x3 x4) x4 := by
  unfold execCogMark
  repeat' first
    | with_reducible rfl
    | with_reducible refine (State.cogFetch_kept _ _ _ _ _ _ (fun _ _ => ?_)).trans ?_
    | with_reducible refine (State.cogNext_kept _ _ _).trans ?_
    | with_reducible refine (State.cogWr_kept _ _ _ _).trans ?_
    | with_reducible refine (State.cogWait_kept _ _ _ _).trans ?_
    | with_reducible refine (State.setCogSt_kept _ _ _).trans ?_
    | with_reducible refine (State.cogMarkPut_kept _ _ _).trans ?_
    | with_reducible refine keeps_next ?_
    | with_reducible refine ite_kept ?_ ?_

theorem execCogCfgWrite_keeps (x1) (x2) (x3 : State) :
    Keeps (execCogCfgWrite x1 x2 x3) x3 := by
  unfold execCogCfgWrite
  repeat' first
    | with_reducible rfl
    | with_reducible refine (State.cogCfgWrite_kept _ _ _).trans ?_
    | with_reducible refine keeps_next ?_
    | with_reducible refine ite_keeps ?_ ?_

theorem State.cogLoad_kept (x1 : State) (x2) (x3) :
    State.kept (State.cogLoad x1 x2 x3) = State.kept x1 := by
  unfold State.cogLoad
  repeat' first
    | with_reducible rfl
    | with_reducible refine (State.setCogG_kept _ _ _ _).trans ?_
    | with_reducible refine (State.setSR_kept _ _ _ _).trans ?_
    | with_reducible refine (State.setCogSt_kept _ _ _).trans ?_
    | with_reducible refine ite_kept ?_ ?_
    | dsimp only
    | split

theorem execCogLoad_keeps (x1) (x2) (x3) (x4 : State) :
    Keeps (execCogLoad x1 x2 x3 x4) x4 := by
  unfold execCogLoad
  repeat' first
    | with_reducible rfl
    | with_reducible refine (State.cogFetch_kept _ _ _ _ _ _ (fun _ _ => ?_)).trans ?_
    | with_reducible refine (State.cogNext_kept _ _ _).trans ?_
    | with_reducible refine (State.cogLoad_kept _ _ _).trans ?_
    | with_reducible refine keeps_next ?_

theorem execCogTake_keeps (x1) (x2) (x3) (x4) (x5 : State) :
    Keeps (execCogTake x1 x2 x3 x4 x5) x5 := by
  unfold execCogTake
  repeat' first
    | with_reducible rfl
    | with_reducible refine (State.cogFetch_kept _ _ _ _ _ _ (fun _ _ => ?_)).trans ?_
    | with_reducible refine (State.cogTake_kept _ _ _ _ _ (by assumption)).trans ?_
    | with_reducible refine (State.cogNext_kept _ _ _).trans ?_
    | with_reducible refine (State.cogWait_kept _ _ _ _).trans ?_
    | with_reducible refine keeps_next ?_
    | split

theorem State.cogSample_kept (x1 : State) (x2) (x3) :
    State.kept (State.cogSample x1 x2 x3) = State.kept x1 := by
  unfold State.cogSample
  repeat' first
    | with_reducible rfl
    | with_reducible refine (State.cogClk_kept _ _ _).trans ?_
    | with_reducible refine (State.setSR_kept _ _ _ _).trans ?_

theorem State.cogDrive_kept (x1 : State) (x2) (x3) :
    State.kept (State.cogDrive x1 x2 x3) = State.kept x1 := by
  unfold State.cogDrive
  repeat' first
    | with_reducible rfl
    | with_reducible refine (State.cogPins_kept _ _ _ _).trans ?_

theorem execCogDrive_keeps (x1) (x2) (x3) (x4 : State) :
    Keeps (execCogDrive x1 x2 x3 x4) x4 := by
  unfold execCogDrive
  repeat' first
    | with_reducible rfl
    | with_reducible refine (State.cogFetch_kept _ _ _ _ _ _ (fun _ _ => ?_)).trans ?_
    | with_reducible refine (State.cogNext_kept _ _ _).trans ?_
    | with_reducible refine (State.cogDrive_kept _ _ _).trans ?_
    | with_reducible refine keeps_next ?_

theorem execCogSample_keeps (x1) (x2) (x3) (x4 : State) :
    Keeps (execCogSample x1 x2 x3 x4) x4 := by
  unfold execCogSample
  repeat' first
    | with_reducible rfl
    | with_reducible refine (State.cogFetch_kept _ _ _ _ _ _ (fun _ _ => ?_)).trans ?_
    | with_reducible refine (State.cogNext_kept _ _ _).trans ?_
    | with_reducible refine (State.cogSample_kept _ _ _).trans ?_
    | with_reducible refine keeps_next ?_

theorem execCogEmit_keeps (x1) (x2) (x3) (x4 : State) :
    Keeps (execCogEmit x1 x2 x3 x4) x4 := by
  unfold execCogEmit
  repeat' first
    | with_reducible rfl
    | with_reducible refine (State.cogFetch_kept _ _ _ _ _ _ (fun _ _ => ?_)).trans ?_
    | with_reducible refine (State.cogNext_kept _ _ _).trans ?_
    | with_reducible refine (State.cogEmit_kept _ _ _).trans ?_
    | with_reducible refine keeps_next ?_

theorem execCogGive_keeps (x1) (x2) (x3) (x4 : State) :
    Keeps (execCogGive x1 x2 x3 x4) x4 := by
  unfold execCogGive
  repeat' first
    | with_reducible rfl
    | with_reducible refine (State.cogFetch_kept _ _ _ _ _ _ (fun _ _ => ?_)).trans ?_
    | with_reducible refine (State.cogGive_kept _ _ _ _ (by assumption)).trans ?_
    | with_reducible refine (State.cogNext_kept _ _ _).trans ?_
    | with_reducible refine (State.cogWait_kept _ _ _ _).trans ?_
    | with_reducible refine keeps_next ?_
    | split

theorem execCogBranch_keeps (x1) (x2) (x3) (x4 : State) :
    Keeps (execCogBranch x1 x2 x3 x4) x4 := by
  unfold execCogBranch
  repeat' first
    | with_reducible rfl
    | with_reducible refine (State.cogFetch_kept _ _ _ _ _ _ (fun _ _ => ?_)).trans ?_
    | with_reducible refine (State.cogBranch_kept _ _ _).trans ?_
    | with_reducible refine keeps_next ?_

theorem execAwaitTimeout_keeps (x1) (x2 : State) :
    Keeps (execAwaitTimeout x1 x2) x2 := by
  unfold execAwaitTimeout
  repeat' first
    | with_reducible rfl
    | with_reducible refine (State.cogLook_kept _ _ _).trans ?_
    | with_reducible refine (State.passTo_kept _ _).trans ?_
    | with_reducible refine (State.cogWaited_kept _ _ _).trans ?_
    | with_reducible refine (State.awaitDone_kept _ _ _).trans ?_
    | with_reducible refine (State.cogWr_kept _ _ _ _).trans ?_
    | with_reducible refine keeps_next ?_
    | with_reducible refine ite_kept ?_ ?_
    | with_reducible refine ite_keeps ?_ ?_

theorem execCogStoreWrite_keeps (x1) (x2) (x3) (x4 : State) :
    Keeps (execCogStoreWrite x1 x2 x3 x4) x4 := by
  unfold execCogStoreWrite
  repeat' first
    | with_reducible rfl
    | with_reducible refine (State.cogStoreWrite_kept _ _ _ _).trans ?_
    | with_reducible refine keeps_next ?_
    | with_reducible refine ite_keeps ?_ ?_

theorem execCogClaimWrite_keeps (x1) (x2) (x3 : State) :
    Keeps (execCogClaimWrite x1 x2 x3) x3 := by
  unfold execCogClaimWrite
  repeat' first
    | with_reducible rfl
    | with_reducible refine (State.cogClaimWrite_kept _ _ _).trans ?_
    | with_reducible refine keeps_next ?_
    | with_reducible refine ite_keeps ?_ ?_

/-! ## Power.lean -/

theorem State.sluImage_kept (x1 : State) (x2) (x3) :
    State.kept (State.sluImage x1 x2 x3) = State.kept x1 := by
  unfold State.sluImage
  repeat' first
    | with_reducible rfl
    | with_reducible refine (State.irq_kept _ _ _).trans ?_
    | with_reducible refine (State.sluLevel_kept _ _ _).trans ?_
    | with_reducible refine ite_kept ?_ ?_

theorem State.sluSoft_kept (x1 : State) (x2) :
    State.kept (State.sluSoft x1 x2) = State.kept x1 := by
  unfold State.sluSoft
  repeat' first
    | with_reducible rfl
    | with_reducible refine (State.sluTo_kept _ _ _).trans ?_
    | with_reducible refine (State.wr_kept _ _ _ _ _ _).trans ?_
    | with_reducible refine (State.setShadow_kept _ _ _ _).trans ?_
    | with_reducible refine (State.setWord_kept _ _ _ _ _).trans ?_
    | with_reducible refine (foldl_kept _ _ (fun _ _ => ?_)).trans ?_
    | with_reducible refine ite_kept ?_ ?_

theorem State.overvoltOff_kept (x1 : State) :
    State.kept (State.overvoltOff x1) = State.kept x1 := by
  unfold State.overvoltOff
  repeat' first
    | with_reducible rfl
    | with_reducible refine (State.wr_kept _ _ _ _ _ _).trans ?_
    | with_reducible refine (State.sluTo_kept _ _ _).trans ?_
    | with_reducible refine (foldl_kept _ _ (fun _ _ => ?_)).trans ?_
    | with_reducible refine ite_kept ?_ ?_

theorem State.pfault_kept (x1 : State) (x2) (x3) (x4) :
    State.kept (State.pfault x1 x2 x3 x4) = State.kept x1 := by
  unfold State.pfault
  repeat' first
    | with_reducible rfl
    | with_reducible refine (State.fault_kept _ _ _ _ _ _).trans ?_
    | with_reducible refine ite_kept ?_ ?_

theorem State.sluFault_kept (x1 : State) (x2) (x3) :
    State.kept (State.sluFault x1 x2 x3) = State.kept x1 := by
  unfold State.sluFault
  repeat' first
    | with_reducible rfl
    | with_reducible refine (State.wr_kept _ _ _ _ _ _).trans ?_
    | with_reducible refine (State.sluTo_kept _ _ _).trans ?_
    | with_reducible refine (State.pcount_kept _ _ _).trans ?_
    | with_reducible refine (State.setSluSt_kept _ _ _).trans ?_
    | with_reducible refine (State.pfault_kept _ _ _ _).trans ?_
    | with_reducible refine (State.pirq_kept _ _ _).trans ?_
    | split

theorem execSluFetShortDetect_keeps (x1) (x2 : State) :
    Keeps (execSluFetShortDetect x1 x2) x2 := by
  unfold execSluFetShortDetect
  repeat' first
    | with_reducible rfl
    | with_reducible refine (State.wr_kept _ _ _ _ _ _).trans ?_
    | with_reducible refine (State.sluTo_kept _ _ _).trans ?_
    | with_reducible refine (State.pfault_kept _ _ _ _).trans ?_
    | with_reducible refine (State.pcount_kept _ _ _).trans ?_
    | with_reducible refine (State.pirq_kept _ _ _).trans ?_
    | with_reducible refine keeps_next ?_
    | with_reducible refine ite_keeps ?_ ?_

theorem State.sluOffForCycle_kept (x1 : State) :
    State.kept (State.sluOffForCycle x1) = State.kept x1 := by
  unfold State.sluOffForCycle
  repeat' first
    | with_reducible rfl
    | with_reducible refine (State.sluTo_kept _ _ _).trans ?_
    | with_reducible refine ite_kept ?_ ?_

theorem execPowerCycle_keeps (x1) (x2) (x3 : State) :
    Keeps (execPowerCycle x1 x2 x3) x3 := by
  unfold execPowerCycle
  repeat' first
    | with_reducible rfl
    | with_reducible refine (State.irq_kept _ _ _).trans ?_
    | with_reducible refine (State.sluOffForCycle_kept _).trans ?_
    | with_reducible refine (State.count_kept _ _ _ _).trans ?_
    | with_reducible refine keeps_next ?_
    | with_reducible refine ite_keeps ?_ ?_
    | dsimp only
    | fail_if_no_progress (dsimp only [State.kept]; show State.kept _ = State.kept _)

theorem execClearMin_keeps (x1 : State) :
    Keeps (execClearMin x1) x1 := by
  unfold execClearMin
  repeat' first
    | with_reducible rfl
    | with_reducible refine (State.wr_kept _ _ _ _ _ _).trans ?_
    | with_reducible refine keeps_next ?_
    | with_reducible refine ite_keeps ?_ ?_

theorem State.sluHost_kept (x1 : State) (x2) (x3) :
    State.kept (State.sluHost x1 x2 x3) = State.kept x1 := by
  unfold State.sluHost
  repeat' first
    | with_reducible rfl
    | with_reducible refine (State.irq_kept _ _ _).trans ?_
    | with_reducible refine (State.sluLevel_kept _ _ _).trans ?_
    | with_reducible refine ite_kept ?_ ?_

theorem execSluOn_keeps (x1) (x2 : State) :
    Keeps (execSluOn x1 x2) x2 := by
  unfold execSluOn
  repeat' first
    | with_reducible rfl
    | with_reducible refine (State.sluHost_kept _ _ _).trans ?_
    | with_reducible refine keeps_next ?_

theorem execSluOff_keeps (x1) (x2 : State) :
    Keeps (execSluOff x1 x2) x2 := by
  unfold execSluOff
  repeat' first
    | with_reducible rfl
    | with_reducible refine (State.sluHost_kept _ _ _).trans ?_
    | with_reducible refine keeps_next ?_

theorem execSluClear_keeps (x1) (x2 : State) :
    Keeps (execSluClear x1 x2) x2 := by
  unfold execSluClear
  repeat' first
    | with_reducible rfl
    | with_reducible refine (State.irq_kept _ _ _).trans ?_
    | with_reducible refine (State.sluRamp_kept _ _).trans ?_
    | with_reducible refine (State.sluTo_kept _ _ _).trans ?_
    | with_reducible refine keeps_next ?_
    | with_reducible refine ite_kept ?_ ?_
    | with_reducible refine ite_keeps ?_ ?_

theorem execSluLimitEntry_keeps (x1) (x2 : State) :
    Keeps (execSluLimitEntry x1 x2) x2 := by
  unfold execSluLimitEntry
  repeat' first
    | with_reducible rfl
    | with_reducible refine (State.pcount_kept _ _ _).trans ?_
    | with_reducible refine (State.wr_kept _ _ _ _ _ _).trans ?_
    | with_reducible refine (State.sluTick_kept _ _).trans ?_
    | with_reducible refine (State.pirq_kept _ _ _).trans ?_
    | with_reducible refine (State.setSluSt_kept _ _ _).trans ?_
    | with_reducible refine (State.sluPgDrop_kept _ _ _).trans ?_
    | with_reducible refine keeps_next ?_
    | with_reducible refine ite_kept ?_ ?_
    | with_reducible refine ite_keeps ?_ ?_

theorem execPfwAssert_keeps (x1) (x2 : State) :
    Keeps (execPfwAssert x1 x2) x2 := by
  unfold execPfwAssert
  repeat' first
    | with_reducible rfl
    | with_reducible refine (State.pcount_kept _ _ _).trans ?_
    | with_reducible refine (State.pirq_kept _ _ _).trans ?_
    | with_reducible refine (State.wr_kept _ _ _ _ _ _).trans ?_
    | with_reducible refine keeps_next ?_
    | with_reducible refine ite_kept ?_ ?_
    | with_reducible refine ite_keeps ?_ ?_
    | dsimp only
    | fail_if_no_progress (dsimp only [State.kept]; show State.kept _ = State.kept _)

theorem execSlu0StartupRamp_keeps (x1 : State) :
    Keeps (execSlu0StartupRamp x1) x1 := by
  unfold execSlu0StartupRamp
  repeat' first
    | with_reducible rfl
    | with_reducible refine (State.sluRamp_kept _ _).trans ?_
    | with_reducible refine (State.wr_kept _ _ _ _ _ _).trans ?_
    | with_reducible refine (State.passTo_kept _ _).trans ?_
    | with_reducible refine keeps_next ?_
    | with_reducible refine ite_keeps ?_ ?_

theorem execPowerCycleRamp_keeps (x1 : State) :
    Keeps (execPowerCycleRamp x1) x1 := by
  unfold execPowerCycleRamp
  repeat' first
    | with_reducible rfl
    | with_reducible refine (State.passTo_kept _ _).trans ?_
    | with_reducible refine (State.sluRamp_kept _ _).trans ?_
    | with_reducible refine keeps_next ?_
    | with_reducible refine ite_kept ?_ ?_
    | dsimp only
    | fail_if_no_progress (dsimp only [State.kept] <;> show State.kept _ = State.kept _)
    | split

theorem execPfwDeassert_keeps (x1) (x2 : State) :
    Keeps (execPfwDeassert x1 x2) x2 := by
  unfold execPfwDeassert
  repeat' first
    | with_reducible rfl
    | with_reducible refine (State.wr_kept _ _ _ _ _ _).trans ?_
    | with_reducible refine keeps_next ?_
    | with_reducible refine ite_keeps ?_ ?_

theorem execDieLinkSilence_keeps (x1 : State) :
    Keeps (execDieLinkSilence x1) x1 := by
  unfold execDieLinkSilence
  repeat' first
    | with_reducible rfl
    | with_reducible refine (State.fault_kept _ _ _ _ _ _).trans ?_
    | with_reducible refine keeps_next ?_
    | with_reducible refine ite_kept ?_ ?_
    | with_reducible refine ite_keeps ?_ ?_
    | dsimp only
    | fail_if_no_progress (dsimp only [State.kept]; show State.kept _ = State.kept _)

theorem execSluFetShortClear_keeps (x1) (x2 : State) :
    Keeps (execSluFetShortClear x1 x2) x2 := by
  unfold execSluFetShortClear
  repeat' first
    | with_reducible rfl
    | with_reducible refine (State.sluTo_kept _ _ _).trans ?_
    | with_reducible refine keeps_next ?_
    | with_reducible refine ite_keeps ?_ ?_

theorem execSluShortTrip_keeps (x1) (x2 : State) :
    Keeps (execSluShortTrip x1 x2) x2 := by
  unfold execSluShortTrip
  repeat' first
    | with_reducible rfl
    | with_reducible refine (State.sluFault_kept _ _ _).trans ?_
    | with_reducible refine keeps_next ?_
    | with_reducible refine ite_keeps ?_ ?_

theorem execSluTimerTrip_keeps (x1) (x2 : State) :
    Keeps (execSluTimerTrip x1 x2) x2 := by
  unfold execSluTimerTrip
  repeat' first
    | with_reducible rfl
    | with_reducible refine (State.passTo_kept _ _).trans ?_
    | with_reducible refine (State.sluFault_kept _ _ _).trans ?_
    | with_reducible refine keeps_next ?_
    | with_reducible refine ite_keeps ?_ ?_

theorem execSluRampDone_keeps (x1) (x2 : State) :
    Keeps (execSluRampDone x1 x2) x2 := by
  unfold execSluRampDone
  repeat' first
    | with_reducible rfl
    | with_reducible refine (State.sluTo_kept _ _ _).trans ?_
    | with_reducible refine (State.setSluSt_kept _ _ _).trans ?_
    | with_reducible refine keeps_next ?_
    | with_reducible refine ite_keeps ?_ ?_

theorem execSluRampTimeout_keeps (x1) (x2 : State) :
    Keeps (execSluRampTimeout x1 x2) x2 := by
  unfold execSluRampTimeout
  repeat' first
    | with_reducible rfl
    | with_reducible refine (State.sluFault_kept _ _ _).trans ?_
    | with_reducible refine (State.passTo_kept _ _).trans ?_
    | with_reducible refine keeps_next ?_
    | with_reducible refine ite_keeps ?_ ?_

theorem execSluPgQualify_keeps (x1) (x2 : State) :
    Keeps (execSluPgQualify x1 x2) x2 := by
  unfold execSluPgQualify
  repeat' first
    | with_reducible rfl
    | with_reducible refine (State.passTo_kept _ _).trans ?_
    | with_reducible refine (State.pirq_kept _ _ _).trans ?_
    | with_reducible refine (State.wr_kept _ _ _ _ _ _).trans ?_
    | with_reducible refine (State.setSluSt_kept _ _ _).trans ?_
    | with_reducible refine keeps_next ?_
    | with_reducible refine ite_keeps ?_ ?_

theorem execSluRetry_keeps (x1) (x2 : State) :
    Keeps (execSluRetry x1 x2) x2 := by
  unfold execSluRetry
  repeat' first
    | with_reducible rfl
    | with_reducible refine (State.passTo_kept _ _).trans ?_
    | with_reducible refine (State.pcount_kept _ _ _).trans ?_
    | with_reducible refine (State.wr_kept _ _ _ _ _ _).trans ?_
    | with_reducible refine (State.sluRamp_kept _ _).trans ?_
    | with_reducible refine keeps_next ?_
    | with_reducible refine ite_keeps ?_ ?_
    | dsimp only
    | split

theorem execSluRetryCountClear_keeps (x1) (x2 : State) :
    Keeps (execSluRetryCountClear x1 x2) x2 := by
  unfold execSluRetryCountClear
  repeat' first
    | with_reducible rfl
    | with_reducible refine (State.wr_kept _ _ _ _ _ _).trans ?_
    | with_reducible refine (State.passTo_kept _ _).trans ?_
    | with_reducible refine keeps_next ?_
    | with_reducible refine ite_keeps ?_ ?_

theorem State.sluSample_kept (x1 : State) (x2) (x3) (x4) (x5) :
    State.kept (State.sluSample x1 x2 x3 x4 x5) = State.kept x1 := by
  unfold State.sluSample
  repeat' first
    | with_reducible rfl
    | with_reducible refine (State.setSluSt_kept _ _ _).trans ?_
    | with_reducible refine (State.wr_kept _ _ _ _ _ _).trans ?_
    | with_reducible refine ite_kept ?_ ?_

theorem State.dieSample_kept (x1 : State) :
    State.kept (State.dieSample x1) = State.kept x1 := by
  unfold State.dieSample
  repeat' first
    | dsimp only
    | dsimp only [State.kept]

theorem execPwdTelemetrySample_keeps (x1) (x2) (x3) (x4) (x5 : State) :
    Keeps (execPwdTelemetrySample x1 x2 x3 x4 x5) x5 := by
  unfold execPwdTelemetrySample
  repeat' first
    | with_reducible rfl
    | with_reducible refine (State.passTo_kept _ _).trans ?_
    | with_reducible refine (State.wr_kept _ _ _ _ _ _).trans ?_
    | with_reducible refine (State.sluSample_kept _ _ _ _ _).trans ?_
    | with_reducible refine (State.dieSample_kept _).trans ?_
    | with_reducible refine keeps_next ?_
    | with_reducible refine (foldl_kept _ _ (fun _ _ => ?_)).trans ?_
    | with_reducible refine ite_kept ?_ ?_
    | split

theorem execSluLimitExit_keeps (x1) (x2 : State) :
    Keeps (execSluLimitExit x1 x2) x2 := by
  unfold execSluLimitExit
  repeat' first
    | with_reducible rfl
    | with_reducible refine (State.wr_kept _ _ _ _ _ _).trans ?_
    | with_reducible refine (State.sluTick_kept _ _).trans ?_
    | with_reducible refine (State.setSluSt_kept _ _ _).trans ?_
    | with_reducible refine keeps_next ?_
    | with_reducible refine ite_keeps ?_ ?_

theorem execVoutBelowPgFloor_keeps (x1) (x2 : State) :
    Keeps (execVoutBelowPgFloor x1 x2) x2 := by
  unfold execVoutBelowPgFloor
  repeat' first
    | with_reducible rfl
    | with_reducible refine (State.sluPgDrop_kept _ _ _).trans ?_
    | with_reducible refine keeps_next ?_
    | with_reducible refine ite_keeps ?_ ?_

theorem execVinUndervolt_keeps (x1 : State) :
    Keeps (execVinUndervolt x1) x1 := by
  unfold execVinUndervolt
  repeat' first
    | with_reducible rfl
    | with_reducible refine (State.sluTo_kept _ _ _).trans ?_
    | with_reducible refine (State.wr_kept _ _ _ _ _ _).trans ?_
    | with_reducible refine keeps_next ?_
    | with_reducible refine (foldl_kept _ _ (fun _ _ => ?_)).trans ?_
    | with_reducible refine ite_kept ?_ ?_
    | dsimp only
    | fail_if_no_progress (dsimp only [State.kept]; show State.kept _ = State.kept _)

theorem execVinOvervolt_keeps (x1 : State) :
    Keeps (execVinOvervolt x1) x1 := by
  unfold execVinOvervolt
  repeat' first
    | with_reducible rfl
    | with_reducible refine (State.pcount_kept _ _ _).trans ?_
    | with_reducible refine (State.pirq_kept _ _ _).trans ?_
    | with_reducible refine (State.wr_kept _ _ _ _ _ _).trans ?_
    | with_reducible refine (State.overvoltOff_kept _).trans ?_
    | with_reducible refine (State.pfault_kept _ _ _ _).trans ?_
    | with_reducible refine keeps_next ?_
    | with_reducible refine ite_keeps ?_ ?_

theorem execVinOvRecover_keeps (x1 : State) :
    Keeps (execVinOvRecover x1) x1 := by
  unfold execVinOvRecover
  repeat' first
    | with_reducible rfl
    | with_reducible refine (State.sluRamp_kept _ _).trans ?_
    | with_reducible refine (State.wr_kept _ _ _ _ _ _).trans ?_
    | with_reducible refine keeps_next ?_
    | with_reducible refine (foldl_kept _ _ (fun _ _ => ?_)).trans ?_
    | with_reducible refine ite_kept ?_ ?_
    | with_reducible refine ite_keeps ?_ ?_

theorem execPwdThermal_keeps (x1 : State) :
    Keeps (execPwdThermal x1) x1 := by
  unfold execPwdThermal
  repeat' first
    | with_reducible rfl
    | with_reducible refine (State.pcount_kept _ _ _).trans ?_
    | with_reducible refine (State.pirq_kept _ _ _).trans ?_
    | with_reducible refine (State.wr_kept _ _ _ _ _ _).trans ?_
    | with_reducible refine (State.pfault_kept _ _ _ _).trans ?_
    | with_reducible refine (State.sluFault_kept _ _ _).trans ?_
    | with_reducible refine keeps_next ?_
    | with_reducible refine (foldl_kept _ _ (fun _ _ => ?_)).trans ?_
    | with_reducible refine ite_keeps ?_ ?_

theorem execPwdThermalClear_keeps (x1 : State) :
    Keeps (execPwdThermalClear x1) x1 := by
  unfold execPwdThermalClear
  repeat' first
    | with_reducible rfl
    | with_reducible refine (State.wr_kept _ _ _ _ _ _).trans ?_
    | with_reducible refine keeps_next ?_

end Sys2Proof.Machine
end

