-- ==== Sys2Proof/Laws/KeptBlocks.lean ====
section
/-!
SUPPORT. What only a reset of the hub may touch is kept by the functions of keys, faults, dressing, update, twins, applies, register writes and Courses.
-/
set_option Elab.async false

namespace Sys2Proof.Machine

/-! ## Keys.lean -/

theorem State.dropSas_kept (x1 : State) (x2) :
    State.kept (State.dropSas x1 x2) = State.kept x1 := by
  unfold State.dropSas
  repeat' first
    | with_reducible rfl
    | with_reducible refine (State.setProt_kept _ _ _).trans ?_
    | with_reducible refine (State.noKey_kept _ _ _).trans ?_
    | with_reducible refine (foldl_kept _ _ (fun _ _ => ?_)).trans ?_
    | with_reducible refine ite_kept ?_ ?_

theorem State.linkSwitch_kept (x1 : State) (x2) :
    State.kept (State.linkSwitch x1 x2) = State.kept x1 := by
  unfold State.linkSwitch
  repeat' first
    | with_reducible rfl
    | with_reducible refine (State.wr_kept _ _ _ _ _ _).trans ?_
    | with_reducible refine (State.setProt_kept _ _ _).trans ?_
    | with_reducible refine (State.txSaStart_kept _ _).trans ?_
    | with_reducible refine (State.count_kept _ _ _ _).trans ?_
    | with_reducible refine (State.irq_kept _ _ _).trans ?_
    | with_reducible refine (State.dropSas_kept _ _).trans ?_
    | with_reducible refine (State.linkDown_kept _ _).trans ?_
    | with_reducible refine (foldl_kept _ _ (fun _ _ => ?_)).trans ?_
    | with_reducible refine ite_kept ?_ ?_
    | dsimp only
    | fail_if_no_progress (dsimp only [State.kept] <;> show State.kept _ = State.kept _)
    | split

theorem State.keyClear_kept (x1 : State) (x2) :
    State.kept (State.keyClear x1 x2) = State.kept x1 := by
  unfold State.keyClear
  repeat' first
    | with_reducible rfl
    | with_reducible refine (State.wr_kept _ _ _ _ _ _).trans ?_
    | with_reducible refine (foldl_kept _ _ (fun _ _ => ?_)).trans ?_
    | dsimp only
    | dsimp only [State.kept]

theorem State.keyRes_kept (x1 : State) (x2) (x3) :
    State.kept (State.keyRes x1 x2 x3) = State.kept x1 := by
  unfold State.keyRes
  repeat' first
    | with_reducible rfl
    | with_reducible refine (State.wr_kept _ _ _ _ _ _).trans ?_

theorem State.keyRefuse_kept (x1 : State) (x2) (x3) :
    State.kept (State.keyRefuse x1 x2 x3) = State.kept x1 := by
  unfold State.keyRefuse
  repeat' first
    | with_reducible rfl
    | with_reducible refine (State.keyClear_kept _ _).trans ?_
    | with_reducible refine (State.count_kept _ _ _ _).trans ?_
    | with_reducible refine (State.keyRes_kept _ _ _).trans ?_
    | with_reducible refine ite_kept ?_ ?_
    | dsimp only
    | fail_if_no_progress (dsimp only [State.kept]; show State.kept _ = State.kept _)

theorem execLinkArm_keeps (x1) (x2) (x3 : State) :
    Keeps (execLinkArm x1 x2 x3) x3 := by
  unfold execLinkArm
  repeat' first
    | with_reducible rfl
    | with_reducible refine (State.hkDefer_kept _ _ _ _ _).trans ?_
    | with_reducible refine (State.keyRefuse_kept _ _ _).trans ?_
    | with_reducible refine (State.wr_kept _ _ _ _ _ _).trans ?_
    | with_reducible refine (State.keyClear_kept _ _).trans ?_
    | with_reducible refine (State.count_kept _ _ _ _).trans ?_
    | with_reducible refine (State.irq_kept _ _ _).trans ?_
    | with_reducible refine (State.keyRes_kept _ _ _).trans ?_
    | with_reducible refine keeps_next ?_
    | with_reducible refine ite_keeps ?_ ?_
    | dsimp only
    | dsimp only [State.kept]

theorem State.authEnd_kept (x1 : State) :
    State.kept (State.authEnd x1) = State.kept x1 := by
  unfold State.authEnd
  repeat' first
    | with_reducible rfl
    | with_reducible refine (State.wr_kept _ _ _ _ _ _).trans ?_

theorem State.zeroise_kept (x1 : State) :
    State.kept (State.zeroise x1) = State.kept x1 := by
  unfold State.zeroise
  repeat' first
    | with_reducible refine (State.wr_kept _ _ _ _ _ _).trans ?_
    | with_reducible refine (State.authEnd_kept _).trans ?_
    | with_reducible refine (State.dropSas_kept _ _).trans ?_
    | dsimp only
    | dsimp only [State.kept]

theorem State.keyStart_kept (x1 : State) (x2) (x3) :
    State.kept (State.keyStart x1 x2 x3) = State.kept x1 := by
  unfold State.keyStart
  repeat' first
    | with_reducible refine (State.wr_kept _ _ _ _ _ _).trans ?_
    | dsimp only
    | dsimp only [State.kept]

theorem execInstallClear_keeps (x1) (x2) (x3) (x4) (x5 : State) :
    Keeps (execInstallClear x1 x2 x3 x4 x5) x5 := by
  unfold execInstallClear
  repeat' first
    | with_reducible rfl
    | with_reducible refine (State.hkDefer_kept _ _ _ _ _).trans ?_
    | with_reducible refine (State.keyRefuse_kept _ _ _).trans ?_
    | with_reducible refine (State.flashWorn_kept _).trans ?_
    | with_reducible refine (State.keyStart_kept _ _ _).trans ?_
    | with_reducible refine keeps_next ?_
    | with_reducible refine ite_keeps ?_ ?_

theorem execInstallWrapped_keeps (x1) (x2) (x3) (x4) (x5 : State) :
    Keeps (execInstallWrapped x1 x2 x3 x4 x5) x5 := by
  unfold execInstallWrapped
  repeat' first
    | with_reducible rfl
    | with_reducible refine (State.hkDefer_kept _ _ _ _ _).trans ?_
    | with_reducible refine (State.keyRefuse_kept _ _ _).trans ?_
    | with_reducible refine (State.flashWorn_kept _).trans ?_
    | with_reducible refine (State.keyStart_kept _ _ _).trans ?_
    | with_reducible refine keeps_next ?_
    | with_reducible refine ite_keeps ?_ ?_
    | split

theorem execGenerate_keeps (x1) (x2) (x3) (x4) (x5 : State) :
    Keeps (execGenerate x1 x2 x3 x4 x5) x5 := by
  unfold execGenerate
  repeat' first
    | with_reducible rfl
    | with_reducible refine (State.hkDefer_kept _ _ _ _ _).trans ?_
    | with_reducible refine (State.keyRefuse_kept _ _ _).trans ?_
    | with_reducible refine (State.flashWorn_kept _).trans ?_
    | with_reducible refine (State.randBytes_kept _ _).trans ?_
    | with_reducible refine (State.keyStart_kept _ _ _).trans ?_
    | with_reducible refine keeps_next ?_
    | with_reducible refine ite_keeps ?_ ?_

theorem State.setSlotKey_kept (x1 : State) (x2) (x3) :
    State.kept (State.setSlotKey x1 x2 x3) = State.kept x1 := by
  unfold State.setSlotKey
  repeat' first
    | with_reducible refine (State.wr_kept _ _ _ _ _ _).trans ?_
    | dsimp only [State.kept]

theorem State.orphan_kept (x1) (x2 : State) (x3) :
    State.kept (State.orphan x1 x2 x3) = State.kept x2 := by
  induction x1 generalizing x2 x3 with
  | zero =>
    unfold State.orphan
    repeat' first
      | with_reducible rfl
  | succ k ih =>
    unfold State.orphan
    repeat' first
      | with_reducible refine (ih _ _).trans ?_
      | with_reducible rfl
      | with_reducible refine (State.irq_kept _ _ _).trans ?_
      | with_reducible refine (State.setSlotKey_kept _ _ _).trans ?_
      | with_reducible refine (State.authEnd_kept _).trans ?_
      | with_reducible refine (foldl_kept _ _ (fun _ _ => ?_)).trans ?_
      | with_reducible refine ite_kept ?_ ?_

theorem execDestroy_keeps (x1) (x2) (x3) (x4) (x5 : State) :
    Keeps (execDestroy x1 x2 x3 x4 x5) x5 := by
  unfold execDestroy
  repeat' first
    | with_reducible rfl
    | with_reducible refine (State.hkDefer_kept _ _ _ _ _).trans ?_
    | with_reducible refine (State.keyRefuse_kept _ _ _).trans ?_
    | with_reducible refine (State.orphan_kept _ _ _).trans ?_
    | with_reducible refine (State.setSlotKey_kept _ _ _).trans ?_
    | with_reducible refine (State.authEnd_kept _).trans ?_
    | with_reducible refine (State.dropSas_kept _ _).trans ?_
    | with_reducible refine (State.keyStart_kept _ _ _).trans ?_
    | with_reducible refine keeps_next ?_
    | with_reducible refine ite_kept ?_ ?_
    | with_reducible refine ite_keeps ?_ ?_

theorem execLinkDisarm_keeps (x1) (x2) (x3 : State) :
    Keeps (execLinkDisarm x1 x2 x3) x3 := by
  unfold execLinkDisarm
  repeat' first
    | with_reducible rfl
    | with_reducible refine (State.hkDefer_kept _ _ _ _ _).trans ?_
    | with_reducible refine (State.keyRefuse_kept _ _ _).trans ?_
    | with_reducible refine (State.wr_kept _ _ _ _ _ _).trans ?_
    | with_reducible refine (State.keyClear_kept _ _).trans ?_
    | with_reducible refine (State.count_kept _ _ _ _).trans ?_
    | with_reducible refine (State.irq_kept _ _ _).trans ?_
    | with_reducible refine (State.keyRes_kept _ _ _).trans ?_
    | with_reducible refine keeps_next ?_
    | with_reducible refine ite_keeps ?_ ?_
    | dsimp only
    | dsimp only [State.kept]

theorem State.pairWrite_kept (x1 : State) (x2) (x3) :
    State.kept (State.pairWrite x1 x2 x3) = State.kept x1 := by
  unfold State.pairWrite
  repeat' first
    | with_reducible refine (State.count_kept _ _ _ _).trans ?_
    | dsimp only
    | dsimp only [State.kept]

theorem State.loadPairs_kept (x1 : State) :
    State.kept (State.loadPairs x1) = State.kept x1 := by
  unfold State.loadPairs
  repeat' first
    | with_reducible rfl
    | with_reducible refine (State.pairWrite_kept _ _ _).trans ?_
    | with_reducible refine (State.setProt_kept _ _ _).trans ?_
    | with_reducible refine (foldl_kept _ _ (fun _ _ => ?_)).trans ?_

theorem State.destroyRecs_kept (x1 : State) (x2) (x3) (x4) :
    State.kept (State.destroyRecs x1 x2 x3 x4) = State.kept x1 := by
  unfold State.destroyRecs
  repeat' first
    | with_reducible rfl
    | with_reducible refine (State.randBytes_kept _ _).trans ?_
    | dsimp only
    | fail_if_no_progress (dsimp only [State.kept]; show State.kept _ = State.kept _)

theorem State.tamperAct_kept (x1 : State) :
    State.kept (State.tamperAct x1) = State.kept x1 := by
  unfold State.tamperAct
  repeat' first
    | with_reducible rfl
    | with_reducible refine (State.keyClear_kept _ _).trans ?_
    | with_reducible refine (State.keyRes_kept _ _ _).trans ?_
    | with_reducible refine (State.wr_kept _ _ _ _ _ _).trans ?_
    | with_reducible refine (State.count_kept _ _ _ _).trans ?_
    | with_reducible refine (State.irq_kept _ _ _).trans ?_
    | with_reducible refine (State.fault_kept _ _ _ _ _ _).trans ?_
    | with_reducible refine (State.usbWake_kept _ _).trans ?_
    | with_reducible refine (State.zeroise_kept _).trans ?_
    | with_reducible refine ite_kept ?_ ?_
    | dsimp only
    | fail_if_no_progress (dsimp only [State.kept]; show State.kept _ = State.kept _)
    | split

theorem execTamperAlarm_keeps (x1 : State) :
    Keeps (execTamperAlarm x1) x1 := by
  unfold execTamperAlarm
  repeat' first
    | with_reducible rfl
    | with_reducible refine (State.wr_kept _ _ _ _ _ _).trans ?_
    | with_reducible refine (State.tamperAct_kept _).trans ?_
    | with_reducible refine keeps_next ?_
    | with_reducible refine ite_kept ?_ ?_
    | with_reducible refine ite_keeps ?_ ?_
    | dsimp only
    | fail_if_no_progress (dsimp only [State.kept]; show State.kept _ = State.kept _)

theorem execEntropyHealthFail_keeps (x1 : State) :
    Keeps (execEntropyHealthFail x1) x1 := by
  unfold execEntropyHealthFail
  repeat' first
    | with_reducible refine State.awake_keeps ?_
    | with_reducible refine keeps_next ?_
    | dsimp only
    | dsimp only [State.kept]

theorem execSaRekey_keeps (x1) (x2 : State) :
    Keeps (execSaRekey x1 x2) x2 := by
  unfold execSaRekey
  repeat' first
    | with_reducible rfl
    | with_reducible refine (State.txSaStart_kept _ _).trans ?_
    | with_reducible refine keeps_next ?_
    | with_reducible refine ite_keeps ?_ ?_

theorem execPairRecordWrite_keeps (x1) (x2 : State) :
    Keeps (execPairRecordWrite x1 x2) x2 := by
  unfold execPairRecordWrite
  repeat' first
    | with_reducible rfl
    | with_reducible refine (State.pairWrite_kept _ _ _).trans ?_
    | with_reducible refine (State.setProt_kept _ _ _).trans ?_
    | with_reducible refine (State.txSaStart_kept _ _).trans ?_
    | with_reducible refine keeps_next ?_
    | with_reducible refine ite_keeps ?_ ?_
    | dsimp only
    | split

theorem State.searchHit_kept (x1 : State) (x2) (x3) (x4) (x5) :
    State.kept (State.searchHit x1 x2 x3 x4 x5) = State.kept x1 := by
  unfold State.searchHit
  repeat' first
    | with_reducible rfl
    | with_reducible refine (State.rxVerified_kept _ _ _ _).trans ?_
    | with_reducible refine (State.setProt_kept _ _ _).trans ?_

theorem execKeySearch_keeps (x1) (x2 : State) :
    Keeps (execKeySearch x1 x2) x2 := by
  unfold execKeySearch
  repeat' first
    | with_reducible rfl
    | with_reducible refine (State.count_kept _ _ _ _).trans ?_
    | with_reducible refine (State.pass_kept _ _).trans ?_
    | with_reducible refine (State.searchHit_kept _ _ _ _ _).trans ?_
    | with_reducible refine (State.noKey_kept _ _ _).trans ?_
    | with_reducible refine (State.setProt_kept _ _ _).trans ?_
    | with_reducible refine keeps_next ?_
    | with_reducible refine ite_keeps ?_ ?_
    | dsimp only
    | split

theorem execNoVerifyTimeout_keeps (x1) (x2 : State) :
    Keeps (execNoVerifyTimeout x1 x2) x2 := by
  unfold execNoVerifyTimeout
  repeat' first
    | with_reducible rfl
    | with_reducible refine (State.noKey_kept _ _ _).trans ?_
    | with_reducible refine (State.passTo_kept _ _).trans ?_
    | with_reducible refine keeps_next ?_
    | with_reducible refine ite_keeps ?_ ?_
    | dsimp only
    | split

theorem execDieLinkResumed_keeps (x1 : State) :
    Keeps (execDieLinkResumed x1) x1 := by
  unfold execDieLinkResumed
  repeat' first
    | with_reducible rfl
    | with_reducible refine (State.sluSafeAll_kept _).trans ?_
    | with_reducible refine (State.pcount_kept _ _ _).trans ?_
    | with_reducible refine (State.pirq_kept _ _ _).trans ?_
    | with_reducible refine (State.missedCounts_kept _).trans ?_
    | with_reducible refine (State.tamperAct_kept _).trans ?_
    | with_reducible refine keeps_next ?_
    | with_reducible refine ite_kept ?_ ?_
    | with_reducible refine ite_keeps ?_ ?_
    | dsimp only
    | dsimp only [State.kept]

theorem State.keyRetry_kept (x1 : State) :
    State.kept (State.keyRetry x1) = State.kept x1 := by
  unfold State.keyRetry
  repeat' first
    | with_reducible rfl
    | with_reducible refine (State.linkDown_kept _ _).trans ?_
    | with_reducible refine (State.wr_kept _ _ _ _ _ _).trans ?_
    | with_reducible refine (foldl_kept _ _ (fun _ _ => ?_)).trans ?_
    | with_reducible refine ite_kept ?_ ?_

theorem State.slotBad_kept (x1 : State) :
    State.kept (State.slotBad x1) = State.kept x1 := by
  unfold State.slotBad
  repeat' first
    | with_reducible rfl
    | with_reducible refine (State.fault_kept _ _ _ _ _ _).trans ?_
    | with_reducible refine (State.irq_kept _ _ _).trans ?_

theorem State.loadSlot_kept (x1 : State) (x2) :
    State.kept (State.loadSlot x1 x2) = State.kept x1 := by
  unfold State.loadSlot
  repeat' first
    | with_reducible rfl
    | with_reducible refine (State.setSlotKey_kept _ _ _).trans ?_
    | with_reducible refine (State.irq_kept _ _ _).trans ?_
    | with_reducible refine (State.slotBad_kept _).trans ?_
    | with_reducible refine ite_kept ?_ ?_
    | dsimp only
    | split

theorem State.adopt_kept (x1) (x2 : State) :
    State.kept (State.adopt x1 x2) = State.kept x2 := by
  induction x1 generalizing x2 with
  | zero =>
    unfold State.adopt
    repeat' first
      | with_reducible rfl
  | succ k ih =>
    unfold State.adopt
    repeat' first
      | with_reducible refine (ih _).trans ?_
      | with_reducible rfl
      | with_reducible refine (State.loadSlot_kept _ _).trans ?_
      | with_reducible refine (foldl_kept _ _ (fun _ _ => ?_)).trans ?_
      | with_reducible refine ite_kept ?_ ?_

theorem State.installDone_kept (x1 : State) (x2) :
    State.kept (State.installDone x1 x2) = State.kept x1 := by
  unfold State.installDone
  repeat' first
    | with_reducible rfl
    | with_reducible refine (State.flashWorn_kept _).trans ?_
    | with_reducible refine (State.keyRes_kept _ _ _).trans ?_
    | with_reducible refine (State.randBytes_kept _ _).trans ?_
    | with_reducible refine (State.setSlotKey_kept _ _ _).trans ?_
    | with_reducible refine (State.dropSas_kept _ _).trans ?_
    | with_reducible refine (State.keyRetry_kept _).trans ?_
    | with_reducible refine (State.adopt_kept _ _).trans ?_
    | with_reducible refine ite_kept ?_ ?_
    | dsimp only
    | fail_if_no_progress (dsimp only [State.kept]; show State.kept _ = State.kept _)
    | split

theorem execKeyOpDone_keeps (x1 : State) :
    Keeps (execKeyOpDone x1) x1 := by
  unfold execKeyOpDone
  repeat' first
    | with_reducible rfl
    | with_reducible refine (State.count_kept _ _ _ _).trans ?_
    | with_reducible refine (State.destroyRecs_kept _ _ _ _).trans ?_
    | with_reducible refine (State.keyRes_kept _ _ _).trans ?_
    | with_reducible refine (State.setSlotKey_kept _ _ _).trans ?_
    | with_reducible refine (State.installDone_kept _ _).trans ?_
    | with_reducible refine (State.keyClear_kept _ _).trans ?_
    | with_reducible refine (State.irq_kept _ _ _).trans ?_
    | with_reducible refine (State.wr_kept _ _ _ _ _ _).trans ?_
    | with_reducible refine keeps_next ?_
    | with_reducible refine ite_kept ?_ ?_
    | dsimp only
    | fail_if_no_progress (dsimp only [State.kept] <;> show State.kept _ = State.kept _)
    | split

theorem State.loadSlots_kept (x1 : State) :
    State.kept (State.loadSlots x1) = State.kept x1 := by
  unfold State.loadSlots
  repeat' first
    | with_reducible rfl
    | with_reducible refine (State.loadSlot_kept _ _).trans ?_
    | with_reducible refine (foldl_kept _ _ (fun _ _ => ?_)).trans ?_
    | with_reducible refine ite_kept ?_ ?_

theorem State.finishDestroy_kept (x1 : State) :
    State.kept (State.finishDestroy x1) = State.kept x1 := by
  unfold State.finishDestroy
  repeat' first
    | with_reducible rfl
    | with_reducible refine (State.destroyRecs_kept _ _ _ _).trans ?_
    | with_reducible refine (foldl_kept _ _ (fun _ _ => ?_)).trans ?_
    | with_reducible refine ite_kept ?_ ?_
    | split

theorem execKeyLoad_keeps (x1 : State) :
    Keeps (execKeyLoad x1) x1 := by
  unfold execKeyLoad
  repeat' first
    | with_reducible rfl
    | with_reducible refine (State.tamperAct_kept _).trans ?_
    | with_reducible refine (State.keyRetry_kept _).trans ?_
    | with_reducible refine (State.wr_kept _ _ _ _ _ _).trans ?_
    | with_reducible refine (State.loadPairs_kept _).trans ?_
    | with_reducible refine (State.loadSlots_kept _).trans ?_
    | with_reducible refine (State.finishDestroy_kept _).trans ?_
    | with_reducible refine keeps_next ?_
    | with_reducible refine ite_keeps ?_ ?_

/-! ## Faults.lean -/

theorem State.repairShard_kept (x1 : State) (x2) :
    State.kept (State.repairShard x1 x2) = State.kept x1 := by
  unfold State.repairShard
  repeat' first
    | with_reducible rfl
    | with_reducible refine (State.setShard_kept _ _ _).trans ?_
    | with_reducible refine (State.askRepair_kept _ _ _ _ _ _ _).trans ?_
    | with_reducible refine ite_kept ?_ ?_

theorem execHkRestart_keeps (x1) (x2 : State) :
    Keeps (execHkRestart x1 x2) x2 := by
  unfold execHkRestart
  repeat' first
    | with_reducible rfl
    | with_reducible refine State.awake_keeps ?_
    | with_reducible refine (State.fault_kept _ _ _ _ _ _).trans ?_
    | with_reducible refine (State.drawn_kept _).trans ?_
    | with_reducible refine keeps_next ?_
    | with_reducible refine ite_keeps ?_ ?_

theorem State.loseCell_kept (x1 : State) (x2) (x3) :
    State.kept (State.loseCell x1 x2 x3) = State.kept x1 := by
  unfold State.loseCell
  repeat' first
    | with_reducible rfl
    | with_reducible refine (State.replaySync_kept _).trans ?_
    | with_reducible refine (State.setTxq_kept _ _ _ _).trans ?_
    | with_reducible refine (State.setConsQ_kept _ _ _).trans ?_
    | with_reducible refine (State.release_kept _ _ _).trans ?_
    | with_reducible refine (foldl_kept _ _ (fun _ _ => ?_)).trans ?_
    | with_reducible refine ite_kept ?_ ?_
    | dsimp only
    | fail_if_no_progress (dsimp only [State.kept] <;> show State.kept _ = State.kept _)

theorem State.cisternBad_kept (x1 : State) (x2) :
    State.kept (State.cisternBad x1 x2) = State.kept x1 := by
  unfold State.cisternBad
  repeat' first
    | with_reducible rfl
    | with_reducible refine (State.setBank_kept _ _ _).trans ?_
    | with_reducible refine (State.repairShard_kept _ _).trans ?_
    | with_reducible refine (State.irq_kept _ _ _).trans ?_
    | with_reducible refine (State.count_kept _ _ _ _).trans ?_
    | with_reducible refine (foldl_kept _ _ (fun _ _ => ?_)).trans ?_
    | with_reducible refine ite_kept ?_ ?_
    | dsimp only
    | fail_if_no_progress (dsimp only [State.kept]; show State.kept _ = State.kept _)

theorem State.contain_kept (x1 : State) (x2) (x3) (x4) (x5) (x6) :
    State.kept (State.contain x1 x2 x3 x4 x5 x6) = State.kept x1 := by
  unfold State.contain
  repeat' first
    | with_reducible rfl
    | with_reducible refine (State.loseCell_kept _ _ _).trans ?_
    | with_reducible refine (State.cisternBad_kept _ _).trans ?_
    | with_reducible refine (State.repairShard_kept _ _).trans ?_
    | with_reducible refine (State.winLost_kept _ _ _).trans ?_
    | with_reducible refine (State.lnchDel_kept _ _).trans ?_
    | with_reducible refine (State.dropLaunch_kept _ _ _).trans ?_
    | with_reducible refine (State.setCan_kept _ _ _).trans ?_
    | with_reducible refine ite_kept ?_ ?_
    | dsimp only
    | fail_if_no_progress (dsimp only [State.kept] <;> show State.kept _ = State.kept _)
    | split

theorem State.parityAt_kept (x1 : State) (x2) :
    State.kept (State.parityAt x1 x2) = State.kept x1 := by
  unfold State.parityAt
  repeat' first
    | dsimp only
    | dsimp only [State.kept]

theorem execFltLastfatalClr_keeps (x1 : State) :
    Keeps (execFltLastfatalClr x1) x1 := by
  unfold execFltLastfatalClr
  repeat' first
    | with_reducible rfl
    | with_reducible refine (State.wr_kept _ _ _ _ _ _).trans ?_
    | with_reducible refine keeps_next ?_
    | with_reducible refine (foldl_kept _ _ (fun _ _ => ?_)).trans ?_
    | with_reducible refine ite_keeps ?_ ?_

theorem execHealthCeExpiry_keeps (x1) (x2 : State) :
    Keeps (execHealthCeExpiry x1 x2) x2 := by
  unfold execHealthCeExpiry
  repeat' first
    | with_reducible rfl
    | with_reducible refine (State.passTo_kept _ _).trans ?_
    | with_reducible refine (State.setHealth_kept _ _).trans ?_
    | with_reducible refine keeps_next ?_
    | with_reducible refine ite_keeps ?_ ?_
    | dsimp only
    | fail_if_no_progress (dsimp only [State.kept]; show State.kept _ = State.kept _)

theorem State.memError_kept (x1 : State) (x2) (x3) (x4) (x5) (x6) (x7) :
    State.kept (State.memError x1 x2 x3 x4 x5 x6 x7) = State.kept x1 := by
  unfold State.memError
  repeat' first
    | with_reducible rfl
    | with_reducible refine (State.contain_kept _ _ _ _ _ _).trans ?_
    | with_reducible refine (State.fault_kept _ _ _ _ _ _).trans ?_
    | with_reducible refine ite_kept ?_ ?_

theorem State.clackTick_kept (x1 : State) :
    State.kept (State.clackTick x1) = State.kept x1 := by
  unfold State.clackTick
  repeat' first
    | with_reducible rfl
    | with_reducible refine (State.clackStop_kept _ _).trans ?_
    | with_reducible refine (State.wr_kept _ _ _ _ _ _).trans ?_
    | with_reducible refine ite_kept ?_ ?_
    | dsimp only
    | fail_if_no_progress (dsimp only [State.kept] <;> show State.kept _ = State.kept _)

theorem execFaultMessage_keeps (x1) (x2) (x3) (x4) (x5) (x6) (x7) (x8 : State) :
    Keeps (execFaultMessage x1 x2 x3 x4 x5 x6 x7 x8) x8 := by
  unfold execFaultMessage
  repeat' first
    | with_reducible rfl
    | with_reducible refine State.awake_keeps ?_
    | with_reducible refine (State.memError_kept _ _ _ _ _ _ _).trans ?_
    | with_reducible refine (State.fifoUpset_kept _ _ _).trans ?_
    | with_reducible refine (State.parityAt_kept _ _).trans ?_
    | with_reducible refine (State.fault_kept _ _ _ _ _ _).trans ?_
    | with_reducible refine keeps_next ?_
    | with_reducible refine ite_kept ?_ ?_
    | with_reducible refine ite_keeps ?_ ?_
    | dsimp only
    | split

theorem execFaultRecordClose_keeps (x1) (x2 : State) :
    Keeps (execFaultRecordClose x1 x2) x2 := by
  unfold execFaultRecordClose
  repeat' first
    | with_reducible rfl
    | with_reducible refine (State.fltExpire_kept _).trans ?_
    | with_reducible refine (State.passTo_kept _ _).trans ?_
    | with_reducible refine (State.setHealth_kept _ _).trans ?_
    | with_reducible refine (State.fltSync_kept _).trans ?_
    | with_reducible refine keeps_next ?_
    | dsimp only
    | fail_if_no_progress (dsimp only [State.kept] <;> show State.kept _ = State.kept _)
    | split

theorem execHkHeartbeat_keeps (x1 : State) :
    Keeps (execHkHeartbeat x1) x1 := by
  unfold execHkHeartbeat
  repeat' first
    | with_reducible rfl
    | with_reducible refine (State.passTo_kept _ _).trans ?_
    | with_reducible refine (State.wr_kept _ _ _ _ _ _).trans ?_
    | with_reducible refine keeps_next ?_
    | with_reducible refine ite_keeps ?_ ?_
    | dsimp only
    | fail_if_no_progress (dsimp only [State.kept]; show State.kept _ = State.kept _)
    | split

theorem execHeartbeatLoss_keeps (x1 : State) :
    Keeps (execHeartbeatLoss x1) x1 := by
  unfold execHeartbeatLoss
  repeat' first
    | with_reducible rfl
    | with_reducible refine (State.passTo_kept _ _).trans ?_
    | with_reducible refine (State.clackTick_kept _).trans ?_
    | with_reducible refine keeps_next ?_
    | with_reducible refine ite_keeps ?_ ?_
    | dsimp only
    | split

theorem execClackToggle_keeps (x1 : State) :
    Keeps (execClackToggle x1) x1 := by
  unfold execClackToggle
  repeat' first
    | with_reducible rfl
    | with_reducible refine State.awake_keeps ?_
    | with_reducible refine (State.clackTick_kept _).trans ?_
    | with_reducible refine (State.passTo_kept _ _).trans ?_
    | with_reducible refine keeps_next ?_

theorem execClackGraceExpiry_keeps (x1 : State) :
    Keeps (execClackGraceExpiry x1) x1 := by
  unfold execClackGraceExpiry
  repeat' first
    | with_reducible rfl
    | with_reducible refine (State.passTo_kept _ _).trans ?_
    | with_reducible refine (State.wr_kept _ _ _ _ _ _).trans ?_
    | with_reducible refine (State.clackStop_kept _ _).trans ?_
    | with_reducible refine (State.fault_kept _ _ _ _ _ _).trans ?_
    | with_reducible refine keeps_next ?_
    | with_reducible refine ite_kept ?_ ?_
    | dsimp only
    | fail_if_no_progress (dsimp only [State.kept] <;> show State.kept _ = State.kept _)
    | split

/-! ## Dress.lean -/

theorem State.wearSync_kept (x1 : State) (x2) (x3) :
    State.kept (State.wearSync x1 x2 x3) = State.kept x1 := by
  unfold State.wearSync
  repeat' first
    | with_reducible rfl
    | with_reducible refine (State.wr_kept _ _ _ _ _ _).trans ?_

theorem State.wearLoad_kept (x1 : State) :
    State.kept (State.wearLoad x1) = State.kept x1 := by
  unfold State.wearLoad
  repeat' first
    | with_reducible rfl
    | with_reducible refine (State.wr_kept _ _ _ _ _ _).trans ?_
    | with_reducible refine (State.wearSync_kept _ _ _).trans ?_
    | with_reducible refine (foldl_kept _ _ (fun _ _ => ?_)).trans ?_
    | with_reducible refine ite_kept ?_ ?_

theorem State.scrubPass_kept (x1 : State) (x2) :
    State.kept (State.scrubPass x1 x2) = State.kept x1 := by
  unfold State.scrubPass
  repeat' first
    | with_reducible rfl
    | with_reducible refine (State.wr_kept _ _ _ _ _ _).trans ?_

theorem execCalRunNow_keeps (x1 : State) :
    Keeps (execCalRunNow x1) x1 := by
  unfold execCalRunNow
  repeat' first
    | with_reducible rfl
    | with_reducible refine (State.wr_kept _ _ _ _ _ _).trans ?_
    | with_reducible refine keeps_next ?_
    | with_reducible refine ite_keeps ?_ ?_

theorem State.scrubFound_kept (x1 : State) (x2) (x3) (x4) (x5) (x6) :
    State.kept (State.scrubFound x1 x2 x3 x4 x5 x6) = State.kept x1 := by
  unfold State.scrubFound
  repeat' first
    | with_reducible rfl
    | with_reducible refine (State.memError_kept _ _ _ _ _ _ _).trans ?_
    | with_reducible refine (State.count_kept _ _ _ _).trans ?_
    | with_reducible refine (State.irq_kept _ _ _).trans ?_
    | with_reducible refine (State.fault_kept _ _ _ _ _ _).trans ?_
    | with_reducible refine ite_kept ?_ ?_
    | dsimp only
    | split

theorem State.retire_kept (x1 : State) (x2) :
    State.kept (State.retire x1 x2) = State.kept x1 := by
  unfold State.retire
  repeat' first
    | with_reducible rfl
    | with_reducible refine (State.count_kept _ _ _ _).trans ?_
    | with_reducible refine (State.irq_kept _ _ _).trans ?_
    | with_reducible refine (State.wr_kept _ _ _ _ _ _).trans ?_
    | with_reducible refine (State.fault_kept _ _ _ _ _ _).trans ?_
    | with_reducible refine (State.flashWorn_kept _).trans ?_
    | with_reducible refine ite_kept ?_ ?_
    | dsimp only
    | fail_if_no_progress (dsimp only [State.kept]; show State.kept _ = State.kept _)

theorem execLogicTelemetrySample_keeps (x1) (x2) (x3) (x4) (x5) (x6 : State) :
    Keeps (execLogicTelemetrySample x1 x2 x3 x4 x5 x6) x6 := by
  unfold execLogicTelemetrySample
  repeat' first
    | with_reducible rfl
    | with_reducible refine State.awake_keeps ?_
    | with_reducible refine (State.passTo_kept _ _).trans ?_
    | with_reducible refine keeps_next ?_
    | dsimp only
    | fail_if_no_progress (dsimp only [State.kept]; show State.kept _ = State.kept _)
    | split

theorem State.scrubLate_kept (x1 : State) (x2) :
    State.kept (State.scrubLate x1 x2) = State.kept x1 := by
  unfold State.scrubLate
  repeat' first
    | with_reducible rfl
    | with_reducible refine (State.irq_kept _ _ _).trans ?_
    | with_reducible refine (State.wr_kept _ _ _ _ _ _).trans ?_
    | with_reducible refine ite_kept ?_ ?_

theorem execScrubStep_keeps (x1) (x2) (x3) (x4) (x5) (x6 : State) :
    Keeps (execScrubStep x1 x2 x3 x4 x5 x6) x6 := by
  unfold execScrubStep
  repeat' first
    | with_reducible rfl
    | with_reducible refine (State.scrubPass_kept _ _).trans ?_
    | with_reducible refine (State.scrubLate_kept _ _).trans ?_
    | with_reducible refine (State.scrubFound_kept _ _ _ _ _ _).trans ?_
    | with_reducible refine keeps_next ?_
    | with_reducible refine ite_kept ?_ ?_
    | with_reducible refine ite_keeps ?_ ?_
    | dsimp only
    | fail_if_no_progress (dsimp only [State.kept]; show State.kept _ = State.kept _)

theorem State.calRuns_kept (x1 : State) (x2) (x3) (x4) :
    State.kept (State.calRuns x1 x2 x3 x4) = State.kept x1 := by
  unfold State.calRuns
  repeat' first
    | with_reducible rfl
    | with_reducible refine (State.passTo_kept _ _).trans ?_
    | with_reducible refine (State.setSluSt_kept _ _ _).trans ?_
    | with_reducible refine ite_kept ?_ ?_
    | dsimp only
    | fail_if_no_progress (dsimp only [State.kept]; show State.kept _ = State.kept _)
    | split

theorem State.calFail_kept (x1 : State) (x2) :
    State.kept (State.calFail x1 x2) = State.kept x1 := by
  unfold State.calFail
  repeat' first
    | with_reducible rfl
    | with_reducible refine (State.count_kept _ _ _ _).trans ?_
    | with_reducible refine (State.irq_kept _ _ _).trans ?_
    | with_reducible refine (State.wr_kept _ _ _ _ _ _).trans ?_

theorem execCalibration_keeps (x1) (x2) (x3) (x4) (x5) (x6 : State) :
    Keeps (execCalibration x1 x2 x3 x4 x5 x6) x6 := by
  unfold execCalibration
  repeat' first
    | with_reducible rfl
    | with_reducible refine (State.calRuns_kept _ _ _ _).trans ?_
    | with_reducible refine (State.calFail_kept _ _).trans ?_
    | with_reducible refine (State.count_kept _ _ _ _).trans ?_
    | with_reducible refine (State.wr_kept _ _ _ _ _ _).trans ?_
    | with_reducible refine keeps_next ?_
    | with_reducible refine ite_keeps ?_ ?_
    | dsimp only
    | split

theorem State.flashOp_kept (x1 : State) (x2) (x3) (x4) (x5) :
    State.kept (State.flashOp x1 x2 x3 x4 x5) = State.kept x1 := by
  unfold State.flashOp
  repeat' first
    | with_reducible rfl
    | with_reducible refine (State.count_kept _ _ _ _).trans ?_
    | with_reducible refine (State.irq_kept _ _ _).trans ?_
    | with_reducible refine (State.retire_kept _ _).trans ?_
    | with_reducible refine (State.wearSync_kept _ _ _).trans ?_
    | with_reducible refine ite_kept ?_ ?_
    | dsimp only
    | fail_if_no_progress (dsimp only [State.kept]; show State.kept _ = State.kept _)
    | split

theorem execCalDone_keeps (x1 : State) :
    Keeps (execCalDone x1) x1 := by
  unfold execCalDone
  repeat' first
    | with_reducible rfl
    | with_reducible refine (State.irq_kept _ _ _).trans ?_
    | with_reducible refine (State.wr_kept _ _ _ _ _ _).trans ?_
    | with_reducible refine keeps_next ?_
    | with_reducible refine ite_keeps ?_ ?_

theorem execLedgerWrite_keeps (x1 : State) :
    Keeps (execLedgerWrite x1) x1 := by
  unfold execLedgerWrite
  repeat' first
    | with_reducible rfl
    | with_reducible refine (State.count_kept _ _ _ _).trans ?_
    | with_reducible refine (State.wr_kept _ _ _ _ _ _).trans ?_
    | with_reducible refine keeps_next ?_
    | with_reducible refine ite_keeps ?_ ?_
    | dsimp only
    | dsimp only [State.kept]
    | split

/-! ## Update.lean -/

theorem State.updRefused_kept (x1 : State) (x2) (x3) (x4) :
    State.kept (State.updRefused x1 x2 x3 x4) = State.kept x1 := by
  unfold State.updRefused
  repeat' first
    | with_reducible rfl
    | with_reducible refine (State.wr_kept _ _ _ _ _ _).trans ?_
    | with_reducible refine (State.count_kept _ _ _ _).trans ?_
    | with_reducible refine (State.irq_kept _ _ _).trans ?_

theorem State.updRes_kept (x1 : State) (x2) (x3) :
    State.kept (State.updRes x1 x2 x3) = State.kept x1 := by
  unfold State.updRes
  repeat' first
    | with_reducible rfl
    | with_reducible refine (State.wr_kept _ _ _ _ _ _).trans ?_

theorem State.updRefuse_kept (x1 : State) (x2) (x3) :
    State.kept (State.updRefuse x1 x2 x3) = State.kept x1 := by
  unfold State.updRefuse
  repeat' first
    | with_reducible rfl
    | with_reducible refine (State.updRefused_kept _ _ _ _).trans ?_
    | with_reducible refine (State.updRes_kept _ _ _).trans ?_

theorem execUpdActivate_keeps (x1) (x2) (x3) (x4 : State) :
    Keeps (execUpdActivate x1 x2 x3 x4) x4 := by
  unfold execUpdActivate
  repeat' first
    | with_reducible rfl
    | with_reducible refine (State.hkDefer_kept _ _ _ _ _).trans ?_
    | with_reducible refine (State.updRefuse_kept _ _ _).trans ?_
    | with_reducible refine (State.setFw_kept _ _ _).trans ?_
    | with_reducible refine (State.updRes_kept _ _ _).trans ?_
    | with_reducible refine (State.hkRestart_kept _ _).trans ?_
    | with_reducible refine (State.count_kept _ _ _ _).trans ?_
    | with_reducible refine (State.wr_kept _ _ _ _ _ _).trans ?_
    | with_reducible refine keeps_next ?_
    | with_reducible refine ite_keeps ?_ ?_
    | dsimp only
    | fail_if_no_progress (dsimp only [State.kept]; show State.kept _ = State.kept _)

theorem State.updSync_kept (x1 : State) :
    State.kept (State.updSync x1) = State.kept x1 := by
  unfold State.updSync
  repeat' first
    | with_reducible rfl
    | with_reducible refine (State.wr_kept _ _ _ _ _ _).trans ?_
    | dsimp only
    | split

theorem State.eraseStart_kept (x1 : State) (x2) :
    State.kept (State.eraseStart x1 x2) = State.kept x1 := by
  unfold State.eraseStart
  repeat' first
    | with_reducible refine (State.updSync_kept _).trans ?_
    | with_reducible refine (State.setFw_kept _ _ _).trans ?_
    | dsimp only
    | dsimp only [State.kept]

theorem execUpdPrepare_keeps (x1) (x2 : State) :
    Keeps (execUpdPrepare x1 x2) x2 := by
  unfold execUpdPrepare
  repeat' first
    | with_reducible rfl
    | with_reducible refine (State.hkDefer_kept _ _ _ _ _).trans ?_
    | with_reducible refine (State.eraseStart_kept _ _).trans ?_
    | with_reducible refine (State.updRes_kept _ _ _).trans ?_
    | with_reducible refine keeps_next ?_
    | with_reducible refine ite_keeps ?_ ?_

theorem State.updWait_kept (x1 : State) (x2) :
    State.kept (State.updWait x1 x2) = State.kept x1 := by
  unfold State.updWait
  repeat' first
    | dsimp only
    | dsimp only [State.kept]

theorem State.setUpdHdr_kept (x1 : State) (x2) (x3) :
    State.kept (State.setUpdHdr x1 x2 x3) = State.kept x1 := by
  unfold State.setUpdHdr
  repeat' first
    | with_reducible refine (State.updSync_kept _).trans ?_
    | dsimp only
    | dsimp only [State.kept]

theorem State.epHalt_kept (x1 : State) (x2) :
    State.kept (State.epHalt x1 x2) = State.kept x1 := by
  unfold State.epHalt
  repeat' first
    | with_reducible rfl
    | with_reducible refine ite_kept ?_ ?_
    | dsimp only
    | dsimp only [State.kept]

theorem State.hdrDone_kept (x1 : State) (x2) (x3) (x4) (x5) (x6) (x7) :
    State.kept (State.hdrDone x1 x2 x3 x4 x5 x6 x7) = State.kept x1 := by
  unfold State.hdrDone
  repeat' first
    | with_reducible rfl
    | with_reducible refine (State.setUpdHdr_kept _ _ _).trans ?_
    | with_reducible refine (State.updRes_kept _ _ _).trans ?_
    | with_reducible refine (State.updRefused_kept _ _ _ _).trans ?_
    | with_reducible refine (State.epHalt_kept _ _).trans ?_
    | with_reducible refine (State.setFw_kept _ _ _).trans ?_
    | with_reducible refine (State.updSync_kept _).trans ?_
    | with_reducible refine (State.count_kept _ _ _ _).trans ?_
    | with_reducible refine ite_kept ?_ ?_
    | dsimp only
    | fail_if_no_progress (dsimp only [State.kept]; show State.kept _ = State.kept _)
    | split

theorem State.updLater_kept (x1 : State) (x2) :
    State.kept (State.updLater x1 x2) = State.kept x1 := by
  unfold State.updLater
  repeat' first
    | with_reducible rfl
    | with_reducible refine (State.waitDone_kept _ _ _).trans ?_
    | with_reducible refine (foldl_kept _ _ (fun _ _ => ?_)).trans ?_
    | dsimp only
    | dsimp only [State.kept]

theorem State.sessFail_kept (x1 : State) (x2) (x3) :
    State.kept (State.sessFail x1 x2 x3) = State.kept x1 := by
  unfold State.sessFail
  repeat' first
    | with_reducible rfl
    | with_reducible refine (State.updRes_kept _ _ _).trans ?_
    | with_reducible refine (State.count_kept _ _ _ _).trans ?_
    | with_reducible refine (State.irq_kept _ _ _).trans ?_
    | with_reducible refine (State.setUpdHdr_kept _ _ _).trans ?_
    | with_reducible refine (State.updLater_kept _ _).trans ?_
    | with_reducible refine (State.eraseStart_kept _ _).trans ?_
    | with_reducible refine ite_kept ?_ ?_
    | dsimp only
    | fail_if_no_progress (dsimp only [State.kept]; show State.kept _ = State.kept _)
    | split

theorem State.bodyDone_kept (x1 : State) (x2) (x3) :
    State.kept (State.bodyDone x1 x2 x3) = State.kept x1 := by
  unfold State.bodyDone
  repeat' first
    | with_reducible rfl
    | with_reducible refine (State.updRes_kept _ _ _).trans ?_
    | with_reducible refine (State.setFw_kept _ _ _).trans ?_
    | with_reducible refine (State.updLater_kept _ _).trans ?_
    | with_reducible refine (State.updSync_kept _).trans ?_
    | with_reducible refine (State.count_kept _ _ _ _).trans ?_
    | with_reducible refine (State.irq_kept _ _ _).trans ?_
    | with_reducible refine (State.sessFail_kept _ _ _).trans ?_
    | with_reducible refine ite_kept ?_ ?_
    | dsimp only
    | fail_if_no_progress (dsimp only [State.kept]; show State.kept _ = State.kept _)
    | split

theorem State.updFeed_kept (x1 : State) (x2) (x3) :
    State.kept (State.updFeed x1 x2 x3) = State.kept x1 := by
  unfold State.updFeed
  repeat' first
    | with_reducible rfl
    | with_reducible refine (State.setUpdHdr_kept _ _ _).trans ?_
    | with_reducible refine (State.hdrDone_kept _ _ _ _ _ _ _).trans ?_
    | with_reducible refine (State.updSync_kept _).trans ?_
    | with_reducible refine (State.bodyDone_kept _ _ _).trans ?_
    | with_reducible refine ite_kept ?_ ?_
    | with_reducible refine ite_fst_kept ?_ ?_
    | dsimp only
    | fail_if_no_progress (dsimp only [State.kept]; show State.kept _ = State.kept _)
    | split

theorem State.updWord_kept (x1 : State) (x2) (x3) (x4) :
    State.kept (State.updWord x1 x2 x3 x4) = State.kept x1 := by
  unfold State.updWord
  repeat' first
    | with_reducible rfl
    | with_reducible refine (State.updWait_kept _ _).trans ?_
    | with_reducible refine (State.rsp_kept _ _ _ _).trans ?_
    | with_reducible refine (State.updFeed_kept _ _ _).trans ?_
    | with_reducible refine ite_kept ?_ ?_

theorem execUpdOpen_keeps (x1) (x2 : State) :
    Keeps (execUpdOpen x1 x2) x2 := by
  unfold execUpdOpen
  repeat' first
    | with_reducible rfl
    | with_reducible refine (State.hkDefer_kept _ _ _ _ _).trans ?_
    | with_reducible refine (State.updRefuse_kept _ _ _).trans ?_
    | with_reducible refine (State.setUpdHdr_kept _ _ _).trans ?_
    | with_reducible refine (State.updRes_kept _ _ _).trans ?_
    | with_reducible refine (State.eraseStart_kept _ _).trans ?_
    | with_reducible refine keeps_next ?_
    | with_reducible refine ite_kept ?_ ?_
    | with_reducible refine ite_keeps ?_ ?_
    | dsimp only
    | split

theorem execUpdAbort_keeps (x1) (x2 : State) :
    Keeps (execUpdAbort x1 x2) x2 := by
  unfold execUpdAbort
  repeat' first
    | with_reducible rfl
    | with_reducible refine (State.hkDefer_kept _ _ _ _ _).trans ?_
    | with_reducible refine (State.sessFail_kept _ _ _).trans ?_
    | with_reducible refine keeps_next ?_
    | with_reducible refine ite_keeps ?_ ?_
    | split

theorem State.updConfirm_kept (x1 : State) :
    State.kept (State.updConfirm x1) = State.kept x1 := by
  unfold State.updConfirm
  repeat' first
    | with_reducible rfl
    | with_reducible refine (State.setFw_kept _ _ _).trans ?_
    | with_reducible refine (State.irq_kept _ _ _).trans ?_
    | with_reducible refine (State.wr_kept _ _ _ _ _ _).trans ?_
    | dsimp only
    | fail_if_no_progress (dsimp only [State.kept]; show State.kept _ = State.kept _)
    | split

theorem execUpdConfirm_keeps (x1) (x2 : State) :
    Keeps (execUpdConfirm x1 x2) x2 := by
  unfold execUpdConfirm
  repeat' first
    | with_reducible rfl
    | with_reducible refine (State.hkDefer_kept _ _ _ _ _).trans ?_
    | with_reducible refine (State.updConfirm_kept _).trans ?_
    | with_reducible refine (State.updRes_kept _ _ _).trans ?_
    | with_reducible refine keeps_next ?_
    | with_reducible refine ite_keeps ?_ ?_

theorem execUpdDistribute_keeps (x1) (x2 : State) :
    Keeps (execUpdDistribute x1 x2) x2 := by
  unfold execUpdDistribute
  repeat' first
    | with_reducible rfl
    | with_reducible refine (State.hkDefer_kept _ _ _ _ _).trans ?_
    | with_reducible refine (State.updRefuse_kept _ _ _).trans ?_
    | with_reducible refine (State.wr_kept _ _ _ _ _ _).trans ?_
    | with_reducible refine (State.updRes_kept _ _ _).trans ?_
    | with_reducible refine keeps_next ?_
    | with_reducible refine ite_keeps ?_ ?_
    | dsimp only
    | dsimp only [State.kept]

theorem State.updServe_kept (x1 : State) :
    State.kept (State.updServe x1) = State.kept x1 := by
  unfold State.updServe
  repeat' first
    | with_reducible rfl
    | with_reducible refine (State.updWait_kept _ _).trans ?_
    | with_reducible refine (State.waitDone_kept _ _ _).trans ?_
    | with_reducible refine (State.updFeed_kept _ _ _).trans ?_
    | with_reducible refine (foldl_kept _ _ (fun _ _ => ?_)).trans ?_
    | with_reducible refine ite_kept ?_ ?_
    | dsimp only
    | fail_if_no_progress (dsimp only [State.kept] <;> show State.kept _ = State.kept _)
    | split

theorem execUpdAutoConfirm_keeps (x1 : State) :
    Keeps (execUpdAutoConfirm x1) x1 := by
  unfold execUpdAutoConfirm
  repeat' first
    | with_reducible rfl
    | with_reducible refine (State.passTo_kept _ _).trans ?_
    | with_reducible refine (State.hkRestart_kept _ _).trans ?_
    | with_reducible refine (State.updConfirm_kept _).trans ?_
    | with_reducible refine keeps_next ?_
    | with_reducible refine ite_keeps ?_ ?_
    | dsimp only
    | split

theorem execLocalWriteExpired_keeps (x1) (x2 : State) :
    Keeps (execLocalWriteExpired x1 x2) x2 := by
  unfold execLocalWriteExpired
  repeat' first
    | with_reducible rfl
    | with_reducible refine Keeps.trans (laneExpired_keeps _ _) ?_
    | with_reducible refine (State.passTo_kept _ _).trans ?_
    | with_reducible refine (State.waitDone_kept _ _ _).trans ?_
    | with_reducible refine keeps_next ?_
    | with_reducible refine ite_keeps ?_ ?_
    | dsimp only
    | fail_if_no_progress (dsimp only [State.kept] <;> show State.kept _ = State.kept _)
    | split

theorem execFlashOpDone_keeps (x1) (x2) (x3) (x4) (x5 : State) :
    Keeps (execFlashOpDone x1 x2 x3 x4 x5) x5 := by
  unfold execFlashOpDone
  repeat' first
    | with_reducible rfl
    | with_reducible refine State.awake_keeps ?_
    | with_reducible refine (State.flashOp_kept _ _ _ _ _).trans ?_
    | with_reducible refine (State.sessFail_kept _ _ _).trans ?_
    | with_reducible refine (State.updServe_kept _).trans ?_
    | with_reducible refine (State.updSync_kept _).trans ?_
    | with_reducible refine keeps_next ?_
    | with_reducible refine ite_keeps ?_ ?_
    | dsimp only
    | fail_if_no_progress (dsimp only [State.kept] <;> show State.kept _ = State.kept _)
    | split

theorem execUpdDataWrite_keeps (x1) (x2) (x3 : State) :
    Keeps (execUpdDataWrite x1 x2 x3) x3 := by
  unfold execUpdDataWrite
  repeat' first
    | with_reducible rfl
    | with_reducible refine (State.hkDefer_kept _ _ _ _ _).trans ?_
    | with_reducible refine (State.rsp_kept _ _ _ _).trans ?_
    | with_reducible refine (State.updWord_kept _ _ _ _).trans ?_
    | with_reducible refine keeps_next ?_
    | with_reducible refine ite_kept ?_ ?_
    | with_reducible refine ite_keeps ?_ ?_
    | split

theorem execUpdUsbData_keeps (x1) (x2) (x3 : State) :
    Keeps (execUpdUsbData x1 x2 x3) x3 := by
  unfold execUpdUsbData
  repeat' first
    | with_reducible rfl
    | with_reducible refine (State.fault_kept _ _ _ _ _ _).trans ?_
    | with_reducible refine (State.epHalt_kept _ _).trans ?_
    | with_reducible refine (State.drawn_kept _).trans ?_
    | with_reducible refine (State.updFeed_kept _ _ _).trans ?_
    | with_reducible refine (State.usbMoved_kept _ _ _).trans ?_
    | with_reducible refine keeps_next ?_
    | with_reducible refine ite_keeps ?_ ?_

theorem execUpdSessionTimeout_keeps (x1) (x2 : State) :
    Keeps (execUpdSessionTimeout x1 x2) x2 := by
  unfold execUpdSessionTimeout
  repeat' first
    | with_reducible rfl
    | with_reducible refine (State.sessFail_kept _ _ _).trans ?_
    | with_reducible refine (State.passTo_kept _ _).trans ?_
    | with_reducible refine keeps_next ?_
    | with_reducible refine ite_keeps ?_ ?_
    | split

theorem State.ringHdr_kept (x1 : State) (x2) (x3) (x4) :
    State.kept (State.ringHdr x1 x2 x3 x4) = State.kept x1 := by
  unfold State.ringHdr
  repeat' first
    | with_reducible rfl
    | with_reducible refine (State.setUpdHdr_kept _ _ _).trans ?_
    | with_reducible refine (State.hdrDone_kept _ _ _ _ _ _ _).trans ?_
    | with_reducible refine ite_kept ?_ ?_

theorem execUpdDataRx_keeps (x1 : State) :
    Keeps (execUpdDataRx x1) x1 := by
  unfold execUpdDataRx
  repeat' first
    | with_reducible rfl
    | with_reducible refine (State.takeCell_kept _ _ _ _ (by assumption)).trans ?_
    | with_reducible refine (State.count_kept _ _ _ _).trans ?_
    | with_reducible refine (State.updSync_kept _).trans ?_
    | with_reducible refine (State.bodyDone_kept _ _ _).trans ?_
    | with_reducible refine (State.ringHdr_kept _ _ _ _).trans ?_
    | with_reducible refine keeps_next ?_
    | with_reducible refine ite_keeps ?_ ?_
    | dsimp only
    | fail_if_no_progress (dsimp only [State.kept] <;> show State.kept _ = State.kept _)
    | split

theorem execUpdDistCellTx_keeps (x1 : State) :
    Keeps (execUpdDistCellTx x1) x1 := by
  unfold execUpdDistCellTx
  repeat' first
    | with_reducible rfl
    | with_reducible refine (State.passTo_kept _ _).trans ?_
    | with_reducible refine (State.count_kept _ _ _ _).trans ?_
    | with_reducible refine (State.originate_kept _ _ _ _ _).trans ?_
    | with_reducible refine (State.wr_kept _ _ _ _ _ _).trans ?_
    | with_reducible refine (State.irq_kept _ _ _).trans ?_
    | with_reducible refine keeps_next ?_
    | with_reducible refine ite_keeps ?_ ?_
    | dsimp only
    | fail_if_no_progress (dsimp only [State.kept] <;> show State.kept _ = State.kept _)
    | split

theorem execUpdEraseDone_keeps (x1 : State) :
    Keeps (execUpdEraseDone x1) x1 := by
  unfold execUpdEraseDone
  repeat' first
    | with_reducible rfl
    | with_reducible refine (State.setFw_kept _ _ _).trans ?_
    | with_reducible refine (State.updServe_kept _).trans ?_
    | with_reducible refine (State.count_kept _ _ _ _).trans ?_
    | with_reducible refine (State.irq_kept _ _ _).trans ?_
    | with_reducible refine (State.updSync_kept _).trans ?_
    | with_reducible refine keeps_next ?_
    | dsimp only
    | dsimp only [State.kept]
    | split

/-! ## Twin.lean -/

theorem State.twinSync_kept (x1 : State) (x2) :
    State.kept (State.twinSync x1 x2) = State.kept x1 := by
  unfold State.twinSync
  repeat' first
    | with_reducible rfl
    | with_reducible refine (State.irq_kept _ _ _).trans ?_
    | with_reducible refine (State.wr_kept _ _ _ _ _ _).trans ?_
    | with_reducible refine ite_kept ?_ ?_

theorem State.twinRelease_kept (x1 : State) (x2) :
    State.kept (State.twinRelease x1 x2) = State.kept x1 := by
  unfold State.twinRelease
  repeat' first
    | with_reducible refine (State.twinSync_kept _ _).trans ?_
    | with_reducible refine (State.wr_kept _ _ _ _ _ _).trans ?_
    | with_reducible refine (State.driveSync_kept _).trans ?_
    | with_reducible refine (State.cogStopAll_kept _ _).trans ?_
    | with_reducible refine (State.lanesHalt_kept _).trans ?_
    | dsimp only
    | dsimp only [State.kept]

theorem State.ckptReq_kept (x1 : State) :
    State.kept (State.ckptReq x1) = State.kept x1 := by
  unfold State.ckptReq
  repeat' first
    | with_reducible rfl
    | with_reducible refine (State.sendJournal_kept _ _ _ _).trans ?_
    | with_reducible refine (State.twinSync_kept _ _).trans ?_
    | dsimp only
    | fail_if_no_progress (dsimp only [State.kept]; show State.kept _ = State.kept _)

theorem State.takeBedstone_kept (x1 : State) (x2) :
    State.kept (State.takeBedstone x1 x2) = State.kept x1 := by
  unfold State.takeBedstone
  exact (State.ckptReq_kept _).trans ((kept_twin _ _).trans (State.twinRelease_kept _ _))

theorem State.takeRunner_kept (x1 : State) :
    State.kept (State.takeRunner x1) = State.kept x1 := by
  unfold State.takeRunner
  repeat' first
    | with_reducible refine (State.wr_kept _ _ _ _ _ _).trans ?_
    | with_reducible refine (State.driveSync_kept _).trans ?_
    | with_reducible refine (State.twinSync_kept _ _).trans ?_
    | dsimp only
    | dsimp only [State.kept]

theorem State.twinEntry_kept (x1 : State) (x2) :
    State.kept (State.twinEntry x1 x2) = State.kept x1 := by
  unfold State.twinEntry
  repeat' first
    | with_reducible rfl
    | with_reducible refine (State.takeBedstone_kept _ _).trans ?_
    | with_reducible refine (State.takeRunner_kept _).trans ?_
    | with_reducible refine ite_kept ?_ ?_

theorem State.enterRole_kept (x1 : State) :
    State.kept (State.enterRole x1) = State.kept x1 := by
  unfold State.enterRole
  repeat' first
    | dsimp only
    | dsimp only [State.kept]

theorem State.twinEnable_kept (x1 : State) :
    State.kept (State.twinEnable x1) = State.kept x1 := by
  unfold State.twinEnable
  repeat' first
    | with_reducible rfl
    | with_reducible refine (State.driveSync_kept _).trans ?_
    | with_reducible refine (State.enterRole_kept _).trans ?_
    | with_reducible refine (State.wr_kept _ _ _ _ _ _).trans ?_
    | with_reducible refine (State.twinRelease_kept _ _).trans ?_
    | with_reducible refine ite_kept ?_ ?_
    | dsimp only
    | dsimp only [State.kept]

theorem State.sendCkpt_kept (x1 : State) :
    State.kept (State.sendCkpt x1) = State.kept x1 := by
  unfold State.sendCkpt
  repeat' first
    | with_reducible rfl
    | with_reducible refine (State.journal_kept _ _ _).trans ?_
    | with_reducible refine (State.count_kept _ _ _ _).trans ?_
    | with_reducible refine (State.wr_kept _ _ _ _ _ _).trans ?_
    | with_reducible refine ite_kept ?_ ?_

theorem State.twinRefuse_kept (x1 : State) :
    State.kept (State.twinRefuse x1) = State.kept x1 := by
  unfold State.twinRefuse
  repeat' first
    | with_reducible rfl
    | with_reducible refine (State.irq_kept _ _ _).trans ?_

theorem execTwinResync_keeps (x1) (x2 : State) :
    Keeps (execTwinResync x1 x2) x2 := by
  unfold execTwinResync
  repeat' first
    | with_reducible rfl
    | with_reducible refine (State.twinRefuse_kept _).trans ?_
    | with_reducible refine (State.ckptReq_kept _).trans ?_
    | with_reducible refine keeps_next ?_
    | with_reducible refine ite_kept ?_ ?_
    | with_reducible refine ite_keeps ?_ ?_

theorem execTwinRejoin_keeps (x1) (x2 : State) :
    Keeps (execTwinRejoin x1 x2) x2 := by
  unfold execTwinRejoin
  repeat' first
    | with_reducible rfl
    | with_reducible refine (State.twinRefuse_kept _).trans ?_
    | with_reducible refine (State.enterRole_kept _).trans ?_
    | with_reducible refine keeps_next ?_
    | with_reducible refine ite_kept ?_ ?_
    | with_reducible refine ite_keeps ?_ ?_

theorem execTwinLateRunner_keeps (x1 : State) :
    Keeps (execTwinLateRunner x1) x1 := by
  unfold execTwinLateRunner
  repeat' first
    | with_reducible rfl
    | with_reducible refine (State.takeRunner_kept _).trans ?_
    | with_reducible refine (State.passRing_kept _ _).trans ?_
    | with_reducible refine keeps_next ?_
    | with_reducible refine ite_keeps ?_ ?_
    | split

theorem State.twinGap_kept (x1 : State) :
    State.kept (State.twinGap x1) = State.kept x1 := by
  unfold State.twinGap
  repeat' first
    | with_reducible rfl
    | with_reducible refine (State.ckptReq_kept _).trans ?_
    | with_reducible refine (State.fault_kept _ _ _ _ _ _).trans ?_
    | with_reducible refine (State.count_kept _ _ _ _).trans ?_
    | with_reducible refine (State.irq_kept _ _ _).trans ?_
    | with_reducible refine ite_kept ?_ ?_

theorem State.depose_kept (x1 : State) :
    State.kept (State.depose x1) = State.kept x1 := by
  unfold State.depose
  repeat' first
    | with_reducible rfl
    | with_reducible refine (State.irq_kept _ _ _).trans ?_
    | with_reducible refine (State.twinRelease_kept _ _).trans ?_

theorem State.applyRecord_kept (x1 : State) (x2) (x3) :
    State.kept (State.applyRecord x1 x2 x3) = State.kept x1 := by
  unfold State.applyRecord
  repeat' first
    | with_reducible rfl
    | with_reducible refine (State.count_kept _ _ _ _).trans ?_
    | with_reducible refine (State.wr_kept _ _ _ _ _ _).trans ?_
    | with_reducible refine (State.twinSync_kept _ _).trans ?_
    | with_reducible refine (State.twinGap_kept _).trans ?_
    | with_reducible refine (State.setWin_kept _ _ _).trans ?_
    | with_reducible refine (State.setLaunch_kept _ _ _).trans ?_
    | with_reducible refine (State.dropLaunch_kept _ _ _).trans ?_
    | with_reducible refine (foldl_kept _ _ (fun _ _ => ?_)).trans ?_
    | with_reducible refine ite_kept ?_ ?_
    | dsimp only
    | fail_if_no_progress (dsimp only [State.kept] <;> show State.kept _ = State.kept _)
    | split

theorem execJournalRx_keeps (x1 : State) :
    Keeps (execJournalRx x1) x1 := by
  unfold execJournalRx
  repeat' first
    | with_reducible rfl
    | with_reducible refine (State.takeCell_kept _ _ _ _ (by assumption)).trans ?_
    | with_reducible refine (State.count_kept _ _ _ _).trans ?_
    | with_reducible refine (State.twinGap_kept _).trans ?_
    | with_reducible refine (State.wr_kept _ _ _ _ _ _).trans ?_
    | with_reducible refine (State.applyRecord_kept _ _ _).trans ?_
    | with_reducible refine keeps_next ?_
    | with_reducible refine (foldl_kept _ _ (fun _ _ => ?_)).trans ?_
    | with_reducible refine ite_kept ?_ ?_
    | with_reducible refine ite_keeps ?_ ?_
    | dsimp only
    | fail_if_no_progress (dsimp only [State.kept] <;> show State.kept _ = State.kept _)
    | split

theorem execTwinPeerRise_keeps (x1) (x2 : State) :
    Keeps (execTwinPeerRise x1 x2) x2 := by
  unfold execTwinPeerRise
  repeat' first
    | with_reducible rfl
    | with_reducible refine (State.wr_kept _ _ _ _ _ _).trans ?_
    | with_reducible refine (State.takeBedstone_kept _ _).trans ?_
    | with_reducible refine (State.depose_kept _).trans ?_
    | with_reducible refine keeps_next ?_
    | with_reducible refine ite_kept ?_ ?_
    | with_reducible refine ite_keeps ?_ ?_

theorem execSealRx_keeps (x1 : State) :
    Keeps (execSealRx x1) x1 := by
  unfold execSealRx
  repeat' first
    | with_reducible rfl
    | with_reducible refine (State.takeCell_kept _ _ _ _ (by assumption)).trans ?_
    | with_reducible refine (State.count_kept _ _ _ _).trans ?_
    | with_reducible refine (State.holdSeal_kept _ _ _ _).trans ?_
    | with_reducible refine (State.depose_kept _).trans ?_
    | with_reducible refine keeps_next ?_
    | with_reducible refine ite_kept ?_ ?_
    | dsimp only
    | split

theorem execFullCheckpointTx_keeps (x1 : State) :
    Keeps (execFullCheckpointTx x1) x1 := by
  unfold execFullCheckpointTx
  repeat' first
    | with_reducible rfl
    | with_reducible refine (State.journal_kept _ _ _).trans ?_
    | with_reducible refine (State.count_kept _ _ _ _).trans ?_
    | with_reducible refine keeps_next ?_
    | with_reducible refine (foldl_kept _ _ (fun _ _ => ?_)).trans ?_
    | with_reducible refine ite_kept ?_ ?_
    | with_reducible refine ite_keeps ?_ ?_
    | dsimp only
    | dsimp only [State.kept]

/-! ## Apply.lean -/

theorem State.atPage_keeps {s : State} (p off v : Nat) {r : Res} (h : Keeps r s) : Keeps (State.atPage s p off v r) s := by
  unfold State.atPage
  exact ite_keeps (keeps_next rfl) (ite_keeps (keeps_next (State.hkDefer_kept _ _ _ _ _)) h)

theorem execApplyAtCommit_keeps (x1) (x2 : State) :
    Keeps (execApplyAtCommit x1 x2) x2 := by
  unfold execApplyAtCommit
  repeat' first
    | with_reducible rfl
    | with_reducible refine State.atPage_keeps _ _ _ ?_
    | with_reducible refine (State.setPageSt_kept _ _ _).trans ?_
    | with_reducible refine keeps_next ?_
    | with_reducible refine ite_keeps ?_ ?_

theorem State.effectLane_kept (x1 : State) (x2) (x3) :
    State.kept (State.effectLane x1 x2 x3).1 = State.kept x1 := by
  unfold State.effectLane
  repeat' first
    | with_reducible rfl
    | with_reducible refine (State.setLane_kept _ _ _).trans ?_
    | with_reducible refine (State.laneConfig_kept _ _ _).trans ?_
    | with_reducible refine ite_fst_kept ?_ ?_

theorem State.takeWords_kept (x1 : State) (x2) (x3) :
    State.kept (State.takeWords x1 x2 x3) = State.kept x1 := by
  unfold State.takeWords
  repeat' first
    | with_reducible rfl
    | with_reducible refine (State.setWord_kept _ _ _ _ _).trans ?_
    | with_reducible refine (foldl_kept _ _ (fun _ _ => ?_)).trans ?_

theorem State.effectCan_kept (x1 : State) (x2) (x3) :
    State.kept (State.effectCan x1 x2 x3).1 = State.kept x1 := by
  unfold State.effectCan
  repeat' first
    | with_reducible rfl
    | with_reducible refine (State.setCan_kept _ _ _).trans ?_
    | with_reducible refine (State.takeWords_kept _ _ _).trans ?_
    | with_reducible refine (State.canIntegrate_kept _ _).trans ?_
    | with_reducible refine ite_kept ?_ ?_
    | with_reducible refine ite_fst_kept ?_ ?_

theorem State.zoneOff_kept (x1 : State) (x2) :
    State.kept (State.zoneOff x1 x2) = State.kept x1 := by
  unfold State.zoneOff
  repeat' first
    | with_reducible rfl
    | with_reducible refine (State.wr_kept _ _ _ _ _ _).trans ?_
    | with_reducible refine (State.setCan_kept _ _ _).trans ?_
    | with_reducible refine (State.canIntegrate_kept _ _).trans ?_
    | with_reducible refine (State.zWr_kept _ _ _ _).trans ?_
    | with_reducible refine (State.setZone_kept _ _ _).trans ?_
    | with_reducible refine (State.zMove_kept _ _ _).trans ?_
    | with_reducible refine ite_kept ?_ ?_

theorem State.effectZone_kept (x1 : State) (x2) :
    State.kept (State.effectZone x1 x2).1 = State.kept x1 := by
  unfold State.effectZone
  repeat' first
    | with_reducible rfl
    | with_reducible refine (State.zoneOff_kept _ _).trans ?_
    | with_reducible refine (State.takeWords_kept _ _ _).trans ?_
    | with_reducible refine (State.zMove_kept _ _ _).trans ?_
    | with_reducible refine (State.setZone_kept _ _ _).trans ?_
    | with_reducible refine (foldl_fst_kept _ _ (fun _ _ => ?_)).trans ?_
    | with_reducible refine ite_kept ?_ ?_
    | with_reducible refine ite_fst_kept ?_ ?_

theorem State.bindActive_kept (x1 : State) :
    State.kept (State.bindActive x1) = State.kept x1 := by
  unfold State.bindActive
  repeat' first
    | with_reducible rfl
    | with_reducible refine (State.wr_kept _ _ _ _ _ _).trans ?_

theorem State.bindResult_kept (x1 : State) (x2) :
    State.kept (State.bindResult x1 x2) = State.kept x1 := by
  unfold State.bindResult
  repeat' first
    | with_reducible rfl
    | with_reducible refine (State.wr_kept _ _ _ _ _ _).trans ?_

theorem State.bindTakeOf_kept (x1 : State) (x2) :
    State.kept (State.bindTakeOf x1 x2) = State.kept x1 := by
  unfold State.bindTakeOf
  repeat' first
    | with_reducible refine (State.bindActive_kept _).trans ?_
    | with_reducible refine (State.bindResult_kept _ _).trans ?_
    | with_reducible refine (State.irq_kept _ _ _).trans ?_
    | with_reducible refine (State.count_kept _ _ _ _).trans ?_
    | with_reducible refine ite_kept ?_ ?_
    | dsimp only
    | dsimp only [State.kept]

theorem State.bindTake_kept (x1 : State) :
    State.kept (State.bindTake x1) = State.kept x1 := by
  unfold State.bindTake
  repeat' first
    | with_reducible rfl
    | with_reducible refine (State.bindTakeOf_kept _ _).trans ?_

theorem State.axisApplied_kept (x1) (x2 : State) :
    State.kept (State.axisApplied x1 x2) = State.kept x2 := by
  unfold State.axisApplied
  repeat' first
    | with_reducible rfl
    | with_reducible refine (State.wr_kept _ _ _ _ _ _).trans ?_
    | with_reducible refine (State.loseWindows_kept _ _).trans ?_
    | with_reducible refine (State.axisSet_kept _ _ _ _).trans ?_
    | with_reducible refine (State.axisLoad_kept _ _).trans ?_
    | with_reducible refine (State.setAxis_kept _ _ _).trans ?_
    | with_reducible refine (State.refSync_kept _ _).trans ?_
    | with_reducible refine (foldl_kept _ _ (fun _ _ => ?_)).trans ?_
    | with_reducible refine ite_kept ?_ ?_
    | dsimp only
    | dsimp only [State.kept]

theorem State.dioApplied_kept (x1) (x2 : State) (x3) :
    State.kept (State.dioApplied x1 x2 x3) = State.kept x2 := by
  unfold State.dioApplied
  repeat' first
    | with_reducible rfl
    | with_reducible refine (State.lineRestart_kept _ _).trans ?_
    | with_reducible refine (State.setDioBit_kept _ _ _ _).trans ?_
    | with_reducible refine (State.driveSync_kept _).trans ?_
    | with_reducible refine (foldl_kept _ _ (fun _ _ => ?_)).trans ?_
    | with_reducible refine ite_kept ?_ ?_

theorem State.effect_kept (x1 : State) (x2) (x3) :
    State.kept (State.effect x1 x2 x3).1 = State.kept x1 := by
  unfold State.effect
  repeat' first
    | with_reducible rfl
    | with_reducible refine (State.effectLane_kept _ _ _).trans ?_
    | with_reducible refine (State.effectCan_kept _ _ _).trans ?_
    | with_reducible refine (State.effectZone_kept _ _).trans ?_
    | with_reducible refine (State.bindTake_kept _).trans ?_
    | with_reducible refine (State.takeWords_kept _ _ _).trans ?_
    | with_reducible refine (State.linkApplied_kept _ _ _).trans ?_
    | with_reducible refine (State.timeApplied_kept _ _).trans ?_
    | with_reducible refine (State.axisApplied_kept _ _).trans ?_
    | with_reducible refine (State.dioApplied_kept _ _ _).trans ?_
    | with_reducible refine (State.sluSafe_kept _ _).trans ?_
    | with_reducible refine ite_fst_kept ?_ ?_
    | split

theorem State.enableHook_kept (x1 : State) (x2) :
    State.kept (State.enableHook x1 x2) = State.kept x1 := by
  unfold State.enableHook
  repeat' first
    | with_reducible rfl
    | with_reducible refine (State.linkEnable_kept _ _).trans ?_
    | with_reducible refine (State.driveSync_kept _).trans ?_
    | with_reducible refine (State.sluSafe_kept _ _).trans ?_
    | with_reducible refine (State.laneGo_kept _ _).trans ?_
    | with_reducible refine (State.laneHalt_kept _ _).trans ?_
    | with_reducible refine (State.cogDisable_kept _ _).trans ?_
    | with_reducible refine (State.twinEnable_kept _).trans ?_
    | with_reducible refine (State.portsSync_kept _).trans ?_
    | with_reducible refine (State.refSync_kept _ _).trans ?_
    | with_reducible refine (State.axisLoad_kept _ _).trans ?_
    | with_reducible refine (State.canIntegrate_kept _ _).trans ?_
    | with_reducible refine (State.setCan_kept _ _ _).trans ?_
    | with_reducible refine (State.canLater_kept _ _).trans ?_
    | with_reducible refine (State.wr_kept _ _ _ _ _ _).trans ?_
    | with_reducible refine (foldl_kept _ _ (fun _ _ => ?_)).trans ?_
    | with_reducible refine ite_kept ?_ ?_
    | dsimp only
    | split

theorem State.setEnable_kept (x1 : State) (x2) (x3) :
    State.kept (State.setEnable x1 x2 x3) = State.kept x1 := by
  unfold State.setEnable
  repeat' first
    | with_reducible rfl
    | with_reducible refine (State.enableHook_kept _ _).trans ?_
    | with_reducible refine (State.wr_kept _ _ _ _ _ _).trans ?_
    | with_reducible refine ite_kept ?_ ?_
    | split

theorem State.bindOrphans_kept (x1 : State) :
    State.kept (State.bindOrphans x1) = State.kept x1 := by
  unfold State.bindOrphans
  repeat' first
    | with_reducible rfl
    | with_reducible refine (State.irq_kept _ _ _).trans ?_
    | with_reducible refine (State.count_kept _ _ _ _).trans ?_
    | with_reducible refine (State.bindActive_kept _).trans ?_
    | with_reducible refine ite_kept ?_ ?_
    | dsimp only
    | dsimp only [State.kept]

theorem State.clearBlock_kept (x1 : State) (x2) :
    State.kept (State.clearBlock x1 x2) = State.kept x1 := by
  unfold State.clearBlock
  repeat' first
    | dsimp only
    | dsimp only [State.kept]

theorem State.softState_kept (x1 : State) (x2) :
    State.kept (State.softState x1 x2) = State.kept x1 := by
  unfold State.softState
  repeat' first
    | with_reducible rfl
    | with_reducible refine (State.clearBlock_kept _ _).trans ?_
    | with_reducible refine (State.laneDrain_kept _ _ _).trans ?_
    | with_reducible refine (State.wr_kept _ _ _ _ _ _).trans ?_
    | with_reducible refine (State.setCan_kept _ _ _).trans ?_
    | with_reducible refine (State.canIntegrate_kept _ _).trans ?_
    | with_reducible refine (State.zoneOff_kept _ _).trans ?_
    | with_reducible refine (State.driveSync_kept _).trans ?_
    | with_reducible refine (State.cogSoft_kept _ _).trans ?_
    | with_reducible refine (State.sluSoft_kept _ _).trans ?_
    | with_reducible refine (State.setLink_kept _ _ _).trans ?_
    | with_reducible refine (State.setWord_kept _ _ _ _ _).trans ?_
    | with_reducible refine (State.loseWindows_kept _ _).trans ?_
    | with_reducible refine (State.axisLoad_kept _ _).trans ?_
    | with_reducible refine (State.twinRelease_kept _ _).trans ?_
    | with_reducible refine (State.waitDone_kept _ _ _).trans ?_
    | with_reducible refine (State.fwSync_kept _).trans ?_
    | with_reducible refine (State.wearLoad_kept _).trans ?_
    | with_reducible refine (foldl_kept _ _ (fun _ _ => ?_)).trans ?_
    | with_reducible refine ite_kept ?_ ?_
    | dsimp only
    | fail_if_no_progress (dsimp only [State.kept]; show State.kept _ = State.kept _)
    | split

theorem State.softRestart_kept (x1 : State) (x2) :
    State.kept (State.softRestart x1 x2) = State.kept x1 := by
  unfold State.softRestart
  repeat' first
    | with_reducible rfl
    | with_reducible refine (State.linkEnable_kept _ _).trans ?_
    | with_reducible refine (State.usbAttach_kept _).trans ?_
    | split

theorem execSoftReset_keeps (x1) (x2 : State) :
    Keeps (execSoftReset x1 x2) x2 := by
  unfold execSoftReset
  repeat' first
    | with_reducible rfl
    | with_reducible refine State.atPage_keeps _ _ _ ?_
    | with_reducible refine (State.wr_kept _ _ _ _ _ _).trans ?_
    | with_reducible refine (State.softState_kept _ _).trans ?_
    | with_reducible refine (State.softRestart_kept _ _).trans ?_
    | with_reducible refine (State.setPageSt_kept _ _ _).trans ?_
    | with_reducible refine keeps_next ?_
    | with_reducible refine ite_keeps ?_ ?_
    | dsimp only
    | split

theorem execApply_keeps (x1) (x2 : State) :
    Keeps (execApply x1 x2) x2 := by
  unfold execApply
  repeat' first
    | with_reducible rfl
    | with_reducible refine State.atPage_keeps _ _ _ ?_
    | with_reducible refine (State.setPageSt_kept _ _ _).trans ?_
    | with_reducible refine keeps_next ?_
    | with_reducible refine ite_keeps ?_ ?_

theorem execBindValidate_keeps (x1 : State) :
    Keeps (execBindValidate x1) x1 := by
  unfold execBindValidate
  repeat' first
    | with_reducible rfl
    | with_reducible refine keeps_next ?_
    | with_reducible refine ite_keeps ?_ ?_
    | dsimp only
    | dsimp only [State.kept]

theorem execClearShadow_keeps (x1 : State) :
    Keeps (execClearShadow x1) x1 := by
  unfold execClearShadow
  repeat' first
    | with_reducible rfl
    | with_reducible refine keeps_next ?_
    | with_reducible refine ite_keeps ?_ ?_
    | dsimp only
    | dsimp only [State.kept]

theorem execSoftResetDone_keeps (x1) (x2 : State) :
    Keeps (execSoftResetDone x1 x2) x2 := by
  unfold execSoftResetDone
  repeat' first
    | with_reducible rfl
    | with_reducible refine (State.setPageSt_kept _ _ _).trans ?_
    | with_reducible refine (State.wr_kept _ _ _ _ _ _).trans ?_
    | with_reducible refine keeps_next ?_
    | with_reducible refine ite_keeps ?_ ?_

theorem execApplyCopy_keeps (x1) (x2 : State) :
    Keeps (execApplyCopy x1 x2) x2 := by
  unfold execApplyCopy
  repeat' first
    | with_reducible rfl
    | with_reducible refine (State.effect_kept _ _ _).trans ?_
    | with_reducible refine (State.applyDone_kept _ _).trans ?_
    | with_reducible refine keeps_next ?_
    | with_reducible refine ite_kept ?_ ?_
    | with_reducible refine ite_keeps ?_ ?_

theorem execBindValidateDone_keeps (x1 : State) :
    Keeps (execBindValidateDone x1) x1 := by
  unfold execBindValidateDone
  repeat' first
    | with_reducible rfl
    | with_reducible refine (State.count_kept _ _ _ _).trans ?_
    | with_reducible refine (State.irq_kept _ _ _).trans ?_
    | with_reducible refine (State.bindResult_kept _ _).trans ?_
    | with_reducible refine keeps_next ?_
    | with_reducible refine ite_keeps ?_ ?_
    | dsimp only
    | dsimp only [State.kept]

/-! ## Write.lean -/

theorem State.msixAgain_kept (x1 : State) (x2) :
    State.kept (State.msixAgain x1 x2) = State.kept x1 := by
  unfold State.msixAgain
  repeat' first
    | with_reducible rfl
    | with_reducible refine (State.sendMsix_kept _ _).trans ?_
    | with_reducible refine ite_kept ?_ ?_

theorem State.intEnWrite_kept (x1 : State) (x2) (x3) :
    State.kept (State.intEnWrite x1 x2 x3) = State.kept x1 := by
  unfold State.intEnWrite
  repeat' first
    | with_reducible rfl
    | with_reducible refine (State.msixAgain_kept _ _).trans ?_
    | with_reducible refine (State.msixRise_kept _ _ _).trans ?_
    | with_reducible refine (State.wr_kept _ _ _ _ _ _).trans ?_

theorem State.msixAll_kept (x1) (x2 : State) :
    State.kept (State.msixAll x1 x2) = State.kept x2 := by
  unfold State.msixAll
  repeat' first
    | with_reducible rfl
    | with_reducible refine (State.sendMsix_kept _ _).trans ?_
    | with_reducible refine (foldl_kept _ _ (fun _ _ => ?_)).trans ?_
    | with_reducible refine ite_kept ?_ ?_

theorem State.putWord_kept (x1 : State) (x2) (x3) (x4) (x5) (x6) :
    State.kept (State.putWord x1 x2 x3 x4 x5 x6) = State.kept x1 := by
  unfold State.putWord
  repeat' first
    | with_reducible rfl
    | with_reducible refine (State.setWord_kept _ _ _ _ _).trans ?_
    | with_reducible refine (State.setShadow_kept _ _ _ _).trans ?_
    | with_reducible refine ite_kept ?_ ?_

theorem State.txbWrite_kept (x1 : State) (x2) (x3) (x4) (x5) :
    State.kept (State.txbWrite x1 x2 x3 x4 x5) = State.kept x1 := by
  unfold State.txbWrite
  repeat' first
    | with_reducible rfl
    | with_reducible refine (State.setCan_kept _ _ _).trans ?_

theorem State.rwWrite_kept (x1 : State) (x2) (x3) (x4) (x5) :
    State.kept (State.rwWrite x1 x2 x3 x4 x5) = State.kept x1 := by
  unfold State.rwWrite
  repeat' first
    | with_reducible rfl
    | with_reducible refine (State.setEnable_kept _ _ _).trans ?_
    | with_reducible refine (State.intEnWrite_kept _ _ _).trans ?_
    | with_reducible refine (State.msixAll_kept _ _).trans ?_
    | with_reducible refine (State.putWord_kept _ _ _ _ _ _).trans ?_
    | with_reducible refine (State.hopSync_kept _).trans ?_
    | with_reducible refine (State.pmapStageWrite_kept _ _ _).trans ?_
    | with_reducible refine (State.outHost_kept _ _ _).trans ?_
    | with_reducible refine (State.cogStoreWrite_kept _ _ _ _).trans ?_
    | with_reducible refine (State.cogCfgWrite_kept _ _ _).trans ?_
    | with_reducible refine (State.cogClaimWrite_kept _ _ _).trans ?_
    | with_reducible refine (State.txbWrite_kept _ _ _ _ _).trans ?_
    | with_reducible refine (State.refSync_kept _ _).trans ?_
    | with_reducible refine (State.mirMode_kept _).trans ?_
    | with_reducible refine (State.traceMode_kept _).trans ?_
    | with_reducible refine (State.wr_kept _ _ _ _ _ _).trans ?_
    | with_reducible refine (foldl_kept _ _ (fun _ _ => ?_)).trans ?_
    | with_reducible refine ite_kept ?_ ?_
    | dsimp only
    | fail_if_no_progress (dsimp only [State.kept] <;> show State.kept _ = State.kept _)
    | split

/-! ## Courses.lean -/

theorem State.crsArm_kept (x1 : State) (x2) :
    State.kept (State.crsArm x1 x2) = State.kept x1 := by
  unfold State.crsArm
  repeat' first
    | with_reducible refine (State.wr_kept _ _ _ _ _ _).trans ?_
    | with_reducible refine (State.wr64_kept _ _ _ _ _ _ _).trans ?_
    | dsimp only
    | dsimp only [State.kept]

theorem State.crsMismatch_kept (x1 : State) :
    State.kept (State.crsMismatch x1) = State.kept x1 := by
  unfold State.crsMismatch
  repeat' first
    | with_reducible rfl
    | with_reducible refine (State.irq_kept _ _ _).trans ?_
    | with_reducible refine (State.wr_kept _ _ _ _ _ _).trans ?_

theorem State.courseEpoch_kept (x1 : State) (x2) (x3) :
    State.kept (State.courseEpoch x1 x2 x3) = State.kept x1 := by
  unfold State.courseEpoch
  repeat' first
    | with_reducible rfl
    | with_reducible refine (State.wr_kept _ _ _ _ _ _).trans ?_
    | with_reducible refine (State.setWord_kept _ _ _ _ _).trans ?_
    | with_reducible refine (State.setEpoch_kept _ _).trans ?_
    | with_reducible refine ite_kept ?_ ?_
    | dsimp only
    | fail_if_no_progress (dsimp only [State.kept]; show State.kept _ = State.kept _)
    | split

theorem State.courseWord_kept (x1 : State) (x2) (x3) (x4) :
    State.kept (State.courseWord x1 x2 x3 x4) = State.kept x1 := by
  unfold State.courseWord
  repeat' first
    | with_reducible rfl
    | with_reducible refine (State.setCan_kept _ _ _).trans ?_
    | with_reducible refine (State.rwWrite_kept _ _ _ _ _).trans ?_
    | with_reducible refine ite_kept ?_ ?_

theorem State.coursePage_kept (x1 : State) (x2) (x3) :
    State.kept (State.coursePage x1 x2 x3) = State.kept x1 := by
  unfold State.coursePage
  repeat' first
    | with_reducible rfl
    | with_reducible refine (State.setWord_kept _ _ _ _ _).trans ?_
    | with_reducible refine (State.courseWord_kept _ _ _ _).trans ?_
    | with_reducible refine (State.bindTakeOf_kept _ _).trans ?_
    | with_reducible refine (State.effect_kept _ _ _).trans ?_
    | with_reducible refine (State.setEnable_kept _ _ _).trans ?_
    | with_reducible refine (foldl_kept _ _ (fun _ _ => ?_)).trans ?_
    | with_reducible refine ite_kept ?_ ?_
    | dsimp only
    | fail_if_no_progress (dsimp only [State.kept]; show State.kept _ = State.kept _)
    | split

theorem State.courseTake_kept (x1 : State) (x2) (x3) (x4) (x5) (x6) :
    State.kept (State.courseTake x1 x2 x3 x4 x5 x6) = State.kept x1 := by
  unfold State.courseTake
  repeat' first
    | with_reducible rfl
    | with_reducible refine (State.courseEpoch_kept _ _ _).trans ?_
    | with_reducible refine (State.coursePage_kept _ _ _).trans ?_
    | with_reducible refine (State.copied_kept _ _).trans ?_
    | with_reducible refine (State.wr_kept _ _ _ _ _ _).trans ?_
    | with_reducible refine (State.count_kept _ _ _ _).trans ?_
    | with_reducible refine (State.irq_kept _ _ _).trans ?_
    | with_reducible refine (State.wr64_kept _ _ _ _ _ _ _).trans ?_
    | with_reducible refine (foldl_kept _ _ (fun _ _ => ?_)).trans ?_
    | with_reducible refine ite_kept ?_ ?_
    | dsimp only
    | fail_if_no_progress (dsimp only [State.kept]; show State.kept _ = State.kept _)

theorem State.imgWrite_kept (x1 : State) (x2) :
    State.kept (State.imgWrite x1 x2) = State.kept x1 := by
  unfold State.imgWrite
  repeat' first
    | with_reducible rfl
    | with_reducible refine (State.wr_kept _ _ _ _ _ _).trans ?_
    | with_reducible refine (State.setWord_kept _ _ _ _ _).trans ?_
    | with_reducible refine (State.rwWrite_kept _ _ _ _ _).trans ?_
    | with_reducible refine ite_kept ?_ ?_

theorem State.configure_kept (x1 : State) (x2) (x3) :
    State.kept (State.configure x1 x2 x3) = State.kept x1 := by
  unfold State.configure
  repeat' first
    | with_reducible rfl
    | with_reducible refine (State.imgWrite_kept _ _).trans ?_
    | with_reducible refine (State.effect_kept _ _ _).trans ?_
    | with_reducible refine (State.wr_kept _ _ _ _ _ _).trans ?_
    | with_reducible refine (foldl_kept _ _ (fun _ _ => ?_)).trans ?_

theorem execCrsSwitch_keeps (x1) (x2) (x3) (x4 : State) :
    Keeps (execCrsSwitch x1 x2 x3 x4) x4 := by
  unfold execCrsSwitch
  repeat' first
    | with_reducible rfl
    | with_reducible refine (State.hkDefer_kept _ _ _ _ _).trans ?_
    | with_reducible refine (State.wr_kept _ _ _ _ _ _).trans ?_
    | with_reducible refine (State.irq_kept _ _ _).trans ?_
    | with_reducible refine (State.crsArm_kept _ _).trans ?_
    | with_reducible refine (State.originate_kept _ _ _ _ _).trans ?_
    | with_reducible refine keeps_next ?_
    | with_reducible refine ite_keeps ?_ ?_
    | dsimp only
    | fail_if_no_progress (dsimp only [State.kept]; show State.kept _ = State.kept _)

theorem State.storeSync_kept (x1 : State) :
    State.kept (State.storeSync x1) = State.kept x1 := by
  unfold State.storeSync
  repeat' first
    | with_reducible rfl
    | with_reducible refine (State.wr_kept _ _ _ _ _ _).trans ?_

theorem State.setStore_kept (x1 : State) (x2) :
    State.kept (State.setStore x1 x2) = State.kept x1 := by
  unfold State.setStore
  repeat' first
    | with_reducible refine (State.storeSync_kept _).trans ?_
    | dsimp only
    | dsimp only [State.kept]

theorem State.storeFail_kept (x1 : State) (x2) :
    State.kept (State.storeFail x1 x2) = State.kept x1 := by
  unfold State.storeFail
  repeat' first
    | with_reducible rfl
    | with_reducible refine (State.count_kept _ _ _ _).trans ?_
    | with_reducible refine (State.irq_kept _ _ _).trans ?_
    | with_reducible refine (State.wr_kept _ _ _ _ _ _).trans ?_

theorem execCrsStoreOpen_keeps (x1) (x2) (x3) (x4 : State) :
    Keeps (execCrsStoreOpen x1 x2 x3 x4) x4 := by
  unfold execCrsStoreOpen
  repeat' first
    | with_reducible rfl
    | with_reducible refine (State.hkDefer_kept _ _ _ _ _).trans ?_
    | with_reducible refine (State.setStore_kept _ _).trans ?_
    | with_reducible refine (State.wr_kept _ _ _ _ _ _).trans ?_
    | with_reducible refine (State.storeFail_kept _ _).trans ?_
    | with_reducible refine keeps_next ?_
    | with_reducible refine ite_keeps ?_ ?_
    | split

theorem execCrsStoreCommit_keeps (x1) (x2) (x3 : State) :
    Keeps (execCrsStoreCommit x1 x2 x3) x3 := by
  unfold execCrsStoreCommit
  repeat' first
    | with_reducible rfl
    | with_reducible refine (State.hkDefer_kept _ _ _ _ _).trans ?_
    | with_reducible refine (State.storeFail_kept _ _).trans ?_
    | with_reducible refine (State.setStore_kept _ _).trans ?_
    | with_reducible refine (State.flashWorn_kept _).trans ?_
    | with_reducible refine keeps_next ?_
    | with_reducible refine ite_keeps ?_ ?_
    | dsimp only
    | split

theorem execCrsStoreAbort_keeps (x1) (x2) (x3 : State) :
    Keeps (execCrsStoreAbort x1 x2 x3) x3 := by
  unfold execCrsStoreAbort
  repeat' first
    | with_reducible rfl
    | with_reducible refine (State.hkDefer_kept _ _ _ _ _).trans ?_
    | with_reducible refine (State.setStore_kept _ _).trans ?_
    | with_reducible refine keeps_next ?_
    | with_reducible refine ite_kept ?_ ?_
    | with_reducible refine ite_keeps ?_ ?_
    | split

theorem execCrsStoreData_keeps (x1) (x2) (x3 : State) :
    Keeps (execCrsStoreData x1 x2 x3) x3 := by
  unfold execCrsStoreData
  repeat' first
    | with_reducible rfl
    | with_reducible refine (State.hkDefer_kept _ _ _ _ _).trans ?_
    | with_reducible refine (State.setStore_kept _ _).trans ?_
    | with_reducible refine keeps_next ?_
    | with_reducible refine ite_keeps ?_ ?_
    | split

theorem State.crsHold_kept (x1 : State) (x2) (x3) :
    State.kept (State.crsHold x1 x2 x3) = State.kept x1 := by
  unfold State.crsHold
  repeat' first
    | with_reducible rfl
    | with_reducible refine (State.wr_kept _ _ _ _ _ _).trans ?_

theorem State.loadImages_kept (x1 : State) :
    State.kept (State.loadImages x1) = State.kept x1 := by
  unfold State.loadImages
  repeat' first
    | with_reducible rfl
    | with_reducible refine (State.crsHold_kept _ _ _).trans ?_
    | with_reducible refine (State.wr_kept _ _ _ _ _ _).trans ?_
    | with_reducible refine (foldl_kept _ _ (fun _ _ => ?_)).trans ?_
    | dsimp only
    | fail_if_no_progress (dsimp only [State.kept] <;> show State.kept _ = State.kept _)
    | split

theorem State.applyFoundation_kept (x1 : State) :
    State.kept (State.applyFoundation x1) = State.kept x1 := by
  unfold State.applyFoundation
  repeat' first
    | with_reducible refine (State.wr_kept _ _ _ _ _ _).trans ?_
    | with_reducible refine (State.wr64_kept _ _ _ _ _ _ _).trans ?_
    | with_reducible refine (State.configure_kept _ _ _).trans ?_
    | with_reducible refine (State.detailSync_kept _).trans ?_
    | with_reducible refine (State.setNode_kept _ _).trans ?_
    | with_reducible refine (State.stepDone_kept _ _).trans ?_
    | with_reducible refine (State.portsSync_kept _).trans ?_
    | with_reducible refine (State.linkEnable_kept _ _).trans ?_
    | with_reducible refine ite_kept ?_ ?_
    | dsimp only
    | fail_if_no_progress (dsimp only [State.kept] <;> show State.kept _ = State.kept _)
    | split

theorem State.foundation_kept (x1 : State) :
    State.kept (State.foundation x1) = State.kept x1 := by
  unfold State.foundation
  repeat' first
    | with_reducible rfl
    | with_reducible refine (State.loadImages_kept _).trans ?_
    | with_reducible refine (State.wr_kept _ _ _ _ _ _).trans ?_
    | with_reducible refine (State.applyFoundation_kept _).trans ?_
    | with_reducible refine ite_kept ?_ ?_

theorem execFoundationApply_keeps (x1 : State) :
    Keeps (execFoundationApply x1) x1 := by
  unfold execFoundationApply
  repeat' first
    | with_reducible rfl
    | with_reducible refine (State.foundation_kept _).trans ?_
    | with_reducible refine keeps_next ?_

theorem execClaimHeld_keeps (x1 : State) :
    Keeps (execClaimHeld x1) x1 := by
  unfold execClaimHeld
  repeat' first
    | with_reducible rfl
    | with_reducible refine (State.claimHeld_kept _).trans ?_
    | with_reducible refine (State.bindTake_kept _).trans ?_
    | with_reducible refine (State.configure_kept _ _ _).trans ?_
    | with_reducible refine (State.wr_kept _ _ _ _ _ _).trans ?_
    | with_reducible refine keeps_next ?_
    | with_reducible refine ite_keeps ?_ ?_

theorem execCourseSwitchRepeat_keeps (x1 : State) :
    Keeps (execCourseSwitchRepeat x1) x1 := by
  unfold execCourseSwitchRepeat
  repeat' first
    | with_reducible rfl
    | with_reducible refine (State.passTo_kept _ _).trans ?_
    | with_reducible refine (State.originate_kept _ _ _ _ _).trans ?_
    | with_reducible refine keeps_next ?_
    | dsimp only
    | fail_if_no_progress (dsimp only [State.kept] <;> show State.kept _ = State.kept _)
    | split

theorem State.armSwitch_kept (x1 : State) (x2) :
    State.kept (State.armSwitch x1 x2) = State.kept x1 := by
  unfold State.armSwitch
  repeat' first
    | with_reducible rfl
    | with_reducible refine (State.count_kept _ _ _ _).trans ?_
    | with_reducible refine (State.irq_kept _ _ _).trans ?_
    | with_reducible refine (State.crsArm_kept _ _).trans ?_
    | with_reducible refine ite_kept ?_ ?_
    | split

theorem State.answerQuery_kept (x1 : State) (x2) :
    State.kept (State.answerQuery x1 x2) = State.kept x1 := by
  unfold State.answerQuery
  repeat' first
    | with_reducible rfl
    | with_reducible refine (State.count_kept _ _ _ _).trans ?_
    | with_reducible refine (State.originate_kept _ _ _ _ _).trans ?_

theorem State.adoptState_kept (x1 : State) (x2) :
    State.kept (State.adoptState x1 x2) = State.kept x1 := by
  unfold State.adoptState
  repeat' first
    | with_reducible refine (State.crsMismatch_kept _).trans ?_
    | with_reducible refine (State.wr64_kept _ _ _ _ _ _ _).trans ?_
    | with_reducible refine (State.courseTake_kept _ _ _ _ _ _).trans ?_
    | with_reducible refine (State.armSwitch_kept _ _).trans ?_
    | with_reducible refine ite_kept ?_ ?_
    | dsimp only
    | fail_if_no_progress (dsimp only [State.kept] <;> show State.kept _ = State.kept _)
    | split

theorem execCourseSwitchRx_keeps (x1 : State) :
    Keeps (execCourseSwitchRx x1) x1 := by
  unfold execCourseSwitchRx
  repeat' first
    | with_reducible rfl
    | with_reducible refine (State.takeCell_kept _ _ _ _ (by assumption)).trans ?_
    | with_reducible refine (State.count_kept _ _ _ _).trans ?_
    | with_reducible refine (State.armSwitch_kept _ _).trans ?_
    | with_reducible refine (State.answerQuery_kept _ _).trans ?_
    | with_reducible refine (State.adoptState_kept _ _).trans ?_
    | with_reducible refine keeps_next ?_
    | with_reducible refine ite_kept ?_ ?_
    | with_reducible refine ite_keeps ?_ ?_
    | dsimp only
    | split

theorem execCourseQueryTx_keeps (x1 : State) :
    Keeps (execCourseQueryTx x1) x1 := by
  unfold execCourseQueryTx
  repeat' first
    | with_reducible rfl
    | with_reducible refine (State.passTo_kept _ _).trans ?_
    | with_reducible refine (State.originate_kept _ _ _ _ _).trans ?_
    | with_reducible refine keeps_next ?_
    | with_reducible refine ite_keeps ?_ ?_
    | dsimp only
    | fail_if_no_progress (dsimp only [State.kept]; show State.kept _ = State.kept _)
    | split

theorem execCrsStoreDone_keeps (x1 : State) :
    Keeps (execCrsStoreDone x1) x1 := by
  unfold execCrsStoreDone
  repeat' first
    | with_reducible rfl
    | with_reducible refine (State.crsHold_kept _ _ _).trans ?_
    | with_reducible refine (State.setStore_kept _ _).trans ?_
    | with_reducible refine (State.count_kept _ _ _ _).trans ?_
    | with_reducible refine (State.irq_kept _ _ _).trans ?_
    | with_reducible refine (State.wr_kept _ _ _ _ _ _).trans ?_
    | with_reducible refine (State.foundation_kept _).trans ?_
    | with_reducible refine keeps_next ?_
    | with_reducible refine ite_kept ?_ ?_
    | with_reducible refine ite_keeps ?_ ?_
    | dsimp only
    | fail_if_no_progress (dsimp only [State.kept] <;> show State.kept _ = State.kept _)
    | split

theorem execCrsStoreTimeout_keeps (x1 : State) :
    Keeps (execCrsStoreTimeout x1) x1 := by
  unfold execCrsStoreTimeout
  repeat' first
    | with_reducible rfl
    | with_reducible refine (State.setStore_kept _ _).trans ?_
    | with_reducible refine (State.passTo_kept _ _).trans ?_
    | with_reducible refine keeps_next ?_
    | with_reducible refine ite_kept ?_ ?_
    | split

end Sys2Proof.Machine
end

