-- ==== Sys2Proof/Laws/KeptCommit.lean ====
section
/-!
SUPPORT. What only a reset of the hub may touch is kept by the functions of epochs, commits, takeover, the switch core and observation.
-/
set_option Elab.async false

namespace Sys2Proof.Machine

/-! ## Epoch.lean -/

theorem State.takeMap_kept (x1 : State) (x2) :
    State.kept (State.takeMap x1 x2) = State.kept x1 := by
  unfold State.takeMap
  repeat' first
    | with_reducible rfl
    | with_reducible refine (State.setShard_kept _ _ _).trans ?_
    | with_reducible refine (State.mapAdvance_kept _ _).trans ?_
    | with_reducible refine (State.bindOrphans_kept _).trans ?_
    | with_reducible refine (foldl_kept _ _ (fun _ _ => ?_)).trans ?_
    | with_reducible refine ite_kept ?_ ?_
    | dsimp only
    | with_reducible refine (kept_img _ _).trans ?_

theorem State.axisRecords_kept (x1 : State) (x2) :
    State.kept (State.axisRecords x1 x2).1 = State.kept x1 := by
  unfold State.axisRecords
  repeat' first
    | with_reducible rfl
    | with_reducible refine (State.axisRecord_kept _ _ _).trans ?_
    | with_reducible refine (foldl_fst_kept _ _ (fun _ _ => ?_)).trans ?_
    | with_reducible refine ite_fst_kept ?_ ?_

theorem State.twinOffsets_kept (x1 : State) :
    State.kept (State.twinOffsets x1) = State.kept x1 := by
  unfold State.twinOffsets
  repeat' first
    | with_reducible rfl
    | dsimp only
    | fail_if_no_progress (dsimp only [State.kept] <;> show State.kept _ = State.kept _)
    | split

theorem State.twinCapture_kept (x1 : State) (x2) (x3) :
    State.kept (State.twinCapture x1 x2 x3) = State.kept x1 := by
  unfold State.twinCapture
  repeat' first
    | with_reducible rfl
    | with_reducible refine (State.twinOffsets_kept _).trans ?_
    | dsimp only
    | fail_if_no_progress (dsimp only [State.kept]; show State.kept _ = State.kept _)

theorem State.replayFresh_kept (x1 : State) (x2) (x3) :
    State.kept (State.replayFresh x1 x2 x3) = State.kept x1 := by
  unfold State.replayFresh
  repeat' first
    | with_reducible refine (State.replaySync_kept _).trans ?_
    | dsimp only
    | dsimp only [State.kept]

theorem State.ownEpoch_kept (x1 : State) (x2) (x3) (x4) (x5) :
    State.kept (State.ownEpoch x1 x2 x3 x4 x5) = State.kept x1 := by
  unfold State.ownEpoch
  repeat' first
    | dsimp only
    | dsimp only [State.kept]

theorem State.takeoverDemands_kept (x1 : State) (x2) (x3) :
    State.kept (State.takeoverDemands x1 x2 x3) = State.kept x1 := by
  unfold State.takeoverDemands
  repeat' first
    | with_reducible rfl
    | with_reducible refine (State.setDemand_kept _ _ _).trans ?_
    | with_reducible refine (foldl_kept _ _ (fun _ _ => ?_)).trans ?_
    | with_reducible refine ite_kept ?_ ?_

theorem State.demandValue_kept (x1 : State) (x2) (x3) (x4) (x5) :
    State.kept (State.demandValue x1 x2 x3 x4 x5).1 = State.kept x1 := by
  unfold State.demandValue
  repeat' first
    | with_reducible rfl
    | with_reducible refine (State.drawn_kept _).trans ?_
    | with_reducible refine (State.setDemand_kept _ _ _).trans ?_
    | with_reducible refine ite_fst_kept ?_ ?_
    | dsimp only
    | split

theorem State.pointValues_kept (x1 : State) (x2) (x3) (x4) (x5) :
    State.kept (State.pointValues x1 x2 x3 x4 x5).1 = State.kept x1 := by
  unfold State.pointValues
  repeat' first
    | with_reducible rfl
    | with_reducible refine (State.demandValue_kept _ _ _ _ _).trans ?_
    | with_reducible refine (foldl_fst_kept _ _ (fun _ _ => ?_)).trans ?_
    | with_reducible refine ite_fst_kept ?_ ?_

theorem State.beginPublish_kept (x1 : State) (x2) (x3) :
    State.kept (State.beginPublish x1 x2 x3) = State.kept x1 := by
  unfold State.beginPublish
  repeat' first
    | with_reducible rfl
    | with_reducible refine (State.wr_kept _ _ _ _ _ _).trans ?_
    | with_reducible refine (State.replayFresh_kept _ _ _).trans ?_
    | with_reducible refine (State.ownEpoch_kept _ _ _ _ _).trans ?_
    | with_reducible refine (State.takeoverDemands_kept _ _ _).trans ?_
    | with_reducible refine (State.pointValues_kept _ _ _ _ _).trans ?_
    | with_reducible refine ite_kept ?_ ?_
    | dsimp only
    | fail_if_no_progress (dsimp only [State.kept]; show State.kept _ = State.kept _)

theorem State.replayFree_kept (x1 : State) (x2) :
    State.kept (State.replayFree x1 x2) = State.kept x1 := by
  unfold State.replayFree
  repeat' first
    | with_reducible refine (State.replaySync_kept _).trans ?_
    | dsimp only
    | dsimp only [State.kept]

theorem State.epochBegin_kept (x1 : State) :
    State.kept (State.epochBegin x1) = State.kept x1 := by
  unfold State.epochBegin
  repeat' first
    | with_reducible rfl
    | with_reducible refine (State.setEpoch_kept _ _).trans ?_
    | with_reducible refine (State.takeBase_kept _ _).trans ?_
    | with_reducible refine (State.passRing_kept _ _).trans ?_
    | with_reducible refine (State.takeMap_kept _ _).trans ?_
    | with_reducible refine (State.wr_kept _ _ _ _ _ _).trans ?_
    | with_reducible refine (State.twinEntry_kept _ _).trans ?_
    | with_reducible refine (State.axisRecords_kept _ _).trans ?_
    | with_reducible refine (State.twinCapture_kept _ _ _).trans ?_
    | with_reducible refine (State.beginPublish_kept _ _ _).trans ?_
    | with_reducible refine (State.replayFree_kept _ _).trans ?_
    | with_reducible refine ite_kept ?_ ?_
    | dsimp only
    | fail_if_no_progress (dsimp only [State.kept]; show State.kept _ = State.kept _)

/-! ## Commit.lean -/

theorem State.cisternFails_kept (x1 : State) (x2) :
    State.kept (State.cisternFails x1 x2) = State.kept x1 := by
  unfold State.cisternFails
  repeat' first
    | with_reducible rfl
    | with_reducible refine (State.fault_kept _ _ _ _ _ _).trans ?_
    | with_reducible refine (State.repairShard_kept _ _).trans ?_
    | with_reducible refine (foldl_kept _ _ (fun _ _ => ?_)).trans ?_
    | with_reducible refine ite_kept ?_ ?_
    | dsimp only
    | fail_if_no_progress (dsimp only [State.kept]; show State.kept _ = State.kept _)

theorem State.lagSync_kept (x1 : State) :
    State.kept (State.lagSync x1) = State.kept x1 := by
  unfold State.lagSync
  repeat' first
    | with_reducible rfl
    | with_reducible refine (State.enterLag_kept _).trans ?_
    | with_reducible refine (State.depthSync_kept _).trans ?_
    | with_reducible refine (State.collect_kept _ _).trans ?_
    | with_reducible refine ite_kept ?_ ?_

theorem State.copyStop_kept (x1 : State) (x2) :
    State.kept (State.copyStop x1 x2) = State.kept x1 := by
  unfold State.copyStop
  repeat' first
    | with_reducible rfl
    | with_reducible refine (State.irq_kept _ _ _).trans ?_
    | with_reducible refine (foldl_kept _ _ (fun _ _ => ?_)).trans ?_
    | dsimp only
    | dsimp only [State.kept]

theorem State.bankStep_kept (x1 : State) :
    State.kept (State.bankStep x1) = State.kept x1 := by
  unfold State.bankStep
  repeat' first
    | with_reducible rfl
    | with_reducible refine (State.wr_kept _ _ _ _ _ _).trans ?_
    | with_reducible refine (State.copyStop_kept _ _).trans ?_
    | with_reducible refine ite_kept ?_ ?_
    | dsimp only
    | fail_if_no_progress (dsimp only [State.kept]; show State.kept _ = State.kept _)

theorem State.prune_kept (x1 : State) (x2) :
    State.kept (State.prune x1 x2) = State.kept x1 := by
  unfold State.prune
  repeat' first
    | dsimp only
    | dsimp only [State.kept]

theorem State.quietTo_kept (x1 : State) (x2) :
    State.kept (State.quietTo x1 x2) = State.kept x1 := by
  unfold State.quietTo
  repeat' first
    | with_reducible rfl
    | with_reducible refine (State.setNode_kept _ _).trans ?_
    | with_reducible refine (State.zQuiet_kept _ _).trans ?_
    | with_reducible refine (State.lanesHalt_kept _).trans ?_
    | with_reducible refine (foldl_kept _ _ (fun _ _ => ?_)).trans ?_
    | with_reducible refine ite_kept ?_ ?_

theorem State.quietCommit_kept (x1 : State) :
    State.kept (State.quietCommit x1) = State.kept x1 := by
  unfold State.quietCommit
  repeat' first
    | with_reducible rfl
    | with_reducible refine (State.quietTo_kept _ _).trans ?_
    | with_reducible refine ite_kept ?_ ?_
    | dsimp only
    | fail_if_no_progress (dsimp only [State.kept] <;> show State.kept _ = State.kept _)
    | split

theorem State.trackCommit_kept (x1 : State) (x2) (x3) (x4) (x5) :
    State.kept (State.trackCommit x1 x2 x3 x4 x5) = State.kept x1 := by
  unfold State.trackCommit
  repeat' first
    | with_reducible rfl
    | with_reducible refine (State.refCommit_kept _ _ _ _ _ _).trans ?_
    | with_reducible refine (State.trkEvent_kept _ _ _ _ _ _).trans ?_
    | with_reducible refine (State.winEvalAll_kept _ _).trans ?_
    | with_reducible refine (foldl_kept _ _ (fun _ _ => ?_)).trans ?_
    | with_reducible refine ite_kept ?_ ?_

theorem State.copiesDue_kept (x1 : State) :
    State.kept (State.copiesDue x1) = State.kept x1 := by
  unfold State.copiesDue
  repeat' first
    | with_reducible rfl
    | with_reducible refine (State.wr_kept _ _ _ _ _ _).trans ?_
    | with_reducible refine (foldl_kept _ _ (fun _ _ => ?_)).trans ?_
    | with_reducible refine ite_kept ?_ ?_
    | dsimp only
    | dsimp only [State.kept]

theorem State.commit_kept (x1 : State) (x2) (x3) (x4) :
    State.kept (State.commit x1 x2 x3 x4) = State.kept x1 := by
  unfold State.commit
  repeat' first
    | with_reducible rfl
    | with_reducible refine (State.setBank_kept _ _ _).trans ?_
    | with_reducible refine (State.bankStep_kept _).trans ?_
    | with_reducible refine (State.prune_kept _ _).trans ?_
    | with_reducible refine (State.wr64_kept _ _ _ _ _ _ _).trans ?_
    | with_reducible refine (State.wr_kept _ _ _ _ _ _).trans ?_
    | with_reducible refine (State.count_kept _ _ _ _).trans ?_
    | with_reducible refine (State.irq_kept _ _ _).trans ?_
    | with_reducible refine (State.trace_kept _ _ _ _ _).trans ?_
    | with_reducible refine (State.setNode_kept _ _).trans ?_
    | with_reducible refine (State.stepDone_kept _ _).trans ?_
    | with_reducible refine (State.quietCommit_kept _).trans ?_
    | with_reducible refine (State.trackCommit_kept _ _ _ _ _).trans ?_
    | with_reducible refine (State.copiesDue_kept _).trans ?_
    | with_reducible refine (State.shadowFill_kept _).trans ?_
    | with_reducible refine (State.twinEntry_kept _ _).trans ?_
    | with_reducible refine ite_kept ?_ ?_
    | dsimp only
    | fail_if_no_progress (dsimp only [State.kept]; show State.kept _ = State.kept _)

theorem State.commitRun_kept (x1) (x2 : State) (x3) :
    State.kept (State.commitRun x1 x2 x3) = State.kept x2 := by
  induction x1 generalizing x2 with
  | zero =>
    unfold State.commitRun
    repeat' first
      | with_reducible rfl
  | succ k ih =>
    unfold State.commitRun
    repeat' first
      | with_reducible refine (ih _).trans ?_
      | with_reducible rfl
      | with_reducible refine (State.commit_kept _ _ _ _).trans ?_
      | with_reducible refine ite_kept ?_ ?_
      | dsimp only
      | fail_if_no_progress (dsimp only [State.kept] <;> show State.kept _ = State.kept _)
      | split

theorem State.ownMend_kept (x1 : State) :
    State.kept (State.ownMend x1) = State.kept x1 := by
  unfold State.ownMend
  repeat' first
    | with_reducible rfl
    | with_reducible refine (State.lagSync_kept _).trans ?_
    | with_reducible refine (State.commitRun_kept _ _ _).trans ?_
    | with_reducible refine ite_kept ?_ ?_
    | dsimp only
    | dsimp only [State.kept]

theorem State.driveDio_kept (x1 : State) (x2) (x3) :
    State.kept (State.driveDio x1 x2 x3) = State.kept x1 := by
  unfold State.driveDio
  repeat' first
    | with_reducible rfl
    | with_reducible refine (State.count_kept _ _ _ _).trans ?_
    | with_reducible refine (State.driveLine_kept _ _).trans ?_
    | with_reducible refine (State.setLine_kept _ _ _).trans ?_
    | with_reducible refine (foldl_kept _ _ (fun _ _ => ?_)).trans ?_
    | with_reducible refine ite_kept ?_ ?_

theorem State.driveCan_kept (x1 : State) (x2) (x3) (x4) :
    State.kept (State.driveCan x1 x2 x3 x4).1 = State.kept x1 := by
  unfold State.driveCan
  repeat' first
    | with_reducible rfl
    | with_reducible refine (State.wr_kept _ _ _ _ _ _).trans ?_
    | with_reducible refine (State.setCan_kept _ _ _).trans ?_

theorem State.driveOutputs_kept (x1 : State) (x2) :
    State.kept (State.driveOutputs x1 x2) = State.kept x1 := by
  unfold State.driveOutputs
  repeat' first
    | with_reducible rfl
    | with_reducible refine (State.mbxFrame_kept _ _ _).trans ?_
    | with_reducible refine (State.driveDio_kept _ _ _).trans ?_
    | with_reducible refine (State.sluImage_kept _ _ _).trans ?_
    | with_reducible refine (State.cogMbxSet_kept _ _ _ _).trans ?_
    | with_reducible refine (State.laneMbx_kept _ _ _ _).trans ?_
    | with_reducible refine (State.driveCan_kept _ _ _ _).trans ?_
    | with_reducible refine (State.canRequest_kept _ _ _).trans ?_
    | with_reducible refine (foldl_kept _ _ (fun _ _ => ?_)).trans ?_
    | with_reducible refine (foldl_fst_kept _ _ (fun _ _ => ?_)).trans ?_
    | with_reducible refine ite_kept ?_ ?_
    | dsimp only
    | split

theorem State.armedApplies_kept (x1 : State) (x2) :
    State.kept (State.armedApplies x1 x2).1 = State.kept x1 := by
  unfold State.armedApplies
  repeat' first
    | with_reducible rfl
    | with_reducible refine (State.effect_kept _ _ _).trans ?_
    | with_reducible refine (State.setPageSt_kept _ _ _).trans ?_
    | with_reducible refine (State.copied_kept _ _).trans ?_
    | with_reducible refine (foldl_fst_kept _ _ (fun _ _ => ?_)).trans ?_
    | with_reducible refine ite_kept ?_ ?_

theorem State.appliesAt_kept (x1 : State) (x2) :
    State.kept (State.appliesAt x1 x2) = State.kept x1 := by
  unfold State.appliesAt
  repeat' first
    | with_reducible rfl
    | with_reducible refine (State.armedApplies_kept _ _).trans ?_
    | with_reducible refine (State.crsArm_kept _ _).trans ?_
    | with_reducible refine (State.crsMismatch_kept _).trans ?_
    | with_reducible refine (State.courseTake_kept _ _ _ _ _ _).trans ?_
    | with_reducible refine (State.quietTo_kept _ _).trans ?_
    | with_reducible refine ite_kept ?_ ?_
    | dsimp only
    | fail_if_no_progress (dsimp only [State.kept]; show State.kept _ = State.kept _)
    | split

theorem State.commitInstant_kept (x1 : State) (x2) :
    State.kept (State.commitInstant x1 x2) = State.kept x1 := by
  unfold State.commitInstant
  repeat' first
    | with_reducible rfl
    | with_reducible refine (State.cisternFails_kept _ _).trans ?_
    | with_reducible refine (State.passRing_kept _ _).trans ?_
    | with_reducible refine (State.askFor_kept _ _ _ _).trans ?_
    | with_reducible refine (State.ownMend_kept _).trans ?_
    | with_reducible refine (State.lagSync_kept _).trans ?_
    | with_reducible refine (State.commitRun_kept _ _ _).trans ?_
    | with_reducible refine (State.driveOutputs_kept _ _).trans ?_
    | with_reducible refine (State.linkSwitch_kept _ _).trans ?_
    | with_reducible refine (State.appliesAt_kept _ _).trans ?_
    | with_reducible refine (State.sendCkpt_kept _).trans ?_
    | with_reducible refine (foldl_kept _ _ (fun _ _ => ?_)).trans ?_
    | with_reducible refine ite_kept ?_ ?_
    | dsimp only
    | fail_if_no_progress (dsimp only [State.kept]; show State.kept _ = State.kept _)
    | split

theorem execEpochStart_keeps (x1 : State) :
    Keeps (execEpochStart x1) x1 := by
  unfold execEpochStart
  repeat' first
    | with_reducible rfl
    | with_reducible refine (State.commitInstant_kept _ _).trans ?_
    | with_reducible refine (State.epochBegin_kept _).trans ?_
    | with_reducible refine keeps_next ?_
    | with_reducible refine ite_kept ?_ ?_
    | with_reducible refine ite_keeps ?_ ?_

theorem State.copyEnd_kept (x1 : State) (x2) :
    State.kept (State.copyEnd x1 x2) = State.kept x1 := by
  unfold State.copyEnd
  repeat' first
    | with_reducible refine (State.wr_kept _ _ _ _ _ _).trans ?_
    | with_reducible refine ite_kept ?_ ?_
    | dsimp only
    | dsimp only [State.kept]

theorem State.beginBefore_kept (x1) (x2 : State) (x3) :
    State.kept (State.beginBefore x1 x2 x3) = State.kept x2 := by
  induction x1 generalizing x2 with
  | zero =>
    unfold State.beginBefore
    repeat' first
      | with_reducible rfl
  | succ k ih =>
    unfold State.beginBefore
    repeat' first
      | with_reducible refine (ih _).trans ?_
      | with_reducible rfl
      | with_reducible refine (State.epochBegin_kept _).trans ?_
      | with_reducible refine ite_kept ?_ ?_

theorem execPin_keeps (x1) (x2 : State) :
    Keeps (execPin x1 x2) x2 := by
  unfold execPin
  repeat' first
    | with_reducible rfl
    | with_reducible refine (State.irq_kept _ _ _).trans ?_
    | with_reducible refine (State.commitInstant_kept _ _).trans ?_
    | with_reducible refine (State.beginBefore_kept _ _ _).trans ?_
    | with_reducible refine (State.wr_kept _ _ _ _ _ _).trans ?_
    | with_reducible refine (State.wr64_kept _ _ _ _ _ _ _).trans ?_
    | with_reducible refine (State.count_kept _ _ _ _).trans ?_
    | with_reducible refine keeps_next ?_
    | with_reducible refine ite_kept ?_ ?_
    | with_reducible refine ite_keeps ?_ ?_
    | dsimp only
    | fail_if_no_progress (dsimp only [State.kept]; show State.kept _ = State.kept _)

theorem execLateCommit_keeps (x1 : State) :
    Keeps (execLateCommit x1) x1 := by
  unfold execLateCommit
  repeat' first
    | with_reducible rfl
    | with_reducible refine (State.lagSync_kept _).trans ?_
    | with_reducible refine (State.commitRun_kept _ _ _).trans ?_
    | with_reducible refine keeps_next ?_
    | with_reducible refine ite_keeps ?_ ?_

theorem execCommitInstant_keeps (x1) (x2 : State) :
    Keeps (execCommitInstant x1 x2) x2 := by
  unfold execCommitInstant
  repeat' first
    | with_reducible rfl
    | with_reducible refine (State.commitInstant_kept _ _).trans ?_
    | with_reducible refine (State.beginBefore_kept _ _ _).trans ?_
    | with_reducible refine keeps_next ?_
    | with_reducible refine ite_keeps ?_ ?_

/-! ## Takeover.lean -/

theorem State.takeoverEpoch_kept (x1 : State) (x2) (x3) :
    State.kept (State.takeoverEpoch x1 x2 x3) = State.kept x1 := by
  unfold State.takeoverEpoch
  repeat' first
    | with_reducible rfl
    | with_reducible refine (State.ownEpoch_kept _ _ _ _ _).trans ?_
    | with_reducible refine (State.takeoverDemands_kept _ _ _).trans ?_
    | with_reducible refine (State.pointValues_kept _ _ _ _ _).trans ?_
    | with_reducible refine ite_kept ?_ ?_

theorem execTwinTakeover_keeps (x1 : State) :
    Keeps (execTwinTakeover x1) x1 := by
  unfold execTwinTakeover
  repeat' first
    | with_reducible rfl
    | with_reducible refine (State.fault_kept _ _ _ _ _ _).trans ?_
    | with_reducible refine (State.wr_kept _ _ _ _ _ _).trans ?_
    | with_reducible refine (State.outHost_kept _ _ _).trans ?_
    | with_reducible refine keeps_next ?_
    | with_reducible refine (foldl_kept _ _ (fun _ _ => ?_)).trans ?_
    | with_reducible refine ite_kept ?_ ?_
    | with_reducible refine ite_keeps ?_ ?_
    | dsimp only
    | fail_if_no_progress (dsimp only [State.kept]; show State.kept _ = State.kept _)

theorem State.detect_kept (x1 : State) (x2) (x3) :
    State.kept (State.detect x1 x2 x3) = State.kept x1 := by
  unfold State.detect
  repeat' first
    | with_reducible rfl
    | with_reducible refine (State.launchCold_kept _ _ _).trans ?_
    | with_reducible refine (foldl_kept _ _ (fun _ _ => ?_)).trans ?_
    | dsimp only
    | fail_if_no_progress (dsimp only [State.kept]; show State.kept _ = State.kept _)

theorem execTwinSwitch_keeps (x1) (x2 : State) :
    Keeps (execTwinSwitch x1 x2) x2 := by
  unfold execTwinSwitch
  repeat' first
    | with_reducible rfl
    | with_reducible refine (State.twinRefuse_kept _).trans ?_
    | with_reducible refine (State.detect_kept _ _ _).trans ?_
    | with_reducible refine keeps_next ?_
    | with_reducible refine ite_keeps ?_ ?_

theorem execCompareMismatch_keeps (x1) (x2 : State) :
    Keeps (execCompareMismatch x1 x2) x2 := by
  unfold execCompareMismatch
  repeat' first
    | with_reducible rfl
    | with_reducible refine (State.count_kept _ _ _ _).trans ?_
    | with_reducible refine (State.detect_kept _ _ _).trans ?_
    | with_reducible refine keeps_next ?_
    | with_reducible refine ite_keeps ?_ ?_

theorem execSealCheck_keeps (x1 : State) :
    Keeps (execSealCheck x1) x1 := by
  unfold execSealCheck
  repeat' first
    | with_reducible rfl
    | with_reducible refine (State.passRing_kept _ _).trans ?_
    | with_reducible refine (State.detect_kept _ _ _).trans ?_
    | with_reducible refine keeps_next ?_
    | with_reducible refine ite_keeps ?_ ?_

theorem State.takeoverPublish_kept (x1 : State) (x2) :
    State.kept (State.takeoverPublish x1 x2) = State.kept x1 := by
  unfold State.takeoverPublish
  repeat' first
    | with_reducible rfl
    | with_reducible refine (State.replayFresh_kept _ _ _).trans ?_
    | with_reducible refine (State.takeoverEpoch_kept _ _ _).trans ?_
    | with_reducible refine (State.publish_kept _ _).trans ?_
    | with_reducible refine (State.sealEpoch_kept _ _).trans ?_
    | with_reducible refine (foldl_kept _ _ (fun _ _ => ?_)).trans ?_
    | with_reducible refine ite_kept ?_ ?_
    | dsimp only
    | fail_if_no_progress (dsimp only [State.kept] <;> show State.kept _ = State.kept _)
    | split

theorem execTwinFirstDrive_keeps (x1 : State) :
    Keeps (execTwinFirstDrive x1) x1 := by
  unfold execTwinFirstDrive
  repeat' first
    | with_reducible rfl
    | with_reducible refine (State.twinOffsets_kept _).trans ?_
    | with_reducible refine (State.driveSync_kept _).trans ?_
    | with_reducible refine (State.wr_kept _ _ _ _ _ _).trans ?_
    | with_reducible refine (State.cogStart_kept _ _).trans ?_
    | with_reducible refine (State.launchLock_kept _ _).trans ?_
    | with_reducible refine (State.takeoverPublish_kept _ _).trans ?_
    | with_reducible refine (State.winEvalAll_kept _ _).trans ?_
    | with_reducible refine keeps_next ?_
    | with_reducible refine (foldl_kept _ _ (fun _ _ => ?_)).trans ?_
    | with_reducible refine ite_kept ?_ ?_
    | with_reducible refine ite_keeps ?_ ?_
    | dsimp only
    | fail_if_no_progress (dsimp only [State.kept]; show State.kept _ = State.kept _)

theorem execTwinTakeoverDone_keeps (x1 : State) :
    Keeps (execTwinTakeoverDone x1) x1 := by
  unfold execTwinTakeoverDone
  repeat' first
    | with_reducible rfl
    | with_reducible refine (State.wr_kept _ _ _ _ _ _).trans ?_
    | with_reducible refine (State.wr64_kept _ _ _ _ _ _ _).trans ?_
    | with_reducible refine (State.count_kept _ _ _ _).trans ?_
    | with_reducible refine (State.irq_kept _ _ _).trans ?_
    | with_reducible refine (State.twinSync_kept _ _).trans ?_
    | with_reducible refine keeps_next ?_
    | with_reducible refine ite_keeps ?_ ?_
    | dsimp only
    | fail_if_no_progress (dsimp only [State.kept]; show State.kept _ = State.kept _)

theorem execTwinStandoff_keeps (x1 : State) :
    Keeps (execTwinStandoff x1) x1 := by
  unfold execTwinStandoff
  repeat' first
    | with_reducible rfl
    | with_reducible refine (State.count_kept _ _ _ _).trans ?_
    | with_reducible refine (State.irq_kept _ _ _).trans ?_
    | with_reducible refine (State.depose_kept _).trans ?_
    | with_reducible refine (State.passTo_kept _ _).trans ?_
    | with_reducible refine keeps_next ?_
    | with_reducible refine ite_keeps ?_ ?_

/-! ## Switch.lean -/

theorem execMirClear_keeps (x1 : State) :
    Keeps (execMirClear x1) x1 := by
  unfold execMirClear
  repeat' first
    | with_reducible rfl
    | with_reducible refine (State.wr_kept _ _ _ _ _ _).trans ?_
    | with_reducible refine keeps_next ?_
    | with_reducible refine ite_keeps ?_ ?_
    | dsimp only
    | dsimp only [State.kept]

theorem execRetryExpiry_keeps (x1 : State) :
    Keeps (execRetryExpiry x1) x1 := by
  unfold execRetryExpiry
  repeat' first
    | with_reducible rfl
    | with_reducible refine (State.lossNotice_kept _ _).trans ?_
    | with_reducible refine (State.setRetry_kept _ _).trans ?_
    | with_reducible refine (State.passTo_kept _ _).trans ?_
    | with_reducible refine keeps_next ?_
    | split

theorem State.macCheck_kept (x1 : State) (x2) (x3) :
    State.kept (State.macCheck x1 x2 x3).1 = State.kept x1 := by
  unfold State.macCheck
  repeat' first
    | with_reducible rfl
    | with_reducible refine (State.count_kept _ _ _ _).trans ?_
    | with_reducible refine (State.protReceive_kept _ _ _ _).trans ?_
    | with_reducible refine ite_fst_kept ?_ ?_
    | dsimp only
    | with_reducible refine (fst_kept (by assumption)).trans ?_
    | split

theorem State.headCheck_kept (x1 : State) (x2) (x3) :
    State.kept (State.headCheck x1 x2 x3).1 = State.kept x1 := by
  unfold State.headCheck
  repeat' first
    | with_reducible rfl
    | with_reducible refine (State.count_kept _ _ _ _).trans ?_
    | with_reducible refine ite_fst_kept ?_ ?_

theorem State.drainNotices_kept (x1 : State) :
    State.kept (State.drainNotices x1) = State.kept x1 := by
  unfold State.drainNotices
  repeat' first
    | with_reducible rfl
    | with_reducible refine (State.lossNotice_kept _ _).trans ?_
    | with_reducible refine (State.twinGap_kept _).trans ?_
    | with_reducible refine (State.reportWrite_kept _ _ _).trans ?_
    | with_reducible refine (foldl_kept _ _ (fun _ _ => ?_)).trans ?_
    | with_reducible refine ite_kept ?_ ?_
    | dsimp only
    | dsimp only [State.kept]

theorem State.stampSync_kept (x1 : State) (x2) :
    State.kept (State.stampSync x1 x2) = State.kept x1 := by
  unfold State.stampSync
  repeat' first
    | with_reducible rfl
    | with_reducible refine (State.refuseCopy_kept _ _ _).trans ?_
    | with_reducible refine (State.mirror_kept _ _ _ _).trans ?_
    | with_reducible refine (State.setConsQ_kept _ _ _).trans ?_
    | with_reducible refine ite_kept ?_ ?_

theorem State.claimSeen_kept (x1 : State) (x2) :
    State.kept (State.claimSeen x1 x2) = State.kept x1 := by
  unfold State.claimSeen
  repeat' first
    | with_reducible rfl
    | with_reducible refine (State.invalidate_kept _ _).trans ?_
    | dsimp only
    | fail_if_no_progress (dsimp only [State.kept]; show State.kept _ = State.kept _)

theorem State.seenTwice_kept (x1 : State) (x2) :
    State.kept (State.seenTwice x1 x2) = State.kept x1 := by
  unfold State.seenTwice
  repeat' first
    | with_reducible rfl
    | with_reducible refine (State.margin2_kept _ _).trans ?_
    | with_reducible refine (State.derive_kept _ _).trans ?_
    | with_reducible refine ite_kept ?_ ?_

theorem State.passOn_kept (x1 : State) (x2) (x3) (x4) (x5) (x6) :
    State.kept (State.passOn x1 x2 x3 x4 x5 x6) = State.kept x1 := by
  unfold State.passOn
  repeat' first
    | with_reducible rfl
    | with_reducible refine (State.mirror_kept _ _ _ _).trans ?_
    | with_reducible refine (State.count_kept _ _ _ _).trans ?_
    | with_reducible refine (State.alloc_kept _ _ _ _ _ (by assumption)).trans ?_
    | with_reducible refine (State.irq_kept _ _ _).trans ?_
    | with_reducible refine (State.txPush_kept _ _ _).trans ?_
    | with_reducible refine (State.stampSync_kept _ _).trans ?_
    | with_reducible refine (State.claimSeen_kept _ _).trans ?_
    | with_reducible refine (State.seenTwice_kept _ _).trans ?_
    | with_reducible refine (State.resequence_kept _ _).trans ?_
    | with_reducible refine (State.steer_kept _ _).trans ?_
    | with_reducible refine (State.release_kept _ _ _).trans ?_
    | with_reducible refine ite_kept ?_ ?_
    | dsimp only
    | split

theorem State.stripTopo_kept (x1 : State) (x2) (x3) :
    State.kept (State.stripTopo x1 x2 x3) = State.kept x1 := by
  unfold State.stripTopo
  repeat' first
    | with_reducible rfl
    | with_reducible refine (State.ringView_kept _).trans ?_
    | with_reducible refine (State.topoDup_kept _ _).trans ?_
    | with_reducible refine ite_kept ?_ ?_
    | dsimp only
    | dsimp only [State.kept]

theorem State.cellRx_kept (x1 : State) (x2) (x3) (x4) :
    State.kept (State.cellRx x1 x2 x3 x4) = State.kept x1 := by
  unfold State.cellRx
  repeat' first
    | with_reducible rfl
    | with_reducible refine (State.passOn_kept _ _ _ _ _ _).trans ?_
    | with_reducible refine (State.stripTopo_kept _ _ _).trans ?_
    | with_reducible refine (State.mirror_kept _ _ _ _).trans ?_
    | with_reducible refine (State.count_kept _ _ _ _).trans ?_
    | with_reducible refine (State.irq_kept _ _ _).trans ?_
    | with_reducible refine ite_kept ?_ ?_

theorem execFrameRx_keeps (x1) (x2) (x3 : State) :
    Keeps (execFrameRx x1 x2 x3) x3 := by
  unfold execFrameRx
  repeat' first
    | with_reducible rfl
    | with_reducible refine (State.macCheck_kept _ _ _).trans ?_
    | with_reducible refine (State.headCheck_kept _ _ _).trans ?_
    | with_reducible refine (State.drainNotices_kept _).trans ?_
    | with_reducible refine (State.cellRx_kept _ _ _ _).trans ?_
    | with_reducible refine keeps_next ?_
    | with_reducible refine ite_keeps ?_ ?_
    | with_reducible refine (fst_kept (by assumption)).trans ?_
    | split

theorem execIdClaimRx_keeps (x1 : State) :
    Keeps (execIdClaimRx x1) x1 := by
  unfold execIdClaimRx
  repeat' first
    | with_reducible rfl
    | with_reducible refine (State.takeCell_kept _ _ _ _ (ite_some (by assumption))).trans ?_
    | with_reducible refine (State.onClaim_kept _ _ _).trans ?_
    | with_reducible refine keeps_next ?_
    | split

theorem State.readAdmitted_kept (x1 : State) (x2) :
    State.kept (State.readAdmitted x1 x2) = State.kept x1 := by
  unfold State.readAdmitted
  repeat' first
    | with_reducible rfl
    | with_reducible refine (State.setCtx_kept _ _ _).trans ?_
    | with_reducible refine ite_kept ?_ ?_
    | dsimp only
    | dsimp only [State.kept]

theorem State.txSend_kept (x1 : State) (x2) (x3) (x4) :
    State.kept (State.txSend x1 x2 x3 x4) = State.kept x1 := by
  unfold State.txSend
  repeat' first
    | with_reducible rfl
    | with_reducible refine (State.setTxq_kept _ _ _ _).trans ?_
    | with_reducible refine (State.mirror_kept _ _ _ _).trans ?_
    | with_reducible refine (State.count_kept _ _ _ _).trans ?_
    | with_reducible refine (State.emit_kept _ _).trans ?_
    | with_reducible refine (State.release_kept _ _ _).trans ?_
    | with_reducible refine (State.timeDepart_kept _ _ _ _).trans ?_
    | dsimp only
    | fail_if_no_progress (dsimp only [State.kept]; show State.kept _ = State.kept _)

theorem State.txHello_kept (x1 : State) (x2) :
    State.kept (State.txHello x1 x2) = State.kept x1 := by
  unfold State.txHello
  repeat' first
    | with_reducible rfl
    | with_reducible refine (State.txSend_kept _ _ _ _).trans ?_
    | split

theorem State.txAge_kept (x1) (x2 : State) (x3) (x4) :
    State.kept (State.txAge x1 x2 x3 x4) = State.kept x2 := by
  induction x1 generalizing x2 with
  | zero =>
    unfold State.txAge
    repeat' first
      | with_reducible rfl
  | succ k ih =>
    unfold State.txAge
    repeat' first
      | with_reducible refine (ih _).trans ?_
      | with_reducible rfl
      | with_reducible refine (State.release_kept _ _ _).trans ?_
      | with_reducible refine (State.setTxq_kept _ _ _ _).trans ?_
      | with_reducible refine (State.mirror_kept _ _ _ _).trans ?_
      | with_reducible refine (State.irq_kept _ _ _).trans ?_
      | with_reducible refine (State.count_kept _ _ _ _).trans ?_
      | with_reducible refine ite_kept ?_ ?_
      | dsimp only
      | split

theorem execFrameTx_keeps (x1) (x2 : State) :
    Keeps (execFrameTx x1 x2) x2 := by
  unfold execFrameTx
  dsimp only
  refine ite_keeps (keeps_next rfl) ?_
  refine ite_keeps (keeps_next (State.txHello_kept _ _)) ?_
  have h := foldl_kept (g := fun (s : State) cls => State.txAge (s.txq x1.port cls).length s x1.port cls) (List.range 4) x2
    (fun _ _ => State.txAge_kept _ _ _ _)
  revert h
  generalize List.foldl _ x2 (List.range 4) = s1
  intro h
  repeat' first
    | assumption
    | with_reducible refine (State.txHello_kept _ _).trans ?_
    | with_reducible refine (State.txSend_kept _ _ _ _).trans ?_
    | with_reducible refine (State.protSend_kept _ _ _ _ (by assumption)).trans ?_
    | with_reducible refine keeps_next ?_
    | with_reducible refine ite_keeps ?_ ?_
    | split

theorem State.ackWrite_kept (x1 : State) (x2) (x3) :
    State.kept (State.ackWrite x1 x2 x3) = State.kept x1 := by
  unfold State.ackWrite
  repeat' first
    | with_reducible rfl
    | with_reducible refine (State.rsp_kept _ _ _ _).trans ?_
    | split

theorem execCellAdmitResume_keeps (x1) (x2 : State) :
    Keeps (execCellAdmitResume x1 x2) x2 := by
  unfold execCellAdmitResume
  repeat' first
    | with_reducible rfl
    | with_reducible refine (State.ackWrite_kept _ _ _).trans ?_
    | with_reducible refine (State.admitCell_kept _ _ _ (by assumption)).trans ?_
    | with_reducible refine (State.readAdmitted_kept _ _).trans ?_
    | with_reducible refine keeps_next ?_
    | with_reducible refine ite_keeps ?_ ?_
    | dsimp only
    | dsimp only [State.kept]
    | split

theorem execRsqHoldExpiry_keeps (x1 : State) :
    Keeps (execRsqHoldExpiry x1) x1 := by
  unfold execRsqHoldExpiry
  repeat' first
    | with_reducible rfl
    | with_reducible refine (State.passTo_kept _ _).trans ?_
    | with_reducible refine (State.drainNotices_kept _).trans ?_
    | with_reducible refine (State.skip_kept _ _ _).trans ?_
    | with_reducible refine keeps_next ?_
    | with_reducible refine (foldl_kept _ _ (fun _ _ => ?_)).trans ?_
    | dsimp only
    | split

/-! ## Obs.lean -/

theorem State.pwrstReject_kept (x1 : State) :
    State.kept (State.pwrstReject x1) = State.kept x1 := by
  unfold State.pwrstReject
  repeat' first
    | with_reducible rfl
    | with_reducible refine (State.count_kept _ _ _ _).trans ?_
    | with_reducible refine (State.irq_kept _ _ _).trans ?_

theorem State.resetLater_kept (x1 : State) (x2) :
    State.kept (State.resetLater x1 x2) = State.kept x1 := by
  unfold State.resetLater
  repeat' first
    | dsimp only
    | dsimp only [State.kept]

theorem execPwrstRecovery_keeps (x1) (x2 : State) :
    Keeps (execPwrstRecovery x1 x2) x2 := by
  unfold execPwrstRecovery
  repeat' first
    | with_reducible rfl
    | with_reducible refine (State.pwrstReject_kept _).trans ?_
    | with_reducible refine (State.resetLater_kept _ _).trans ?_
    | with_reducible refine keeps_next ?_
    | with_reducible refine ite_keeps ?_ ?_

theorem State.intClear_kept (x1 : State) (x2) (x3) :
    State.kept (State.intClear x1 x2 x3) = State.kept x1 := by
  unfold State.intClear
  repeat' first
    | with_reducible rfl
    | with_reducible refine (State.msixAgain_kept _ _).trans ?_
    | with_reducible refine (State.wr_kept _ _ _ _ _ _).trans ?_

theorem State.forcedContain_kept (x1 : State) (x2) (x3) :
    State.kept (State.forcedContain x1 x2 x3) = State.kept x1 := by
  unfold State.forcedContain
  repeat' first
    | with_reducible rfl
    | with_reducible refine (State.contain_kept _ _ _ _ _ _).trans ?_
    | with_reducible refine (State.parityAt_kept _ _).trans ?_
    | with_reducible refine (State.ckptReq_kept _).trans ?_
    | with_reducible refine (State.enterLag_kept _).trans ?_
    | with_reducible refine (State.wr_kept _ _ _ _ _ _).trans ?_
    | with_reducible refine (State.fifoUpset_kept _ _ _).trans ?_
    | with_reducible refine (State.cogFault_kept _ _ _).trans ?_
    | with_reducible refine (State.overvoltOff_kept _).trans ?_
    | with_reducible refine (State.sluFault_kept _ _ _).trans ?_
    | with_reducible refine (State.sluTo_kept _ _ _).trans ?_
    | with_reducible refine (foldl_kept _ _ (fun _ _ => ?_)).trans ?_
    | with_reducible refine ite_kept ?_ ?_
    | dsimp only
    | fail_if_no_progress (dsimp only [State.kept] <;> show State.kept _ = State.kept _)
    | split

theorem State.forceFault_kept (x1 : State) (x2) (x3) :
    State.kept (State.forceFault x1 x2 x3) = State.kept x1 := by
  unfold State.forceFault
  repeat' first
    | with_reducible rfl
    | with_reducible refine (State.zeroise_kept _).trans ?_
    | with_reducible refine (State.forcedContain_kept _ _ _).trans ?_
    | with_reducible refine (State.fault_kept _ _ _ _ _ _).trans ?_
    | with_reducible refine ite_kept ?_ ?_

theorem State.fltForce_kept (x1 : State) (x2) (x3) :
    State.kept (State.fltForce x1 x2 x3) = State.kept x1 := by
  unfold State.fltForce
  repeat' first
    | with_reducible rfl
    | with_reducible refine (State.forceFault_kept _ _ _).trans ?_
    | with_reducible refine (foldl_kept _ _ (fun _ _ => ?_)).trans ?_
    | split

theorem execTraceClear_keeps (x1 : State) :
    Keeps (execTraceClear x1) x1 := by
  unfold execTraceClear
  repeat' first
    | with_reducible rfl
    | with_reducible refine (State.wr_kept _ _ _ _ _ _).trans ?_
    | with_reducible refine keeps_next ?_
    | with_reducible refine ite_keeps ?_ ?_
    | dsimp only
    | dsimp only [State.kept]

theorem execPwrstHubReset_keeps (x1) (x2 : State) :
    Keeps (execPwrstHubReset x1 x2) x2 := by
  unfold execPwrstHubReset
  repeat' first
    | with_reducible rfl
    | with_reducible refine (State.pwrstReject_kept _).trans ?_
    | with_reducible refine (State.resetLater_kept _ _).trans ?_
    | with_reducible refine keeps_next ?_
    | with_reducible refine ite_keeps ?_ ?_

theorem execPwrstEnterQuiet_keeps (x1) (x2 : State) :
    Keeps (execPwrstEnterQuiet x1 x2) x2 := by
  unfold execPwrstEnterQuiet
  repeat' first
    | with_reducible rfl
    | with_reducible refine (State.pwrstReject_kept _).trans ?_
    | with_reducible refine keeps_next ?_
    | with_reducible refine ite_keeps ?_ ?_
    | dsimp only
    | dsimp only [State.kept]

theorem execPwrstLeaveQuiet_keeps (x1) (x2 : State) :
    Keeps (execPwrstLeaveQuiet x1 x2) x2 := by
  unfold execPwrstLeaveQuiet
  repeat' first
    | with_reducible rfl
    | with_reducible refine (State.pwrstReject_kept _).trans ?_
    | with_reducible refine keeps_next ?_
    | with_reducible refine ite_keeps ?_ ?_
    | dsimp only
    | dsimp only [State.kept]

theorem State.fltPop_kept (x1 : State) :
    State.kept (State.fltPop x1) = State.kept x1 := by
  unfold State.fltPop
  repeat' first
    | with_reducible rfl
    | with_reducible refine (State.fltSync_kept _).trans ?_
    | dsimp only
    | fail_if_no_progress (dsimp only [State.kept] <;> show State.kept _ = State.kept _)
    | split

theorem State.popQueue_kept (x1 : State) (x2) :
    State.kept (State.popQueue x1 x2) = State.kept x1 := by
  unfold State.popQueue
  repeat' first
    | with_reducible rfl
    | with_reducible refine (State.txtsPop_kept _).trans ?_
    | with_reducible refine (State.confPop_kept _).trans ?_
    | with_reducible refine (State.outcomePop_kept _).trans ?_
    | with_reducible refine (State.launchExcPop_kept _).trans ?_
    | with_reducible refine (State.dioPop_kept _ _).trans ?_
    | with_reducible refine (State.perrPop_kept _).trans ?_
    | with_reducible refine (State.fltPop_kept _).trans ?_
    | split

theorem State.plumbRes_kept (x1 : State) (x2) (x3) :
    State.kept (State.plumbRes x1 x2 x3) = State.kept x1 := by
  unfold State.plumbRes
  repeat' first
    | with_reducible rfl
    | with_reducible refine (State.wr_kept _ _ _ _ _ _).trans ?_
    | with_reducible refine (State.count_kept _ _ _ _).trans ?_
    | with_reducible refine ite_kept ?_ ?_

theorem State.plumbHold_kept (x1 : State) :
    State.kept (State.plumbHold x1) = State.kept x1 := by
  unfold State.plumbHold
  repeat' first
    | dsimp only
    | dsimp only [State.kept]

theorem execPlumbSnap_keeps (x1) (x2) (x3) (x4) (x5) (x6 : State) :
    Keeps (execPlumbSnap x1 x2 x3 x4 x5 x6) x6 := by
  unfold execPlumbSnap
  repeat' first
    | with_reducible rfl
    | with_reducible refine (State.hkDefer_kept _ _ _ _ _).trans ?_
    | with_reducible refine (State.plumbRes_kept _ _ _).trans ?_
    | with_reducible refine (State.wr_kept _ _ _ _ _ _).trans ?_
    | with_reducible refine (State.plumbHold_kept _).trans ?_
    | with_reducible refine keeps_next ?_
    | with_reducible refine ite_keeps ?_ ?_
    | fail_if_no_progress (dsimp only [State.kept]; show State.kept _ = State.kept _)

theorem State.plumbFree_kept (x1 : State) :
    State.kept (State.plumbFree x1) = State.kept x1 := by
  unfold State.plumbFree
  repeat' first
    | with_reducible refine (State.irq_kept _ _ _).trans ?_
    | with_reducible refine (State.wr_kept _ _ _ _ _ _).trans ?_
    | dsimp only [State.kept]

theorem execPlumbRelease_keeps (x1) (x2) (x3 : State) :
    Keeps (execPlumbRelease x1 x2 x3) x3 := by
  unfold execPlumbRelease
  repeat' first
    | with_reducible rfl
    | with_reducible refine (State.hkDefer_kept _ _ _ _ _).trans ?_
    | with_reducible refine (State.plumbRes_kept _ _ _).trans ?_
    | with_reducible refine (State.plumbFree_kept _).trans ?_
    | with_reducible refine keeps_next ?_
    | with_reducible refine ite_keeps ?_ ?_

theorem execPlumbPartSelect_keeps (x1) (x2) (x3) (x4 : State) :
    Keeps (execPlumbPartSelect x1 x2 x3 x4) x4 := by
  unfold execPlumbPartSelect
  repeat' first
    | with_reducible rfl
    | with_reducible refine (State.hkDefer_kept _ _ _ _ _).trans ?_
    | with_reducible refine (State.plumbRes_kept _ _ _).trans ?_
    | with_reducible refine (State.plumbHold_kept _).trans ?_
    | with_reducible refine (State.wr_kept _ _ _ _ _ _).trans ?_
    | with_reducible refine keeps_next ?_
    | with_reducible refine ite_keeps ?_ ?_
    | dsimp only
    | dsimp only [State.kept]

theorem execObsMark_keeps (x1) (x2 : State) :
    Keeps (execObsMark x1 x2) x2 := by
  unfold execObsMark
  repeat' first
    | with_reducible rfl
    | with_reducible refine (State.trace_kept _ _ _ _ _).trans ?_
    | with_reducible refine keeps_next ?_
    | with_reducible refine ite_keeps ?_ ?_

theorem State.clearOvf_kept (x1 : State) (x2) :
    State.kept (State.clearOvf x1 x2) = State.kept x1 := by
  unfold State.clearOvf
  repeat' first
    | with_reducible rfl
    | with_reducible refine (State.wr_kept _ _ _ _ _ _).trans ?_
    | split

theorem execPlumbPartReady_keeps (x1 : State) :
    Keeps (execPlumbPartReady x1) x1 := by
  unfold execPlumbPartReady
  repeat' first
    | with_reducible rfl
    | with_reducible refine (State.wr_kept _ _ _ _ _ _).trans ?_
    | with_reducible refine (State.count_kept _ _ _ _).trans ?_
    | with_reducible refine (State.irq_kept _ _ _).trans ?_
    | with_reducible refine keeps_next ?_
    | with_reducible refine ite_keeps ?_ ?_
    | dsimp only
    | dsimp only [State.kept]
    | split

theorem execFltForce_keeps (x1) (x2) (x3 : State) :
    Keeps (execFltForce x1 x2 x3) x3 := by
  unfold execFltForce
  repeat' first
    | with_reducible rfl
    | with_reducible refine State.atPage_keeps _ _ _ ?_
    | with_reducible refine (State.fltForce_kept _ _ _).trans ?_
    | with_reducible refine keeps_next ?_
    | with_reducible refine ite_keeps ?_ ?_

theorem execPageEnableWrite_keeps (x1) (x2) (x3 : State) :
    Keeps (execPageEnableWrite x1 x2 x3) x3 := by
  unfold execPageEnableWrite
  repeat' first
    | with_reducible rfl
    | with_reducible refine State.atPage_keeps _ _ _ ?_
    | with_reducible refine (State.setEnable_kept _ _ _).trans ?_
    | with_reducible refine keeps_next ?_
    | with_reducible refine ite_keeps ?_ ?_

theorem execLock_keeps (x1) (x2 : State) :
    Keeps (execLock x1 x2) x2 := by
  unfold execLock
  repeat' first
    | with_reducible rfl
    | with_reducible refine State.atPage_keeps _ _ _ ?_
    | with_reducible refine (State.wr_kept _ _ _ _ _ _).trans ?_
    | with_reducible refine keeps_next ?_

theorem execIntRawClear_keeps (x1) (x2) (x3 : State) :
    Keeps (execIntRawClear x1 x2 x3) x3 := by
  unfold execIntRawClear
  repeat' first
    | with_reducible rfl
    | with_reducible refine State.atPage_keeps _ _ _ ?_
    | with_reducible refine (State.intClear_kept _ _ _).trans ?_
    | with_reducible refine keeps_next ?_

theorem execIntEnWrite_keeps (x1) (x2) (x3 : State) :
    Keeps (execIntEnWrite x1 x2 x3) x3 := by
  unfold execIntEnWrite
  repeat' first
    | with_reducible rfl
    | with_reducible refine State.atPage_keeps _ _ _ ?_
    | with_reducible refine (State.intEnWrite_kept _ _ _).trans ?_
    | with_reducible refine keeps_next ?_

theorem execIntForce_keeps (x1) (x2) (x3 : State) :
    Keeps (execIntForce x1 x2 x3) x3 := by
  unfold execIntForce
  repeat' first
    | with_reducible rfl
    | with_reducible refine State.atPage_keeps _ _ _ ?_
    | with_reducible refine (State.irqs_kept _ _ _).trans ?_
    | with_reducible refine keeps_next ?_
    | with_reducible refine ite_keeps ?_ ?_

theorem execQueuePop_keeps (x1) (x2 : State) :
    Keeps (execQueuePop x1 x2) x2 := by
  unfold execQueuePop
  repeat' first
    | with_reducible rfl
    | with_reducible refine (State.popQueue_kept _ _).trans ?_
    | with_reducible refine keeps_next ?_
    | with_reducible refine ite_keeps ?_ ?_

theorem execQueueOvfClear_keeps (x1) (x2 : State) :
    Keeps (execQueueOvfClear x1 x2) x2 := by
  unfold execQueueOvfClear
  repeat' first
    | with_reducible rfl
    | with_reducible refine (State.clearOvf_kept _ _).trans ?_
    | with_reducible refine keeps_next ?_
    | with_reducible refine ite_keeps ?_ ?_

theorem execPlumbHoldExpiry_keeps (x1 : State) :
    Keeps (execPlumbHoldExpiry x1) x1 := by
  unfold execPlumbHoldExpiry
  repeat' first
    | with_reducible rfl
    | with_reducible refine (State.count_kept _ _ _ _).trans ?_
    | with_reducible refine (State.plumbFree_kept _).trans ?_
    | with_reducible refine (State.passTo_kept _ _).trans ?_
    | with_reducible refine keeps_next ?_
    | split

end Sys2Proof.Machine
end

