-- ==== Sys2Proof/Laws/KeptPorts.lean ====
section
/-!
SUPPORT. What only a reset of the hub may touch is kept by the functions of accesses, register commands, the bridge as target, movers, the ports, PLUMB, start-up and the idle step.
-/
set_option Elab.async false

namespace Sys2Proof.Machine

/-! ## Access.lean -/

theorem State.ran_kept {s : State} {r : Res} (h : Keeps r s) : (s.ran r).kept = s.kept := by
  obtain ⟨t, ht, hk⟩ := h
  subst ht
  exact hk

theorem State.busDone_kept (x1 : State) :
    State.kept (State.busDone x1) = State.kept x1 := by
  unfold State.busDone
  repeat' first
    | dsimp only
    | dsimp only [State.kept]

theorem State.settled_kept (x1 : State) (x2) (x3) :
    State.kept (State.settled x1 x2 x3) = State.kept x1 := by
  unfold State.settled
  repeat' first
    | with_reducible rfl
    | with_reducible refine (State.laneNow_kept _ _).trans ?_
    | with_reducible refine (State.pinDrain_kept _).trans ?_
    | with_reducible refine (State.cogPass_kept _ _).trans ?_
    | with_reducible refine (State.fltExpire_kept _).trans ?_
    | with_reducible refine (foldl_kept _ _ (fun _ _ => ?_)).trans ?_
    | with_reducible refine ite_kept ?_ ?_

theorem State.asHeld_kept (x1 : State) (x2) :
    State.kept (State.asHeld x1 x2) = State.kept x1 := by
  unfold State.asHeld
  repeat' first
    | with_reducible rfl
    | with_reducible refine ite_kept ?_ ?_
    | fail_if_no_progress (dsimp only [State.kept] <;> show State.kept _ = State.kept _)
    | split

theorem State.latchHigh_kept (x1 : State) (x2) (x3) (x4) :
    State.kept (State.latchHigh x1 x2 x3 x4) = State.kept x1 := by
  unfold State.latchHigh
  rfl

theorem State.readEffect_kept (x1 : State) (x2) (x3) (x4) :
    State.kept (State.readEffect x1 x2 x3 x4) = State.kept x1 := by
  unfold State.readEffect
  repeat' first
    | with_reducible rfl
    | with_reducible refine (State.latchHigh_kept _ _ _ _).trans ?_
    | with_reducible refine (State.rxPop_kept _ _ _).trans ?_
    | with_reducible refine (State.drawn_kept _).trans ?_
    | with_reducible refine (State.setCan_kept _ _ _).trans ?_
    | with_reducible refine ite_kept ?_ ?_
    | dsimp only
    | split

theorem State.readWord_kept (x1 : State) (x2) (x3) (x4) :
    State.kept (State.readWord x1 x2 x3 x4).1 = State.kept x1 := by
  unfold State.readWord
  repeat' first
    | with_reducible rfl
    | with_reducible refine (State.busDone_kept _).trans ?_
    | with_reducible refine (State.settled_kept _ _ _).trans ?_
    | with_reducible refine (State.readEffect_kept _ _ _ _).trans ?_
    | with_reducible refine ite_fst_kept ?_ ?_

theorem State.readPart_kept (x1 : State) (x2) (x3) (x4) :
    State.kept (State.readPart x1 x2 x3 x4).1 = State.kept x1 := by
  unfold State.readPart
  repeat' first
    | with_reducible rfl
    | with_reducible refine (State.readWord_kept _ _ _ _).trans ?_
    | with_reducible refine (foldl_fst_kept _ _ (fun _ _ => ?_)).trans ?_
    | with_reducible refine ite_fst_kept ?_ ?_

theorem State.readLocal_kept (x1 : State) (x2) (x3) (x4) :
    State.kept (State.readLocal x1 x2 x3 x4).1 = State.kept x1 := by
  unfold State.readLocal
  repeat' first
    | with_reducible rfl
    | with_reducible refine (State.readPart_kept _ _ _ _).trans ?_
    | with_reducible refine (foldl_fst_kept _ _ (fun _ _ => ?_)).trans ?_
    | with_reducible refine ite_fst_kept ?_ ?_

theorem execCounterLowRead_keeps (x1) (x2) (x3) (x4 : State) :
    Keeps (execCounterLowRead x1 x2 x3 x4) x4 := by
  unfold execCounterLowRead
  repeat' first
    | with_reducible rfl
    | with_reducible refine (State.readWord_kept _ _ _ _).trans ?_
    | with_reducible refine (State.authRefused_kept _ _).trans ?_
    | with_reducible refine (State.rsp_kept _ _ _ _).trans ?_
    | with_reducible refine keeps_next ?_
    | with_reducible refine ite_keeps ?_ ?_

/-! ## Commands.lean -/

theorem State.ctrlWrite_kept (x1 : State) (x2) (x3) (x4) :
    State.kept (State.ctrlWrite x1 x2 x3 x4).1 = State.kept x1 := by
  unfold State.ctrlWrite
  repeat' first
    | with_reducible rfl
    | with_reducible refine (State.setEnable_kept _ _ _).trans ?_
    | with_reducible refine (State.ran_kept ?_).trans ?_
    | with_reducible refine Keeps.trans (execSoftReset_keeps _ _) ?_
    | with_reducible refine Keeps.trans (execApply_keeps _ _) ?_
    | with_reducible refine Keeps.trans (execApplyAtCommit_keeps _ _) ?_
    | with_reducible refine (State.wr_kept _ _ _ _ _ _).trans ?_
    | with_reducible refine ite_kept ?_ ?_
    | with_reducible refine ite_fst_kept ?_ ?_

theorem State.headerWrite_kept (x1 : State) (x2) (x3) (x4) (x5) :
    State.kept (State.headerWrite x1 x2 x3 x4 x5).1 = State.kept x1 := by
  unfold State.headerWrite
  repeat' first
    | with_reducible rfl
    | with_reducible refine (State.ctrlWrite_kept _ _ _ _).trans ?_
    | with_reducible refine (State.intClear_kept _ _ _).trans ?_
    | with_reducible refine (State.intEnWrite_kept _ _ _).trans ?_
    | with_reducible refine (State.irqs_kept _ _ _).trans ?_
    | with_reducible refine (State.fltForce_kept _ _ _).trans ?_
    | with_reducible refine ite_fst_kept ?_ ?_

theorem State.linkCmd_kept (x1 : State) (x2) (x3) :
    State.kept (State.linkCmd x1 x2 x3) = State.kept x1 := by
  unfold State.linkCmd
  repeat' first
    | with_reducible rfl
    | with_reducible refine (State.ran_kept ?_).trans ?_
    | with_reducible refine Keeps.trans (execLinkRetrain_keeps _ _) ?_
    | with_reducible refine Keeps.trans (execCableTest_keeps _ _) ?_
    | with_reducible refine Keeps.trans (execClearWorst_keeps _ _) ?_
    | split

theorem State.pwrstCmd_kept (x1 : State) (x2) :
    State.kept (State.pwrstCmd x1 x2) = State.kept x1 := by
  unfold State.pwrstCmd
  repeat' first
    | with_reducible rfl
    | with_reducible refine (State.ran_kept ?_).trans ?_
    | with_reducible refine Keeps.trans (execPwrstHubReset_keeps _ _) ?_
    | with_reducible refine Keeps.trans (execPwrstEnterQuiet_keeps _ _) ?_
    | with_reducible refine Keeps.trans (execPwrstLeaveQuiet_keeps _ _) ?_
    | with_reducible refine Keeps.trans (execPwrstRecovery_keeps _ _) ?_
    | with_reducible refine (State.pwrstReject_kept _).trans ?_
    | dsimp only
    | split

theorem State.popCmd_kept (x1 : State) (x2) (x3) :
    State.kept (State.popCmd x1 x2 x3) = State.kept x1 := by
  unfold State.popCmd
  repeat' first
    | with_reducible rfl
    | with_reducible refine (State.popQueue_kept _ _).trans ?_
    | with_reducible refine ite_kept ?_ ?_

theorem State.pinCmd_kept (x1 : State) (x2) :
    State.kept (State.pinCmd x1 x2) = State.kept x1 := by
  unfold State.pinCmd
  repeat' first
    | with_reducible rfl
    | with_reducible refine (State.ran_kept ?_).trans ?_
    | with_reducible refine Keeps.trans (execPin_keeps _ _) ?_
    | with_reducible refine Keeps.trans (execRenew_keeps _ _) ?_
    | with_reducible refine Keeps.trans (execUnpin_keeps _ _) ?_
    | split

theorem State.pmapCmd_kept (x1 : State) (x2) :
    State.kept (State.pmapCmd x1 x2) = State.kept x1 := by
  unfold State.pmapCmd
  repeat' first
    | with_reducible rfl
    | with_reducible refine (State.ran_kept ?_).trans ?_
    | with_reducible refine Keeps.trans (execPmapCopy_keeps _) ?_
    | with_reducible refine Keeps.trans (execPmapValidate_keeps _) ?_
    | with_reducible refine Keeps.trans (execPmapArm_keeps _) ?_
    | with_reducible refine Keeps.trans (execPmapDisarm_keeps _) ?_
    | with_reducible refine Keeps.trans (execPmapAdopt_keeps _ _) ?_
    | split

theorem State.trkCmd_kept (x1 : State) (x2) (x3) :
    State.kept (State.trkCmd x1 x2 x3) = State.kept x1 := by
  unfold State.trkCmd
  repeat' first
    | with_reducible rfl
    | with_reducible refine (State.ran_kept ?_).trans ?_
    | with_reducible refine Keeps.trans (execTrkRead_keeps _ _) ?_
    | with_reducible refine Keeps.trans (execTrkWrite_keeps _ _) ?_
    | with_reducible refine Keeps.trans (execTrkDisarm_keeps _ _) ?_
    | with_reducible refine Keeps.trans (execArmSoft_keeps _ _) ?_
    | split

theorem State.lnchCmd_kept (x1 : State) (x2) (x3) :
    State.kept (State.lnchCmd x1 x2 x3) = State.kept x1 := by
  unfold State.lnchCmd
  repeat' first
    | with_reducible rfl
    | with_reducible refine (State.ran_kept ?_).trans ?_
    | with_reducible refine Keeps.trans (execLnchInsert_keeps _ _) ?_
    | with_reducible refine Keeps.trans (execLnchCancel_keeps _ _ _) ?_
    | with_reducible refine Keeps.trans (execFlushTarget_keeps _ _) ?_
    | split

theorem State.laneCmd_kept (x1 : State) (x2) (x3) :
    State.kept (State.laneCmd x1 x2 x3) = State.kept x1 := by
  unfold State.laneCmd
  repeat' first
    | with_reducible rfl
    | with_reducible refine (State.ran_kept ?_).trans ?_
    | with_reducible refine Keeps.trans (execRxFlush_keeps _ _) ?_
    | with_reducible refine Keeps.trans (execTxFlush_keeps _ _) ?_
    | with_reducible refine Keeps.trans (execRxDropRest_keeps _ _) ?_
    | with_reducible refine Keeps.trans (execTxDropHead_keeps _ _) ?_
    | with_reducible refine Keeps.trans (execSsiRead_keeps _ _) ?_
    | with_reducible refine Keeps.trans (execIolWurq_keeps _ _) ?_
    | split

theorem State.moverCmd_kept (x1 : State) (x2) (x3) :
    State.kept (State.moverCmd x1 x2 x3) = State.kept x1 := by
  unfold State.moverCmd
  repeat' first
    | with_reducible rfl
    | with_reducible refine (State.ran_kept ?_).trans ?_
    | with_reducible refine Keeps.trans (execMoverStart_keeps _ _) ?_
    | with_reducible refine Keeps.trans (execMoverStop_keeps _ _) ?_
    | split

theorem State.cogCmd_kept (x1 : State) (x2) (x3) :
    State.kept (State.cogCmd x1 x2 x3) = State.kept x1 := by
  unfold State.cogCmd
  repeat' first
    | with_reducible rfl
    | with_reducible refine (State.ran_kept ?_).trans ?_
    | with_reducible refine Keeps.trans (execCogCmdStart_keeps _ _ _) ?_
    | with_reducible refine Keeps.trans (execCogCmdStop_keeps _ _ _) ?_
    | with_reducible refine Keeps.trans (execCogCmdResume_keeps _ _ _) ?_
    | split

theorem State.canCmd_kept (x1 : State) (x2) (x3) (x4) :
    State.kept (State.canCmd x1 x2 x3 x4) = State.kept x1 := by
  unfold State.canCmd
  repeat' first
    | with_reducible rfl
    | with_reducible refine (State.ran_kept ?_).trans ?_
    | with_reducible refine Keeps.trans (execCanRequest_keeps _ _ _ _) ?_
    | with_reducible refine Keeps.trans (execCanCancel_keeps _ _ _ _) ?_
    | with_reducible refine Keeps.trans (execCanRelease_keeps _ _ _ _) ?_
    | split

theorem State.zoneCmd_kept (x1 : State) (x2) (x3) :
    State.kept (State.zoneCmd x1 x2 x3) = State.kept x1 := by
  unfold State.zoneCmd
  repeat' first
    | with_reducible rfl
    | with_reducible refine (State.ran_kept ?_).trans ?_
    | with_reducible refine Keeps.trans (execZoneSleep_keeps _ _ _) ?_
    | with_reducible refine Keeps.trans (execZoneWake_keeps _ _ _) ?_
    | split

theorem State.pwdCmd_kept (x1 : State) (x2) :
    State.kept (State.pwdCmd x1 x2) = State.kept x1 := by
  unfold State.pwdCmd
  repeat' first
    | with_reducible rfl
    | with_reducible refine (State.ran_kept ?_).trans ?_
    | with_reducible refine Keeps.trans (execPowerCycle_keeps _ _ _) ?_
    | with_reducible refine Keeps.trans (execClearMin_keeps _) ?_
    | split

theorem State.sluCmd_kept (x1 : State) (x2) (x3) :
    State.kept (State.sluCmd x1 x2 x3) = State.kept x1 := by
  unfold State.sluCmd
  repeat' first
    | with_reducible rfl
    | with_reducible refine (State.ran_kept ?_).trans ?_
    | with_reducible refine Keeps.trans (execSluOn_keeps _ _) ?_
    | with_reducible refine Keeps.trans (execSluOff_keeps _ _) ?_
    | with_reducible refine Keeps.trans (execSluClear_keeps _ _) ?_
    | split

theorem State.brgCmd_kept (x1 : State) (x2) (x3) (x4) :
    State.kept (State.brgCmd x1 x2 x3 x4) = State.kept x1 := by
  unfold State.brgCmd
  repeat' first
    | with_reducible rfl
    | with_reducible refine (State.ran_kept ?_).trans ?_
    | with_reducible refine Keeps.trans (execCollectRequest_keeps _ _ _) ?_
    | with_reducible refine Keeps.trans (execSlotCollect_keeps _ _) ?_
    | with_reducible refine ite_kept ?_ ?_

theorem State.twinCmd_kept (x1 : State) (x2) :
    State.kept (State.twinCmd x1 x2) = State.kept x1 := by
  unfold State.twinCmd
  repeat' first
    | with_reducible rfl
    | with_reducible refine (State.ran_kept ?_).trans ?_
    | with_reducible refine Keeps.trans (execTwinSwitch_keeps _ _) ?_
    | with_reducible refine Keeps.trans (execTwinResync_keeps _ _) ?_
    | with_reducible refine Keeps.trans (execTwinRejoin_keeps _ _) ?_
    | dsimp only
    | split

theorem State.crsStoreCmd_kept (x1 : State) (x2) (x3) :
    State.kept (State.crsStoreCmd x1 x2 x3) = State.kept x1 := by
  unfold State.crsStoreCmd
  repeat' first
    | with_reducible rfl
    | with_reducible refine (State.ran_kept ?_).trans ?_
    | with_reducible refine Keeps.trans (execCrsStoreOpen_keeps _ _ _ _) ?_
    | with_reducible refine Keeps.trans (execCrsStoreCommit_keeps _ _ _) ?_
    | with_reducible refine Keeps.trans (execCrsStoreAbort_keeps _ _ _) ?_
    | split

theorem State.updCmd_kept (x1 : State) (x2) (x3) :
    State.kept (State.updCmd x1 x2 x3) = State.kept x1 := by
  unfold State.updCmd
  repeat' first
    | with_reducible rfl
    | with_reducible refine (State.ran_kept ?_).trans ?_
    | with_reducible refine Keeps.trans (execUpdOpen_keeps _ _) ?_
    | with_reducible refine Keeps.trans (execUpdAbort_keeps _ _) ?_
    | with_reducible refine Keeps.trans (execUpdPrepare_keeps _ _) ?_
    | with_reducible refine Keeps.trans (execUpdActivate_keeps _ _ _ _) ?_
    | with_reducible refine Keeps.trans (execUpdConfirm_keeps _ _) ?_
    | with_reducible refine Keeps.trans (execUpdDistribute_keeps _ _) ?_
    | split

theorem State.keyCmd_kept (x1 : State) (x2) (x3) :
    State.kept (State.keyCmd x1 x2 x3) = State.kept x1 := by
  unfold State.keyCmd
  repeat' first
    | with_reducible rfl
    | with_reducible refine (State.ran_kept ?_).trans ?_
    | with_reducible refine Keeps.trans (execInstallClear_keeps _ _ _ _ _) ?_
    | with_reducible refine Keeps.trans (execInstallWrapped_keeps _ _ _ _ _) ?_
    | with_reducible refine Keeps.trans (execGenerate_keeps _ _ _ _ _) ?_
    | with_reducible refine Keeps.trans (execDestroy_keeps _ _ _ _ _) ?_
    | with_reducible refine Keeps.trans (execLinkArm_keeps _ _ _) ?_
    | with_reducible refine Keeps.trans (execLinkDisarm_keeps _ _ _) ?_
    | dsimp only
    | split

theorem State.plumbCmd_kept (x1 : State) (x2) (x3) :
    State.kept (State.plumbCmd x1 x2 x3) = State.kept x1 := by
  unfold State.plumbCmd
  repeat' first
    | with_reducible rfl
    | with_reducible refine (State.ran_kept ?_).trans ?_
    | with_reducible refine Keeps.trans (execPlumbSnap_keeps _ _ _ _ _ _) ?_
    | with_reducible refine Keeps.trans (execPlumbRelease_keeps _ _ _) ?_
    | split

theorem State.cmdWrite_kept (x1 : State) (x2) (x3) (x4) (x5) (x6) :
    State.kept (State.cmdWrite x1 x2 x3 x4 x5 x6) = State.kept x1 := by
  unfold State.cmdWrite
  repeat' first
    | with_reducible rfl
    | with_reducible refine (State.pwrstCmd_kept _ _).trans ?_
    | with_reducible refine (State.linkCmd_kept _ _ _).trans ?_
    | with_reducible refine (State.ran_kept ?_).trans ?_
    | with_reducible refine Keeps.trans (execRingIdSet_keeps _ _ _) ?_
    | with_reducible refine Keeps.trans (execMirClear_keeps _) ?_
    | with_reducible refine Keeps.trans (execTimeCapture_keeps _) ?_
    | with_reducible refine (State.popCmd_kept _ _ _).trans ?_
    | with_reducible refine Keeps.trans (execMarginClear_keeps _) ?_
    | with_reducible refine (State.pinCmd_kept _ _).trans ?_
    | with_reducible refine (State.pmapCmd_kept _ _).trans ?_
    | with_reducible refine Keeps.trans (execBindValidate_keeps _) ?_
    | with_reducible refine Keeps.trans (execClearShadow_keeps _) ?_
    | with_reducible refine Keeps.trans (execAxisPreset_keeps _ _) ?_
    | with_reducible refine (State.trkCmd_kept _ _ _).trans ?_
    | with_reducible refine (State.lnchCmd_kept _ _ _).trans ?_
    | with_reducible refine Keeps.trans (execDioOutSet_keeps _ _ _) ?_
    | with_reducible refine Keeps.trans (execDioOutClr_keeps _ _ _) ?_
    | with_reducible refine Keeps.trans (execDioCntClr_keeps _ _ _) ?_
    | with_reducible refine (State.laneCmd_kept _ _ _).trans ?_
    | with_reducible refine (State.moverCmd_kept _ _ _).trans ?_
    | with_reducible refine (State.cogCmd_kept _ _ _).trans ?_
    | with_reducible refine Keeps.trans (execCogTokenGive_keeps _ _ _) ?_
    | with_reducible refine Keeps.trans (execCogTokenClr_keeps _ _ _) ?_
    | with_reducible refine Keeps.trans (execCanDetectStart_keeps _ _) ?_
    | with_reducible refine (State.canCmd_kept _ _ _ _).trans ?_
    | with_reducible refine (State.zoneCmd_kept _ _ _).trans ?_
    | with_reducible refine (State.pwdCmd_kept _ _).trans ?_
    | with_reducible refine (State.sluCmd_kept _ _ _).trans ?_
    | with_reducible refine (State.brgCmd_kept _ _ _ _).trans ?_
    | with_reducible refine Keeps.trans (execFltLastfatalClr_keeps _) ?_
    | with_reducible refine (State.twinCmd_kept _ _).trans ?_
    | with_reducible refine Keeps.trans (execCalRunNow_keeps _) ?_
    | with_reducible refine Keeps.trans (execCrsSwitch_keeps _ _ _ _) ?_
    | with_reducible refine (State.crsStoreCmd_kept _ _ _).trans ?_
    | with_reducible refine Keeps.trans (execCrsStoreData_keeps _ _ _) ?_
    | with_reducible refine (State.updCmd_kept _ _ _).trans ?_
    | with_reducible refine (State.keyCmd_kept _ _ _).trans ?_
    | with_reducible refine (State.wr_kept _ _ _ _ _ _).trans ?_
    | with_reducible refine (State.plumbCmd_kept _ _ _).trans ?_
    | with_reducible refine Keeps.trans (execPlumbPartSelect_keeps _ _ _ _) ?_
    | with_reducible refine Keeps.trans (execTraceClear_keeps _) ?_
    | with_reducible refine Keeps.trans (execObsMark_keeps _ _) ?_
    | with_reducible refine ite_kept ?_ ?_
    | split

theorem State.w1cWrite_kept (x1 : State) (x2) (x3) (x4) (x5) :
    State.kept (State.w1cWrite x1 x2 x3 x4 x5) = State.kept x1 := by
  unfold State.w1cWrite
  repeat' first
    | with_reducible rfl
    | with_reducible refine (State.clearOvf_kept _ _).trans ?_
    | with_reducible refine (State.setWord_kept _ _ _ _ _).trans ?_
    | with_reducible refine ite_kept ?_ ?_

theorem State.blockWrite_kept (x1 : State) (x2) (x3) (x4) (x5) (x6) :
    State.kept (State.blockWrite x1 x2 x3 x4 x5 x6).1 = State.kept x1 := by
  unfold State.blockWrite
  repeat' first
    | with_reducible rfl
    | with_reducible refine (State.rwWrite_kept _ _ _ _ _).trans ?_
    | with_reducible refine (State.cmdWrite_kept _ _ _ _ _ _).trans ?_
    | with_reducible refine (State.w1cWrite_kept _ _ _ _ _).trans ?_
    | with_reducible refine ite_kept ?_ ?_
    | with_reducible refine ite_fst_kept ?_ ?_

theorem State.writeWord_kept (x1 : State) (x2) (x3) (x4) (x5) :
    State.kept (State.writeWord x1 x2 x3 x4 x5).1 = State.kept x1 := by
  unfold State.writeWord
  repeat' first
    | with_reducible rfl
    | with_reducible refine (State.busDone_kept _).trans ?_
    | with_reducible refine (State.headerWrite_kept _ _ _ _ _).trans ?_
    | with_reducible refine (State.laneNow_kept _ _).trans ?_
    | with_reducible refine (State.lanePush_kept _ _ _ _).trans ?_
    | with_reducible refine (State.updFeed_kept _ _ _).trans ?_
    | with_reducible refine (State.blockWrite_kept _ _ _ _ _ _).trans ?_
    | with_reducible refine ite_fst_kept ?_ ?_
    | dsimp only
    | fail_if_no_progress (dsimp only [State.kept] <;> show State.kept _ = State.kept _)
    | split

/-! ## Target.lean -/

theorem State.waitWords_kept (x1 : State) (x2) (x3) :
    State.kept (State.waitWords x1 x2 x3) = State.kept x1 := by
  unfold State.waitWords
  repeat' first
    | with_reducible rfl
    | with_reducible refine (State.hkWait_kept _ _ _ _).trans ?_
    | with_reducible refine (State.updWait_kept _ _).trans ?_
    | with_reducible refine (State.setLane_kept _ _ _).trans ?_
    | with_reducible refine (foldl_kept _ _ (fun _ _ => ?_)).trans ?_
    | with_reducible refine ite_kept ?_ ?_

theorem State.writePart_kept (x1 : State) (x2) (x3) (x4) (x5) (x6) (x7) (hd : ∀ t i v, State.kept (x5 t i v).1 = State.kept t) (hm : ∀ t, State.kept (x6 t) = State.kept t) :
    State.kept (State.writePart x1 x2 x3 x4 x5 x6 x7).s = State.kept x1 := by
  unfold State.writePart
  repeat' first
    | with_reducible rfl
    | with_reducible refine (hm _).trans ?_
    | with_reducible refine (hd _ _ _).trans ?_
    | with_reducible refine (State.writeWord_kept _ _ _ _ _).trans ?_
    | dsimp only
    | split

theorem State.writeLocal_kept (x1 : State) (x2) (x3) (x4) (x5) (x6) (x7) (hd : ∀ t i v, State.kept (x5 t i v).1 = State.kept t)
    (hm : ∀ t, State.kept (x6 t) = State.kept t) : State.kept (State.writeLocal x1 x2 x3 x4 x5 x6 x7).s = State.kept x1 := by
  unfold State.writeLocal
  split
  · rfl
  · refine foldl_of_kept Wrote.s _ _ (fun b a => ?_)
    dsimp only
    split
    · rfl
    · exact State.writePart_kept _ _ _ _ _ _ _ hd hm

theorem portDemand_kept (x1) (x2 : State) (x3) (x4) :
    State.kept (portDemand x1 x2 x3 x4).1 = State.kept x2 := by
  unfold portDemand
  repeat' first
    | with_reducible rfl
    | with_reducible refine (State.demandLocal_kept _ _ _ _ _ _).trans ?_

theorem State.sendMulticast_kept (x1 : State) (x2) (x3) (hm : ∀ t, State.kept (x3 t) = State.kept t) :
    State.kept (State.sendMulticast x1 x2 x3) = State.kept x1 := by
  unfold State.sendMulticast
  repeat' first
    | with_reducible rfl
    | with_reducible refine (hm _).trans ?_
    | with_reducible refine (State.count_kept _ _ _ _).trans ?_
    | with_reducible refine (State.pfInvalidate_kept _ _ _ _).trans ?_
    | with_reducible refine (State.originate_kept _ _ _ _ _).trans ?_
    | with_reducible refine (State.writeLocal_kept _ _ _ _ _ _ _ (fun _ _ _ => ?_) (fun _ => ?_)).trans ?_
    | with_reducible refine (portDemand_kept _ _ _ _).trans ?_
    | with_reducible refine (State.perrLocal_kept _ _ _ _ _ _ _).trans ?_
    | with_reducible refine (State.waitWords_kept _ _ _).trans ?_
    | with_reducible refine (foldl_kept _ _ (fun _ _ => ?_)).trans ?_
    | with_reducible refine ite_kept ?_ ?_

theorem State.multicast_kept (x1 : State) (x2) :
    State.kept (State.multicast x1 x2) = State.kept x1 := by
  unfold State.multicast
  repeat' first
    | with_reducible rfl
    | with_reducible exact id_kept _
    | with_reducible refine (State.sendMulticast_kept _ _ _ (fun _ => ?_)).trans ?_

theorem State.portWrite_kept (x1 : State) (x2) (x3) (x4) (x5) (x6) (x7) :
    State.kept (State.portWrite x1 x2 x3 x4 x5 x6 x7) = State.kept x1 := by
  unfold State.portWrite
  repeat' first
    | with_reducible rfl
    | with_reducible refine (State.writeLocal_kept _ _ _ _ _ _ _ (fun _ _ _ => ?_) (fun _ => ?_)).trans ?_
    | with_reducible refine (portDemand_kept _ _ _ _).trans ?_
    | with_reducible refine (State.multicast_kept _ _).trans ?_
    | with_reducible refine (State.pcieErr_kept _ _ _ _ _).trans ?_
    | with_reducible refine (State.waitWords_kept _ _ _).trans ?_
    | with_reducible refine (State.rsp_kept _ _ _ _).trans ?_
    | with_reducible refine (foldl_kept _ _ (fun _ _ => ?_)).trans ?_
    | with_reducible refine ite_kept ?_ ?_
    | dsimp only
    | fail_if_no_progress (dsimp only [State.kept]; show State.kept _ = State.kept _)
    | split

theorem State.reportLost_kept (x1 : State) (x2) (x3) (x4) :
    State.kept (State.reportLost x1 x2 x3 x4) = State.kept x1 := by
  unfold State.reportLost
  repeat' first
    | with_reducible rfl
    | with_reducible refine (State.count_kept _ _ _ _).trans ?_
    | with_reducible refine (State.postedErr_kept _ _ _ _ _ _ _ _ _).trans ?_

theorem State.setWseq_kept (x1 : State) (x2) (x3) :
    State.kept (State.setWseq x1 x2 x3) = State.kept x1 := by
  unfold State.setWseq
  repeat' first
    | dsimp only
    | dsimp only [State.kept]

theorem State.checkWrite_kept (x1 : State) (x2) (x3) :
    State.kept (State.checkWrite x1 x2 x3) = State.kept x1 := by
  unfold State.checkWrite
  repeat' first
    | with_reducible rfl
    | with_reducible refine (State.setWseq_kept _ _ _).trans ?_
    | with_reducible refine (State.reportLost_kept _ _ _ _).trans ?_
    | with_reducible refine (State.count_kept _ _ _ _).trans ?_
    | with_reducible refine ite_kept ?_ ?_

theorem execBrgWriteRx_keeps (x1 : State) :
    Keeps (execBrgWriteRx x1) x1 := by
  unfold execBrgWriteRx
  repeat' first
    | with_reducible rfl
    | with_reducible refine (State.takeCell_kept _ _ _ _ (by assumption)).trans ?_
    | with_reducible refine (State.checkWrite_kept _ _ _).trans ?_
    | with_reducible refine (State.reportWrite_kept _ _ _).trans ?_
    | with_reducible refine (State.count_kept _ _ _ _).trans ?_
    | with_reducible refine (State.writeLocal_kept _ _ _ _ _ _ _ (fun _ _ _ => ?_) (fun _ => ?_)).trans ?_
    | with_reducible refine (State.demandRemote_kept _ _ _ _ _).trans ?_
    | with_reducible refine (State.multicast_kept _ _).trans ?_
    | with_reducible refine (State.waitWords_kept _ _ _).trans ?_
    | with_reducible refine keeps_next ?_
    | with_reducible refine ite_kept ?_ ?_
    | with_reducible refine ite_keeps ?_ ?_
    | dsimp only
    | fail_if_no_progress (dsimp only [State.kept] <;> show State.kept _ = State.kept _)
    | split

theorem execRegisterWrite_keeps (x1) (x2) (x3) (x4) (x5 : State) :
    Keeps (execRegisterWrite x1 x2 x3 x4 x5) x5 := by
  unfold execRegisterWrite
  repeat' first
    | with_reducible rfl
    | with_reducible refine (State.authRefused_kept _ _).trans ?_
    | with_reducible refine (State.portWrite_kept _ _ _ _ _ _ _).trans ?_
    | with_reducible refine keeps_next ?_
    | with_reducible refine ite_keeps ?_ ?_

theorem execMulticastSend_keeps (x1) (x2 : State) :
    Keeps (execMulticastSend x1 x2) x2 := by
  unfold execMulticastSend
  repeat' first
    | with_reducible rfl
    | with_reducible refine (State.multicast_kept _ _).trans ?_
    | with_reducible refine keeps_next ?_
    | with_reducible refine ite_keeps ?_ ?_

theorem State.checkRead_kept (x1 : State) (x2) (x3) :
    State.kept (State.checkRead x1 x2 x3) = State.kept x1 := by
  unfold State.checkRead
  repeat' first
    | with_reducible rfl
    | with_reducible refine (State.setWseq_kept _ _ _).trans ?_
    | with_reducible refine (State.reportLost_kept _ _ _ _).trans ?_
    | with_reducible refine ite_kept ?_ ?_

theorem State.respond_kept (x1 : State) (x2) (x3) (x4) (x5) (x6) :
    State.kept (State.respond x1 x2 x3 x4 x5 x6) = State.kept x1 := by
  unfold State.respond
  repeat' first
    | with_reducible rfl
    | with_reducible refine (State.originate_kept _ _ _ _ _).trans ?_
    | with_reducible refine (foldl_kept _ _ (fun _ _ => ?_)).trans ?_

theorem execBrgReadRx_keeps (x1 : State) :
    Keeps (execBrgReadRx x1) x1 := by
  unfold execBrgReadRx
  repeat' first
    | with_reducible rfl
    | with_reducible refine (State.takeCell_kept _ _ _ _ (by assumption)).trans ?_
    | with_reducible refine (State.count_kept _ _ _ _).trans ?_
    | with_reducible refine (State.checkRead_kept _ _ _).trans ?_
    | with_reducible refine (State.readLocal_kept _ _ _ _).trans ?_
    | with_reducible refine (State.respond_kept _ _ _ _ _ _).trans ?_
    | with_reducible refine keeps_next ?_
    | with_reducible refine ite_keeps ?_ ?_
    | dsimp only
    | split

theorem execBrgWaitExpired_keeps (x1 : State) :
    Keeps (execBrgWaitExpired x1) x1 := by
  unfold execBrgWaitExpired
  repeat' first
    | with_reducible rfl
    | with_reducible refine (State.passTo_kept _ _).trans ?_
    | with_reducible refine (State.setLane_kept _ _ _).trans ?_
    | with_reducible refine (State.reportWrite_kept _ _ _).trans ?_
    | with_reducible refine (State.count_kept _ _ _ _).trans ?_
    | with_reducible refine keeps_next ?_
    | with_reducible refine (foldl_kept _ _ (fun _ _ => ?_)).trans ?_
    | dsimp only
    | fail_if_no_progress (dsimp only [State.kept] <;> show State.kept _ = State.kept _)
    | split

/-! ## Movers.lean -/

theorem State.copySkip_kept (x1 : State) (x2) :
    State.kept (State.copySkip x1 x2) = State.kept x1 := by
  unfold State.copySkip
  repeat' first
    | with_reducible rfl
    | with_reducible refine (State.wr_kept _ _ _ _ _ _).trans ?_
    | with_reducible refine (State.copyEnd_kept _ _).trans ?_

theorem execImageCopyDone_keeps (x1) (x2 : State) :
    Keeps (execImageCopyDone x1 x2) x2 := by
  unfold execImageCopyDone
  repeat' first
    | with_reducible rfl
    | with_reducible refine (State.movError_kept _ _ _).trans ?_
    | with_reducible refine (State.copySkip_kept _ _).trans ?_
    | with_reducible refine (State.emit_kept _ _).trans ?_
    | with_reducible refine (State.copyEnd_kept _ _).trans ?_
    | with_reducible refine (State.count_kept _ _ _ _).trans ?_
    | with_reducible refine (State.irq_kept _ _ _).trans ?_
    | with_reducible refine (State.movFlag_kept _ _ _ _ _).trans ?_
    | with_reducible refine keeps_next ?_
    | with_reducible refine ite_keeps ?_ ?_

theorem State.setCopy_kept (x1 : State) (x2) (x3) :
    State.kept (State.setCopy x1 x2 x3) = State.kept x1 := by
  unfold State.setCopy
  repeat' first
    | dsimp only
    | dsimp only [State.kept]

theorem execImageCopyStart_keeps (x1) (x2 : State) :
    Keeps (execImageCopyStart x1 x2) x2 := by
  unfold execImageCopyStart
  repeat' first
    | with_reducible rfl
    | with_reducible refine (State.movError_kept _ _ _).trans ?_
    | with_reducible refine (State.copySkip_kept _ _).trans ?_
    | with_reducible refine (State.setMover_kept _ _ _).trans ?_
    | with_reducible refine (State.setCopy_kept _ _ _).trans ?_
    | with_reducible refine (State.wr_kept _ _ _ _ _ _).trans ?_
    | with_reducible refine (State.emit_kept _ _).trans ?_
    | with_reducible refine keeps_next ?_
    | with_reducible refine ite_keeps ?_ ?_

theorem State.movWrite_kept (x1 : State) (x2) (x3) (x4) :
    ∀ t, State.movWrite x1 x2 x3 x4 = some t → State.kept t.1 = State.kept x1 := by
  unfold State.movWrite
  intro t h
  (try dsimp only at h)
  (repeat' split at h) <;> (try cases h)
  repeat' first
    | with_reducible rfl
    | with_reducible refine (State.writeLocal_kept _ _ _ _ _ _ _ (fun _ _ _ => ?_) (fun _ => ?_)).trans ?_
    | with_reducible refine (State.demandLocal_kept _ _ _ _ _ _).trans ?_
    | with_reducible refine (State.multicast_kept _ _).trans ?_
    | with_reducible refine (State.emit_kept _ _).trans ?_
    | with_reducible refine (State.postCell_kept _ _ _ _ _ _).trans ?_
    | with_reducible refine (State.lanePush_kept _ _ _ _).trans ?_
    | with_reducible refine (foldl_kept _ _ (fun _ _ => ?_)).trans ?_

theorem State.copyBurst_kept (x1 : State) (x2) :
    State.kept (State.copyBurst x1 x2) = State.kept x1 := by
  unfold State.copyBurst
  repeat' first
    | with_reducible rfl
    | with_reducible refine (State.movError_kept _ _ _).trans ?_
    | with_reducible refine (State.copySkip_kept _ _).trans ?_
    | with_reducible refine (State.count_kept _ _ _ _).trans ?_
    | with_reducible refine (State.emit_kept _ _).trans ?_
    | with_reducible refine (State.setMover_kept _ _ _).trans ?_
    | with_reducible refine ite_kept ?_ ?_

theorem State.movRead_kept (x1 : State) (x2) (x3) (x4) :
    State.kept (State.movRead x1 x2 x3 x4).1 = State.kept x1 := by
  unfold State.movRead
  repeat' first
    | with_reducible rfl
    | with_reducible refine (State.readLocal_kept _ _ _ _).trans ?_
    | with_reducible refine (State.rxPop_kept _ _ _).trans ?_
    | dsimp only
    | split

theorem State.movWords_kept (x1) (x2 : State) (x3) (x4) :
    State.kept (State.movWords x1 x2 x3 x4) = State.kept x2 := by
  induction x1 generalizing x2 x4 with
  | zero =>
    unfold State.movWords
    repeat' first
      | with_reducible rfl
  | succ k ih =>
    unfold State.movWords
    repeat' first
      | with_reducible refine (ih _ _).trans ?_
      | with_reducible rfl
      | with_reducible refine (State.movRead_kept _ _ _ _).trans ?_
      | with_reducible refine (State.movError_kept _ _ _).trans ?_
      | with_reducible refine (State.movWrite_kept _ _ _ _ _ (by assumption)).trans ?_
      | with_reducible refine (State.count_kept _ _ _ _).trans ?_
      | with_reducible refine (State.setMover_kept _ _ _).trans ?_
      | with_reducible refine (State.movDone_kept _ _).trans ?_
      | with_reducible refine ite_kept ?_ ?_
      | dsimp only
      | with_reducible refine (fst_kept (by assumption)).trans ?_
      | split

theorem execMoverBurst_keeps (x1) (x2) (x3) (x4 : State) :
    Keeps (execMoverBurst x1 x2 x3 x4) x4 := by
  unfold execMoverBurst
  have h := foldl_kept (g := fun (s : State) l => s.laneNow l) (List.range 64) x4 (fun _ _ => State.laneNow_kept _ _)
  revert h
  generalize List.foldl _ x4 (List.range 64) = s1
  intro h
  repeat' first
    | assumption
    | with_reducible refine (State.count_kept _ _ _ _).trans ?_
    | with_reducible refine (State.setMover_kept _ _ _).trans ?_
    | with_reducible refine (State.copyBurst_kept _ _).trans ?_
    | with_reducible refine (State.movWords_kept _ _ _ _).trans ?_
    | with_reducible refine keeps_next ?_
    | with_reducible refine ite_kept ?_ ?_
    | with_reducible refine ite_keeps ?_ ?_
    | split

/-! ## Ports.lean -/

theorem State.msixFlush_kept (x1 : State) :
    State.kept (State.msixFlush x1) = State.kept x1 := by
  unfold State.msixFlush
  repeat' first
    | with_reducible rfl
    | with_reducible refine (State.sendMsix_kept _ _).trans ?_
    | with_reducible refine (foldl_kept _ _ (fun _ _ => ?_)).trans ?_
    | dsimp only
    | dsimp only [State.kept]

theorem execMsixUnmask_keeps (x1) (x2) (x3) (x4) (x5 : State) :
    Keeps (execMsixUnmask x1 x2 x3 x4 x5) x5 := by
  unfold execMsixUnmask
  repeat' first
    | with_reducible rfl
    | with_reducible refine (State.msixFlush_kept _).trans ?_
    | with_reducible refine keeps_next ?_
    | with_reducible refine ite_keeps ?_ ?_
    | dsimp only
    | dsimp only [State.kept]

theorem State.bar4Put_kept (x1 : State) (x2) (x3) :
    State.kept (State.bar4Put x1 x2 x3) = State.kept x1 := by
  unfold State.bar4Put
  repeat' first
    | with_reducible rfl
    | with_reducible refine (State.msixFlush_kept _).trans ?_
    | with_reducible refine ite_kept ?_ ?_
    | dsimp only
    | dsimp only [State.kept]

theorem State.bar4Word_kept (x1 : State) (x2) :
    State.kept (State.bar4Word x1 x2).2 = State.kept x1 := by
  unfold State.bar4Word
  repeat' first
    | with_reducible rfl
    | with_reducible refine (State.drawn_kept _).trans ?_
    | dsimp only
    | split

theorem State.completeParts_kept (x1) (x2 : State) (x3) (x4) (x5) :
    State.kept (State.completeParts x1 x2 x3 x4 x5) = State.kept x2 := by
  induction x1 generalizing x2 x3 x4 x5 with
  | zero =>
    unfold State.completeParts
    repeat' first
      | with_reducible rfl
  | succ k ih =>
    unfold State.completeParts
    repeat' first
      | with_reducible refine (ih _ _ _ _).trans ?_
      | with_reducible rfl
      | with_reducible refine (State.rsp_kept _ _ _ _).trans ?_
      | with_reducible refine ite_kept ?_ ?_

theorem State.complete_kept (x1 : State) (x2) (x3) (x4) :
    State.kept (State.complete x1 x2 x3 x4) = State.kept x1 := by
  unfold State.complete
  repeat' first
    | with_reducible rfl
    | with_reducible refine (State.completeParts_kept _ _ _ _ _).trans ?_

theorem State.bar4_kept (x1 : State) (x2) (x3) (x4) (x5) (x6) :
    State.kept (State.bar4 x1 x2 x3 x4 x5 x6) = State.kept x1 := by
  unfold State.bar4
  refine ite_kept (ite_kept (foldl_kept _ _ (fun _ _ => State.bar4Put_kept _ _ _)) rfl) ?_
  refine (State.complete_kept _ _ _ _).trans ?_
  exact foldl_of_kept Prod.snd _ _ (fun b a => State.bar4Word_kept _ _)

theorem State.pcieLocal_kept (x1 : State) (x2) (x3) (x4) (x5) (x6) (x7) :
    State.kept (State.pcieLocal x1 x2 x3 x4 x5 x6 x7) = State.kept x1 := by
  unfold State.pcieLocal
  repeat' first
    | with_reducible rfl
    | with_reducible refine (State.portWrite_kept _ _ _ _ _ _ _).trans ?_
    | with_reducible refine (State.readLocal_kept _ _ _ _).trans ?_
    | with_reducible refine (State.complete_kept _ _ _ _).trans ?_
    | with_reducible refine (State.pcieErr_kept _ _ _ _ _).trans ?_
    | with_reducible refine (foldl_kept _ _ (fun _ _ => ?_)).trans ?_
    | with_reducible refine ite_kept ?_ ?_

theorem State.pcieFail_kept (x1 : State) (x2) (x3) (x4) (x5) (x6) :
    State.kept (State.pcieFail x1 x2 x3 x4 x5 x6) = State.kept x1 := by
  unfold State.pcieFail
  repeat' first
    | with_reducible rfl
    | with_reducible refine (State.complete_kept _ _ _ _).trans ?_
    | with_reducible refine (State.pcieErr_kept _ _ _ _ _).trans ?_

theorem State.pcieRemote_kept (x1) (x2 : State) (x3) (x4) (x5) :
    State.kept (State.pcieRemote x1 x2 x3 x4 x5) = State.kept x2 := by
  induction x1 generalizing x2 x4 x5 with
  | zero =>
    unfold State.pcieRemote
    repeat' first
      | with_reducible rfl
  | succ k ih =>
    unfold State.pcieRemote
    repeat' first
      | with_reducible refine (ih _ _ _).trans ?_
      | with_reducible rfl
      | with_reducible refine (State.readIssue_kept _ _ _ _ _).trans ?_
      | with_reducible refine ite_kept ?_ ?_

theorem execPcieRequest_keeps (x1) (x2) (x3) (x4) (x5) (x6) (x7 : State) :
    Keeps (execPcieRequest x1 x2 x3 x4 x5 x6 x7) x7 := by
  unfold execPcieRequest
  repeat' first
    | with_reducible rfl
    | with_reducible refine (State.bar4_kept _ _ _ _ _ _).trans ?_
    | with_reducible refine (State.count_kept _ _ _ _).trans ?_
    | with_reducible refine (State.pcieLocal_kept _ _ _ _ _ _ _).trans ?_
    | with_reducible refine (State.pcieFail_kept _ _ _ _ _ _).trans ?_
    | with_reducible refine (State.postWrite_kept _ _ _ _ _).trans ?_
    | with_reducible refine (State.pcieRemote_kept _ _ _ _ _).trans ?_
    | with_reducible refine keeps_next ?_
    | with_reducible refine ite_keeps ?_ ?_

theorem execPcieConfigWrite_keeps (x1) (x2) (x3) (x4) (x5) (x6 : State) :
    Keeps (execPcieConfigWrite x1 x2 x3 x4 x5 x6) x6 := by
  unfold execPcieConfigWrite
  repeat' first
    | with_reducible rfl
    | with_reducible refine (State.wr_kept _ _ _ _ _ _).trans ?_
    | with_reducible refine (State.msixFlush_kept _).trans ?_
    | with_reducible refine keeps_next ?_
    | with_reducible refine ite_keeps ?_ ?_
    | dsimp only [State.kept]

theorem execPcieHotReset_keeps (x1 : State) :
    Keeps (execPcieHotReset x1) x1 := by
  unfold execPcieHotReset
  repeat' first
    | with_reducible rfl
    | with_reducible refine (State.count_kept _ _ _ _).trans ?_
    | with_reducible refine (State.irq_kept _ _ _).trans ?_
    | with_reducible refine (State.pcieConfigReset_kept _).trans ?_
    | with_reducible refine keeps_next ?_
    | with_reducible refine ite_keeps ?_ ?_

theorem State.qshBegin_keeps (x1 : State) (x2) (x3) (x4) (hb : ∀ t, State.kept (x4 t) = State.kept t) :
    Keeps (State.qshBegin x1 x2 x3 x4) x1 := by
  unfold State.qshBegin
  repeat' first
    | with_reducible rfl
    | with_reducible refine (hb _).trans ?_
    | with_reducible refine (State.count_kept _ _ _ _).trans ?_
    | with_reducible refine (State.wr_kept _ _ _ _ _ _).trans ?_
    | with_reducible refine (State.qshErr_kept _ _).trans ?_
    | with_reducible refine (State.qshAnswer_kept _ _ _).trans ?_
    | with_reducible refine keeps_next ?_
    | with_reducible refine ite_kept ?_ ?_
    | with_reducible refine ite_keeps ?_ ?_
    | dsimp only
    | dsimp only [State.kept]

theorem execQshRead_keeps (x1) (x2 : State) :
    Keeps (execQshRead x1 x2) x2 := by
  unfold execQshRead
  repeat' first
    | with_reducible rfl
    | with_reducible refine Keeps.trans (State.qshBegin_keeps _ _ _ _ (fun _ => ?_)) ?_
    | with_reducible refine (State.qshAnswer_kept _ _ _).trans ?_
    | with_reducible refine (State.readLocal_kept _ _ _ _).trans ?_
    | with_reducible refine ite_kept ?_ ?_

theorem execQshWrite_keeps (x1) (x2) (x3) (x4 : State) :
    Keeps (execQshWrite x1 x2 x3 x4) x4 := by
  unfold execQshWrite
  repeat' first
    | with_reducible rfl
    | with_reducible refine Keeps.trans (State.qshBegin_keeps _ _ _ _ (fun _ => ?_)) ?_
    | with_reducible refine (State.qshAnswer_kept _ _ _).trans ?_
    | with_reducible refine (State.portWrite_kept _ _ _ _ _ _ _).trans ?_
    | with_reducible refine (State.postWrite_kept _ _ _ _ _).trans ?_
    | with_reducible refine ite_kept ?_ ?_
    | dsimp only
    | dsimp only [State.kept]

theorem execQshTicket_keeps (x1) (x2 : State) :
    Keeps (execQshTicket x1 x2) x2 := by
  unfold execQshTicket
  repeat' first
    | with_reducible rfl
    | with_reducible refine Keeps.trans (State.qshBegin_keeps _ _ _ _ (fun _ => ?_)) ?_
    | with_reducible refine (State.qshAnswer_kept _ _ _).trans ?_
    | with_reducible refine (State.takeSlot_kept _ _ _ _ _ _ (by assumption)).trans ?_
    | with_reducible refine ite_kept ?_ ?_
    | split

theorem execQshCollect_keeps (x1) (x2 : State) :
    Keeps (execQshCollect x1 x2) x2 := by
  unfold execQshCollect
  repeat' first
    | with_reducible rfl
    | with_reducible refine Keeps.trans (State.qshBegin_keeps _ _ _ _ (fun _ => ?_)) ?_
    | with_reducible refine (State.qshAnswer_kept _ _ _).trans ?_
    | with_reducible refine (State.slotFree_kept _ _).trans ?_
    | with_reducible refine ite_kept ?_ ?_

theorem execQshCsRise_keeps (x1) (x2 : State) :
    Keeps (execQshCsRise x1 x2) x2 := by
  unfold execQshCsRise
  repeat' first
    | with_reducible rfl
    | with_reducible refine (State.wr_kept _ _ _ _ _ _).trans ?_
    | with_reducible refine (State.count_kept _ _ _ _).trans ?_
    | with_reducible refine (State.qshErr_kept _ _).trans ?_
    | with_reducible refine (State.drawn_kept _).trans ?_
    | with_reducible refine keeps_next ?_
    | with_reducible refine ite_kept ?_ ?_
    | dsimp only
    | fail_if_no_progress (dsimp only [State.kept]; show State.kept _ = State.kept _)

theorem execPcieLinkUp_keeps (x1) (x2) (x3 : State) :
    Keeps (execPcieLinkUp x1 x2 x3) x3 := by
  unfold execPcieLinkUp
  repeat' first
    | with_reducible rfl
    | with_reducible refine (State.wr_kept _ _ _ _ _ _).trans ?_
    | with_reducible refine (State.irq_kept _ _ _).trans ?_
    | with_reducible refine keeps_next ?_
    | with_reducible refine ite_keeps ?_ ?_

theorem execPciePllUnlock_keeps (x1 : State) :
    Keeps (execPciePllUnlock x1) x1 := by
  unfold execPciePllUnlock
  repeat' first
    | with_reducible rfl
    | with_reducible refine (State.pcieDown_kept _).trans ?_
    | with_reducible refine (State.count_kept _ _ _ _).trans ?_
    | with_reducible refine (State.irq_kept _ _ _).trans ?_
    | with_reducible refine (State.wr_kept _ _ _ _ _ _).trans ?_
    | with_reducible refine keeps_next ?_
    | with_reducible refine ite_keeps ?_ ?_

theorem execPciePllLock_keeps (x1 : State) :
    Keeps (execPciePllLock x1) x1 := by
  unfold execPciePllLock
  repeat' first
    | with_reducible rfl
    | with_reducible refine (State.wr_kept _ _ _ _ _ _).trans ?_
    | with_reducible refine keeps_next ?_
    | with_reducible refine ite_keeps ?_ ?_

theorem execPcieLinkDown_keeps (x1 : State) :
    Keeps (execPcieLinkDown x1) x1 := by
  unfold execPcieLinkDown
  repeat' first
    | with_reducible rfl
    | with_reducible refine (State.pcieDown_kept _).trans ?_
    | with_reducible refine keeps_next ?_

/-! ## Usb.lean -/

theorem State.usbStalls_kept (x1 : State) :
    State.kept (State.usbStalls x1) = State.kept x1 := by
  unfold State.usbStalls
  repeat' first
    | with_reducible rfl
    | with_reducible refine (State.emit_kept _ _).trans ?_

theorem State.vendor_keeps (x1 : State) (x2) (x3) (hb : ∀ t, State.kept (x3 t) = State.kept t) :
    Keeps (State.vendor x1 x2 x3) x1 := by
  unfold State.vendor
  repeat' first
    | with_reducible rfl
    | with_reducible refine (hb _).trans ?_
    | with_reducible refine (State.usbStalls_kept _).trans ?_
    | with_reducible refine keeps_next ?_
    | with_reducible refine ite_keeps ?_ ?_

theorem State.authFail_kept (x1 : State) :
    State.kept (State.authFail x1) = State.kept x1 := by
  unfold State.authFail
  repeat' first
    | with_reducible refine (State.count_kept _ _ _ _).trans ?_
    | with_reducible refine (State.irq_kept _ _ _).trans ?_
    | with_reducible refine (State.wr_kept _ _ _ _ _ _).trans ?_
    | with_reducible refine ite_kept ?_ ?_
    | dsimp only
    | fail_if_no_progress (dsimp only [State.kept] <;> show State.kept _ = State.kept _)

theorem execAuthResponse_keeps (x1) (x2 : State) :
    Keeps (execAuthResponse x1 x2) x2 := by
  unfold execAuthResponse
  repeat' first
    | with_reducible rfl
    | with_reducible refine Keeps.trans (State.vendor_keeps _ _ _ (fun _ => ?_)) ?_
    | with_reducible refine (State.count_kept _ _ _ _).trans ?_
    | with_reducible refine (State.wr_kept _ _ _ _ _ _).trans ?_
    | with_reducible refine (State.authFail_kept _).trans ?_
    | with_reducible refine ite_kept ?_ ?_
    | dsimp only
    | dsimp only [State.kept]

theorem State.tunnelRefuse_kept (x1 : State) (x2) (x3) :
    State.kept (State.tunnelRefuse x1 x2 x3) = State.kept x1 := by
  unfold State.tunnelRefuse
  repeat' first
    | with_reducible rfl
    | with_reducible refine (State.tunnelAnswer_kept _ _ _ _ _).trans ?_
    | with_reducible refine ite_kept ?_ ?_

theorem State.tunnelRun_kept (x1 : State) (x2) :
    State.kept (State.tunnelRun x1 x2) = State.kept x1 := by
  unfold State.tunnelRun
  repeat' first
    | with_reducible rfl
    | with_reducible refine (State.tunnelRefuse_kept _ _ _).trans ?_
    | with_reducible refine (State.fault_kept _ _ _ _ _ _).trans ?_
    | with_reducible refine (State.drawn_kept _).trans ?_
    | with_reducible refine (State.count_kept _ _ _ _).trans ?_
    | with_reducible refine (State.portWrite_kept _ _ _ _ _ _ _).trans ?_
    | with_reducible refine (State.postWrite_kept _ _ _ _ _).trans ?_
    | with_reducible refine (State.readLocal_kept _ _ _ _).trans ?_
    | with_reducible refine (State.rsp_kept _ _ _ _).trans ?_
    | with_reducible refine (State.readIssue_kept _ _ _ _ _).trans ?_
    | with_reducible refine ite_kept ?_ ?_
    | dsimp only
    | dsimp only [State.kept]

theorem State.tunnelNext_kept (x1) (x2 : State) :
    State.kept (State.tunnelNext x1 x2) = State.kept x2 := by
  induction x1 generalizing x2 with
  | zero =>
    unfold State.tunnelNext
    repeat' first
      | with_reducible rfl
  | succ k ih =>
    unfold State.tunnelNext
    repeat' first
      | with_reducible refine (ih _).trans ?_
      | with_reducible rfl
      | with_reducible refine (State.tunnelRun_kept _ _).trans ?_
      | with_reducible refine ite_kept ?_ ?_
      | dsimp only
      | fail_if_no_progress (dsimp only [State.kept] <;> show State.kept _ = State.kept _)
      | split

theorem State.usbDrain_kept (x1 : State) :
    State.kept (State.usbDrain x1) = State.kept x1 := by
  unfold State.usbDrain
  repeat' first
    | with_reducible rfl
    | with_reducible refine (State.tunnelNext_kept _ _).trans ?_

theorem State.usbBack_kept (x1 : State) :
    State.kept (State.usbBack x1) = State.kept x1 := by
  unfold State.usbBack
  repeat' first
    | with_reducible rfl
    | with_reducible refine (State.irq_kept _ _ _).trans ?_
    | with_reducible refine (State.wr_kept _ _ _ _ _ _).trans ?_
    | with_reducible refine (State.emit_kept _ _).trans ?_
    | with_reducible refine (State.usbMoved_kept _ _ _).trans ?_
    | with_reducible refine (State.usbDrain_kept _).trans ?_
    | with_reducible refine (foldl_kept _ _ (fun _ _ => ?_)).trans ?_
    | dsimp only
    | fail_if_no_progress (dsimp only [State.kept]; show State.kept _ = State.kept _)

theorem execUsbRemoteWake_keeps (x1) (x2 : State) :
    Keeps (execUsbRemoteWake x1 x2) x2 := by
  unfold execUsbRemoteWake
  repeat' first
    | with_reducible rfl
    | with_reducible refine (State.pass_kept _ _).trans ?_
    | with_reducible refine (State.emit_kept _ _).trans ?_
    | with_reducible refine (State.count_kept _ _ _ _).trans ?_
    | with_reducible refine (State.wr_kept _ _ _ _ _ _).trans ?_
    | with_reducible refine (State.usbBack_kept _).trans ?_
    | with_reducible refine keeps_next ?_
    | with_reducible refine ite_keeps ?_ ?_

theorem State.usbData_kept (x1 : State) (x2) (x3) :
    State.kept (State.usbData x1 x2 x3) = State.kept x1 := by
  unfold State.usbData
  repeat' first
    | with_reducible rfl
    | with_reducible refine (State.emit_kept _ _).trans ?_

theorem State.tunnelTake_kept (x1 : State) (x2) :
    State.kept (State.tunnelTake x1 x2) = State.kept x1 := by
  unfold State.tunnelTake
  repeat' first
    | with_reducible rfl
    | with_reducible refine (State.usbMoved_kept _ _ _).trans ?_
    | with_reducible refine (State.usbDrain_kept _).trans ?_
    | with_reducible refine ite_kept ?_ ?_
    | dsimp only
    | fail_if_no_progress (dsimp only [State.kept]; show State.kept _ = State.kept _)

theorem execTunnelWrite_keeps (x1) (x2) (x3) (x4 : State) :
    Keeps (execTunnelWrite x1 x2 x3 x4) x4 := by
  unfold execTunnelWrite
  repeat' first
    | with_reducible rfl
    | with_reducible refine (State.tunnelTake_kept _ _).trans ?_
    | with_reducible refine keeps_next ?_
    | with_reducible refine ite_keeps ?_ ?_

theorem execGetWakeReason_keeps (x1) (x2 : State) :
    Keeps (execGetWakeReason x1 x2) x2 := by
  unfold execGetWakeReason
  repeat' first
    | with_reducible rfl
    | with_reducible refine Keeps.trans (State.vendor_keeps _ _ _ (fun _ => ?_)) ?_
    | with_reducible refine (State.setWord_kept _ _ _ _ _).trans ?_
    | with_reducible refine (State.usbData_kept _ _ _).trans ?_

theorem State.epRun_kept (x1 : State) (x2) :
    State.kept (State.epRun x1 x2) = State.kept x1 := by
  unfold State.epRun
  repeat' first
    | with_reducible refine (State.usbDrain_kept _).trans ?_
    | dsimp only
    | dsimp only [State.kept]

theorem State.descriptor_kept (x1 : State) (x2) (x3) :
    State.kept (State.descriptor x1 x2 x3).2 = State.kept x1 := by
  unfold State.descriptor
  repeat' first
    | with_reducible rfl
    | with_reducible refine (State.randBytes_kept _ _).trans ?_
    | with_reducible refine (State.drawn_kept _).trans ?_
    | dsimp only
    | split

theorem execUsbStandardRequest_keeps (x1) (x2) (x3) (x4) (x5) (x6 : State) :
    Keeps (execUsbStandardRequest x1 x2 x3 x4 x5 x6) x6 := by
  unfold execUsbStandardRequest
  repeat' first
    | with_reducible rfl
    | with_reducible refine (State.usbStalls_kept _).trans ?_
    | with_reducible refine (State.usbData_kept _ _ _).trans ?_
    | with_reducible refine (State.wr_kept _ _ _ _ _ _).trans ?_
    | with_reducible refine (State.epRun_kept _ _).trans ?_
    | with_reducible refine (State.epHalt_kept _ _).trans ?_
    | with_reducible refine (State.descriptor_kept _ _ _).trans ?_
    | with_reducible refine (State.usbDrain_kept _).trans ?_
    | with_reducible refine keeps_next ?_
    | with_reducible refine ite_kept ?_ ?_
    | with_reducible refine ite_keeps ?_ ?_
    | dsimp only
    | fail_if_no_progress (dsimp only [State.kept] <;> show State.kept _ = State.kept _)
    | split

theorem execUsbHaltClear_keeps (x1) (x2 : State) :
    Keeps (execUsbHaltClear x1 x2) x2 := by
  unfold execUsbHaltClear
  repeat' first
    | with_reducible rfl
    | with_reducible refine (State.epRun_kept _ _).trans ?_
    | with_reducible refine keeps_next ?_
    | with_reducible refine ite_keeps ?_ ?_

theorem execGetLastStatus_keeps (x1) (x2 : State) :
    Keeps (execGetLastStatus x1 x2) x2 := by
  unfold execGetLastStatus
  repeat' first
    | with_reducible rfl
    | with_reducible refine Keeps.trans (State.vendor_keeps _ _ _ (fun _ => ?_)) ?_
    | with_reducible refine (State.usbData_kept _ _ _).trans ?_

theorem execUsbEndpointHalt_keeps (x1) (x2 : State) :
    Keeps (execUsbEndpointHalt x1 x2) x2 := by
  unfold execUsbEndpointHalt
  repeat' first
    | with_reducible rfl
    | with_reducible refine (State.epHalt_kept _ _).trans ?_
    | with_reducible refine keeps_next ?_
    | with_reducible refine ite_keeps ?_ ?_

theorem execGetInfo_keeps (x1) (x2 : State) :
    Keeps (execGetInfo x1 x2) x2 := by
  unfold execGetInfo
  repeat' first
    | with_reducible rfl
    | with_reducible refine Keeps.trans (State.vendor_keeps _ _ _ (fun _ => ?_)) ?_
    | with_reducible refine (State.usbData_kept _ _ _).trans ?_

theorem execAuthChallenge_keeps (x1) (x2 : State) :
    Keeps (execAuthChallenge x1 x2) x2 := by
  unfold execAuthChallenge
  repeat' first
    | with_reducible rfl
    | with_reducible refine Keeps.trans (State.vendor_keeps _ _ _ (fun _ => ?_)) ?_
    | with_reducible refine (State.randBytes_kept _ _).trans ?_
    | with_reducible refine (State.usbData_kept _ _ _).trans ?_
    | dsimp only
    | fail_if_no_progress (dsimp only [State.kept]; show State.kept _ = State.kept _)

theorem execUsbRegRead_keeps (x1) (x2) (x3 : State) :
    Keeps (execUsbRegRead x1 x2 x3) x3 := by
  unfold execUsbRegRead
  repeat' first
    | with_reducible rfl
    | with_reducible refine Keeps.trans (State.vendor_keeps _ _ _ (fun _ => ?_)) ?_
    | with_reducible refine (State.usbData_kept _ _ _).trans ?_
    | with_reducible refine (State.count_kept _ _ _ _).trans ?_
    | with_reducible refine (State.readLocal_kept _ _ _ _).trans ?_
    | with_reducible refine ite_kept ?_ ?_
    | dsimp only
    | fail_if_no_progress (dsimp only [State.kept] <;> show State.kept _ = State.kept _)

theorem execUsbRegWrite_keeps (x1) (x2) (x3 : State) :
    Keeps (execUsbRegWrite x1 x2 x3) x3 := by
  unfold execUsbRegWrite
  repeat' first
    | with_reducible rfl
    | with_reducible refine Keeps.trans (State.vendor_keeps _ _ _ (fun _ => ?_)) ?_
    | with_reducible refine (State.count_kept _ _ _ _).trans ?_
    | with_reducible refine (State.portWrite_kept _ _ _ _ _ _ _).trans ?_
    | with_reducible refine ite_kept ?_ ?_
    | dsimp only
    | dsimp only [State.kept]

theorem execDeauth_keeps (x1) (x2 : State) :
    Keeps (execDeauth x1 x2) x2 := by
  unfold execDeauth
  repeat' first
    | with_reducible rfl
    | with_reducible refine Keeps.trans (State.vendor_keeps _ _ _ (fun _ => ?_)) ?_
    | with_reducible refine (State.authEnd_kept _).trans ?_

theorem execTunnelRead_keeps (x1) (x2) (x3 : State) :
    Keeps (execTunnelRead x1 x2 x3) x3 := by
  unfold execTunnelRead
  repeat' first
    | with_reducible rfl
    | with_reducible refine (State.tunnelTake_kept _ _).trans ?_
    | with_reducible refine keeps_next ?_
    | with_reducible refine ite_keeps ?_ ?_

theorem execUsbBusReset_keeps (x1) (x2) (x3 : State) :
    Keeps (execUsbBusReset x1 x2 x3) x3 := by
  unfold execUsbBusReset
  repeat' first
    | with_reducible rfl
    | with_reducible refine (State.usbDrain_kept _).trans ?_
    | with_reducible refine (State.tunnelFlush_kept _).trans ?_
    | with_reducible refine (State.wr_kept _ _ _ _ _ _).trans ?_
    | with_reducible refine (State.authEnd_kept _).trans ?_
    | with_reducible refine (State.irq_kept _ _ _).trans ?_
    | with_reducible refine (State.count_kept _ _ _ _).trans ?_
    | with_reducible refine keeps_next ?_
    | with_reducible refine ite_kept ?_ ?_
    | with_reducible refine ite_keeps ?_ ?_
    | dsimp only
    | dsimp only [State.kept]

theorem execUsbSuspend_keeps (x1 : State) :
    Keeps (execUsbSuspend x1) x1 := by
  unfold execUsbSuspend
  repeat' first
    | with_reducible rfl
    | with_reducible refine (State.irq_kept _ _ _).trans ?_
    | with_reducible refine (State.wr_kept _ _ _ _ _ _).trans ?_
    | with_reducible refine keeps_next ?_
    | with_reducible refine ite_keeps ?_ ?_
    | dsimp only
    | dsimp only [State.kept]

theorem execUsbResume_keeps (x1 : State) :
    Keeps (execUsbResume x1) x1 := by
  unfold execUsbResume
  repeat' first
    | with_reducible rfl
    | with_reducible refine (State.usbBack_kept _).trans ?_
    | with_reducible refine keeps_next ?_
    | with_reducible refine ite_keeps ?_ ?_

theorem execUsbVbusRise_keeps (x1 : State) :
    Keeps (execUsbVbusRise x1) x1 := by
  unfold execUsbVbusRise
  repeat' first
    | with_reducible rfl
    | with_reducible refine (State.usbAttach_kept _).trans ?_
    | with_reducible refine (State.wr_kept _ _ _ _ _ _).trans ?_
    | with_reducible refine keeps_next ?_

theorem execUsbVbusFall_keeps (x1 : State) :
    Keeps (execUsbVbusFall x1) x1 := by
  unfold execUsbVbusFall
  repeat' first
    | with_reducible rfl
    | with_reducible refine (State.usbDetach_kept _).trans ?_
    | with_reducible refine (State.wr_kept _ _ _ _ _ _).trans ?_
    | with_reducible refine keeps_next ?_

theorem execUsbLockoutEnd_keeps (x1 : State) :
    Keeps (execUsbLockoutEnd x1) x1 := by
  unfold execUsbLockoutEnd
  repeat' first
    | with_reducible rfl
    | with_reducible refine (State.passTo_kept _ _).trans ?_
    | with_reducible refine (State.wr_kept _ _ _ _ _ _).trans ?_
    | with_reducible refine keeps_next ?_
    | dsimp only
    | fail_if_no_progress (dsimp only [State.kept] <;> show State.kept _ = State.kept _)
    | split

/-! ## Plumb.lean -/

theorem State.plumbLost_kept (x1 : State) :
    State.kept (State.plumbLost x1) = State.kept x1 := by
  unfold State.plumbLost
  repeat' first
    | with_reducible rfl
    | with_reducible refine (State.count_kept _ _ _ _).trans ?_
    | with_reducible refine (State.irq_kept _ _ _).trans ?_

theorem execPlumbLatchTimeout_keeps (x1) (x2 : State) :
    Keeps (execPlumbLatchTimeout x1 x2) x2 := by
  unfold execPlumbLatchTimeout
  repeat' first
    | with_reducible rfl
    | with_reducible refine (State.wr_kept _ _ _ _ _ _).trans ?_
    | with_reducible refine (State.plumbLost_kept _).trans ?_
    | with_reducible refine keeps_next ?_
    | with_reducible refine ite_keeps ?_ ?_
    | dsimp only
    | fail_if_no_progress (dsimp only [State.kept]; show State.kept _ = State.kept _)

theorem State.plumbEdge_kept (x1 : State) (x2) (x3) (x4) (x5) :
    State.kept (State.plumbEdge x1 x2 x3 x4 x5) = State.kept x1 := by
  unfold State.plumbEdge
  repeat' first
    | with_reducible rfl
    | with_reducible refine (State.wr64_kept _ _ _ _ _ _ _).trans ?_
    | with_reducible refine (State.wr_kept _ _ _ _ _ _).trans ?_
    | with_reducible refine (State.count_kept _ _ _ _).trans ?_
    | with_reducible refine (State.ran_kept ?_).trans ?_
    | with_reducible refine Keeps.trans (execPin_keeps _ _) ?_
    | with_reducible refine (State.plumbLost_kept _).trans ?_
    | with_reducible refine (foldl_kept _ _ (fun _ _ => ?_)).trans ?_
    | with_reducible refine ite_kept ?_ ?_
    | dsimp only
    | fail_if_no_progress (dsimp only [State.kept]; show State.kept _ = State.kept _)

theorem State.plumbAwait_kept (x1) (x2 : State) (x3) :
    State.kept (State.plumbAwait x1 x2 x3) = State.kept x2 := by
  induction x1 generalizing x2 with
  | zero =>
    unfold State.plumbAwait
    repeat' first
      | with_reducible rfl
  | succ k ih =>
    unfold State.plumbAwait
    repeat' first
      | with_reducible refine (ih _).trans ?_
      | with_reducible rfl
      | with_reducible refine (State.commitInstant_kept _ _).trans ?_
      | with_reducible refine (State.beginBefore_kept _ _ _).trans ?_
      | with_reducible refine ite_kept ?_ ?_

theorem execPlumbSnapshot_keeps (x1 : State) :
    Keeps (execPlumbSnapshot x1) x1 := by
  unfold execPlumbSnapshot
  repeat' first
    | with_reducible rfl
    | with_reducible refine (State.plumbEdge_kept _ _ _ _ _).trans ?_
    | with_reducible refine (State.plumbAwait_kept _ _ _).trans ?_
    | with_reducible refine keeps_next ?_
    | with_reducible refine ite_kept ?_ ?_
    | with_reducible refine ite_keeps ?_ ?_
    | dsimp only
    | split

theorem execPlumbReady_keeps (x1 : State) :
    Keeps (execPlumbReady x1) x1 := by
  unfold execPlumbReady
  repeat' first
    | with_reducible rfl
    | with_reducible refine (State.wr_kept _ _ _ _ _ _).trans ?_
    | with_reducible refine (State.count_kept _ _ _ _).trans ?_
    | with_reducible refine (State.irq_kept _ _ _).trans ?_
    | with_reducible refine keeps_next ?_
    | with_reducible refine ite_keeps ?_ ?_
    | dsimp only
    | dsimp only [State.kept]

/-! ## Reset.lean -/

theorem State.ready_kept (x1 : State) (x2) :
    State.kept (State.ready x1 x2) = State.kept x1 := by
  unfold State.ready
  repeat' first
    | with_reducible rfl
    | with_reducible refine (State.wr_kept _ _ _ _ _ _).trans ?_
    | with_reducible refine (foldl_kept _ _ (fun _ _ => ?_)).trans ?_

theorem State.enterRecovery_kept (x1 : State) (x2) :
    State.kept (State.enterRecovery x1 x2) = State.kept x1 := by
  unfold State.enterRecovery
  repeat' first
    | with_reducible rfl
    | with_reducible refine (State.wr_kept _ _ _ _ _ _).trans ?_
    | with_reducible refine (State.usbAttach_kept _).trans ?_
    | with_reducible refine (State.fwSync_kept _).trans ?_
    | with_reducible refine (State.ready_kept _ _).trans ?_
    | with_reducible refine (State.setNode_kept _ _).trans ?_
    | with_reducible refine ite_kept ?_ ?_
    | dsimp only
    | fail_if_no_progress (dsimp only [State.kept]; show State.kept _ = State.kept _)

theorem State.romStart_kept (x1 : State) (x2) (x3) :
    State.kept (State.romStart x1 x2 x3) = State.kept x1 := by
  unfold State.romStart
  repeat' first
    | with_reducible rfl
    | with_reducible refine (State.setFw_kept _ _ _).trans ?_
    | with_reducible refine ite_kept ?_ ?_
    | dsimp only
    | fail_if_no_progress (dsimp only [State.kept]; show State.kept _ = State.kept _)

theorem State.romFail_kept (x1 : State) (x2) (x3) :
    State.kept (State.romFail x1 x2 x3) = State.kept x1 := by
  unfold State.romFail
  repeat' first
    | with_reducible rfl
    | with_reducible refine (State.setFw_kept _ _ _).trans ?_
    | with_reducible refine (State.enterRecovery_kept _ _).trans ?_
    | with_reducible refine (State.romStart_kept _ _ _).trans ?_
    | with_reducible refine ite_kept ?_ ?_
    | dsimp only
    | dsimp only [State.kept]

theorem execExtest_keeps (x1) (x2) (x3 : State) :
    Keeps (execExtest x1 x2 x3) x3 := by
  unfold execExtest
  repeat' first
    | with_reducible rfl
    | with_reducible refine (State.emit_kept _ _).trans ?_
    | with_reducible refine keeps_next ?_
    | with_reducible refine ite_keeps ?_ ?_
    | dsimp only
    | dsimp only [State.kept]

theorem State.romTrial_kept (x1 : State) :
    State.kept (State.romTrial x1) = State.kept x1 := by
  unfold State.romTrial
  repeat' first
    | with_reducible rfl
    | with_reducible refine (State.setFw_kept _ _ _).trans ?_
    | dsimp only
    | fail_if_no_progress (dsimp only [State.kept] <;> show State.kept _ = State.kept _)
    | split

theorem State.runs_kept (x1 : State) (x2) :
    State.kept (State.runs x1 x2) = State.kept x1 := by
  unfold State.runs
  repeat' first
    | with_reducible refine (State.fwSync_kept _).trans ?_
    | dsimp only
    | dsimp only [State.kept]

theorem State.causeSeen_kept (x1 : State) (x2) :
    State.kept (State.causeSeen x1 x2) = State.kept x1 := by
  unfold State.causeSeen
  repeat' first
    | with_reducible rfl
    | with_reducible refine (State.setWord_kept _ _ _ _ _).trans ?_

theorem State.bankLost_kept (x1 : State) (x2) :
    State.kept (State.bankLost x1 x2) = State.kept x1 := by
  unfold State.bankLost
  repeat' first
    | with_reducible rfl
    | with_reducible refine (State.setLine_kept _ _ _).trans ?_
    | with_reducible refine (State.pcieDown_kept _).trans ?_
    | with_reducible refine (State.settle_kept _ _).trans ?_
    | with_reducible refine (State.losSync_kept _ _).trans ?_
    | with_reducible refine (State.setLnk_kept _ _ _).trans ?_
    | with_reducible refine (foldl_kept _ _ (fun _ _ => ?_)).trans ?_
    | with_reducible refine ite_kept ?_ ?_

theorem execVddioBankChange_keeps (x1) (x2) (x3) (x4 : State) :
    Keeps (execVddioBankChange x1 x2 x3 x4) x4 := by
  unfold execVddioBankChange
  repeat' first
    | with_reducible rfl
    | with_reducible refine (State.driveSync_kept _).trans ?_
    | with_reducible refine (State.bankLost_kept _ _).trans ?_
    | with_reducible refine keeps_next ?_
    | with_reducible refine ite_kept ?_ ?_
    | with_reducible refine ite_keeps ?_ ?_
    | dsimp only
    | dsimp only [State.kept]

theorem State.romEntry_kept (x1 : State) :
    State.kept (State.romEntry x1) = State.kept x1 := by
  unfold State.romEntry
  repeat' first
    | with_reducible rfl
    | with_reducible refine (State.missedCounts_kept _).trans ?_
    | with_reducible refine (State.enterRecovery_kept _ _).trans ?_
    | with_reducible refine ite_kept ?_ ?_
    | dsimp only [State.kept]

theorem execFlashHeaderCheck_keeps (x1) (x2) (x3) (x4) (x5) (x6) (x7) (x8 : State) :
    Keeps (execFlashHeaderCheck x1 x2 x3 x4 x5 x6 x7 x8) x8 := by
  unfold execFlashHeaderCheck
  repeat' first
    | with_reducible rfl
    | with_reducible refine (State.enterRecovery_kept _ _).trans ?_
    | with_reducible refine (State.wr_kept _ _ _ _ _ _).trans ?_
    | with_reducible refine (State.fwSync_kept _).trans ?_
    | with_reducible refine (State.romTrial_kept _).trans ?_
    | with_reducible refine (State.wearLoad_kept _).trans ?_
    | with_reducible refine (State.ready_kept _ _).trans ?_
    | with_reducible refine (State.stepDone_kept _ _).trans ?_
    | with_reducible refine (State.romStart_kept _ _ _).trans ?_
    | with_reducible refine keeps_next ?_
    | with_reducible refine ite_keeps ?_ ?_
    | dsimp only
    | dsimp only [State.kept]
    | split

theorem State.bootLate_kept (x1 : State) (x2) :
    State.kept (State.bootLate x1 x2) = State.kept x1 := by
  unfold State.bootLate
  repeat' first
    | with_reducible rfl
    | with_reducible refine (State.irq_kept _ _ _).trans ?_
    | with_reducible refine (State.wr_kept _ _ _ _ _ _).trans ?_
    | with_reducible refine ite_kept ?_ ?_

theorem execBootStepLate_keeps (x1) (x2 : State) :
    Keeps (execBootStepLate x1 x2) x2 := by
  unfold execBootStepLate
  repeat' first
    | with_reducible rfl
    | with_reducible refine (State.enterRecovery_kept _ _).trans ?_
    | with_reducible refine (State.bootLate_kept _ _).trans ?_
    | with_reducible refine (State.passTo_kept _ _).trans ?_
    | with_reducible refine (State.romFail_kept _ _ _).trans ?_
    | with_reducible refine (State.wr_kept _ _ _ _ _ _).trans ?_
    | with_reducible refine (State.detailSync_kept _).trans ?_
    | with_reducible refine keeps_next ?_
    | with_reducible refine ite_kept ?_ ?_
    | with_reducible refine ite_keeps ?_ ?_
    | dsimp only
    | split

theorem execSamplePreload_keeps (x1) (x2) (x3 : State) :
    Keeps (execSamplePreload x1 x2 x3) x3 := by
  unfold execSamplePreload
  repeat' first
    | with_reducible rfl
    | with_reducible refine (State.emit_kept _ _).trans ?_
    | with_reducible refine keeps_next ?_
    | with_reducible refine ite_keeps ?_ ?_
    | dsimp only
    | dsimp only [State.kept]

theorem execBypass_keeps (x1) (x2) (x3 : State) :
    Keeps (execBypass x1 x2 x3) x3 := by
  unfold execBypass
  repeat' first
    | with_reducible rfl
    | with_reducible refine (State.emit_kept _ _).trans ?_
    | with_reducible refine keeps_next ?_
    | with_reducible refine ite_keeps ?_ ?_
    | dsimp only
    | dsimp only [State.kept]

theorem State.reportFallback_kept (x1 : State) :
    State.kept (State.reportFallback x1) = State.kept x1 := by
  unfold State.reportFallback
  repeat' first
    | with_reducible rfl
    | with_reducible refine (State.fault_kept _ _ _ _ _ _).trans ?_
    | with_reducible refine (State.count_kept _ _ _ _).trans ?_
    | with_reducible refine (State.irq_kept _ _ _).trans ?_
    | with_reducible refine ite_kept ?_ ?_
    | dsimp only
    | dsimp only [State.kept]

theorem State.bootRuns_kept (x1 : State) (x2) :
    State.kept (State.bootRuns x1 x2) = State.kept x1 := by
  unfold State.bootRuns
  repeat' first
    | with_reducible rfl
    | with_reducible refine (State.stepDone_kept _ _).trans ?_
    | with_reducible refine (State.ready_kept _ _).trans ?_
    | with_reducible refine (State.runs_kept _ _).trans ?_
    | with_reducible refine (State.reportFallback_kept _).trans ?_
    | with_reducible refine (State.usbAttach_kept _).trans ?_
    | with_reducible refine (State.tamperAct_kept _).trans ?_
    | with_reducible refine ite_kept ?_ ?_

theorem State.hkFlush_kept (x1 : State) :
    State.kept (State.hkFlush x1) = State.kept x1 := by
  unfold State.hkFlush
  repeat' first
    | with_reducible rfl
    | with_reducible refine (State.writeWord_kept _ _ _ _ _).trans ?_
    | with_reducible refine (State.updWait_kept _ _).trans ?_
    | with_reducible refine (State.hkExpire_kept _).trans ?_
    | with_reducible refine (State.waitDone_kept _ _ _).trans ?_
    | with_reducible refine (foldl_kept _ _ (fun _ _ => ?_)).trans ?_
    | with_reducible refine (foldl_fst_kept _ _ (fun _ _ => ?_)).trans ?_
    | with_reducible refine ite_kept ?_ ?_
    | with_reducible refine ite_fst_kept ?_ ?_
    | dsimp only
    | fail_if_no_progress (dsimp only [State.kept] <;> show State.kept _ = State.kept _)

theorem State.pauseEnds_kept (x1 : State) (x2) (x3) (x4) :
    State.kept (State.pauseEnds x1 x2 x3 x4) = State.kept x1 := by
  unfold State.pauseEnds
  repeat' first
    | with_reducible rfl
    | with_reducible refine (State.hkFlush_kept _).trans ?_
    | with_reducible refine (State.runs_kept _ _).trans ?_
    | with_reducible refine (State.irq_kept _ _ _).trans ?_
    | with_reducible refine (State.reportFallback_kept _).trans ?_
    | with_reducible refine ite_kept ?_ ?_
    | dsimp only
    | fail_if_no_progress (dsimp only [State.kept]; show State.kept _ = State.kept _)

theorem execHkFirmwareRunning_keeps (x1 : State) :
    Keeps (execHkFirmwareRunning x1) x1 := by
  unfold execHkFirmwareRunning
  repeat' first
    | with_reducible rfl
    | with_reducible refine (State.bootRuns_kept _ _).trans ?_
    | with_reducible refine (State.romFail_kept _ _ _).trans ?_
    | with_reducible refine (State.pauseEnds_kept _ _ _ _).trans ?_
    | with_reducible refine (State.hkRestart_kept _ _).trans ?_
    | with_reducible refine keeps_next ?_
    | with_reducible refine ite_kept ?_ ?_
    | with_reducible refine ite_keeps ?_ ?_
    | split

theorem execUpdRunTimeout_keeps (x1 : State) :
    Keeps (execUpdRunTimeout x1) x1 := by
  unfold execUpdRunTimeout
  repeat' first
    | with_reducible rfl
    | with_reducible refine (State.bootLate_kept _ _).trans ?_
    | with_reducible refine (State.passTo_kept _ _).trans ?_
    | with_reducible refine (State.romFail_kept _ _ _).trans ?_
    | with_reducible refine (State.hkRestart_kept _ _).trans ?_
    | with_reducible refine keeps_next ?_
    | with_reducible refine ite_kept ?_ ?_
    | with_reducible refine ite_keeps ?_ ?_
    | dsimp only
    | split

/-! ## Step.lean -/

theorem State.idle_kept (x1 : State) :
    State.kept (State.idle x1) = State.kept x1 := by
  unfold State.idle
  repeat' first
    | with_reducible rfl
    | with_reducible refine (State.usbDrain_kept _).trans ?_
    | with_reducible refine (State.hkExpire_kept _).trans ?_
    | with_reducible refine (State.usbStream_kept _).trans ?_
    | with_reducible refine (State.pinDrain_kept _).trans ?_
    | with_reducible refine (State.pass_kept _ _).trans ?_

end Sys2Proof.Machine
end

