-- ==== Sys2Proof/Laws/State.lean ====
section
/-!
SUPPORT. What the primitive updates of the state leave alone: one lemma for each update and each field that it does not touch, so that
no proof unfolds an update.
-/
set_option Elab.async false

namespace Sys2Proof.Machine

/-! ## State.setWord -/

@[simp] theorem State.setWord_pending (s : State) (p off : Nat) (x : Word) (n : Nat) : (s.setWord p off x n).pending = s.pending := rfl
@[simp] theorem State.setWord_now (s : State) (p off : Nat) (x : Word) (n : Nat) : (s.setWord p off x n).now = s.now := rfl
@[simp] theorem State.setWord_t0 (s : State) (p off : Nat) (x : Word) (n : Nat) : (s.setWord p off x n).t0 = s.t0 := rfl
@[simp] theorem State.setWord_held (s : State) (p off : Nat) (x : Word) (n : Nat) : (s.setWord p off x n).held = s.held := rfl
@[simp] theorem State.setWord_shadow (s : State) (p off : Nat) (x : Word) (n : Nat) : (s.setWord p off x n).shadow = s.shadow := rfl
@[simp] theorem State.setWord_ctr (s : State) (p off : Nat) (x : Word) (n : Nat) : (s.setWord p off x n).ctr = s.ctr := rfl
@[simp] theorem State.setWord_latch (s : State) (p off : Nat) (x : Word) (n : Nat) : (s.setWord p off x n).latch = s.latch := rfl
@[simp] theorem State.setWord_page (s : State) (p off : Nat) (x : Word) (n : Nat) : (s.setWord p off x n).page = s.page := rfl
@[simp] theorem State.setWord_out (s : State) (p off : Nat) (x : Word) (n : Nat) : (s.setWord p off x n).out = s.out := rfl
@[simp] theorem State.setWord_free (s : State) (p off : Nat) (x : Word) (n : Nat) : (s.setWord p off x n).free = s.free := rfl
@[simp] theorem State.setWord_hkUp (s : State) (p off : Nat) (x : Word) (n : Nat) : (s.setWord p off x n).hkUp = s.hkUp := rfl
@[simp] theorem State.setWord_msix (s : State) (p off : Nat) (x : Word) (n : Nat) : (s.setWord p off x n).msix = s.msix := rfl
@[simp] theorem State.setWord_sw (s : State) (p off : Nat) (x : Word) (n : Nat) : (s.setWord p off x n).sw = s.sw := rfl
@[simp] theorem State.setWord_rsq (s : State) (p off : Nat) (x : Word) (n : Nat) : (s.setWord p off x n).rsq = s.rsq := rfl
@[simp] theorem State.setWord_mir (s : State) (p off : Nat) (x : Word) (n : Nat) : (s.setWord p off x n).mir = s.mir := rfl
@[simp] theorem State.setWord_obs (s : State) (p off : Nat) (x : Word) (n : Nat) : (s.setWord p off x n).obs = s.obs := rfl
@[simp] theorem State.setWord_flt (s : State) (p off : Nat) (x : Word) (n : Nat) : (s.setWord p off x n).flt = s.flt := rfl
@[simp] theorem State.setWord_link (s : State) (p off : Nat) (x : Word) (n : Nat) : (s.setWord p off x n).link = s.link := rfl
@[simp] theorem State.setWord_ring (s : State) (p off : Nat) (x : Word) (n : Nat) : (s.setWord p off x n).ring = s.ring := rfl
@[simp] theorem State.setWord_time (s : State) (p off : Nat) (x : Word) (n : Nat) : (s.setWord p off x n).time = s.time := rfl
@[simp] theorem State.setWord_txts (s : State) (p off : Nat) (x : Word) (n : Nat) : (s.setWord p off x n).txts = s.txts := rfl
@[simp] theorem State.setWord_prot (s : State) (p off : Nat) (x : Word) (n : Nat) : (s.setWord p off x n).prot = s.prot := rfl
@[simp] theorem State.setWord_keySlot (s : State) (p off : Nat) (x : Word) (n : Nat) : (s.setWord p off x n).keySlot = s.keySlot := rfl
@[simp] theorem State.setWord_img (s : State) (p off : Nat) (x : Word) (n : Nat) : (s.setWord p off x n).img = s.img := rfl
@[simp] theorem State.setWord_twin (s : State) (p off : Nat) (x : Word) (n : Nat) : (s.setWord p off x n).twin = s.twin := rfl
@[simp] theorem State.setWord_brg (s : State) (p off : Nat) (x : Word) (n : Nat) : (s.setWord p off x n).brg = s.brg := rfl
@[simp] theorem State.setWord_trk (s : State) (p off : Nat) (x : Word) (n : Nat) : (s.setWord p off x n).trk = s.trk := rfl
@[simp] theorem State.setWord_line (s : State) (p off : Nat) (x : Word) (n : Nat) : (s.setWord p off x n).line = s.line := rfl
@[simp] theorem State.setWord_dio (s : State) (p off : Nat) (x : Word) (n : Nat) : (s.setWord p off x n).dio = s.dio := rfl
@[simp] theorem State.setWord_lane (s : State) (p off : Nat) (x : Word) (n : Nat) : (s.setWord p off x n).lane = s.lane := rfl
@[simp] theorem State.setWord_mov (s : State) (p off : Nat) (x : Word) (n : Nat) : (s.setWord p off x n).mov = s.mov := rfl
@[simp] theorem State.setWord_cog (s : State) (p off : Nat) (x : Word) (n : Nat) : (s.setWord p off x n).cog = s.cog := rfl
@[simp] theorem State.setWord_can (s : State) (p off : Nat) (x : Word) (n : Nat) : (s.setWord p off x n).can = s.can := rfl
@[simp] theorem State.setWord_zone (s : State) (p off : Nat) (x : Word) (n : Nat) : (s.setWord p off x n).zone = s.zone := rfl
@[simp] theorem State.setWord_slu (s : State) (p off : Nat) (x : Word) (n : Nat) : (s.setWord p off x n).slu = s.slu := rfl
@[simp] theorem State.setWord_pwd (s : State) (p off : Nat) (x : Word) (n : Nat) : (s.setWord p off x n).pwd = s.pwd := rfl
@[simp] theorem State.setWord_usb (s : State) (p off : Nat) (x : Word) (n : Nat) : (s.setWord p off x n).usb = s.usb := rfl
@[simp] theorem State.setWord_qsh (s : State) (p off : Nat) (x : Word) (n : Nat) : (s.setWord p off x n).qsh = s.qsh := rfl
@[simp] theorem State.setWord_pcie (s : State) (p off : Nat) (x : Word) (n : Nat) : (s.setWord p off x n).pcie = s.pcie := rfl
@[simp] theorem State.setWord_hk (s : State) (p off : Nat) (x : Word) (n : Nat) : (s.setWord p off x n).hk = s.hk := rfl
@[simp] theorem State.setWord_crs (s : State) (p off : Nat) (x : Word) (n : Nat) : (s.setWord p off x n).crs = s.crs := rfl
@[simp] theorem State.setWord_upd (s : State) (p off : Nat) (x : Word) (n : Nat) : (s.setWord p off x n).upd = s.upd := rfl
@[simp] theorem State.setWord_key (s : State) (p off : Nat) (x : Word) (n : Nat) : (s.setWord p off x n).key = s.key := rfl
@[simp] theorem State.setWord_plumb (s : State) (p off : Nat) (x : Word) (n : Nat) : (s.setWord p off x n).plumb = s.plumb := rfl
@[simp] theorem State.setWord_rst (s : State) (p off : Nat) (x : Word) (n : Nat) : (s.setWord p off x n).rst = s.rst := rfl
@[simp] theorem State.setWord_tok (s : State) (p off : Nat) (x : Word) (n : Nat) : (s.setWord p off x n).tok = s.tok := rfl
@[simp] theorem State.setWord_flash (s : State) (p off : Nat) (x : Word) (n : Nat) : (s.setWord p off x n).flash = s.flash := rfl

/-! ## State.setShadow -/

@[simp] theorem State.setShadow_pending (s : State) (p off : Nat) (x : Word) : (s.setShadow p off x).pending = s.pending := rfl
@[simp] theorem State.setShadow_now (s : State) (p off : Nat) (x : Word) : (s.setShadow p off x).now = s.now := rfl
@[simp] theorem State.setShadow_t0 (s : State) (p off : Nat) (x : Word) : (s.setShadow p off x).t0 = s.t0 := rfl
@[simp] theorem State.setShadow_held (s : State) (p off : Nat) (x : Word) : (s.setShadow p off x).held = s.held := rfl
@[simp] theorem State.setShadow_regs (s : State) (p off : Nat) (x : Word) : (s.setShadow p off x).regs = s.regs := rfl
@[simp] theorem State.setShadow_ctr (s : State) (p off : Nat) (x : Word) : (s.setShadow p off x).ctr = s.ctr := rfl
@[simp] theorem State.setShadow_latch (s : State) (p off : Nat) (x : Word) : (s.setShadow p off x).latch = s.latch := rfl
@[simp] theorem State.setShadow_page (s : State) (p off : Nat) (x : Word) : (s.setShadow p off x).page = s.page := rfl
@[simp] theorem State.setShadow_out (s : State) (p off : Nat) (x : Word) : (s.setShadow p off x).out = s.out := rfl
@[simp] theorem State.setShadow_free (s : State) (p off : Nat) (x : Word) : (s.setShadow p off x).free = s.free := rfl
@[simp] theorem State.setShadow_hkUp (s : State) (p off : Nat) (x : Word) : (s.setShadow p off x).hkUp = s.hkUp := rfl
@[simp] theorem State.setShadow_msix (s : State) (p off : Nat) (x : Word) : (s.setShadow p off x).msix = s.msix := rfl
@[simp] theorem State.setShadow_sw (s : State) (p off : Nat) (x : Word) : (s.setShadow p off x).sw = s.sw := rfl
@[simp] theorem State.setShadow_rsq (s : State) (p off : Nat) (x : Word) : (s.setShadow p off x).rsq = s.rsq := rfl
@[simp] theorem State.setShadow_mir (s : State) (p off : Nat) (x : Word) : (s.setShadow p off x).mir = s.mir := rfl
@[simp] theorem State.setShadow_obs (s : State) (p off : Nat) (x : Word) : (s.setShadow p off x).obs = s.obs := rfl
@[simp] theorem State.setShadow_flt (s : State) (p off : Nat) (x : Word) : (s.setShadow p off x).flt = s.flt := rfl
@[simp] theorem State.setShadow_link (s : State) (p off : Nat) (x : Word) : (s.setShadow p off x).link = s.link := rfl
@[simp] theorem State.setShadow_ring (s : State) (p off : Nat) (x : Word) : (s.setShadow p off x).ring = s.ring := rfl
@[simp] theorem State.setShadow_time (s : State) (p off : Nat) (x : Word) : (s.setShadow p off x).time = s.time := rfl
@[simp] theorem State.setShadow_txts (s : State) (p off : Nat) (x : Word) : (s.setShadow p off x).txts = s.txts := rfl
@[simp] theorem State.setShadow_prot (s : State) (p off : Nat) (x : Word) : (s.setShadow p off x).prot = s.prot := rfl
@[simp] theorem State.setShadow_keySlot (s : State) (p off : Nat) (x : Word) : (s.setShadow p off x).keySlot = s.keySlot := rfl
@[simp] theorem State.setShadow_img (s : State) (p off : Nat) (x : Word) : (s.setShadow p off x).img = s.img := rfl
@[simp] theorem State.setShadow_twin (s : State) (p off : Nat) (x : Word) : (s.setShadow p off x).twin = s.twin := rfl
@[simp] theorem State.setShadow_brg (s : State) (p off : Nat) (x : Word) : (s.setShadow p off x).brg = s.brg := rfl
@[simp] theorem State.setShadow_trk (s : State) (p off : Nat) (x : Word) : (s.setShadow p off x).trk = s.trk := rfl
@[simp] theorem State.setShadow_line (s : State) (p off : Nat) (x : Word) : (s.setShadow p off x).line = s.line := rfl
@[simp] theorem State.setShadow_dio (s : State) (p off : Nat) (x : Word) : (s.setShadow p off x).dio = s.dio := rfl
@[simp] theorem State.setShadow_lane (s : State) (p off : Nat) (x : Word) : (s.setShadow p off x).lane = s.lane := rfl
@[simp] theorem State.setShadow_mov (s : State) (p off : Nat) (x : Word) : (s.setShadow p off x).mov = s.mov := rfl
@[simp] theorem State.setShadow_cog (s : State) (p off : Nat) (x : Word) : (s.setShadow p off x).cog = s.cog := rfl
@[simp] theorem State.setShadow_can (s : State) (p off : Nat) (x : Word) : (s.setShadow p off x).can = s.can := rfl
@[simp] theorem State.setShadow_zone (s : State) (p off : Nat) (x : Word) : (s.setShadow p off x).zone = s.zone := rfl
@[simp] theorem State.setShadow_slu (s : State) (p off : Nat) (x : Word) : (s.setShadow p off x).slu = s.slu := rfl
@[simp] theorem State.setShadow_pwd (s : State) (p off : Nat) (x : Word) : (s.setShadow p off x).pwd = s.pwd := rfl
@[simp] theorem State.setShadow_usb (s : State) (p off : Nat) (x : Word) : (s.setShadow p off x).usb = s.usb := rfl
@[simp] theorem State.setShadow_qsh (s : State) (p off : Nat) (x : Word) : (s.setShadow p off x).qsh = s.qsh := rfl
@[simp] theorem State.setShadow_pcie (s : State) (p off : Nat) (x : Word) : (s.setShadow p off x).pcie = s.pcie := rfl
@[simp] theorem State.setShadow_hk (s : State) (p off : Nat) (x : Word) : (s.setShadow p off x).hk = s.hk := rfl
@[simp] theorem State.setShadow_crs (s : State) (p off : Nat) (x : Word) : (s.setShadow p off x).crs = s.crs := rfl
@[simp] theorem State.setShadow_upd (s : State) (p off : Nat) (x : Word) : (s.setShadow p off x).upd = s.upd := rfl
@[simp] theorem State.setShadow_key (s : State) (p off : Nat) (x : Word) : (s.setShadow p off x).key = s.key := rfl
@[simp] theorem State.setShadow_plumb (s : State) (p off : Nat) (x : Word) : (s.setShadow p off x).plumb = s.plumb := rfl
@[simp] theorem State.setShadow_rst (s : State) (p off : Nat) (x : Word) : (s.setShadow p off x).rst = s.rst := rfl
@[simp] theorem State.setShadow_tok (s : State) (p off : Nat) (x : Word) : (s.setShadow p off x).tok = s.tok := rfl
@[simp] theorem State.setShadow_flash (s : State) (p off : Nat) (x : Word) : (s.setShadow p off x).flash = s.flash := rfl

/-! ## State.wr -/

@[simp] theorem State.wr_pending (s : State) (p : Nat) (f : Field) (v k n : Nat) : (s.wr p f v k n).pending = s.pending := rfl
@[simp] theorem State.wr_now (s : State) (p : Nat) (f : Field) (v k n : Nat) : (s.wr p f v k n).now = s.now := rfl
@[simp] theorem State.wr_t0 (s : State) (p : Nat) (f : Field) (v k n : Nat) : (s.wr p f v k n).t0 = s.t0 := rfl
@[simp] theorem State.wr_held (s : State) (p : Nat) (f : Field) (v k n : Nat) : (s.wr p f v k n).held = s.held := rfl
@[simp] theorem State.wr_shadow (s : State) (p : Nat) (f : Field) (v k n : Nat) : (s.wr p f v k n).shadow = s.shadow := rfl
@[simp] theorem State.wr_ctr (s : State) (p : Nat) (f : Field) (v k n : Nat) : (s.wr p f v k n).ctr = s.ctr := rfl
@[simp] theorem State.wr_latch (s : State) (p : Nat) (f : Field) (v k n : Nat) : (s.wr p f v k n).latch = s.latch := rfl
@[simp] theorem State.wr_page (s : State) (p : Nat) (f : Field) (v k n : Nat) : (s.wr p f v k n).page = s.page := rfl
@[simp] theorem State.wr_out (s : State) (p : Nat) (f : Field) (v k n : Nat) : (s.wr p f v k n).out = s.out := rfl
@[simp] theorem State.wr_free (s : State) (p : Nat) (f : Field) (v k n : Nat) : (s.wr p f v k n).free = s.free := rfl
@[simp] theorem State.wr_hkUp (s : State) (p : Nat) (f : Field) (v k n : Nat) : (s.wr p f v k n).hkUp = s.hkUp := rfl
@[simp] theorem State.wr_msix (s : State) (p : Nat) (f : Field) (v k n : Nat) : (s.wr p f v k n).msix = s.msix := rfl
@[simp] theorem State.wr_sw (s : State) (p : Nat) (f : Field) (v k n : Nat) : (s.wr p f v k n).sw = s.sw := rfl
@[simp] theorem State.wr_rsq (s : State) (p : Nat) (f : Field) (v k n : Nat) : (s.wr p f v k n).rsq = s.rsq := rfl
@[simp] theorem State.wr_mir (s : State) (p : Nat) (f : Field) (v k n : Nat) : (s.wr p f v k n).mir = s.mir := rfl
@[simp] theorem State.wr_obs (s : State) (p : Nat) (f : Field) (v k n : Nat) : (s.wr p f v k n).obs = s.obs := rfl
@[simp] theorem State.wr_flt (s : State) (p : Nat) (f : Field) (v k n : Nat) : (s.wr p f v k n).flt = s.flt := rfl
@[simp] theorem State.wr_link (s : State) (p : Nat) (f : Field) (v k n : Nat) : (s.wr p f v k n).link = s.link := rfl
@[simp] theorem State.wr_ring (s : State) (p : Nat) (f : Field) (v k n : Nat) : (s.wr p f v k n).ring = s.ring := rfl
@[simp] theorem State.wr_time (s : State) (p : Nat) (f : Field) (v k n : Nat) : (s.wr p f v k n).time = s.time := rfl
@[simp] theorem State.wr_txts (s : State) (p : Nat) (f : Field) (v k n : Nat) : (s.wr p f v k n).txts = s.txts := rfl
@[simp] theorem State.wr_prot (s : State) (p : Nat) (f : Field) (v k n : Nat) : (s.wr p f v k n).prot = s.prot := rfl
@[simp] theorem State.wr_keySlot (s : State) (p : Nat) (f : Field) (v k n : Nat) : (s.wr p f v k n).keySlot = s.keySlot := rfl
@[simp] theorem State.wr_img (s : State) (p : Nat) (f : Field) (v k n : Nat) : (s.wr p f v k n).img = s.img := rfl
@[simp] theorem State.wr_twin (s : State) (p : Nat) (f : Field) (v k n : Nat) : (s.wr p f v k n).twin = s.twin := rfl
@[simp] theorem State.wr_brg (s : State) (p : Nat) (f : Field) (v k n : Nat) : (s.wr p f v k n).brg = s.brg := rfl
@[simp] theorem State.wr_trk (s : State) (p : Nat) (f : Field) (v k n : Nat) : (s.wr p f v k n).trk = s.trk := rfl
@[simp] theorem State.wr_line (s : State) (p : Nat) (f : Field) (v k n : Nat) : (s.wr p f v k n).line = s.line := rfl
@[simp] theorem State.wr_dio (s : State) (p : Nat) (f : Field) (v k n : Nat) : (s.wr p f v k n).dio = s.dio := rfl
@[simp] theorem State.wr_lane (s : State) (p : Nat) (f : Field) (v k n : Nat) : (s.wr p f v k n).lane = s.lane := rfl
@[simp] theorem State.wr_mov (s : State) (p : Nat) (f : Field) (v k n : Nat) : (s.wr p f v k n).mov = s.mov := rfl
@[simp] theorem State.wr_cog (s : State) (p : Nat) (f : Field) (v k n : Nat) : (s.wr p f v k n).cog = s.cog := rfl
@[simp] theorem State.wr_can (s : State) (p : Nat) (f : Field) (v k n : Nat) : (s.wr p f v k n).can = s.can := rfl
@[simp] theorem State.wr_zone (s : State) (p : Nat) (f : Field) (v k n : Nat) : (s.wr p f v k n).zone = s.zone := rfl
@[simp] theorem State.wr_slu (s : State) (p : Nat) (f : Field) (v k n : Nat) : (s.wr p f v k n).slu = s.slu := rfl
@[simp] theorem State.wr_pwd (s : State) (p : Nat) (f : Field) (v k n : Nat) : (s.wr p f v k n).pwd = s.pwd := rfl
@[simp] theorem State.wr_usb (s : State) (p : Nat) (f : Field) (v k n : Nat) : (s.wr p f v k n).usb = s.usb := rfl
@[simp] theorem State.wr_qsh (s : State) (p : Nat) (f : Field) (v k n : Nat) : (s.wr p f v k n).qsh = s.qsh := rfl
@[simp] theorem State.wr_pcie (s : State) (p : Nat) (f : Field) (v k n : Nat) : (s.wr p f v k n).pcie = s.pcie := rfl
@[simp] theorem State.wr_hk (s : State) (p : Nat) (f : Field) (v k n : Nat) : (s.wr p f v k n).hk = s.hk := rfl
@[simp] theorem State.wr_crs (s : State) (p : Nat) (f : Field) (v k n : Nat) : (s.wr p f v k n).crs = s.crs := rfl
@[simp] theorem State.wr_upd (s : State) (p : Nat) (f : Field) (v k n : Nat) : (s.wr p f v k n).upd = s.upd := rfl
@[simp] theorem State.wr_key (s : State) (p : Nat) (f : Field) (v k n : Nat) : (s.wr p f v k n).key = s.key := rfl
@[simp] theorem State.wr_plumb (s : State) (p : Nat) (f : Field) (v k n : Nat) : (s.wr p f v k n).plumb = s.plumb := rfl
@[simp] theorem State.wr_rst (s : State) (p : Nat) (f : Field) (v k n : Nat) : (s.wr p f v k n).rst = s.rst := rfl
@[simp] theorem State.wr_tok (s : State) (p : Nat) (f : Field) (v k n : Nat) : (s.wr p f v k n).tok = s.tok := rfl
@[simp] theorem State.wr_flash (s : State) (p : Nat) (f : Field) (v k n : Nat) : (s.wr p f v k n).flash = s.flash := rfl

/-! ## State.count -/

@[simp] theorem State.count_pending (s : State) (p k n : Nat) : (s.count p k n).pending = s.pending := rfl
@[simp] theorem State.count_now (s : State) (p k n : Nat) : (s.count p k n).now = s.now := rfl
@[simp] theorem State.count_t0 (s : State) (p k n : Nat) : (s.count p k n).t0 = s.t0 := rfl
@[simp] theorem State.count_held (s : State) (p k n : Nat) : (s.count p k n).held = s.held := rfl
@[simp] theorem State.count_regs (s : State) (p k n : Nat) : (s.count p k n).regs = s.regs := rfl
@[simp] theorem State.count_shadow (s : State) (p k n : Nat) : (s.count p k n).shadow = s.shadow := rfl
@[simp] theorem State.count_latch (s : State) (p k n : Nat) : (s.count p k n).latch = s.latch := rfl
@[simp] theorem State.count_page (s : State) (p k n : Nat) : (s.count p k n).page = s.page := rfl
@[simp] theorem State.count_out (s : State) (p k n : Nat) : (s.count p k n).out = s.out := rfl
@[simp] theorem State.count_free (s : State) (p k n : Nat) : (s.count p k n).free = s.free := rfl
@[simp] theorem State.count_hkUp (s : State) (p k n : Nat) : (s.count p k n).hkUp = s.hkUp := rfl
@[simp] theorem State.count_msix (s : State) (p k n : Nat) : (s.count p k n).msix = s.msix := rfl
@[simp] theorem State.count_sw (s : State) (p k n : Nat) : (s.count p k n).sw = s.sw := rfl
@[simp] theorem State.count_rsq (s : State) (p k n : Nat) : (s.count p k n).rsq = s.rsq := rfl
@[simp] theorem State.count_mir (s : State) (p k n : Nat) : (s.count p k n).mir = s.mir := rfl
@[simp] theorem State.count_obs (s : State) (p k n : Nat) : (s.count p k n).obs = s.obs := rfl
@[simp] theorem State.count_flt (s : State) (p k n : Nat) : (s.count p k n).flt = s.flt := rfl
@[simp] theorem State.count_link (s : State) (p k n : Nat) : (s.count p k n).link = s.link := rfl
@[simp] theorem State.count_ring (s : State) (p k n : Nat) : (s.count p k n).ring = s.ring := rfl
@[simp] theorem State.count_time (s : State) (p k n : Nat) : (s.count p k n).time = s.time := rfl
@[simp] theorem State.count_txts (s : State) (p k n : Nat) : (s.count p k n).txts = s.txts := rfl
@[simp] theorem State.count_prot (s : State) (p k n : Nat) : (s.count p k n).prot = s.prot := rfl
@[simp] theorem State.count_keySlot (s : State) (p k n : Nat) : (s.count p k n).keySlot = s.keySlot := rfl
@[simp] theorem State.count_img (s : State) (p k n : Nat) : (s.count p k n).img = s.img := rfl
@[simp] theorem State.count_twin (s : State) (p k n : Nat) : (s.count p k n).twin = s.twin := rfl
@[simp] theorem State.count_brg (s : State) (p k n : Nat) : (s.count p k n).brg = s.brg := rfl
@[simp] theorem State.count_trk (s : State) (p k n : Nat) : (s.count p k n).trk = s.trk := rfl
@[simp] theorem State.count_line (s : State) (p k n : Nat) : (s.count p k n).line = s.line := rfl
@[simp] theorem State.count_dio (s : State) (p k n : Nat) : (s.count p k n).dio = s.dio := rfl
@[simp] theorem State.count_lane (s : State) (p k n : Nat) : (s.count p k n).lane = s.lane := rfl
@[simp] theorem State.count_mov (s : State) (p k n : Nat) : (s.count p k n).mov = s.mov := rfl
@[simp] theorem State.count_cog (s : State) (p k n : Nat) : (s.count p k n).cog = s.cog := rfl
@[simp] theorem State.count_can (s : State) (p k n : Nat) : (s.count p k n).can = s.can := rfl
@[simp] theorem State.count_zone (s : State) (p k n : Nat) : (s.count p k n).zone = s.zone := rfl
@[simp] theorem State.count_slu (s : State) (p k n : Nat) : (s.count p k n).slu = s.slu := rfl
@[simp] theorem State.count_pwd (s : State) (p k n : Nat) : (s.count p k n).pwd = s.pwd := rfl
@[simp] theorem State.count_usb (s : State) (p k n : Nat) : (s.count p k n).usb = s.usb := rfl
@[simp] theorem State.count_qsh (s : State) (p k n : Nat) : (s.count p k n).qsh = s.qsh := rfl
@[simp] theorem State.count_pcie (s : State) (p k n : Nat) : (s.count p k n).pcie = s.pcie := rfl
@[simp] theorem State.count_hk (s : State) (p k n : Nat) : (s.count p k n).hk = s.hk := rfl
@[simp] theorem State.count_crs (s : State) (p k n : Nat) : (s.count p k n).crs = s.crs := rfl
@[simp] theorem State.count_upd (s : State) (p k n : Nat) : (s.count p k n).upd = s.upd := rfl
@[simp] theorem State.count_key (s : State) (p k n : Nat) : (s.count p k n).key = s.key := rfl
@[simp] theorem State.count_plumb (s : State) (p k n : Nat) : (s.count p k n).plumb = s.plumb := rfl
@[simp] theorem State.count_rst (s : State) (p k n : Nat) : (s.count p k n).rst = s.rst := rfl
@[simp] theorem State.count_tok (s : State) (p k n : Nat) : (s.count p k n).tok = s.tok := rfl
@[simp] theorem State.count_flash (s : State) (p k n : Nat) : (s.count p k n).flash = s.flash := rfl

/-! ## State.drawn -/

@[simp] theorem State.drawn_pending (s : State) : (s.drawn).pending = s.pending := rfl
@[simp] theorem State.drawn_now (s : State) : (s.drawn).now = s.now := rfl
@[simp] theorem State.drawn_t0 (s : State) : (s.drawn).t0 = s.t0 := rfl
@[simp] theorem State.drawn_held (s : State) : (s.drawn).held = s.held := rfl
@[simp] theorem State.drawn_regs (s : State) : (s.drawn).regs = s.regs := rfl
@[simp] theorem State.drawn_shadow (s : State) : (s.drawn).shadow = s.shadow := rfl
@[simp] theorem State.drawn_ctr (s : State) : (s.drawn).ctr = s.ctr := rfl
@[simp] theorem State.drawn_latch (s : State) : (s.drawn).latch = s.latch := rfl
@[simp] theorem State.drawn_page (s : State) : (s.drawn).page = s.page := rfl
@[simp] theorem State.drawn_out (s : State) : (s.drawn).out = s.out := rfl
@[simp] theorem State.drawn_hkUp (s : State) : (s.drawn).hkUp = s.hkUp := rfl
@[simp] theorem State.drawn_msix (s : State) : (s.drawn).msix = s.msix := rfl
@[simp] theorem State.drawn_sw (s : State) : (s.drawn).sw = s.sw := rfl
@[simp] theorem State.drawn_rsq (s : State) : (s.drawn).rsq = s.rsq := rfl
@[simp] theorem State.drawn_mir (s : State) : (s.drawn).mir = s.mir := rfl
@[simp] theorem State.drawn_obs (s : State) : (s.drawn).obs = s.obs := rfl
@[simp] theorem State.drawn_flt (s : State) : (s.drawn).flt = s.flt := rfl
@[simp] theorem State.drawn_link (s : State) : (s.drawn).link = s.link := rfl
@[simp] theorem State.drawn_ring (s : State) : (s.drawn).ring = s.ring := rfl
@[simp] theorem State.drawn_time (s : State) : (s.drawn).time = s.time := rfl
@[simp] theorem State.drawn_txts (s : State) : (s.drawn).txts = s.txts := rfl
@[simp] theorem State.drawn_prot (s : State) : (s.drawn).prot = s.prot := rfl
@[simp] theorem State.drawn_keySlot (s : State) : (s.drawn).keySlot = s.keySlot := rfl
@[simp] theorem State.drawn_img (s : State) : (s.drawn).img = s.img := rfl
@[simp] theorem State.drawn_twin (s : State) : (s.drawn).twin = s.twin := rfl
@[simp] theorem State.drawn_brg (s : State) : (s.drawn).brg = s.brg := rfl
@[simp] theorem State.drawn_trk (s : State) : (s.drawn).trk = s.trk := rfl
@[simp] theorem State.drawn_line (s : State) : (s.drawn).line = s.line := rfl
@[simp] theorem State.drawn_dio (s : State) : (s.drawn).dio = s.dio := rfl
@[simp] theorem State.drawn_lane (s : State) : (s.drawn).lane = s.lane := rfl
@[simp] theorem State.drawn_mov (s : State) : (s.drawn).mov = s.mov := rfl
@[simp] theorem State.drawn_cog (s : State) : (s.drawn).cog = s.cog := rfl
@[simp] theorem State.drawn_can (s : State) : (s.drawn).can = s.can := rfl
@[simp] theorem State.drawn_zone (s : State) : (s.drawn).zone = s.zone := rfl
@[simp] theorem State.drawn_slu (s : State) : (s.drawn).slu = s.slu := rfl
@[simp] theorem State.drawn_pwd (s : State) : (s.drawn).pwd = s.pwd := rfl
@[simp] theorem State.drawn_usb (s : State) : (s.drawn).usb = s.usb := rfl
@[simp] theorem State.drawn_qsh (s : State) : (s.drawn).qsh = s.qsh := rfl
@[simp] theorem State.drawn_pcie (s : State) : (s.drawn).pcie = s.pcie := rfl
@[simp] theorem State.drawn_hk (s : State) : (s.drawn).hk = s.hk := rfl
@[simp] theorem State.drawn_crs (s : State) : (s.drawn).crs = s.crs := rfl
@[simp] theorem State.drawn_upd (s : State) : (s.drawn).upd = s.upd := rfl
@[simp] theorem State.drawn_key (s : State) : (s.drawn).key = s.key := rfl
@[simp] theorem State.drawn_plumb (s : State) : (s.drawn).plumb = s.plumb := rfl
@[simp] theorem State.drawn_rst (s : State) : (s.drawn).rst = s.rst := rfl
@[simp] theorem State.drawn_tok (s : State) : (s.drawn).tok = s.tok := rfl
@[simp] theorem State.drawn_flash (s : State) : (s.drawn).flash = s.flash := rfl

/-! ## State.emit -/

@[simp] theorem State.emit_pending (s : State) (o : Out) : (s.emit o).pending = s.pending := rfl
@[simp] theorem State.emit_now (s : State) (o : Out) : (s.emit o).now = s.now := rfl
@[simp] theorem State.emit_t0 (s : State) (o : Out) : (s.emit o).t0 = s.t0 := rfl
@[simp] theorem State.emit_held (s : State) (o : Out) : (s.emit o).held = s.held := rfl
@[simp] theorem State.emit_regs (s : State) (o : Out) : (s.emit o).regs = s.regs := rfl
@[simp] theorem State.emit_shadow (s : State) (o : Out) : (s.emit o).shadow = s.shadow := rfl
@[simp] theorem State.emit_ctr (s : State) (o : Out) : (s.emit o).ctr = s.ctr := rfl
@[simp] theorem State.emit_latch (s : State) (o : Out) : (s.emit o).latch = s.latch := rfl
@[simp] theorem State.emit_page (s : State) (o : Out) : (s.emit o).page = s.page := rfl
@[simp] theorem State.emit_free (s : State) (o : Out) : (s.emit o).free = s.free := rfl
@[simp] theorem State.emit_hkUp (s : State) (o : Out) : (s.emit o).hkUp = s.hkUp := rfl
@[simp] theorem State.emit_msix (s : State) (o : Out) : (s.emit o).msix = s.msix := rfl
@[simp] theorem State.emit_sw (s : State) (o : Out) : (s.emit o).sw = s.sw := rfl
@[simp] theorem State.emit_rsq (s : State) (o : Out) : (s.emit o).rsq = s.rsq := rfl
@[simp] theorem State.emit_mir (s : State) (o : Out) : (s.emit o).mir = s.mir := rfl
@[simp] theorem State.emit_obs (s : State) (o : Out) : (s.emit o).obs = s.obs := rfl
@[simp] theorem State.emit_flt (s : State) (o : Out) : (s.emit o).flt = s.flt := rfl
@[simp] theorem State.emit_link (s : State) (o : Out) : (s.emit o).link = s.link := rfl
@[simp] theorem State.emit_ring (s : State) (o : Out) : (s.emit o).ring = s.ring := rfl
@[simp] theorem State.emit_time (s : State) (o : Out) : (s.emit o).time = s.time := rfl
@[simp] theorem State.emit_txts (s : State) (o : Out) : (s.emit o).txts = s.txts := rfl
@[simp] theorem State.emit_prot (s : State) (o : Out) : (s.emit o).prot = s.prot := rfl
@[simp] theorem State.emit_keySlot (s : State) (o : Out) : (s.emit o).keySlot = s.keySlot := rfl
@[simp] theorem State.emit_img (s : State) (o : Out) : (s.emit o).img = s.img := rfl
@[simp] theorem State.emit_twin (s : State) (o : Out) : (s.emit o).twin = s.twin := rfl
@[simp] theorem State.emit_brg (s : State) (o : Out) : (s.emit o).brg = s.brg := rfl
@[simp] theorem State.emit_trk (s : State) (o : Out) : (s.emit o).trk = s.trk := rfl
@[simp] theorem State.emit_line (s : State) (o : Out) : (s.emit o).line = s.line := rfl
@[simp] theorem State.emit_dio (s : State) (o : Out) : (s.emit o).dio = s.dio := rfl
@[simp] theorem State.emit_lane (s : State) (o : Out) : (s.emit o).lane = s.lane := rfl
@[simp] theorem State.emit_mov (s : State) (o : Out) : (s.emit o).mov = s.mov := rfl
@[simp] theorem State.emit_cog (s : State) (o : Out) : (s.emit o).cog = s.cog := rfl
@[simp] theorem State.emit_can (s : State) (o : Out) : (s.emit o).can = s.can := rfl
@[simp] theorem State.emit_zone (s : State) (o : Out) : (s.emit o).zone = s.zone := rfl
@[simp] theorem State.emit_slu (s : State) (o : Out) : (s.emit o).slu = s.slu := rfl
@[simp] theorem State.emit_pwd (s : State) (o : Out) : (s.emit o).pwd = s.pwd := rfl
@[simp] theorem State.emit_usb (s : State) (o : Out) : (s.emit o).usb = s.usb := rfl
@[simp] theorem State.emit_qsh (s : State) (o : Out) : (s.emit o).qsh = s.qsh := rfl
@[simp] theorem State.emit_pcie (s : State) (o : Out) : (s.emit o).pcie = s.pcie := rfl
@[simp] theorem State.emit_hk (s : State) (o : Out) : (s.emit o).hk = s.hk := rfl
@[simp] theorem State.emit_crs (s : State) (o : Out) : (s.emit o).crs = s.crs := rfl
@[simp] theorem State.emit_upd (s : State) (o : Out) : (s.emit o).upd = s.upd := rfl
@[simp] theorem State.emit_key (s : State) (o : Out) : (s.emit o).key = s.key := rfl
@[simp] theorem State.emit_plumb (s : State) (o : Out) : (s.emit o).plumb = s.plumb := rfl
@[simp] theorem State.emit_rst (s : State) (o : Out) : (s.emit o).rst = s.rst := rfl
@[simp] theorem State.emit_tok (s : State) (o : Out) : (s.emit o).tok = s.tok := rfl
@[simp] theorem State.emit_flash (s : State) (o : Out) : (s.emit o).flash = s.flash := rfl

/-! ## State.setLine -/

@[simp] theorem State.setLine_pending (s : State) (k : Nat) (x : LineSt) : (s.setLine k x).pending = s.pending := rfl
@[simp] theorem State.setLine_now (s : State) (k : Nat) (x : LineSt) : (s.setLine k x).now = s.now := rfl
@[simp] theorem State.setLine_t0 (s : State) (k : Nat) (x : LineSt) : (s.setLine k x).t0 = s.t0 := rfl
@[simp] theorem State.setLine_held (s : State) (k : Nat) (x : LineSt) : (s.setLine k x).held = s.held := rfl
@[simp] theorem State.setLine_regs (s : State) (k : Nat) (x : LineSt) : (s.setLine k x).regs = s.regs := rfl
@[simp] theorem State.setLine_shadow (s : State) (k : Nat) (x : LineSt) : (s.setLine k x).shadow = s.shadow := rfl
@[simp] theorem State.setLine_ctr (s : State) (k : Nat) (x : LineSt) : (s.setLine k x).ctr = s.ctr := rfl
@[simp] theorem State.setLine_latch (s : State) (k : Nat) (x : LineSt) : (s.setLine k x).latch = s.latch := rfl
@[simp] theorem State.setLine_page (s : State) (k : Nat) (x : LineSt) : (s.setLine k x).page = s.page := rfl
@[simp] theorem State.setLine_out (s : State) (k : Nat) (x : LineSt) : (s.setLine k x).out = s.out := rfl
@[simp] theorem State.setLine_free (s : State) (k : Nat) (x : LineSt) : (s.setLine k x).free = s.free := rfl
@[simp] theorem State.setLine_hkUp (s : State) (k : Nat) (x : LineSt) : (s.setLine k x).hkUp = s.hkUp := rfl
@[simp] theorem State.setLine_msix (s : State) (k : Nat) (x : LineSt) : (s.setLine k x).msix = s.msix := rfl
@[simp] theorem State.setLine_sw (s : State) (k : Nat) (x : LineSt) : (s.setLine k x).sw = s.sw := rfl
@[simp] theorem State.setLine_rsq (s : State) (k : Nat) (x : LineSt) : (s.setLine k x).rsq = s.rsq := rfl
@[simp] theorem State.setLine_mir (s : State) (k : Nat) (x : LineSt) : (s.setLine k x).mir = s.mir := rfl
@[simp] theorem State.setLine_obs (s : State) (k : Nat) (x : LineSt) : (s.setLine k x).obs = s.obs := rfl
@[simp] theorem State.setLine_flt (s : State) (k : Nat) (x : LineSt) : (s.setLine k x).flt = s.flt := rfl
@[simp] theorem State.setLine_link (s : State) (k : Nat) (x : LineSt) : (s.setLine k x).link = s.link := rfl
@[simp] theorem State.setLine_ring (s : State) (k : Nat) (x : LineSt) : (s.setLine k x).ring = s.ring := rfl
@[simp] theorem State.setLine_time (s : State) (k : Nat) (x : LineSt) : (s.setLine k x).time = s.time := rfl
@[simp] theorem State.setLine_txts (s : State) (k : Nat) (x : LineSt) : (s.setLine k x).txts = s.txts := rfl
@[simp] theorem State.setLine_prot (s : State) (k : Nat) (x : LineSt) : (s.setLine k x).prot = s.prot := rfl
@[simp] theorem State.setLine_keySlot (s : State) (k : Nat) (x : LineSt) : (s.setLine k x).keySlot = s.keySlot := rfl
@[simp] theorem State.setLine_img (s : State) (k : Nat) (x : LineSt) : (s.setLine k x).img = s.img := rfl
@[simp] theorem State.setLine_twin (s : State) (k : Nat) (x : LineSt) : (s.setLine k x).twin = s.twin := rfl
@[simp] theorem State.setLine_brg (s : State) (k : Nat) (x : LineSt) : (s.setLine k x).brg = s.brg := rfl
@[simp] theorem State.setLine_trk (s : State) (k : Nat) (x : LineSt) : (s.setLine k x).trk = s.trk := rfl
@[simp] theorem State.setLine_dio (s : State) (k : Nat) (x : LineSt) : (s.setLine k x).dio = s.dio := rfl
@[simp] theorem State.setLine_lane (s : State) (k : Nat) (x : LineSt) : (s.setLine k x).lane = s.lane := rfl
@[simp] theorem State.setLine_mov (s : State) (k : Nat) (x : LineSt) : (s.setLine k x).mov = s.mov := rfl
@[simp] theorem State.setLine_cog (s : State) (k : Nat) (x : LineSt) : (s.setLine k x).cog = s.cog := rfl
@[simp] theorem State.setLine_can (s : State) (k : Nat) (x : LineSt) : (s.setLine k x).can = s.can := rfl
@[simp] theorem State.setLine_zone (s : State) (k : Nat) (x : LineSt) : (s.setLine k x).zone = s.zone := rfl
@[simp] theorem State.setLine_slu (s : State) (k : Nat) (x : LineSt) : (s.setLine k x).slu = s.slu := rfl
@[simp] theorem State.setLine_pwd (s : State) (k : Nat) (x : LineSt) : (s.setLine k x).pwd = s.pwd := rfl
@[simp] theorem State.setLine_usb (s : State) (k : Nat) (x : LineSt) : (s.setLine k x).usb = s.usb := rfl
@[simp] theorem State.setLine_qsh (s : State) (k : Nat) (x : LineSt) : (s.setLine k x).qsh = s.qsh := rfl
@[simp] theorem State.setLine_pcie (s : State) (k : Nat) (x : LineSt) : (s.setLine k x).pcie = s.pcie := rfl
@[simp] theorem State.setLine_hk (s : State) (k : Nat) (x : LineSt) : (s.setLine k x).hk = s.hk := rfl
@[simp] theorem State.setLine_crs (s : State) (k : Nat) (x : LineSt) : (s.setLine k x).crs = s.crs := rfl
@[simp] theorem State.setLine_upd (s : State) (k : Nat) (x : LineSt) : (s.setLine k x).upd = s.upd := rfl
@[simp] theorem State.setLine_key (s : State) (k : Nat) (x : LineSt) : (s.setLine k x).key = s.key := rfl
@[simp] theorem State.setLine_plumb (s : State) (k : Nat) (x : LineSt) : (s.setLine k x).plumb = s.plumb := rfl
@[simp] theorem State.setLine_rst (s : State) (k : Nat) (x : LineSt) : (s.setLine k x).rst = s.rst := rfl
@[simp] theorem State.setLine_tok (s : State) (k : Nat) (x : LineSt) : (s.setLine k x).tok = s.tok := rfl
@[simp] theorem State.setLine_flash (s : State) (k : Nat) (x : LineSt) : (s.setLine k x).flash = s.flash := rfl

/-! ## State.setCogSt -/

@[simp] theorem State.setCogSt_pending (s : State) (e : Nat) (x : CogSt) : (s.setCogSt e x).pending = s.pending := rfl
@[simp] theorem State.setCogSt_now (s : State) (e : Nat) (x : CogSt) : (s.setCogSt e x).now = s.now := rfl
@[simp] theorem State.setCogSt_t0 (s : State) (e : Nat) (x : CogSt) : (s.setCogSt e x).t0 = s.t0 := rfl
@[simp] theorem State.setCogSt_held (s : State) (e : Nat) (x : CogSt) : (s.setCogSt e x).held = s.held := rfl
@[simp] theorem State.setCogSt_regs (s : State) (e : Nat) (x : CogSt) : (s.setCogSt e x).regs = s.regs := rfl
@[simp] theorem State.setCogSt_shadow (s : State) (e : Nat) (x : CogSt) : (s.setCogSt e x).shadow = s.shadow := rfl
@[simp] theorem State.setCogSt_ctr (s : State) (e : Nat) (x : CogSt) : (s.setCogSt e x).ctr = s.ctr := rfl
@[simp] theorem State.setCogSt_latch (s : State) (e : Nat) (x : CogSt) : (s.setCogSt e x).latch = s.latch := rfl
@[simp] theorem State.setCogSt_page (s : State) (e : Nat) (x : CogSt) : (s.setCogSt e x).page = s.page := rfl
@[simp] theorem State.setCogSt_out (s : State) (e : Nat) (x : CogSt) : (s.setCogSt e x).out = s.out := rfl
@[simp] theorem State.setCogSt_free (s : State) (e : Nat) (x : CogSt) : (s.setCogSt e x).free = s.free := rfl
@[simp] theorem State.setCogSt_hkUp (s : State) (e : Nat) (x : CogSt) : (s.setCogSt e x).hkUp = s.hkUp := rfl
@[simp] theorem State.setCogSt_msix (s : State) (e : Nat) (x : CogSt) : (s.setCogSt e x).msix = s.msix := rfl
@[simp] theorem State.setCogSt_sw (s : State) (e : Nat) (x : CogSt) : (s.setCogSt e x).sw = s.sw := rfl
@[simp] theorem State.setCogSt_rsq (s : State) (e : Nat) (x : CogSt) : (s.setCogSt e x).rsq = s.rsq := rfl
@[simp] theorem State.setCogSt_mir (s : State) (e : Nat) (x : CogSt) : (s.setCogSt e x).mir = s.mir := rfl
@[simp] theorem State.setCogSt_obs (s : State) (e : Nat) (x : CogSt) : (s.setCogSt e x).obs = s.obs := rfl
@[simp] theorem State.setCogSt_flt (s : State) (e : Nat) (x : CogSt) : (s.setCogSt e x).flt = s.flt := rfl
@[simp] theorem State.setCogSt_link (s : State) (e : Nat) (x : CogSt) : (s.setCogSt e x).link = s.link := rfl
@[simp] theorem State.setCogSt_ring (s : State) (e : Nat) (x : CogSt) : (s.setCogSt e x).ring = s.ring := rfl
@[simp] theorem State.setCogSt_time (s : State) (e : Nat) (x : CogSt) : (s.setCogSt e x).time = s.time := rfl
@[simp] theorem State.setCogSt_txts (s : State) (e : Nat) (x : CogSt) : (s.setCogSt e x).txts = s.txts := rfl
@[simp] theorem State.setCogSt_prot (s : State) (e : Nat) (x : CogSt) : (s.setCogSt e x).prot = s.prot := rfl
@[simp] theorem State.setCogSt_keySlot (s : State) (e : Nat) (x : CogSt) : (s.setCogSt e x).keySlot = s.keySlot := rfl
@[simp] theorem State.setCogSt_img (s : State) (e : Nat) (x : CogSt) : (s.setCogSt e x).img = s.img := rfl
@[simp] theorem State.setCogSt_twin (s : State) (e : Nat) (x : CogSt) : (s.setCogSt e x).twin = s.twin := rfl
@[simp] theorem State.setCogSt_brg (s : State) (e : Nat) (x : CogSt) : (s.setCogSt e x).brg = s.brg := rfl
@[simp] theorem State.setCogSt_trk (s : State) (e : Nat) (x : CogSt) : (s.setCogSt e x).trk = s.trk := rfl
@[simp] theorem State.setCogSt_line (s : State) (e : Nat) (x : CogSt) : (s.setCogSt e x).line = s.line := rfl
@[simp] theorem State.setCogSt_dio (s : State) (e : Nat) (x : CogSt) : (s.setCogSt e x).dio = s.dio := rfl
@[simp] theorem State.setCogSt_lane (s : State) (e : Nat) (x : CogSt) : (s.setCogSt e x).lane = s.lane := rfl
@[simp] theorem State.setCogSt_mov (s : State) (e : Nat) (x : CogSt) : (s.setCogSt e x).mov = s.mov := rfl
@[simp] theorem State.setCogSt_can (s : State) (e : Nat) (x : CogSt) : (s.setCogSt e x).can = s.can := rfl
@[simp] theorem State.setCogSt_zone (s : State) (e : Nat) (x : CogSt) : (s.setCogSt e x).zone = s.zone := rfl
@[simp] theorem State.setCogSt_slu (s : State) (e : Nat) (x : CogSt) : (s.setCogSt e x).slu = s.slu := rfl
@[simp] theorem State.setCogSt_pwd (s : State) (e : Nat) (x : CogSt) : (s.setCogSt e x).pwd = s.pwd := rfl
@[simp] theorem State.setCogSt_usb (s : State) (e : Nat) (x : CogSt) : (s.setCogSt e x).usb = s.usb := rfl
@[simp] theorem State.setCogSt_qsh (s : State) (e : Nat) (x : CogSt) : (s.setCogSt e x).qsh = s.qsh := rfl
@[simp] theorem State.setCogSt_pcie (s : State) (e : Nat) (x : CogSt) : (s.setCogSt e x).pcie = s.pcie := rfl
@[simp] theorem State.setCogSt_hk (s : State) (e : Nat) (x : CogSt) : (s.setCogSt e x).hk = s.hk := rfl
@[simp] theorem State.setCogSt_crs (s : State) (e : Nat) (x : CogSt) : (s.setCogSt e x).crs = s.crs := rfl
@[simp] theorem State.setCogSt_upd (s : State) (e : Nat) (x : CogSt) : (s.setCogSt e x).upd = s.upd := rfl
@[simp] theorem State.setCogSt_key (s : State) (e : Nat) (x : CogSt) : (s.setCogSt e x).key = s.key := rfl
@[simp] theorem State.setCogSt_plumb (s : State) (e : Nat) (x : CogSt) : (s.setCogSt e x).plumb = s.plumb := rfl
@[simp] theorem State.setCogSt_rst (s : State) (e : Nat) (x : CogSt) : (s.setCogSt e x).rst = s.rst := rfl
@[simp] theorem State.setCogSt_tok (s : State) (e : Nat) (x : CogSt) : (s.setCogSt e x).tok = s.tok := rfl
@[simp] theorem State.setCogSt_flash (s : State) (e : Nat) (x : CogSt) : (s.setCogSt e x).flash = s.flash := rfl

/-! ## State.setSluSt -/

@[simp] theorem State.setSluSt_pending (s : State) (n : Nat) (x : SluSt) : (s.setSluSt n x).pending = s.pending := rfl
@[simp] theorem State.setSluSt_now (s : State) (n : Nat) (x : SluSt) : (s.setSluSt n x).now = s.now := rfl
@[simp] theorem State.setSluSt_t0 (s : State) (n : Nat) (x : SluSt) : (s.setSluSt n x).t0 = s.t0 := rfl
@[simp] theorem State.setSluSt_held (s : State) (n : Nat) (x : SluSt) : (s.setSluSt n x).held = s.held := rfl
@[simp] theorem State.setSluSt_regs (s : State) (n : Nat) (x : SluSt) : (s.setSluSt n x).regs = s.regs := rfl
@[simp] theorem State.setSluSt_shadow (s : State) (n : Nat) (x : SluSt) : (s.setSluSt n x).shadow = s.shadow := rfl
@[simp] theorem State.setSluSt_ctr (s : State) (n : Nat) (x : SluSt) : (s.setSluSt n x).ctr = s.ctr := rfl
@[simp] theorem State.setSluSt_latch (s : State) (n : Nat) (x : SluSt) : (s.setSluSt n x).latch = s.latch := rfl
@[simp] theorem State.setSluSt_page (s : State) (n : Nat) (x : SluSt) : (s.setSluSt n x).page = s.page := rfl
@[simp] theorem State.setSluSt_out (s : State) (n : Nat) (x : SluSt) : (s.setSluSt n x).out = s.out := rfl
@[simp] theorem State.setSluSt_free (s : State) (n : Nat) (x : SluSt) : (s.setSluSt n x).free = s.free := rfl
@[simp] theorem State.setSluSt_hkUp (s : State) (n : Nat) (x : SluSt) : (s.setSluSt n x).hkUp = s.hkUp := rfl
@[simp] theorem State.setSluSt_msix (s : State) (n : Nat) (x : SluSt) : (s.setSluSt n x).msix = s.msix := rfl
@[simp] theorem State.setSluSt_sw (s : State) (n : Nat) (x : SluSt) : (s.setSluSt n x).sw = s.sw := rfl
@[simp] theorem State.setSluSt_rsq (s : State) (n : Nat) (x : SluSt) : (s.setSluSt n x).rsq = s.rsq := rfl
@[simp] theorem State.setSluSt_mir (s : State) (n : Nat) (x : SluSt) : (s.setSluSt n x).mir = s.mir := rfl
@[simp] theorem State.setSluSt_obs (s : State) (n : Nat) (x : SluSt) : (s.setSluSt n x).obs = s.obs := rfl
@[simp] theorem State.setSluSt_flt (s : State) (n : Nat) (x : SluSt) : (s.setSluSt n x).flt = s.flt := rfl
@[simp] theorem State.setSluSt_link (s : State) (n : Nat) (x : SluSt) : (s.setSluSt n x).link = s.link := rfl
@[simp] theorem State.setSluSt_ring (s : State) (n : Nat) (x : SluSt) : (s.setSluSt n x).ring = s.ring := rfl
@[simp] theorem State.setSluSt_time (s : State) (n : Nat) (x : SluSt) : (s.setSluSt n x).time = s.time := rfl
@[simp] theorem State.setSluSt_txts (s : State) (n : Nat) (x : SluSt) : (s.setSluSt n x).txts = s.txts := rfl
@[simp] theorem State.setSluSt_prot (s : State) (n : Nat) (x : SluSt) : (s.setSluSt n x).prot = s.prot := rfl
@[simp] theorem State.setSluSt_keySlot (s : State) (n : Nat) (x : SluSt) : (s.setSluSt n x).keySlot = s.keySlot := rfl
@[simp] theorem State.setSluSt_img (s : State) (n : Nat) (x : SluSt) : (s.setSluSt n x).img = s.img := rfl
@[simp] theorem State.setSluSt_twin (s : State) (n : Nat) (x : SluSt) : (s.setSluSt n x).twin = s.twin := rfl
@[simp] theorem State.setSluSt_brg (s : State) (n : Nat) (x : SluSt) : (s.setSluSt n x).brg = s.brg := rfl
@[simp] theorem State.setSluSt_trk (s : State) (n : Nat) (x : SluSt) : (s.setSluSt n x).trk = s.trk := rfl
@[simp] theorem State.setSluSt_line (s : State) (n : Nat) (x : SluSt) : (s.setSluSt n x).line = s.line := rfl
@[simp] theorem State.setSluSt_dio (s : State) (n : Nat) (x : SluSt) : (s.setSluSt n x).dio = s.dio := rfl
@[simp] theorem State.setSluSt_lane (s : State) (n : Nat) (x : SluSt) : (s.setSluSt n x).lane = s.lane := rfl
@[simp] theorem State.setSluSt_mov (s : State) (n : Nat) (x : SluSt) : (s.setSluSt n x).mov = s.mov := rfl
@[simp] theorem State.setSluSt_cog (s : State) (n : Nat) (x : SluSt) : (s.setSluSt n x).cog = s.cog := rfl
@[simp] theorem State.setSluSt_can (s : State) (n : Nat) (x : SluSt) : (s.setSluSt n x).can = s.can := rfl
@[simp] theorem State.setSluSt_zone (s : State) (n : Nat) (x : SluSt) : (s.setSluSt n x).zone = s.zone := rfl
@[simp] theorem State.setSluSt_pwd (s : State) (n : Nat) (x : SluSt) : (s.setSluSt n x).pwd = s.pwd := rfl
@[simp] theorem State.setSluSt_usb (s : State) (n : Nat) (x : SluSt) : (s.setSluSt n x).usb = s.usb := rfl
@[simp] theorem State.setSluSt_qsh (s : State) (n : Nat) (x : SluSt) : (s.setSluSt n x).qsh = s.qsh := rfl
@[simp] theorem State.setSluSt_pcie (s : State) (n : Nat) (x : SluSt) : (s.setSluSt n x).pcie = s.pcie := rfl
@[simp] theorem State.setSluSt_hk (s : State) (n : Nat) (x : SluSt) : (s.setSluSt n x).hk = s.hk := rfl
@[simp] theorem State.setSluSt_crs (s : State) (n : Nat) (x : SluSt) : (s.setSluSt n x).crs = s.crs := rfl
@[simp] theorem State.setSluSt_upd (s : State) (n : Nat) (x : SluSt) : (s.setSluSt n x).upd = s.upd := rfl
@[simp] theorem State.setSluSt_key (s : State) (n : Nat) (x : SluSt) : (s.setSluSt n x).key = s.key := rfl
@[simp] theorem State.setSluSt_plumb (s : State) (n : Nat) (x : SluSt) : (s.setSluSt n x).plumb = s.plumb := rfl
@[simp] theorem State.setSluSt_rst (s : State) (n : Nat) (x : SluSt) : (s.setSluSt n x).rst = s.rst := rfl
@[simp] theorem State.setSluSt_tok (s : State) (n : Nat) (x : SluSt) : (s.setSluSt n x).tok = s.tok := rfl
@[simp] theorem State.setSluSt_flash (s : State) (n : Nat) (x : SluSt) : (s.setSluSt n x).flash = s.flash := rfl

/-! ## State.setZone -/

@[simp] theorem State.setZone_pending (s : State) (z : Nat) (x : ZoneSt) : (s.setZone z x).pending = s.pending := rfl
@[simp] theorem State.setZone_now (s : State) (z : Nat) (x : ZoneSt) : (s.setZone z x).now = s.now := rfl
@[simp] theorem State.setZone_t0 (s : State) (z : Nat) (x : ZoneSt) : (s.setZone z x).t0 = s.t0 := rfl
@[simp] theorem State.setZone_held (s : State) (z : Nat) (x : ZoneSt) : (s.setZone z x).held = s.held := rfl
@[simp] theorem State.setZone_regs (s : State) (z : Nat) (x : ZoneSt) : (s.setZone z x).regs = s.regs := rfl
@[simp] theorem State.setZone_shadow (s : State) (z : Nat) (x : ZoneSt) : (s.setZone z x).shadow = s.shadow := rfl
@[simp] theorem State.setZone_ctr (s : State) (z : Nat) (x : ZoneSt) : (s.setZone z x).ctr = s.ctr := rfl
@[simp] theorem State.setZone_latch (s : State) (z : Nat) (x : ZoneSt) : (s.setZone z x).latch = s.latch := rfl
@[simp] theorem State.setZone_page (s : State) (z : Nat) (x : ZoneSt) : (s.setZone z x).page = s.page := rfl
@[simp] theorem State.setZone_out (s : State) (z : Nat) (x : ZoneSt) : (s.setZone z x).out = s.out := rfl
@[simp] theorem State.setZone_free (s : State) (z : Nat) (x : ZoneSt) : (s.setZone z x).free = s.free := rfl
@[simp] theorem State.setZone_hkUp (s : State) (z : Nat) (x : ZoneSt) : (s.setZone z x).hkUp = s.hkUp := rfl
@[simp] theorem State.setZone_msix (s : State) (z : Nat) (x : ZoneSt) : (s.setZone z x).msix = s.msix := rfl
@[simp] theorem State.setZone_sw (s : State) (z : Nat) (x : ZoneSt) : (s.setZone z x).sw = s.sw := rfl
@[simp] theorem State.setZone_rsq (s : State) (z : Nat) (x : ZoneSt) : (s.setZone z x).rsq = s.rsq := rfl
@[simp] theorem State.setZone_mir (s : State) (z : Nat) (x : ZoneSt) : (s.setZone z x).mir = s.mir := rfl
@[simp] theorem State.setZone_obs (s : State) (z : Nat) (x : ZoneSt) : (s.setZone z x).obs = s.obs := rfl
@[simp] theorem State.setZone_flt (s : State) (z : Nat) (x : ZoneSt) : (s.setZone z x).flt = s.flt := rfl
@[simp] theorem State.setZone_link (s : State) (z : Nat) (x : ZoneSt) : (s.setZone z x).link = s.link := rfl
@[simp] theorem State.setZone_ring (s : State) (z : Nat) (x : ZoneSt) : (s.setZone z x).ring = s.ring := rfl
@[simp] theorem State.setZone_time (s : State) (z : Nat) (x : ZoneSt) : (s.setZone z x).time = s.time := rfl
@[simp] theorem State.setZone_txts (s : State) (z : Nat) (x : ZoneSt) : (s.setZone z x).txts = s.txts := rfl
@[simp] theorem State.setZone_prot (s : State) (z : Nat) (x : ZoneSt) : (s.setZone z x).prot = s.prot := rfl
@[simp] theorem State.setZone_keySlot (s : State) (z : Nat) (x : ZoneSt) : (s.setZone z x).keySlot = s.keySlot := rfl
@[simp] theorem State.setZone_img (s : State) (z : Nat) (x : ZoneSt) : (s.setZone z x).img = s.img := rfl
@[simp] theorem State.setZone_twin (s : State) (z : Nat) (x : ZoneSt) : (s.setZone z x).twin = s.twin := rfl
@[simp] theorem State.setZone_brg (s : State) (z : Nat) (x : ZoneSt) : (s.setZone z x).brg = s.brg := rfl
@[simp] theorem State.setZone_trk (s : State) (z : Nat) (x : ZoneSt) : (s.setZone z x).trk = s.trk := rfl
@[simp] theorem State.setZone_line (s : State) (z : Nat) (x : ZoneSt) : (s.setZone z x).line = s.line := rfl
@[simp] theorem State.setZone_dio (s : State) (z : Nat) (x : ZoneSt) : (s.setZone z x).dio = s.dio := rfl
@[simp] theorem State.setZone_lane (s : State) (z : Nat) (x : ZoneSt) : (s.setZone z x).lane = s.lane := rfl
@[simp] theorem State.setZone_mov (s : State) (z : Nat) (x : ZoneSt) : (s.setZone z x).mov = s.mov := rfl
@[simp] theorem State.setZone_cog (s : State) (z : Nat) (x : ZoneSt) : (s.setZone z x).cog = s.cog := rfl
@[simp] theorem State.setZone_can (s : State) (z : Nat) (x : ZoneSt) : (s.setZone z x).can = s.can := rfl
@[simp] theorem State.setZone_slu (s : State) (z : Nat) (x : ZoneSt) : (s.setZone z x).slu = s.slu := rfl
@[simp] theorem State.setZone_pwd (s : State) (z : Nat) (x : ZoneSt) : (s.setZone z x).pwd = s.pwd := rfl
@[simp] theorem State.setZone_usb (s : State) (z : Nat) (x : ZoneSt) : (s.setZone z x).usb = s.usb := rfl
@[simp] theorem State.setZone_qsh (s : State) (z : Nat) (x : ZoneSt) : (s.setZone z x).qsh = s.qsh := rfl
@[simp] theorem State.setZone_pcie (s : State) (z : Nat) (x : ZoneSt) : (s.setZone z x).pcie = s.pcie := rfl
@[simp] theorem State.setZone_hk (s : State) (z : Nat) (x : ZoneSt) : (s.setZone z x).hk = s.hk := rfl
@[simp] theorem State.setZone_crs (s : State) (z : Nat) (x : ZoneSt) : (s.setZone z x).crs = s.crs := rfl
@[simp] theorem State.setZone_upd (s : State) (z : Nat) (x : ZoneSt) : (s.setZone z x).upd = s.upd := rfl
@[simp] theorem State.setZone_key (s : State) (z : Nat) (x : ZoneSt) : (s.setZone z x).key = s.key := rfl
@[simp] theorem State.setZone_plumb (s : State) (z : Nat) (x : ZoneSt) : (s.setZone z x).plumb = s.plumb := rfl
@[simp] theorem State.setZone_rst (s : State) (z : Nat) (x : ZoneSt) : (s.setZone z x).rst = s.rst := rfl
@[simp] theorem State.setZone_tok (s : State) (z : Nat) (x : ZoneSt) : (s.setZone z x).tok = s.tok := rfl
@[simp] theorem State.setZone_flash (s : State) (z : Nat) (x : ZoneSt) : (s.setZone z x).flash = s.flash := rfl

/-! ## State.setLnk -/

@[simp] theorem State.setLnk_pending (s : State) (port : Nat) (x : LinkSt) : (s.setLnk port x).pending = s.pending := rfl
@[simp] theorem State.setLnk_now (s : State) (port : Nat) (x : LinkSt) : (s.setLnk port x).now = s.now := rfl
@[simp] theorem State.setLnk_t0 (s : State) (port : Nat) (x : LinkSt) : (s.setLnk port x).t0 = s.t0 := rfl
@[simp] theorem State.setLnk_held (s : State) (port : Nat) (x : LinkSt) : (s.setLnk port x).held = s.held := rfl
@[simp] theorem State.setLnk_regs (s : State) (port : Nat) (x : LinkSt) : (s.setLnk port x).regs = s.regs := rfl
@[simp] theorem State.setLnk_shadow (s : State) (port : Nat) (x : LinkSt) : (s.setLnk port x).shadow = s.shadow := rfl
@[simp] theorem State.setLnk_ctr (s : State) (port : Nat) (x : LinkSt) : (s.setLnk port x).ctr = s.ctr := rfl
@[simp] theorem State.setLnk_latch (s : State) (port : Nat) (x : LinkSt) : (s.setLnk port x).latch = s.latch := rfl
@[simp] theorem State.setLnk_page (s : State) (port : Nat) (x : LinkSt) : (s.setLnk port x).page = s.page := rfl
@[simp] theorem State.setLnk_out (s : State) (port : Nat) (x : LinkSt) : (s.setLnk port x).out = s.out := rfl
@[simp] theorem State.setLnk_free (s : State) (port : Nat) (x : LinkSt) : (s.setLnk port x).free = s.free := rfl
@[simp] theorem State.setLnk_hkUp (s : State) (port : Nat) (x : LinkSt) : (s.setLnk port x).hkUp = s.hkUp := rfl
@[simp] theorem State.setLnk_msix (s : State) (port : Nat) (x : LinkSt) : (s.setLnk port x).msix = s.msix := rfl
@[simp] theorem State.setLnk_sw (s : State) (port : Nat) (x : LinkSt) : (s.setLnk port x).sw = s.sw := rfl
@[simp] theorem State.setLnk_rsq (s : State) (port : Nat) (x : LinkSt) : (s.setLnk port x).rsq = s.rsq := rfl
@[simp] theorem State.setLnk_mir (s : State) (port : Nat) (x : LinkSt) : (s.setLnk port x).mir = s.mir := rfl
@[simp] theorem State.setLnk_obs (s : State) (port : Nat) (x : LinkSt) : (s.setLnk port x).obs = s.obs := rfl
@[simp] theorem State.setLnk_flt (s : State) (port : Nat) (x : LinkSt) : (s.setLnk port x).flt = s.flt := rfl
@[simp] theorem State.setLnk_ring (s : State) (port : Nat) (x : LinkSt) : (s.setLnk port x).ring = s.ring := rfl
@[simp] theorem State.setLnk_time (s : State) (port : Nat) (x : LinkSt) : (s.setLnk port x).time = s.time := rfl
@[simp] theorem State.setLnk_txts (s : State) (port : Nat) (x : LinkSt) : (s.setLnk port x).txts = s.txts := rfl
@[simp] theorem State.setLnk_prot (s : State) (port : Nat) (x : LinkSt) : (s.setLnk port x).prot = s.prot := rfl
@[simp] theorem State.setLnk_keySlot (s : State) (port : Nat) (x : LinkSt) : (s.setLnk port x).keySlot = s.keySlot := rfl
@[simp] theorem State.setLnk_img (s : State) (port : Nat) (x : LinkSt) : (s.setLnk port x).img = s.img := rfl
@[simp] theorem State.setLnk_twin (s : State) (port : Nat) (x : LinkSt) : (s.setLnk port x).twin = s.twin := rfl
@[simp] theorem State.setLnk_brg (s : State) (port : Nat) (x : LinkSt) : (s.setLnk port x).brg = s.brg := rfl
@[simp] theorem State.setLnk_trk (s : State) (port : Nat) (x : LinkSt) : (s.setLnk port x).trk = s.trk := rfl
@[simp] theorem State.setLnk_line (s : State) (port : Nat) (x : LinkSt) : (s.setLnk port x).line = s.line := rfl
@[simp] theorem State.setLnk_dio (s : State) (port : Nat) (x : LinkSt) : (s.setLnk port x).dio = s.dio := rfl
@[simp] theorem State.setLnk_lane (s : State) (port : Nat) (x : LinkSt) : (s.setLnk port x).lane = s.lane := rfl
@[simp] theorem State.setLnk_mov (s : State) (port : Nat) (x : LinkSt) : (s.setLnk port x).mov = s.mov := rfl
@[simp] theorem State.setLnk_cog (s : State) (port : Nat) (x : LinkSt) : (s.setLnk port x).cog = s.cog := rfl
@[simp] theorem State.setLnk_can (s : State) (port : Nat) (x : LinkSt) : (s.setLnk port x).can = s.can := rfl
@[simp] theorem State.setLnk_zone (s : State) (port : Nat) (x : LinkSt) : (s.setLnk port x).zone = s.zone := rfl
@[simp] theorem State.setLnk_slu (s : State) (port : Nat) (x : LinkSt) : (s.setLnk port x).slu = s.slu := rfl
@[simp] theorem State.setLnk_pwd (s : State) (port : Nat) (x : LinkSt) : (s.setLnk port x).pwd = s.pwd := rfl
@[simp] theorem State.setLnk_usb (s : State) (port : Nat) (x : LinkSt) : (s.setLnk port x).usb = s.usb := rfl
@[simp] theorem State.setLnk_qsh (s : State) (port : Nat) (x : LinkSt) : (s.setLnk port x).qsh = s.qsh := rfl
@[simp] theorem State.setLnk_pcie (s : State) (port : Nat) (x : LinkSt) : (s.setLnk port x).pcie = s.pcie := rfl
@[simp] theorem State.setLnk_hk (s : State) (port : Nat) (x : LinkSt) : (s.setLnk port x).hk = s.hk := rfl
@[simp] theorem State.setLnk_crs (s : State) (port : Nat) (x : LinkSt) : (s.setLnk port x).crs = s.crs := rfl
@[simp] theorem State.setLnk_upd (s : State) (port : Nat) (x : LinkSt) : (s.setLnk port x).upd = s.upd := rfl
@[simp] theorem State.setLnk_key (s : State) (port : Nat) (x : LinkSt) : (s.setLnk port x).key = s.key := rfl
@[simp] theorem State.setLnk_plumb (s : State) (port : Nat) (x : LinkSt) : (s.setLnk port x).plumb = s.plumb := rfl
@[simp] theorem State.setLnk_rst (s : State) (port : Nat) (x : LinkSt) : (s.setLnk port x).rst = s.rst := rfl
@[simp] theorem State.setLnk_tok (s : State) (port : Nat) (x : LinkSt) : (s.setLnk port x).tok = s.tok := rfl
@[simp] theorem State.setLnk_flash (s : State) (port : Nat) (x : LinkSt) : (s.setLnk port x).flash = s.flash := rfl

/-! ## State.setTxq -/

@[simp] theorem State.setTxq_pending (s : State) (port cls : Nat) (q : List TxCell) : (s.setTxq port cls q).pending = s.pending := rfl
@[simp] theorem State.setTxq_now (s : State) (port cls : Nat) (q : List TxCell) : (s.setTxq port cls q).now = s.now := rfl
@[simp] theorem State.setTxq_t0 (s : State) (port cls : Nat) (q : List TxCell) : (s.setTxq port cls q).t0 = s.t0 := rfl
@[simp] theorem State.setTxq_held (s : State) (port cls : Nat) (q : List TxCell) : (s.setTxq port cls q).held = s.held := rfl
@[simp] theorem State.setTxq_regs (s : State) (port cls : Nat) (q : List TxCell) : (s.setTxq port cls q).regs = s.regs := rfl
@[simp] theorem State.setTxq_shadow (s : State) (port cls : Nat) (q : List TxCell) : (s.setTxq port cls q).shadow = s.shadow := rfl
@[simp] theorem State.setTxq_ctr (s : State) (port cls : Nat) (q : List TxCell) : (s.setTxq port cls q).ctr = s.ctr := rfl
@[simp] theorem State.setTxq_latch (s : State) (port cls : Nat) (q : List TxCell) : (s.setTxq port cls q).latch = s.latch := rfl
@[simp] theorem State.setTxq_page (s : State) (port cls : Nat) (q : List TxCell) : (s.setTxq port cls q).page = s.page := rfl
@[simp] theorem State.setTxq_out (s : State) (port cls : Nat) (q : List TxCell) : (s.setTxq port cls q).out = s.out := rfl
@[simp] theorem State.setTxq_free (s : State) (port cls : Nat) (q : List TxCell) : (s.setTxq port cls q).free = s.free := rfl
@[simp] theorem State.setTxq_hkUp (s : State) (port cls : Nat) (q : List TxCell) : (s.setTxq port cls q).hkUp = s.hkUp := rfl
@[simp] theorem State.setTxq_msix (s : State) (port cls : Nat) (q : List TxCell) : (s.setTxq port cls q).msix = s.msix := rfl
@[simp] theorem State.setTxq_rsq (s : State) (port cls : Nat) (q : List TxCell) : (s.setTxq port cls q).rsq = s.rsq := rfl
@[simp] theorem State.setTxq_mir (s : State) (port cls : Nat) (q : List TxCell) : (s.setTxq port cls q).mir = s.mir := rfl
@[simp] theorem State.setTxq_obs (s : State) (port cls : Nat) (q : List TxCell) : (s.setTxq port cls q).obs = s.obs := rfl
@[simp] theorem State.setTxq_flt (s : State) (port cls : Nat) (q : List TxCell) : (s.setTxq port cls q).flt = s.flt := rfl
@[simp] theorem State.setTxq_link (s : State) (port cls : Nat) (q : List TxCell) : (s.setTxq port cls q).link = s.link := rfl
@[simp] theorem State.setTxq_ring (s : State) (port cls : Nat) (q : List TxCell) : (s.setTxq port cls q).ring = s.ring := rfl
@[simp] theorem State.setTxq_time (s : State) (port cls : Nat) (q : List TxCell) : (s.setTxq port cls q).time = s.time := rfl
@[simp] theorem State.setTxq_txts (s : State) (port cls : Nat) (q : List TxCell) : (s.setTxq port cls q).txts = s.txts := rfl
@[simp] theorem State.setTxq_prot (s : State) (port cls : Nat) (q : List TxCell) : (s.setTxq port cls q).prot = s.prot := rfl
@[simp] theorem State.setTxq_keySlot (s : State) (port cls : Nat) (q : List TxCell) : (s.setTxq port cls q).keySlot = s.keySlot := rfl
@[simp] theorem State.setTxq_img (s : State) (port cls : Nat) (q : List TxCell) : (s.setTxq port cls q).img = s.img := rfl
@[simp] theorem State.setTxq_twin (s : State) (port cls : Nat) (q : List TxCell) : (s.setTxq port cls q).twin = s.twin := rfl
@[simp] theorem State.setTxq_brg (s : State) (port cls : Nat) (q : List TxCell) : (s.setTxq port cls q).brg = s.brg := rfl
@[simp] theorem State.setTxq_trk (s : State) (port cls : Nat) (q : List TxCell) : (s.setTxq port cls q).trk = s.trk := rfl
@[simp] theorem State.setTxq_line (s : State) (port cls : Nat) (q : List TxCell) : (s.setTxq port cls q).line = s.line := rfl
@[simp] theorem State.setTxq_dio (s : State) (port cls : Nat) (q : List TxCell) : (s.setTxq port cls q).dio = s.dio := rfl
@[simp] theorem State.setTxq_lane (s : State) (port cls : Nat) (q : List TxCell) : (s.setTxq port cls q).lane = s.lane := rfl
@[simp] theorem State.setTxq_mov (s : State) (port cls : Nat) (q : List TxCell) : (s.setTxq port cls q).mov = s.mov := rfl
@[simp] theorem State.setTxq_cog (s : State) (port cls : Nat) (q : List TxCell) : (s.setTxq port cls q).cog = s.cog := rfl
@[simp] theorem State.setTxq_can (s : State) (port cls : Nat) (q : List TxCell) : (s.setTxq port cls q).can = s.can := rfl
@[simp] theorem State.setTxq_zone (s : State) (port cls : Nat) (q : List TxCell) : (s.setTxq port cls q).zone = s.zone := rfl
@[simp] theorem State.setTxq_slu (s : State) (port cls : Nat) (q : List TxCell) : (s.setTxq port cls q).slu = s.slu := rfl
@[simp] theorem State.setTxq_pwd (s : State) (port cls : Nat) (q : List TxCell) : (s.setTxq port cls q).pwd = s.pwd := rfl
@[simp] theorem State.setTxq_usb (s : State) (port cls : Nat) (q : List TxCell) : (s.setTxq port cls q).usb = s.usb := rfl
@[simp] theorem State.setTxq_qsh (s : State) (port cls : Nat) (q : List TxCell) : (s.setTxq port cls q).qsh = s.qsh := rfl
@[simp] theorem State.setTxq_pcie (s : State) (port cls : Nat) (q : List TxCell) : (s.setTxq port cls q).pcie = s.pcie := rfl
@[simp] theorem State.setTxq_hk (s : State) (port cls : Nat) (q : List TxCell) : (s.setTxq port cls q).hk = s.hk := rfl
@[simp] theorem State.setTxq_crs (s : State) (port cls : Nat) (q : List TxCell) : (s.setTxq port cls q).crs = s.crs := rfl
@[simp] theorem State.setTxq_upd (s : State) (port cls : Nat) (q : List TxCell) : (s.setTxq port cls q).upd = s.upd := rfl
@[simp] theorem State.setTxq_key (s : State) (port cls : Nat) (q : List TxCell) : (s.setTxq port cls q).key = s.key := rfl
@[simp] theorem State.setTxq_plumb (s : State) (port cls : Nat) (q : List TxCell) : (s.setTxq port cls q).plumb = s.plumb := rfl
@[simp] theorem State.setTxq_rst (s : State) (port cls : Nat) (q : List TxCell) : (s.setTxq port cls q).rst = s.rst := rfl
@[simp] theorem State.setTxq_tok (s : State) (port cls : Nat) (q : List TxCell) : (s.setTxq port cls q).tok = s.tok := rfl
@[simp] theorem State.setTxq_flash (s : State) (port cls : Nat) (q : List TxCell) : (s.setTxq port cls q).flash = s.flash := rfl

/-! ## State.setAxis -/

@[simp] theorem State.setAxis_pending (s : State) (a : Nat) (x : AxisSt) : (s.setAxis a x).pending = s.pending := rfl
@[simp] theorem State.setAxis_now (s : State) (a : Nat) (x : AxisSt) : (s.setAxis a x).now = s.now := rfl
@[simp] theorem State.setAxis_t0 (s : State) (a : Nat) (x : AxisSt) : (s.setAxis a x).t0 = s.t0 := rfl
@[simp] theorem State.setAxis_held (s : State) (a : Nat) (x : AxisSt) : (s.setAxis a x).held = s.held := rfl
@[simp] theorem State.setAxis_regs (s : State) (a : Nat) (x : AxisSt) : (s.setAxis a x).regs = s.regs := rfl
@[simp] theorem State.setAxis_shadow (s : State) (a : Nat) (x : AxisSt) : (s.setAxis a x).shadow = s.shadow := rfl
@[simp] theorem State.setAxis_ctr (s : State) (a : Nat) (x : AxisSt) : (s.setAxis a x).ctr = s.ctr := rfl
@[simp] theorem State.setAxis_latch (s : State) (a : Nat) (x : AxisSt) : (s.setAxis a x).latch = s.latch := rfl
@[simp] theorem State.setAxis_page (s : State) (a : Nat) (x : AxisSt) : (s.setAxis a x).page = s.page := rfl
@[simp] theorem State.setAxis_out (s : State) (a : Nat) (x : AxisSt) : (s.setAxis a x).out = s.out := rfl
@[simp] theorem State.setAxis_free (s : State) (a : Nat) (x : AxisSt) : (s.setAxis a x).free = s.free := rfl
@[simp] theorem State.setAxis_hkUp (s : State) (a : Nat) (x : AxisSt) : (s.setAxis a x).hkUp = s.hkUp := rfl
@[simp] theorem State.setAxis_msix (s : State) (a : Nat) (x : AxisSt) : (s.setAxis a x).msix = s.msix := rfl
@[simp] theorem State.setAxis_sw (s : State) (a : Nat) (x : AxisSt) : (s.setAxis a x).sw = s.sw := rfl
@[simp] theorem State.setAxis_rsq (s : State) (a : Nat) (x : AxisSt) : (s.setAxis a x).rsq = s.rsq := rfl
@[simp] theorem State.setAxis_mir (s : State) (a : Nat) (x : AxisSt) : (s.setAxis a x).mir = s.mir := rfl
@[simp] theorem State.setAxis_obs (s : State) (a : Nat) (x : AxisSt) : (s.setAxis a x).obs = s.obs := rfl
@[simp] theorem State.setAxis_flt (s : State) (a : Nat) (x : AxisSt) : (s.setAxis a x).flt = s.flt := rfl
@[simp] theorem State.setAxis_link (s : State) (a : Nat) (x : AxisSt) : (s.setAxis a x).link = s.link := rfl
@[simp] theorem State.setAxis_ring (s : State) (a : Nat) (x : AxisSt) : (s.setAxis a x).ring = s.ring := rfl
@[simp] theorem State.setAxis_time (s : State) (a : Nat) (x : AxisSt) : (s.setAxis a x).time = s.time := rfl
@[simp] theorem State.setAxis_txts (s : State) (a : Nat) (x : AxisSt) : (s.setAxis a x).txts = s.txts := rfl
@[simp] theorem State.setAxis_prot (s : State) (a : Nat) (x : AxisSt) : (s.setAxis a x).prot = s.prot := rfl
@[simp] theorem State.setAxis_keySlot (s : State) (a : Nat) (x : AxisSt) : (s.setAxis a x).keySlot = s.keySlot := rfl
@[simp] theorem State.setAxis_img (s : State) (a : Nat) (x : AxisSt) : (s.setAxis a x).img = s.img := rfl
@[simp] theorem State.setAxis_twin (s : State) (a : Nat) (x : AxisSt) : (s.setAxis a x).twin = s.twin := rfl
@[simp] theorem State.setAxis_brg (s : State) (a : Nat) (x : AxisSt) : (s.setAxis a x).brg = s.brg := rfl
@[simp] theorem State.setAxis_line (s : State) (a : Nat) (x : AxisSt) : (s.setAxis a x).line = s.line := rfl
@[simp] theorem State.setAxis_dio (s : State) (a : Nat) (x : AxisSt) : (s.setAxis a x).dio = s.dio := rfl
@[simp] theorem State.setAxis_lane (s : State) (a : Nat) (x : AxisSt) : (s.setAxis a x).lane = s.lane := rfl
@[simp] theorem State.setAxis_mov (s : State) (a : Nat) (x : AxisSt) : (s.setAxis a x).mov = s.mov := rfl
@[simp] theorem State.setAxis_cog (s : State) (a : Nat) (x : AxisSt) : (s.setAxis a x).cog = s.cog := rfl
@[simp] theorem State.setAxis_can (s : State) (a : Nat) (x : AxisSt) : (s.setAxis a x).can = s.can := rfl
@[simp] theorem State.setAxis_zone (s : State) (a : Nat) (x : AxisSt) : (s.setAxis a x).zone = s.zone := rfl
@[simp] theorem State.setAxis_slu (s : State) (a : Nat) (x : AxisSt) : (s.setAxis a x).slu = s.slu := rfl
@[simp] theorem State.setAxis_pwd (s : State) (a : Nat) (x : AxisSt) : (s.setAxis a x).pwd = s.pwd := rfl
@[simp] theorem State.setAxis_usb (s : State) (a : Nat) (x : AxisSt) : (s.setAxis a x).usb = s.usb := rfl
@[simp] theorem State.setAxis_qsh (s : State) (a : Nat) (x : AxisSt) : (s.setAxis a x).qsh = s.qsh := rfl
@[simp] theorem State.setAxis_pcie (s : State) (a : Nat) (x : AxisSt) : (s.setAxis a x).pcie = s.pcie := rfl
@[simp] theorem State.setAxis_hk (s : State) (a : Nat) (x : AxisSt) : (s.setAxis a x).hk = s.hk := rfl
@[simp] theorem State.setAxis_crs (s : State) (a : Nat) (x : AxisSt) : (s.setAxis a x).crs = s.crs := rfl
@[simp] theorem State.setAxis_upd (s : State) (a : Nat) (x : AxisSt) : (s.setAxis a x).upd = s.upd := rfl
@[simp] theorem State.setAxis_key (s : State) (a : Nat) (x : AxisSt) : (s.setAxis a x).key = s.key := rfl
@[simp] theorem State.setAxis_plumb (s : State) (a : Nat) (x : AxisSt) : (s.setAxis a x).plumb = s.plumb := rfl
@[simp] theorem State.setAxis_rst (s : State) (a : Nat) (x : AxisSt) : (s.setAxis a x).rst = s.rst := rfl
@[simp] theorem State.setAxis_tok (s : State) (a : Nat) (x : AxisSt) : (s.setAxis a x).tok = s.tok := rfl
@[simp] theorem State.setAxis_flash (s : State) (a : Nat) (x : AxisSt) : (s.setAxis a x).flash = s.flash := rfl

end Sys2Proof.Machine
end

