-- ==== Sys2Proof/Tests/Small.lean ====
section
/-!
SUPPORT. Small states for the tests and witnesses: each is the state after reset with a few register fields and a few
pieces of block state set.
-/
namespace Sys2Proof.Tests
open Sys2Proof.Machine

/-- The state `s` with register fields set: (page, field, value). -/
def w (l : List (Nat × Field × Nat)) (s : State := {}) : State :=
  l.foldl (fun (t : State) (e : Nat × Field × Nat) => t.wr e.1 e.2.1 e.2.2) s

/-- The state after reset with elements of register fields set: (page, field, value, element). -/
def wi (l : List (Nat × Field × Nat × Nat)) : State :=
  l.foldl (fun (t : State) (e : Nat × Field × Nat × Nat) => t.wr e.1 e.2.1 e.2.2.1 e.2.2.2) {}

/-- A received cell of a type, payload, port and source. -/
def rx1 (typ : Nat) (p : List Byte) (port src : Nat) : RxCell :=
  { cell := { typ := typ, src := src, payload := p }, buf := 1, port := port, at_ := 0, ring := 0 }

/-- A state whose consumer `c` has one received cell. -/
def ask (c typ : Nat) (p : List Byte) (port src : Nat) (s : State) : State := s.setConsQ c [rx1 typ p port src]

/-- The oldest cell of a type at a consumer, and the state without it. -/
def tk (c typ : Nat) (s : State) : RxCell × State := (s.takeCell c typ).getD (rx1 0 [] 0 0, s)

/-- The state after reset of a hub with serial 77. -/
def sSer : State := { regs := [(regKey 0 pgLINK 0x220, 77), (regKey 0 pgLINK 0x224, 0)] }
/-- Both links up. -/
def sUp : State := w [(pgLINK, LINK_STAT_STATE, 3), (pgLINK + 1, LINK_STAT_STATE, 3)]
/-- A good unprotected frame with a TOPO cell of node 3, and one for the search of a protected port. -/
def frame1 : Frame :=
  { fcsOk := true, dest := ringDest, vlan := false, etherType := 0x88B5, length := 64, sec := none,
    body := Cell.bytes { typ := tTOPO, dkind := 2, src := 3, payload := beBytes 20 0 } }
/-- A TOPO cell waits in the East queue. -/
def sTx : State :=
  State.txPush sUp 0 { cell := { typ := tTOPO, dkind := 2, payload := [] }, buf := 1, fwd := false }
/-- A cell that waits for granules. -/
def wait1 : WaitCell :=
  { cell := { typ := tPDELAY_REQ, dkind := 3, payload := beBytes 4 0 }, fixedGen := false, replay := none, port := some 0 }
def sWait : State := { (w [(pgLINK, LINK_STAT_STATE, 3)]) with sw := { waiting := [wait1] } }
/-- A configured hub in JOIN with an ID to claim. -/
def sClaim : State :=
  { (w [(pgLINK, LINK_STAT_STATE, 3), (pgPWRST, PWRST_STATE_STATE, nsJOIN)]) with ring := { configured := true, want := 7 } }
/-- A hub that waits for its position. -/
def sPos : State :=
  { (w [(pgLINK, RING_ID_MODE, 1)]) with ring := { configured := true, eastAnchor := some (0, 1) } }
/-- A grandmaster that announces. -/
def sAnn : State :=
  { (w [(pgTIME, TIME_GM_CFG_CAPABLE, 1), (pgLINK, RING_ID_CLAIM, 2), (pgLINK, RING_ID_ID, 7), (pgTIME, TIME_STAT_STATE, 4),
      (pgTIME, TIME_STAT_LOCKED, 1)]) with time := { ownAnn := some 0 } }
/-- A TIME_ANNOUNCE of node 3 has arrived at a locked hub. -/
def sAnnRx : State :=
  ask 1 tTIME_ANNOUNCE (beBytes 36 0) 0 3
    (w [(pgTIME, TIME_GM_GM_ID, 3), (pgTIME, TIME_STAT_STATE, 2), (pgTIME, TIME_STAT_LOCKED, 1)] sSer)
/-- Node 3 as a candidate. -/
def annCand : GmCand :=
  { id := 3, serial := 0, prio1 := 0, cls := 0, prio2 := 0, todValid := false, todOffset := 0, baseT := 0, baseN := 0,
    at_ := 0 }
def sAnnV : State :=
  let u := (tk 1 tTIME_ANNOUNCE sAnnRx).2
  State.chooseGm { u with time := { u.time with
    cands := (insCand annCand (u.time.cands.filter (fun x => x.serial != annCand.serial))).take 8, lastAnn := some u.now } }
def cand3 : GmCand := annCand
/-- One TIME_SYNC copy with its sync record, to be decided. -/
def decCopy : SyncCopy := { seq := 5, src := 3, port := 1, arr := 0, at_ := 0, originT := 0, hops := 1, cin := some 0 }
def sDec : State :=
  { ((w [(pgTIME, TIME_STAT_STATE, 2), (pgTIME, TIME_STAT_LOCKED, 1)]).wr pgTIME TIME_PDELAY_VALID 1 1) with
    time := { copies := [decCopy] } }
def sDecT : State :=
  { sDec.count pgTIME 2 0 with time := { sDec.time with
      copies := sDec.time.copies.filter (fun x => x.seq != 5), decided := (5 :: sDec.time.decided).take 8 } }
/-- The first edge of an external pulse. -/
def sPps : State := w [(pgTIME, TIME_GM_CFG_EXT_EN, 1), (pgTIME, TIME_TOD_NEXT_LO_W, 3)]
def sPpsV : State :=
  let s := sPps
  let cap := s.ringNow
  let next := s.rd64 pgTIME TIME_TOD_NEXT_LO_W TIME_TOD_NEXT_HI_W
  let off : Int := (next : Int) * 10 ^ 9 - cap
  let t := s.wr64 pgTIME TIME_PPS_CAP_LO_W TIME_PPS_CAP_HI_W cap
  let t := t.wr64 pgTIME TIME_TOD_NEXT_LO_W TIME_TOD_NEXT_HI_W ((next + 1) % 2 ^ 64)
  let t : State := { t with time := { t.time with ppsFirst := false, ppsLast := some t.now, ppsMissed := false,
                                                  ppsHold := false, ppsHeld := off } }
  let t := if t.gov = 4 ∨ !t.locked then (t.setTod off).wr pgTIME TIME_STAT_TOD_VALID 1 else t
  t.irq pgTIME 5
/-- Epoch 0 is in progress at a locked hub. -/
def sEpoch : State :=
  w [(pgTIME, TIME_STAT_LOCKED, 1), (pgTIME, TIME_EPOCH_LO_W, 0), (pgTIME, TIME_EPOCH_HI_W, 0)]
/-- A shard table in which node 7 owns points 0 to 15, each of 8 bits. -/
def tab7 : SMap Nat := [(56, 16 * 2 ^ 17 + 2 ^ 30)]
def own1 : OwnEpoch :=
  { epoch := 0, owner := 7, tenure := 0, gen := 0, full := false, entries := [], digest := 0, vals := [] }
/-- A hub that publishes epoch 0. -/
def sPub : State :=
  { (w [(pgLINK, RING_ID_CLAIM, 2), (pgLINK, RING_ID_ID, 7), (pgPWRST, PWRST_STATE_STATE, nsSERVICE)] sEpoch) with
    img := { cur := tab7, own := [own1] } }
/-- A REFRESH payload of node 7: slice 0, 16 values of 0. -/
def refPl : List Byte := beBytes 4 0 ++ beBytes 2 7 ++ beBytes 2 0 ++ beBytes 64 0
def sRef : State := { sEpoch with img := { cur := tab7 } }
def rep1 : RepairReq := { tag := 9, owner := 3, epoch := 0, kind := 0, first := 0, last := 0, dest := 3, sent := true }
/-- A hub that collects the shard of node 5. -/
def sProxy : State :=
  { (w [(pgIMG, IMG_STAT_COLLECTING, 1), (pgTIME, TIME_EPOCH_LO_W, 9), (pgLINK, LINK_STAT_STATE, 3),
      (pgLINK, LINK_STAT_NEIGH_ID, 4)] sEpoch) with img := { cur := [(40, 16 * 2 ^ 17 + 2 ^ 30)] } }
/-- An axis reference with the records of two epochs. -/
def sRefLine : State :=
  { (w [(pgIMG, IMG_COMMIT_EPOCH_LO_W, 1), (pgIMG, IMG_COMMIT_EPOCH_HI_W, 0)]) with
    trk := { ref := [(0, { hist := [(1, 5, 8), (0, 3, 4)], valid := true })] } }
/-- A launch of an operation, due at ring time 8. -/
def launchOf (op : Nat) : LaunchEnt := { time := 8, opword := 0x80 + op }
def sLaunch (op : Nat) : State :=
  (w [(pgTIME, TIME_STAT_LOCKED, 1), (pgLNCH, PAGE_CTRL_EN, 1)]).setLaunch 0 (launchOf op)
/-- Engine 0 runs a TAKE with a word waiting in its claimed lane. -/
def sCogTake : State :=
  (w [(pgCOG, COGe_STAT_STATE, 1), (pgCOG, COGe_STAT_CLAIM_OK, 1), (pgCOG, COG_STOREa_WORD, 0x3 * 2 ^ 20)]).setLane 0
    { tx := [⟨9, true, false⟩] }
def sCogTakeU : State := ((State.passTo sCogTake (State.cogSt sCogTake 0).due).cogPass 0).cogLook 0 5
/-- Engine 0 runs a GIVE to its claimed lane. -/
def sCogGive : State :=
  w [(pgCOG, COGe_STAT_STATE, 1), (pgCOG, COGe_STAT_CLAIM_OK, 1), (pgCOG, COG_STOREa_WORD, 0x4 * 2 ^ 20)]
def sCogGiveU : State := ((State.passTo sCogGive (State.cogSt sCogGive 0).due).cogPass 0).cogLook 0 5
/-- Engine 0 runs a MARK of the time now. -/
def sCogMark : State :=
  w [(pgCOG, COGe_STAT_STATE, 1), (pgCOG, COGe_STAT_CLAIM_OK, 1), (pgCOG, COG_STOREa_WORD, 0x9 * 2 ^ 20)]
def sCogMarkU : State := ((State.passTo sCogMark (State.cogSt sCogMark 0).due).cogPass 0).cogLook 0 5
/-- CAN port 0 receives. -/
def sCan : State := w [(canPg 0, PAGE_CTRL_EN, 1), (canPg 0, CAN_ERR_STATE, 0), (pgPWRST, PWRST_STATE_STEP, 4)]
def canEnt1 : CanEnt :=
  { time := 0, frame := { idw := 5, dlc := 0 }, own := false, locked := false, seq := 0 }
def canTry1 : CanTry := { buf := some 31, frame := { idw := 5, dlc := 0 }, at_ := 0 }
/-- CAN port 0 has buffer 0 to send. -/
def sCanSend : State :=
  State.setCan (w [(canPg 0, PAGE_CTRL_EN, 1), (canPg 0, CAN_ERR_STATE, 0), (pgPWRST, PWRST_STATE_STATE, nsSERVICE)]) 0
    { buf := [(0, { st := 1 })] }
/-- CAN port 0 with a schedule in effect. -/
def sCanSched : State :=
  State.setCan (w [(canPg 0, PAGE_CTRL_EN, 1), (pgTIME, TIME_STAT_LOCKED, 1)]) 0 { sched := 0xD }
def canT : Nat :=
  boundary (match (sCanSched.canSt 0).cycle with | some c => max sCanSched.ringNow (c + 1) | none => sCanSched.ringNow)
    (cycleLen (sCanSched.canSt 0).sched) (schedPhase (sCanSched.canSt 0).sched)
def slotA : Nat := 2 * 2 ^ 22
def slotB : Nat := 0
/-- CAN port 0 in a basic cycle with a FREE slot. -/
def sCanWin : State :=
  State.setCan (w [(canPg 0, PAGE_CTRL_EN, 1), (pgTIME, TIME_STAT_LOCKED, 1), (canPg 0, CAN_SCHED_STAT_RUNNING, 1)]) 0
    { sched := 0xD, cycle := some 4000, slots := [(0, slotA, slotB)] }
/-- The same with an EXCLUSIVE slot. -/
def slotX : Nat := 2 ^ 22
def sCanWinX : State := sCanWin.setCan 0 { sCanWin.canSt 0 with slots := [(0, slotX, slotB)] }
/-- A frame of the zone manager, and CAN port 0 that has it to send. -/
def zoneFr : ZoneFrame := { id := 5, data := beBytes 8 0, kind := 0 }
def sCanZone : State :=
  State.setCan (w [(canPg 0, PAGE_CTRL_EN, 1), (canPg 0, CAN_ERR_STATE, 0), (pgPWRST, PWRST_STATE_STATE, nsSERVICE)]) 0
    { zq := [zoneFr] }
/-- Zone 0 ends ENTERING with a wake latched, and WAKING with a reply. -/
def zoneLatched : State :=
  { (w [(pgZONE, ZONEz_STAT_STATE, zsENTERING), (pgZONE, ZONEz_STAT_WAKE_LATCHED, 1)]) with zone := [(0, { till := some 4 })] }
def zoneReplied : State :=
  { (w [(pgZONE, ZONEz_STAT_STATE, zsWAKING), (pgZONE, ZONEz_REPLIED_REPLIED, 1)]) with zone := [(0, { till := some 4 })] }
/-- Sluice 7 takes commands. -/
def sSlu : State :=
  w [(sluPg 7, PAGE_STAT_READY, 1), (sluPg 7, PAGE_CTRL_EN, 1), (sluPg 7, SLU_CFG_SRC, 1), (pgPWRST, PWRST_STATE_STEP, 7)]
/-- The claim on ID 7 is held. -/
def sHeld7 : State := w [(pgLINK, RING_ID_CLAIM, 2), (pgLINK, RING_ID_ID, 7)]
def sGrant : State := { (w []) with brg := { waiting := [{}] } }
/-- The collection request address of the PCIe port names node 3. -/
def sCreq : State :=
  State.wr (w [(pgBRG, PAGE_STAT_READY, 1), (pgLINK, RING_ID_CLAIM, 2), (pgLINK, RING_ID_ID, 7)]) pgBRG BRG_CREQ_ADDR_HI_ADDR
    (3 * 2 ^ 29 / 2 ^ 32) 0 Initiator.pcie.num |>.wr pgBRG BRG_CREQ_ADDR_LO_ADDR (3 * 2 ^ 29 % 2 ^ 32) 0 Initiator.pcie.num
/-- Start-up has reached step 3, so the QSPI port answers. -/
def sQsh : State := { (w [(pgPWRST, PWRST_STATE_STEP, 3)]) with hkUp := true }
/-- A QSPI frame header of one word with its CRC. -/
def qHdr (op arg : Nat) : List Byte :=
  let h := beBytes 1 (op * 16) ++ beBytes 5 arg ++ beBytes 1 0
  h ++ beBytes 2 (crc16 h)
/-- A configured USB port with a SERVICE_AUTH key in slot 0. -/
def sAuth : State :=
  { (w [(pgUSB, USB_STAT_STATE, 3)]) with keySlot := [(0, { st := 1, usage := usSERVICE_AUTH, key := [1] })] }
/-- A configured and authenticated USB port. -/
def sTun : State := { (w [(pgUSB, USB_STAT_STATE, 3), (pgUSB, USB_STAT_AUTH, 1)]) with hkUp := true }
/-- A tunnel header for four bytes at address 0. -/
def tHdr (op : Nat) : List Byte := beBytes 1 op ++ beBytes 3 0 ++ beBytes 1 4 ++ beBytes 11 0
def flt1 : FltRec :=
  { time := 0, addr := 0, source := pgIMG, kind := 1, cls := 0, action := 0, forced := false, locked := false, isOpen := true,
    kindOr := 1, seq := 9, last := 0, made := 0 }
/-- A twin board's Bedstone. -/
def sBed : State := w [(pgTWIN, PAGE_CTRL_EN, 1), (pgTWIN, TWIN_STAT_ROLE, 2)] { sEpoch with }
/-- A Bedstone that compares line 0, which differs. -/
def sCmp : State :=
  { (w [(pgTWIN, TWIN_STAT_SYNC, 1), (pgTWIN, TWIN_CFG_CMP_EN, 1), (pgTWIN, TWIN_CMPn_LINES, 1), (dioPg 0, PAGE_CTRL_EN, 1),
      (dioPg 0, DIO_LINEj_CFG_DIR, 1), (dioPg 0, DIO_RAW_W, 1)] sBed) with twin := { ckpt := some (0, nsSERVICE, 0, 0) } }
/-- A Bedstone that waits for the Runner's seal of epoch 0. -/
def sSealCk : State := w [(pgTWIN, TWIN_CFG_SEAL_EN, 1)] sBed
/-- A hub in SERVICE with Course 1 loaded, and epoch 9 as the target of a switch. -/
def sSwitch : State :=
  let s : State := { (w [(pgCRS, PAGE_STAT_READY, 1), (pgCRS, PAGE_CTRL_EN, 1), (pgPWRST, PWRST_STATE_STATE, nsSERVICE)] sEpoch) with
    hkUp := true, crs := { course := [(1, beBytes 64 0)] } }
  (s.wr pgCRS CRS_TARGET_LO_W 64 0 Initiator.pcie.num).wr pgCRS CRS_TARGET_HI_W 0 0 Initiator.pcie.num
/-- A hub that takes store commands, with a session. -/
def sStore (x : Option CrsStore) : State := { (w [(pgCRS, PAGE_STAT_READY, 1)]) with hkUp := true, crs := { store := x } }
def storeKey : Nat := 0x3C
/-- An enabled update page. -/
def sUpd : State := { (w [(pgUPD, PAGE_STAT_READY, 1), (pgUPD, PAGE_CTRL_EN, 1)]) with hkUp := true }
/-- An update session that the PCIe port feeds. -/
def updSess1 : UpdSess := { source := 1, slot := 0, header := beBytes 512 0, at_ := 0 }
/-- A distribution of slot A in progress. -/
def sDist : State :=
  { sUpd with upd := { dist := some { slot := 0, session := 1, due := 4 } },
              flash := { slotA := { st := 5, header := beBytes 512 0 } } }
/-- The KEY page takes commands. -/
def keyRoot : Nat := 0xFF
def sKey : State :=
  { (State.wr (w [(pgKEY, PAGE_STAT_READY, 1)]) pgKEY KEY_ARG_USAGE usWRAP 0 Initiator.pcie.num) with hkUp := true }
/-- A transport key lies in slot 3. -/
def sKeyW : State :=
  { sKey.wr pgKEY KEY_ARG_WRAP_SLOT 3 0 Initiator.pcie.num with keySlot := [(3, { st := 1, usage := usWRAP, parent := 0xFF, key := [1] })] }
/-- The wrapping key of slot 3. -/
def wrapK : List Byte := kdf [1] "WRAP" []
def sKeyGen : State := sKey
/-- A link master waits in slot 1 for epoch 99. -/
def sKeyArm : State :=
  { (w [(pgKEY, PAGE_STAT_READY, 1), (pgKEY, KEY_STAT_NEXT_SLOT, 1), (pgKEY, KEY_LINK_AT_LO_EPOCH, 99)] sEpoch) with
    hkUp := true, keySlot := [(1, { st := 1, usage := usLINK_MASTER, key := [1] })] }
/-- A protected port searches the key number of a frame. -/
def sSearch : State :=
  { ((w [(pgKEY, KEY_STAT_LINK_SLOT, 1)]).setProt 0 { search := some (1, 2, frame1) }) with
    keySlot := [(1, { st := 1, usage := usLINK_MASTER, key := [1] })] }

end Sys2Proof.Tests
end

