-- ==== Sys2Proof/WellFormed.lean ====
section
/-!
DEFINITION. Which commands are well formed: every instance number names an instance the hub has, every page is one of the page map
(R41), and every field value fits the field that carries it.
-/
namespace Sys2Proof
open Machine

/-- A number below a bound. -/
def below (n k : Nat) : Bool := decide (n < k)

/-- A page that the hub implements. -/
def isPage (p : Nat) : Bool := (pageKind? p).isSome

/-- Words of the register bus. -/
def areWords (l : List Nat) : Bool := l.all (fun w => below w 0x100000000)

/-- The command is well formed. -/
def wellFormed (i : Instr) : Bool :=
  match i with
  | .registerWrite _ page off value => isPage page && below off 0x1000 && below value 0x100000000
  | .pageEnableWrite page _ => isPage page
  | .softReset page => isPage page
  | .softResetDone page => isPage page
  | .apply page => isPage page
  | .applyCopy page => isPage page
  | .applyAtCommit page => isPage page
  | .lock page => isPage page
  | .intRawClear page value => isPage page && below value 0x100000000
  | .intEnWrite page value => isPage page && below value 0x100000000
  | .intForce page value => isPage page && below value 0x100000000
  | .fltForce page value => isPage page && below value 0x100000000
  | .counterLowRead _ page k => isPage page && below k 24
  | .queuePop page => isPage page
  | .queueOvfClear page => isPage page
  | .refMonitorWindow edges => below edges 0x10000
  | .corePllUnlock => true
  | .phyPllUnlock port => below port 2
  | .phyPllLock port => below port 2
  | .pciePllUnlock => true
  | .pciePllLock => true
  | .powerOnReset => true
  | .porstAssert _ _ => true
  | .porstRelease _ => true
  | .supplyLow rail => below rail 3
  | .supplyOk rail => below rail 3
  | .flashHeaderCheck _ _ _ jedec _ _ _ => below jedec 0x1000000
  | .hkFirmwareRunning => true
  | .foundationApply => true
  | .bootStepLate step => below step 8
  | .pwrstHubReset key => below key 256
  | .pwrstEnterQuiet key => below key 256
  | .pwrstLeaveQuiet key => below key 256
  | .pwrstRecovery key => below key 256
  | .pwrstResetTakeEffect => true
  | .pcsLockGained port txDelay rxDelay asym => below port 2 && below txDelay 0x10000 && below rxDelay 0x10000 && below asym 0x100000000
  | .pcsLockLost port => below port 2
  | .sdLosRise port => below port 2
  | .sdLosFall port => below port 2
  | .helloTx port => below port 2
  | .helloRx => true
  | .helloTimeout port => below port 2
  | .frameRx port f => below port 2 && below f.frac 64
  | .frameTx d => below d.port 2 && below d.frac 64
  | .cellAdmitResume cls => below cls 4
  | .linkRetrain port => below port 2
  | .cableTest port => below port 2
  | .cableTestDone port result dist => below port 2 && below result 6 && below dist 0x10000
  | .clearWorst port => below port 2
  | .sqiUpdate port grade => below port 2 && below grade 8
  | .claimStart => true
  | .idClaimRepeat => true
  | .claimHeld => true
  | .idClaimRx => true
  | .idRefuseRx => true
  | .idRefuseRepeat => true
  | .topoTx => true
  | .topoEventTx => true
  | .topoRx => true
  | .topoExpire => true
  | .positionTimeout => true
  | .ringIdSet _ data => below data 0x100000000
  | .rsqHoldExpiry => true
  | .retryExpiry => true
  | .mirClear => true
  | .pdelayReqTx port => below port 2
  | .pdelayReqRx => true
  | .pdelayRespRx => true
  | .pdelayRespFuRx => true
  | .pdelayTimeout port => below port 2
  | .timeSyncTx => true
  | .timeSyncRx => true
  | .syncRecordTx port => below port 2
  | .syncRecordTimeout port seq => below port 2 && below seq 0x10000
  | .syncDecision seq => below seq 0x10000
  | .timeAnnounceTx => true
  | .timeAnnounceRx => true
  | .gmDrop => true
  | .holdoverEntry => true
  | .holdoverExpiry => true
  | .ppsInEdge => true
  | .ppsMiss => true
  | .ppsHoldover => true
  | .ppsOutRise => true
  | .ppsOutFall => true
  | .timeCapture => true
  | .epochStart => true
  | .changePublish => true
  | .sealTx => true
  | .changeRx => true
  | .sealRx => true
  | .refreshRx => true
  | .shardVerify owner epoch => below owner 2048 && below epoch 0x10000000000000000
  | .repairReqRetry tag => below tag 0x10000
  | .repairReqRx => true
  | .repairServe => true
  | .repairDataRx => true
  | .proxyShardRequest owner => below owner 2048
  | .commitInstant upset => upset.all (fun o => below o 2048)
  | .lateCommit => true
  | .bankCatchupDone => true
  | .pmapCopy => true
  | .pmapValidate => true
  | .pmapValidateDone => true
  | .pmapArm => true
  | .pmapDisarm => true
  | .pmapAdopt gen => below gen 256
  | .pmapStageWrite which value => below which 2 && below value 0x10000000000000000
  | .marginClear => true
  | .pin tag => below tag 256
  | .renew tag => below tag 256
  | .unpin tag => below tag 256
  | .pinLeaseExpiry => true
  | .demandWrite _ index value => below index 0x20000 && below value 0x100000000
  | .bindValidate => true
  | .bindValidateDone => true
  | .clearShadow => true
  | .imageCopyStart ch => below ch 4
  | .imageCopyDone ch => below ch 4
  | .axisQuadCount axis => below axis 16
  | .axisSsiStart axis => below axis 16
  | .ssiReadDone lane _ value _ _ => below lane 64 && below value 0x100000000
  | .axisPreset axis => below axis 16
  | .windowEvaluate => true
  | .trkRead _ => true
  | .trkWrite _ => true
  | .trkDisarm _ => true
  | .armSoft _ => true
  | .lnchInsert _ => true
  | .lnchCancel _ slot => below slot 4096
  | .flushTarget _ => true
  | .launchStage => true
  | .doSet => true
  | .doClear => true
  | .doPulse => true
  | .pulseEnd line => below line 256
  | .laneStart => true
  | .cogStart => true
  | .pointWrite => true
  | .canInject => true
  | .dioFilteredChange line _ => below line 256
  | .dioEdge line => below line 256
  | .chatterWindow page => below page 8
  | .chatterEnd line => below line 256
  | .dioStuck line => below line 256
  | .rbFail line => below line 256
  | .dioOutSet page value => below page 8 && below value 0x100000000
  | .dioOutClr page value => below page 8 && below value 0x100000000
  | .dioOutHostWrite page value => below page 8 && below value 0x100000000
  | .dioCntClr page value => below page 8 && below value 0x100000000
  | .laneTxd _ lane data => below lane 64 && below data 0x100000000
  | .laneTxdEnd _ lane data => below lane 64 && below data 0x100000000
  | .txFifoRoom lane => below lane 64
  | .localWriteExpired lane => below lane 65
  | .laneRxPop _ lane _ _ => below lane 64
  | .rxFlush lane => below lane 64
  | .txFlush lane => below lane 64
  | .rxDropRest lane => below lane 64
  | .txDropHead lane => below lane 64
  | .ssiRead lane => below lane 64
  | .iolWurq lane => below lane 64
  | .iolWurqEnd lane => below lane 64
  | .laneFrameStart lane => below lane 64
  | .laneFrameDone lane _ => below lane 64
  | .laneRxChar lane data _ _ _ _ => below lane 64 && below data 0x100000000
  | .lanePacketEnd lane => below lane 64
  | .i2cStretchTimeout lane => below lane 64
  | .iolNoResponse lane => below lane 64
  | .moverStart mover => below mover 48
  | .moverStop mover => below mover 48
  | .moverBurst mover _ _ => below mover 48
  | .moverBackoffEnd mover => below mover 48
  | .cogCmdStart page mask => below page 8 && below mask 16
  | .cogCmdStop page mask => below page 8 && below mask 16
  | .cogCmdResume page mask => below page 8 && below mask 16
  | .cogDrive e _ levels => below e 32 && below levels 16
  | .cogSample e _ levels => below e 32 && below levels 16
  | .cogEmit e _ levels => below e 32 && below levels 16
  | .cogTake e _ levels _ => below e 32 && below levels 16
  | .cogGive e _ levels => below e 32 && below levels 16
  | .cogAwait e _ levels => below e 32 && below levels 16
  | .cogLoop e _ levels => below e 32 && below levels 16
  | .cogBranch e _ levels => below e 32 && below levels 16
  | .cogLoad e _ levels => below e 32 && below levels 16
  | .cogMark e _ levels => below e 32 && below levels 16
  | .cogSignal e _ levels => below e 32 && below levels 16
  | .cogWaitDone e levels _ => below e 32 && below levels 16
  | .awaitTimeout e => below e 32
  | .cogStoreWrite page addr value => below page 8 && below addr 64 && below value 0x100000000
  | .cogTokenGive page value => below page 8 && below value 0x100000000
  | .cogTokenClr page value => below page 8 && below value 0x100000000
  | .cogClaimWrite e value => below e 32 && below value 0x100000000
  | .cogCfgWrite e value => below e 32 && below value 0x100000000
  | .canFrameRx port idw dlc _ _ _ _ _ _ => below port 8 && below idw 0x100000000 && below dlc 16
  | .canRxPop _ port => below port 8
  | .canRequest _ port buf => below port 8 && below buf 32
  | .canCancel _ port buf => below port 8 && below buf 32
  | .canRelease _ port buf => below port 8 && below buf 32
  | .canAttemptStart port => below port 8
  | .canAttemptEnd port outcome lec _ _ => below port 8 && below outcome 3 && below lec 8
  | .canBusoffRecovered port => below port 8
  | .canIntegrated port => below port 8
  | .canCycleStart port => below port 8
  | .canWindowStart port slot => below port 8 && below slot 64
  | .canWindowEnd port => below port 8
  | .canDetectStart port => below port 8
  | .canDetectDwell port _ => below port 8
  | .zoneSleep _ zone => below zone 8
  | .zoneWake _ zone => below zone 8
  | .zoneAgreeTimeout zone => below zone 8
  | .zoneEnterDone zone => below zone 8
  | .zoneLineWake zone => below zone 8
  | .zoneBusWake zone => below zone 8
  | .zoneWakePulseEnd zone => below zone 8
  | .zoneWakeRspTimeout zone => below zone 8
  | .vinUndervolt => true
  | .vinOvervolt => true
  | .vinOvRecover => true
  | .pwdThermal => true
  | .pwdThermalClear => true
  | .sluLimitEntry sluice => below sluice 8
  | .sluShortTrip sluice => below sluice 8
  | .sluTimerTrip sluice => below sluice 8
  | .sluRampDone sluice => below sluice 8
  | .sluRampTimeout sluice => below sluice 8
  | .sluPgQualify sluice => below sluice 8
  | .sluRetry sluice => below sluice 8
  | .sluRetryCountClear sluice => below sluice 8
  | .sluOn sluice => below sluice 8
  | .sluOff sluice => below sluice 8
  | .sluClear sluice => below sluice 8
  | .slu0StartupRamp => true
  | .powerCycle offTime key => below offTime 256 && below key 256
  | .powerCycleRamp => true
  | .clearMin => true
  | .sluFetShortDetect sluice => below sluice 8
  | .sluFetShortClear sluice => below sluice 8
  | .dieLinkSilence => true
  | .dieLinkResumed => true
  | .pfwAssert pin => below pin 2
  | .pfwDeassert pin => below pin 2
  | .tamperAlarm => true
  | .pwdTelemetrySample vin _ vout sense => below vin 0x10000 && areWords vout && areWords sense
  | .brgWriteIssue _ node addr words => below node 2048 && below addr 0x20000000 && areWords words
  | .brgWriteRx => true
  | .brgReadIssue _ node addr len => below node 2048 && below addr 0x20000000 && below len 257
  | .readContextGrant => true
  | .brgReadRx => true
  | .brgReadRespRx => true
  | .brgReadTimeout rid => below rid 24
  | .brgWaitExpired => true
  | .brgPostedErrRx => true
  | .prefetchExpiry => true
  | .collectRequest _ len => below len 257
  | .slotCollect slot => below slot 16
  | .slotDiscard slot => below slot 16
  | .multicastSend _ => true
  | .pcieRequest bar _ _ off len data => [0, 2, 4].contains bar && below off (if bar == 2 then 0x40000000 else if bar == 4 then 0x4000 else 0x20000000) && below len 4097 && areWords data
  | .pcieConfigWrite _ _ _ _ _ => true
  | .msixUnmask vector addr data _ => below vector 32 && below addr 0x10000000000000000 && below data 0x100000000
  | .pcieLinkDown => true
  | .pcieHotReset => true
  | .qshRead hdr => hdr.length == 9
  | .qshWrite hdr _ dcrc => hdr.length == 9 && below dcrc 0x10000
  | .qshTicket hdr => hdr.length == 9
  | .qshCollect hdr => hdr.length == 9
  | .qshCsRise _ => true
  | .usbStandardRequest recipient request value index length => below recipient 128 && below request 256 && below value 0x10000 && below index 0x10000 && below length 0x10000
  | .usbEndpointHalt ep => below ep 256
  | .usbHaltClear ep => below ep 256
  | .getInfo length => below length 0x10000
  | .authChallenge length => below length 0x10000
  | .authResponse tag => tag.length == 16
  | .usbRegRead addr length => below addr 0x20000000 && below length 0x10000
  | .usbRegWrite addr words => below addr 0x20000000 && areWords words
  | .getLastStatus length => below length 0x10000
  | .getWakeReason length => below length 0x10000
  | .deauth length => below length 0x10000
  | .tunnelRead hdr _ => hdr.length == 16
  | .tunnelWrite hdr _ _ => hdr.length == 16
  | .usbBusReset _ _ => true
  | .usbSuspend => true
  | .usbResume => true
  | .usbRemoteWake seen => below seen 3
  | .usbVbusRise => true
  | .usbVbusFall => true
  | .usbLockoutEnd => true
  | .faultMessage source kind _ addr word _ victim => below source 1024 && below kind 64 && below addr 0x10000000000 && below word 0x10000000 && below victim 0x10000
  | .fatalHubReset => true
  | .faultRecordClose seq => below seq 0x100000000
  | .healthCeExpiry page => isPage page
  | .hkHeartbeat => true
  | .heartbeatLoss => true
  | .clackToggle => true
  | .clackGraceExpiry => true
  | .fltLastfatalClr => true
  | .hkRestart kind => below kind 64
  | .twinLateRunner => true
  | .twinPeerRise _ => true
  | .journalRx => true
  | .fullCheckpointTx => true
  | .compareMismatch line => below line 256
  | .sealCheck => true
  | .twinTakeover => true
  | .twinFirstDrive => true
  | .twinTakeoverDone => true
  | .twinStandoff => true
  | .twinSwitch key => below key 256
  | .twinResync key => below key 256
  | .twinRejoin key => below key 256
  | .scrubStep m word _ _ victim => below m 12 && below word 0x10000000 && below victim 0x10000
  | .calibration quantity i _ _ _ => below quantity 4 && below i 8
  | .calRunNow => true
  | .calDone => true
  | .flashOpDone region sector op _ => below region 5 && below sector 0x1000 && below op 3
  | .ledgerWrite => true
  | .logicTelemetrySample _ _ _ _ vddio => areWords vddio
  | .crsSwitch _ course key => below course 16 && below key 256
  | .courseSwitchRepeat => true
  | .courseSwitchRx => true
  | .courseQueryTx => true
  | .crsStoreOpen _ image key => below image 16 && below key 256
  | .crsStoreData _ data => below data 0x100000000
  | .crsStoreCommit _ key => below key 256
  | .crsStoreDone => true
  | .crsStoreAbort _ key => below key 256
  | .crsStoreTimeout => true
  | .updOpen _ => true
  | .updAbort _ => true
  | .updPrepare _ => true
  | .updActivate _ slot key => below slot 2 && below key 256
  | .updConfirm _ => true
  | .updDistribute _ => true
  | .updDataWrite _ data => below data 0x100000000
  | .updUsbData _ _ => true
  | .updDataRx => true
  | .updDistCellTx => true
  | .updEraseDone => true
  | .updSessionTimeout src => below src 9
  | .updAutoConfirm => true
  | .updRunTimeout => true
  | .installClear _ slot parent key => below slot 32 && below parent 256 && below key 256
  | .installWrapped _ slot parent key => below slot 32 && below parent 256 && below key 256
  | .generate _ slot parent key => below slot 32 && below parent 256 && below key 256
  | .destroy _ slot key _ => below slot 32 && below key 256
  | .linkArm _ key => below key 256
  | .linkDisarm _ key => below key 256
  | .keyOpDone => true
  | .keyLoad => true
  | .saRekey port => below port 2
  | .pairRecordWrite port => below port 2
  | .keySearch port => below port 2
  | .noVerifyTimeout port => below port 2
  | .plumbSnap _ _ _ scope tag => below scope 16 && below tag 256
  | .plumbRelease _ tag => below tag 256
  | .plumbPartSelect _ part tag => below part 256 && below tag 256
  | .plumbSnapshot => true
  | .plumbLatchTimeout page => isPage page
  | .plumbReady => true
  | .plumbPartReady => true
  | .plumbHoldExpiry => true
  | .obsMark data => below data 0x100000000
  | .traceClear => true
  | .extest _ _ => true
  | .samplePreload _ _ => true
  | .bypass code _ => below code 16
  | .pcieLinkUp speed width => below speed 4 && below width 4
  | .canErrorDetected port lec _ => below port 8 && below lec 8
  | .vddioBankChange bank _ _ => below bank 36
  | .sluLimitExit sluice => below sluice 8
  | .voutBelowPgFloor sluice => below sluice 8
  | .extrapMaxExpiry ref => below ref 32
  | .entropyHealthFail => true

end Sys2Proof
end

