-- ==== Sys2Proof/Tests/Slice0.lean ====
section
/-!
SUPPORT. Tests of the model: for every check of `wellFormed` a command that it refuses; the numbers that the spec works out in its
examples; and single steps.  The theorems are elaborated one after another, which keeps the compile within its memory limit.
-/
set_option Elab.async false

namespace Sys2Proof.Tests
open Sys2Proof Sys2Proof.Machine

/-! ## Well-formedness -/

/-- Commands of which each breaks one check of `wellFormed` by the least value that the check refuses. -/
theorem test_wf_refuses_1 : ([
    .registerWrite .hk 0x0C0 0 0, .registerWrite .hk 9 0x1000 0, .registerWrite .hk 9 0 0x100000000,
    .pageEnableWrite 0x0C0 false, .softReset 0x0C0, .softResetDone 0x0C0, .apply 0x0C0, .applyCopy 0x0C0,
    .applyAtCommit 0x0C0, .lock 0x0C0, .intRawClear 0x0C0 0, .intRawClear 9 0x100000000, .intEnWrite 0x0C0 0,
    .intEnWrite 9 0x100000000, .intForce 0x0C0 0, .intForce 9 0x100000000, .fltForce 0x0C0 0, .fltForce 9 0x100000000,
    .counterLowRead .hk 0x0C0 0, .counterLowRead .hk 9 24, .queuePop 0x0C0, .queueOvfClear 0x0C0,
    .refMonitorWindow 0x10000, .phyPllUnlock 2, .phyPllLock 2, .supplyLow 3, .supplyOk 3,
    .flashHeaderCheck none false false 0x1000000 0 false 0, .bootStepLate 8, .pwrstHubReset 256, .pwrstEnterQuiet 256,
    .pwrstLeaveQuiet 256, .pwrstRecovery 256, .pcsLockGained 2 0 0 0, .pcsLockGained 0 0x10000 0 0,
    .pcsLockGained 0 0 0x10000 0, .pcsLockGained 0 0 0 0x100000000, .pcsLockLost 2, .sdLosRise 2, .sdLosFall 2,
    .helloTx 2, .helloTimeout 2, .frameRx 2 frame1, .frameRx 0 { frame1 with frac := 64 }, .frameTx ⟨2, 0⟩, .frameTx ⟨0, 64⟩, .cellAdmitResume 4, .linkRetrain 2, .cableTest 2,
    .cableTestDone 2 0 0, .cableTestDone 0 6 0, .cableTestDone 0 0 0x10000, .clearWorst 2, .sqiUpdate 2 0,
    .sqiUpdate 0 8, .ringIdSet .hk 0x100000000, .pdelayReqTx 2, .pdelayTimeout 2, .syncRecordTx 2,
    .syncRecordTimeout 2 0, .syncRecordTimeout 0 0x10000, .syncDecision 0x10000] : List Instr).all (fun i => !wellFormed i) = true := by
  decide +kernel

/-- Commands of which each breaks one check of `wellFormed` by the least value that the check refuses. -/
theorem test_wf_refuses_2 : ([
    .shardVerify 2048 0, .shardVerify 0 0x10000000000000000, .repairReqRetry 0x10000, .proxyShardRequest 2048,
    .commitInstant [2048], .pmapAdopt 256, .pmapStageWrite 2 0, .pmapStageWrite 0 0x10000000000000000, .pin 256,
    .renew 256, .unpin 256, .demandWrite .hk 0x20000 0, .demandWrite .hk 0 0x100000000, .imageCopyStart 4,
    .imageCopyDone 4, .axisQuadCount 16, .axisSsiStart 16, .ssiReadDone 64 false 0 false false,
    .ssiReadDone 0 false 0x100000000 false false, .axisPreset 16, .lnchCancel .hk 4096, .pulseEnd 256,
    .dioFilteredChange 256 ⟨false, true⟩, .dioEdge 256, .chatterWindow 8, .chatterEnd 256, .dioStuck 256, .rbFail 256,
    .dioOutSet 8 0, .dioOutSet 0 0x100000000, .dioOutClr 8 0, .dioOutClr 0 0x100000000, .dioOutHostWrite 8 0,
    .dioOutHostWrite 0 0x100000000, .dioCntClr 8 0, .dioCntClr 0 0x100000000, .laneTxd .hk 64 0,
    .laneTxd .hk 0 0x100000000, .laneTxdEnd .hk 64 0, .laneTxdEnd .hk 0 0x100000000, .txFifoRoom 64,
    .localWriteExpired 65, .laneRxPop .hk 64 false false, .rxFlush 64, .txFlush 64, .rxDropRest 64, .txDropHead 64,
    .ssiRead 64, .iolWurq 64, .iolWurqEnd 64, .laneFrameStart 64, .laneFrameDone 64 false,
    .laneRxChar 64 0 false false false false, .laneRxChar 0 0x100000000 false false false false, .lanePacketEnd 64,
    .i2cStretchTimeout 64, .iolNoResponse 64, .moverStart 48, .moverStop 48, .moverBurst 48 [] false] : List Instr).all (fun i => !wellFormed i) = true := by
  decide +kernel

/-- Commands of which each breaks one check of `wellFormed` by the least value that the check refuses. -/
theorem test_wf_refuses_3 : ([
    .moverBackoffEnd 48, .cogCmdStart 8 0, .cogCmdStart 0 16, .cogCmdStop 8 0, .cogCmdStop 0 16, .cogCmdResume 8 0,
    .cogCmdResume 0 16, .cogDrive 32 false 0, .cogDrive 0 false 16, .cogSample 32 false 0, .cogSample 0 false 16,
    .cogEmit 32 false 0, .cogEmit 0 false 16, .cogTake 32 false 0 false, .cogTake 0 false 16 false,
    .cogGive 32 false 0, .cogGive 0 false 16, .cogAwait 32 false 0, .cogAwait 0 false 16, .cogLoop 32 false 0,
    .cogLoop 0 false 16, .cogBranch 32 false 0, .cogBranch 0 false 16, .cogLoad 32 false 0, .cogLoad 0 false 16,
    .cogMark 32 false 0, .cogMark 0 false 16, .cogSignal 32 false 0, .cogSignal 0 false 16, .cogWaitDone 32 0 false,
    .cogWaitDone 0 16 false, .awaitTimeout 32, .cogStoreWrite 8 0 0, .cogStoreWrite 0 64 0,
    .cogStoreWrite 0 0 0x100000000, .cogTokenGive 8 0, .cogTokenGive 0 0x100000000, .cogTokenClr 8 0,
    .cogTokenClr 0 0x100000000, .cogClaimWrite 32 0, .cogClaimWrite 0 0x100000000, .cogCfgWrite 32 0,
    .cogCfgWrite 0 0x100000000, .canFrameRx 8 0 0 false false [] 0 false 0,
    .canFrameRx 0 0x100000000 0 false false [] 0 false 0, .canFrameRx 0 0 16 false false [] 0 false 0,
    .canRxPop .hk 8, .canRequest .hk 8 0, .canRequest .hk 0 32, .canCancel .hk 8 0, .canCancel .hk 0 32,
    .canRelease .hk 8 0, .canRelease .hk 0 32, .canAttemptStart 8, .canAttemptEnd 8 0 0 false false,
    .canAttemptEnd 0 3 0 false false, .canAttemptEnd 0 0 8 false false, .canBusoffRecovered 8, .canIntegrated 8,
    .canCycleStart 8] : List Instr).all (fun i => !wellFormed i) = true := by
  decide +kernel

/-- Commands of which each breaks one check of `wellFormed` by the least value that the check refuses. -/
theorem test_wf_refuses_4 : ([
    .canWindowStart 8 0, .canWindowStart 0 64, .canWindowEnd 8, .canDetectStart 8, .canDetectDwell 8 0,
    .zoneSleep .hk 8, .zoneWake .hk 8, .zoneAgreeTimeout 8, .zoneEnterDone 8, .zoneLineWake 8, .zoneBusWake 8,
    .zoneWakePulseEnd 8, .zoneWakeRspTimeout 8, .sluLimitEntry 8, .sluShortTrip 8, .sluTimerTrip 8, .sluRampDone 8,
    .sluRampTimeout 8, .sluPgQualify 8, .sluRetry 8, .sluRetryCountClear 8, .sluOn 8, .sluOff 8, .sluClear 8,
    .powerCycle 256 0, .powerCycle 0 256, .sluFetShortDetect 8, .sluFetShortClear 8, .pfwAssert 2, .pfwDeassert 2,
    .pwdTelemetrySample 0x10000 0 [] [], .pwdTelemetrySample 0 0 [0x100000000] [],
    .pwdTelemetrySample 0 0 [] [0x100000000], .brgWriteIssue .hk 2048 0 [], .brgWriteIssue .hk 0 0x20000000 [],
    .brgWriteIssue .hk 0 0 [0x100000000], .brgReadIssue .hk 2048 0 0, .brgReadIssue .hk 0 0x20000000 0,
    .brgReadIssue .hk 0 0 257, .brgReadTimeout 24, .collectRequest .hk 257, .slotCollect 16, .slotDiscard 16,
    .pcieRequest 0 false false 0x20000000 0 [], .pcieRequest 0 false false 0 4097 [],
    .pcieRequest 0 false false 0 0 [0x100000000], .pcieRequest 1 false false 0 0 [], .pcieRequest 4 false false 0x4000 0 [],
    .pcieRequest 2 false false 0x40000000 0 [], .msixUnmask 32 0 0 false,
    .msixUnmask 0 0x10000000000000000 0 false, .msixUnmask 0 0 0x100000000 false, .qshRead [], .qshWrite [] [] 0,
    .qshWrite (List.replicate 9 0) [] 0x10000, .qshTicket [], .qshCollect [], .usbStandardRequest 128 0 0 0 0,
    .usbStandardRequest 0 256 0 0 0, .usbStandardRequest 0 0 0x10000 0 0, .usbStandardRequest 0 0 0 0x10000 0,
    .usbStandardRequest 0 0 0 0 0x10000, .usbEndpointHalt 256] : List Instr).all (fun i => !wellFormed i) = true := by
  decide +kernel

/-- Commands of which each breaks one check of `wellFormed` by the least value that the check refuses. -/
theorem test_wf_refuses_5 : ([
    .usbHaltClear 256, .getInfo 0x10000, .authChallenge 0x10000, .authResponse [], .usbRegRead 0x20000000 0,
    .usbRegRead 0 0x10000, .usbRegWrite 0x20000000 [], .usbRegWrite 0 [0x100000000], .getLastStatus 0x10000,
    .getWakeReason 0x10000, .deauth 0x10000, .tunnelRead [] false, .tunnelWrite [] [] false, .usbRemoteWake 3,
    .faultMessage 1024 0 false 0 0 false 0, .faultMessage 0 64 false 0 0 false 0,
    .faultRecordClose 0x100000000, .faultMessage 0 0 false 0x10000000000 0 false 0, .compareMismatch 256,
    .faultMessage 0 0 false 0 0x10000000 false 0, .twinSwitch 256, .faultMessage 0 0 false 0 0 false 0x10000, .healthCeExpiry 0x0C0, .hkRestart 64,
    .twinResync 256, .twinRejoin 256, .scrubStep 12 0 0 false 0,
    .scrubStep 0 0x10000000 0 false 0, .scrubStep 0 0 0 false 0x10000, .calibration 4 0 false false 0,
    .calibration 0 8 false false 0, .flashOpDone 5 0 0 false, .flashOpDone 0 0x1000 0 false, .flashOpDone 0 0 3 false,
    .logicTelemetrySample 0 0 0 0 [0x100000000], .crsSwitch .hk 16 0, .crsSwitch .hk 0 256, .crsStoreOpen .hk 16 0,
    .crsStoreOpen .hk 0 256, .crsStoreData .hk 0x100000000, .crsStoreCommit .hk 256, .crsStoreAbort .hk 256,
    .updActivate .hk 2 0, .updActivate .hk 0 256, .updDataWrite .hk 0x100000000, .updSessionTimeout 9,
    .installClear .hk 32 0 0, .installClear .hk 0 256 0, .installClear .hk 0 0 256, .installWrapped .hk 32 0 0,
    .destroy .hk 32 0 false, .installWrapped .hk 0 256 0, .installWrapped .hk 0 0 256, .destroy .hk 0 256 false,
    .generate .hk 32 0 0, .linkArm .hk 256, .generate .hk 0 256 0, .generate .hk 0 0 256, .linkDisarm .hk 256,
    .saRekey 2] : List Instr).all (fun i => !wellFormed i) = true := by
  decide +kernel

/-- Commands of which each breaks one check of `wellFormed` by the least value that the check refuses. -/
theorem test_wf_refuses_6 : ([
    .pairRecordWrite 2, .keySearch 2, .noVerifyTimeout 2, .plumbSnap .hk false false 16 0,
    .plumbSnap .hk false false 0 256, .plumbRelease .hk 256, .plumbPartSelect .hk 256 0, .plumbPartSelect .hk 0 256,
    .plumbLatchTimeout 0x0C0, .obsMark 0x100000000, .bypass 16 [], .pcieLinkUp 4 0, .pcieLinkUp 0 4,
    .canErrorDetected 8 0 false, .canErrorDetected 0 8 false, .vddioBankChange 36 false false, .sluLimitExit 8,
    .voutBelowPgFloor 8, .extrapMaxExpiry 32] : List Instr).all (fun i => !wellFormed i) = true := by
  decide +kernel

/-- The same commands with every operand in range. -/
theorem test_wf_accepts_1 : ([
    .registerWrite .hk 9 0 0, .pageEnableWrite 9 false, .softReset 9, .softResetDone 9, .apply 9, .applyCopy 9,
    .applyAtCommit 9, .lock 9, .intRawClear 9 0, .intEnWrite 9 0, .intForce 9 0, .fltForce 9 0,
    .counterLowRead .hk 9 0, .queuePop 9, .queueOvfClear 9, .refMonitorWindow 0, .phyPllUnlock 0, .phyPllLock 0,
    .supplyLow 0, .supplyOk 0, .flashHeaderCheck none false false 0 0 false 0, .bootStepLate 0, .pwrstHubReset 0,
    .pwrstEnterQuiet 0, .pwrstLeaveQuiet 0, .pwrstRecovery 0, .pcsLockGained 0 0 0 0, .pcsLockLost 0, .sdLosRise 0,
    .sdLosFall 0, .helloTx 0, .helloTimeout 0, .frameRx 0 frame1, .frameTx ⟨0, 0⟩, .cellAdmitResume 0, .linkRetrain 0,
    .cableTest 0, .cableTestDone 0 0 0, .clearWorst 0, .sqiUpdate 0 0, .ringIdSet .hk 0, .pdelayReqTx 0,
    .pdelayTimeout 0, .syncRecordTx 0, .syncRecordTimeout 0 0, .syncDecision 0, .shardVerify 0 0, .repairReqRetry 0,
    .proxyShardRequest 0, .commitInstant [], .pmapAdopt 0, .pmapStageWrite 0 0, .pin 0, .renew 0, .unpin 0,
    .demandWrite .hk 0 0, .imageCopyStart 0, .imageCopyDone 0, .axisQuadCount 0, .axisSsiStart 0,
    .ssiReadDone 0 false 0 false false, .axisPreset 0, .lnchCancel .hk 0, .pulseEnd 0, .dioFilteredChange 0 ⟨false, false⟩,
    .dioEdge 0, .chatterWindow 0, .chatterEnd 0, .dioStuck 0, .rbFail 0, .dioOutSet 0 0, .dioOutClr 0 0,
    .dioOutHostWrite 0 0, .dioCntClr 0 0, .laneTxd .hk 0 0, .laneTxdEnd .hk 0 0, .txFifoRoom 0, .localWriteExpired 0,
    .laneRxPop .hk 0 false false, .rxFlush 0] : List Instr).all wellFormed = true := by
  decide +kernel

/-- The same commands with every operand in range. -/
theorem test_wf_accepts_2 : ([
    .txFlush 0, .rxDropRest 0, .txDropHead 0, .ssiRead 0, .iolWurq 0, .iolWurqEnd 0, .laneFrameStart 0,
    .laneFrameDone 0 false, .laneRxChar 0 0 false false false false, .lanePacketEnd 0, .i2cStretchTimeout 0,
    .iolNoResponse 0, .moverStart 0, .moverStop 0, .moverBurst 0 [] false, .moverBackoffEnd 0, .cogCmdStart 0 0,
    .cogCmdStop 0 0, .cogCmdResume 0 0, .cogDrive 0 false 0, .cogSample 0 false 0, .cogEmit 0 false 0,
    .cogTake 0 false 0 false, .cogGive 0 false 0, .cogAwait 0 false 0, .cogLoop 0 false 0, .cogBranch 0 false 0,
    .cogLoad 0 false 0, .cogMark 0 false 0, .cogSignal 0 false 0, .cogWaitDone 0 0 false, .awaitTimeout 0,
    .cogStoreWrite 0 0 0, .cogTokenGive 0 0, .cogTokenClr 0 0, .cogClaimWrite 0 0, .cogCfgWrite 0 0,
    .canFrameRx 0 0 0 false false [] 0 false 0, .canRxPop .hk 0, .canRequest .hk 0 0, .canCancel .hk 0 0,
    .canRelease .hk 0 0, .canAttemptStart 0, .canAttemptEnd 0 0 0 false false, .canBusoffRecovered 0,
    .canIntegrated 0, .canCycleStart 0, .canWindowStart 0 0, .canWindowEnd 0, .canDetectStart 0, .canDetectDwell 0 0,
    .zoneSleep .hk 0, .zoneWake .hk 0, .zoneAgreeTimeout 0, .zoneEnterDone 0, .zoneLineWake 0, .zoneBusWake 0,
    .zoneWakePulseEnd 0, .zoneWakeRspTimeout 0, .sluLimitEntry 0, .sluShortTrip 0, .sluTimerTrip 0, .sluRampDone 0,
    .sluRampTimeout 0, .sluPgQualify 0, .sluRetry 0, .sluRetryCountClear 0, .sluOn 0, .sluOff 0, .sluClear 0,
    .powerCycle 0 0, .sluFetShortDetect 0, .sluFetShortClear 0, .pfwAssert 0, .pfwDeassert 0,
    .pwdTelemetrySample 0 0 [] [], .brgWriteIssue .hk 0 0 [], .brgReadIssue .hk 0 0 0, .brgReadTimeout 0,
    .collectRequest .hk 0] : List Instr).all wellFormed = true := by
  decide +kernel

/-- The same commands with every operand in range. -/
theorem test_wf_accepts_3 : ([
    .slotCollect 0, .slotDiscard 0, .pcieRequest 0 false false 0 0 [], .msixUnmask 0 0 0 false,
    .qshRead (List.replicate 9 0), .qshWrite (List.replicate 9 0) [] 0, .qshTicket (List.replicate 9 0),
    .qshCollect (List.replicate 9 0), .usbStandardRequest 0 0 0 0 0, .usbEndpointHalt 0, .usbHaltClear 0, .getInfo 0,
    .authChallenge 0, .authResponse (List.replicate 16 0), .usbRegRead 0 0, .usbRegWrite 0 [], .getLastStatus 0,
    .getWakeReason 0, .deauth 0, .tunnelRead (List.replicate 16 0) false, .tunnelWrite (List.replicate 16 0) [] false,
    .usbRemoteWake 0, .faultMessage 0 0 false 0 0 false 0, .faultRecordClose 0, .healthCeExpiry 9, .hkRestart 0,
    .compareMismatch 0, .twinSwitch 0, .twinResync 0, .twinRejoin 0, .scrubStep 0 0 0 false 0,
    .calibration 0 0 false false 0, .flashOpDone 0 0 0 false, .logicTelemetrySample 0 0 0 0 [], .crsSwitch .hk 0 0,
    .crsStoreOpen .hk 0 0, .crsStoreData .hk 0, .crsStoreCommit .hk 0, .crsStoreAbort .hk 0, .updActivate .hk 0 0,
    .updDataWrite .hk 0, .updSessionTimeout 0, .installClear .hk 0 0 0, .installWrapped .hk 0 0 0,
    .generate .hk 0 0 0, .destroy .hk 0 0 false, .linkArm .hk 0, .linkDisarm .hk 0, .saRekey 0, .pairRecordWrite 0,
    .keySearch 0, .noVerifyTimeout 0, .plumbSnap .hk false false 0 0, .plumbRelease .hk 0, .plumbPartSelect .hk 0 0,
    .plumbLatchTimeout 9, .obsMark 0, .bypass 0 [], .pcieLinkUp 0 0, .canErrorDetected 0 0 false,
    .vddioBankChange 0 false false, .sluLimitExit 0, .voutBelowPgFloor 0, .extrapMaxExpiry 0] : List Instr).all wellFormed = true := by
  decide +kernel

/-! ## Numbers the spec gives -/

/-- R115: the CRC-32C of the ASCII bytes "123456789". -/
theorem test_crc32c_check_value : crc32c ((List.range 9).map (fun k => BitVec.ofNat 8 (0x31 + k))) = 0xE3069283 := by
  decide +kernel

/-- The TOPO cell of the example under R128 in 04_races_and_links.md, leaving node 411: its 16 header bytes. -/
theorem test_topo_cell_header :
    (({ typ := tTOPO, race := 1, dkind := 2, mapgen := 7, src := 412, seq := 0x12A40, origin := 0x5D2F8A00,
        payload := beBytes 20 0 } : Cell).header 1).map (·.toNat)
      = [0x70, 0xC0, 0x00, 0x07, 0x33, 0x80, 0x04, 0x28, 0x00, 0x01, 0x2A, 0x40, 0x5D, 0x2F, 0x8A, 0x00] := by
  decide +kernel

/-- 02_ashlar_pages.md under R41: LANE12's PAGE_ID is at 0x0004_C000 and reads 0x0400_C100. -/
theorem test_lane12_page_id : (({} : State).viewWord (0x4C000 / 0x1000) 0 0) = 0x0400C100 := by decide +kernel

/-- 09_tracking_launch.md under R318: PAGE_CAPS of the AXIS page reads 0x0000_0410. -/
theorem test_axis_page_caps : (({} : State).viewWord 0x1C 4 0) = 0x410 := by decide +kernel

/-- The example of 13_can_and_zone_sleep.md: CAN_SLOT0_A 0x0544_012C and CAN_SLOT0_B 0x0000_0041 name START 0x012C (300 µs), a
window of 40 µs, buffer 4, EXCLUSIVE; of a matrix of 8 the entry applies to count 3 and not to count 2. -/
theorem test_can_slot_words :
    slotStart 0x0544012C = 300000 ∧ slotWin 0x0544012C = 40000 ∧ slotBuf 0x0544012C = 4 ∧ slotKind 0x0544012C = 1
      ∧ slotApplies 0x41 (500002 % 8) = false ∧ slotApplies 0x41 3 = true := by decide +kernel

/-- The example of 09_tracking_launch.md: OPWORD 0x00C8_6406 is POINT_WRITE on point 51,300, and 0x0000_2803 is DO_PULSE on DL40. -/
theorem test_opwords :
    opOf 0x00C86406 = opPOINT_WRITE ∧ opTarget 0x00C86406 = 51300 ∧ opOf 0x2803 = opDO_PULSE ∧ opTarget 0x2803 = 40 := by
  decide +kernel

/-- The example of 09_tracking_launch.md: WCTL 0x0114_10F8 is a position window with REARM on reference 0, armed by POINT_CHG, hit
by DIO_EDGE, in pool 1; with BASE 1,000,000 counts its open and close stand at 1,022,200 and 1,022,600 counts. -/
theorem test_window_words :
    let x : Win := { ctl := 0x011410F8, openOff := 0x0056B800, closeOff := 0x00584800, base := 0x0F424000 }
    x.isPos = true ∧ x.rearm = true ∧ x.axsel = 16 ∧ x.armKind = 4 ∧ x.hitKind = 1 ∧ x.pool = 1
      ∧ x.openC = 1022200 * 256 % 2 ^ 32 ∧ x.closeC = 1022600 * 256 % 2 ^ 32 := by decide +kernel

/-- The example of 09_tracking_launch.md: AXIS_REF0_A 0x8006_C860 names point 51,296, SPAN 4 (SPAN code 3) and EN. -/
theorem test_axis_ref_word :
    AXIS_REFr_A_POINT.of 0x8006C860 = 51296 ∧ AXIS_REFr_A_SPAN.of 0x8006C860 = 3 ∧ AXIS_REFr_A_EN.of 0x8006C860 = 1 := by
  decide +kernel

/-- R722: of two values equally near the lower is meant, and a value below 0 is none. -/
theorem test_nearest_value :
    nearest 8 0x10 0x190 = 0x110 ∧ nearest 8 0xFF 0x200 = 0x1FF ∧ nearest 8 0x01 0x1FF = 0x201 ∧ nearest 8 0xF0 0x05 = 0xF0 := by
  decide +kernel

/-! ## The table's words, the queue and the idle step -/

/-- The rows of the table give no bits, so that no word spells a command. -/
theorem test_no_word_is_a_command : decodeTableWord 32 0 = none ∧ decodeTableWord 8 0x5A = none := by decide

/-- A step runs the oldest command and leaves the next one waiting. -/
theorem test_first_in_first_out :
    (match step { pending := [.supplyLow 1, .supplyLow 2] } with
      | .next t => t.rst.lowRails == [1] && t.pending == [.supplyLow 2]
      | _ => false) = true := by decide +kernel

/-- An empty queue passes one cycle of CLK_IO, 4 ns (R70). -/
theorem test_idle_step_is_4_ns : (match step {} with | .next t => t.now == 4 | _ => false) = true := by decide +kernel

/-! ## One step of a command -/

/-- R47, R63: PAGE_CTRL.EN of a page is set, and not where LOCK is 1. -/
theorem test_page_enable :
    (match exec (.pageEnableWrite pgLNCH true) {} with | .next t => t.on pgLNCH PAGE_CTRL_EN | _ => false) = true
    ∧ (match exec (.pageEnableWrite pgLNCH true) (w [(pgLNCH, PAGE_CTRL_LOCK, 1)]) with
        | .next t => t.on pgLNCH PAGE_CTRL_EN | _ => true) = false := by decide +kernel

/-- R51: a write of 1 clears an INT_RAW bit and leaves the others. -/
theorem test_int_raw_clear :
    (match exec (.intRawClear pgTRK 0x2) (w [(pgTRK, INT_RAW_W, 0x3)]) with | .next t => t.rd pgTRK INT_RAW_W | _ => 0) = 1 := by
  decide +kernel

/-- R58: the low word of a counter latches its high word for the initiator that reads it. -/
theorem test_counter_pair_latch :
    (match exec (.counterLowRead .pcie pgTRK 2) (({} : State).count pgTRK 2 0x500000007) with
      | .next t => t.viewWord pgTRK 0x054 3 + t.viewWord pgTRK 0x054 1 | _ => 0) = 5 := by decide +kernel

/-- R35: a misaligned register write of a port is answered ALIGN. -/
theorem test_misaligned_write :
    (match exec (.registerWrite .hk pgTRK 0x012 1) {} with | .next t => t.out.length | _ => 0) = 1 := by decide +kernel

/-- R702: a low rail causes hub reset with cause SUPPLY. -/
theorem test_supply_low :
    (match exec (.supplyLow 0) {} with | .next t => t.held == [2] && t.on pgSYS SYS_RST_CAUSE_SUPPLY | _ => false) = true := by
  decide +kernel

end Sys2Proof.Tests
end

