-- ==== Sys2Proof/Tests/Witnesses.lean ====
section
/-!
SUPPORT. For every statement with hypotheses, a concrete state and operands that meet them together, one for each clause.
The theorems are elaborated one after another, which keeps the compile within its memory limit.
-/
set_option Elab.async false

namespace Sys2Proof.Tests
open Sys2Proof.Machine

/-- The hypotheses of `Obligations.StepRunsTheFrontCommand` can be met. -/
theorem witness_StepRunsTheFrontCommand :
    ∃ (s : State) (c : Instr) (rest : List Instr), s.pending = c :: rest :=
  ⟨{ pending := [.corePllUnlock] }, .corePllUnlock, [], rfl⟩

/-- The hypotheses of `Obligations.IdleStepPassesOneCycle` can be met. -/
theorem witness_IdleStepPassesOneCycle :
    ∃ (s : State), s.pending = [] :=
  ⟨{}, rfl⟩

/-- The hypotheses of `Obligations.EveryStepKeepsTheInvariant` can be met. -/
theorem witness_EveryStepKeepsTheInvariant :
    ∃ (s t : State), s.heldWf = true ∧ s.railsWf = true ∧ step s = .next t :=
  ⟨{ pending := [.supplyLow 1] }, _, by decide, by decide, rfl⟩

/-- The hypotheses of `Obligations.FieldWritesReadBack` can be met. -/
theorem witness_FieldWritesReadBack :
    (∃ (s : State) (f : Field) (v : Nat), s.regs.wf regDefault = true ∧ f.lo + f.width ≤ 32 ∧ v < 2 ^ f.width)
    ∧ (∃ (f g : Field), f.lo + f.width ≤ 32 ∧ g.lo + g.width ≤ 32 ∧ f.lo + f.width ≤ g.lo) :=
  ⟨⟨{}, PWRST_STATE_STATE, 7, by decide, by decide, by decide⟩,
    ⟨PWRST_STATE_STATE, PWRST_STATE_STEP, by decide, by decide, by decide⟩⟩

/-- The hypotheses of `Obligations.SparseMapsKeepTheirForm` can be met. -/
theorem witness_SparseMapsKeepTheirForm :
    ∃ (m : SMap Nat), SMap.wf (fun _ => 0) m = true ∧ m ≠ [] :=
  ⟨[(3, 1)], by decide, by decide⟩

/-- The hypotheses of `Obligations.CountersSaturate` can be met. -/
theorem witness_CountersSaturate :
    ∃ (s : State) (k : Nat), s.ctr.wf (fun _ => 0) = true ∧ k < 24 :=
  ⟨{ ctr := [(32, 2 ^ 64 - 1)] }, 23, by decide, by decide⟩

/-- The hypotheses of `Obligations.InterruptEventsSetTheirBit` can be met. -/
theorem witness_InterruptEventsSetTheirBit :
    (∃ (s : State) (b : Nat), s.regs.wf regDefault = true ∧ b < 32)
    ∧ (∃ (p q b c : Nat), p ≠ pgOBS ∧ q ≠ pgOBS ∧ q ≠ p ∧ b < 32 ∧ c ≠ b) :=
  ⟨⟨{}, 31, by decide, by decide⟩,
    ⟨pgIMG, pgLINK, 31, 0, by decide, by decide, by decide, by decide, by decide⟩⟩

/-- The hypotheses of `Obligations.CellsSurviveTheWire` can be met. -/
theorem witness_CellsSurviveTheWire :
    ∃ (c : Cell), c.typ < 64 ∧ c.race < 2 ∧ c.dkind < 4 ∧ c.dest < 2048 ∧ c.mapgen < 256 ∧ c.src < 2048 ∧ c.hops < 2048
        ∧ c.seq < 2 ^ 32 ∧ c.origin < 2 ^ 32 ∧ c.rsv < 8 ∧ c.payload.length ≤ 256 :=
  ⟨{ typ := 63, race := 1, dkind := 3, dest := 2047, mapgen := 255, src := 2047, hops := 2047, seq := 2 ^ 32 - 1, origin := 1, rsv := 7, payload := beBytes 256 0 }, by decide +kernel⟩

/-- The hypotheses of `Obligations.AdmissionTakesGranules` can be met. -/
theorem witness_AdmissionTakesGranules :
    (∃ (s : State) (cls g : Nat), s.regs.wf regDefault = true ∧ cls < 4 ∧ s.rd pgSWC SWC_USEn_RSV cls + g ≤ rsvSize cls)
    ∧ (∃ (s : State) (cls g : Nat), s.regs.wf regDefault = true ∧ cls < 4 ∧ rsvSize cls < s.rd pgSWC SWC_USEn_RSV cls + g
        ∧ s.poolUse + g ≤ 5120 ∧ s.rd pgSWC SWC_USEn_SHARED cls + g ≤ min 5120 (s.rd pgSWC SWC_CAPn_CAP cls))
    ∧ (∃ (s : State) (cls g : Nat), s.regs.wf regDefault = true ∧ cls < 4 ∧ rsvSize cls < s.rd pgSWC SWC_USEn_RSV cls + g
        ∧ 5120 < s.poolUse + g) :=
  ⟨⟨{}, 3, 5, by decide, by decide, by decide +kernel⟩,
    ⟨w [(pgSWC, SWC_USEn_RSV, 2048)], 0, 1, by decide +kernel, by decide, by decide +kernel, by decide +kernel,
        by decide +kernel⟩,
    ⟨{}, 0, 5121, by decide, by decide, by decide +kernel, by decide +kernel⟩⟩

/-- The hypotheses of `Obligations.HubResetKeepsThePowerDie` can be met. -/
theorem witness_HubResetKeepsThePowerDie :
    ∃ (p off : Nat), pgPWD ≤ p ∧ p ≤ pgSLU + 7 ∧ 0x100 ≤ off ∧ off < 0x1000 :=
  ⟨pgSLU + 7, 0xFFF, by decide, by decide, by decide, by decide⟩

/-- The hypotheses of `Obligations.LockedPagesRefuseTheirControls` can be met. -/
theorem witness_LockedPagesRefuseTheirControls :
    ∃ (s : State) (page : Nat), s.on page PAGE_CTRL_LOCK = true ∧ (s.hkPaused && servedByHk page) = false :=
  ⟨w [(pgIMG, PAGE_CTRL_LOCK, 1)], pgIMG, by decide +kernel⟩

/-- The hypotheses of `Obligations.CommandsNeedTheirKeys` can be met. -/
theorem witness_CommandsNeedTheirKeys :
    (∃ (s : State) (key : Nat), key ≠ 0xA5 ∧ s.takes pgPWRST = true ∧ key ≠ 0x69 ∧ key ≠ 0x3C ∧ s.hkPaused = false)
    ∧ (∃ (s : State) (key : Nat), key ≠ 0xC3 ∧ s.takes pgPWD = true ∧ s.pwd.silent = false)
    ∧ (∃ (s : State) (key : Nat), key ≠ 0x96 ∧ s.takes pgTWIN = true) :=
  ⟨⟨w [(pgPWRST, PAGE_STAT_READY, 1)], 0, by decide +kernel⟩,
    ⟨w [(pgPWD, PAGE_STAT_READY, 1)], 0xC2, by decide +kernel⟩,
    ⟨w [(pgTWIN, PAGE_STAT_READY, 1)], 0x97, by decide +kernel⟩⟩

/-- The hypotheses of `Obligations.MisalignedWritesHaveNoEffect` can be met. -/
theorem witness_MisalignedWritesHaveNoEffect :
    ∃ (s : State) (ini : Initiator) (page off : Nat), s.iniServes ini = true
        ∧ s.noAuth ini true (page * 0x1000 + off) 4 = false ∧ ini ≠ .pcie ∧ off % 4 ≠ 0 :=
  ⟨sQsh, .qsh, pgIMG, 0x103, by decide +kernel, by decide +kernel, by decide, by decide⟩

/-- The hypotheses of `Obligations.PointMapStagingFollowsItsState` can be met. -/
theorem witness_PointMapStagingFollowsItsState :
    (∃ (s : State) (ini : Initiator) (off : Nat), ini ≠ .pcie ∧ s.regs.wf regDefault = true ∧ s.iniServes ini = true
        ∧ s.noAuth ini true (pgPMAP * 0x1000 + off) 4 = false ∧ s.busFails pgPMAP off = false ∧ s.kindAt pgPMAP = some .pmap
        ∧ s.openTo pgPMAP = true ∧ off = 0x114 ∧ s.pmapState ≠ 2)
    ∧ (∃ (s : State) (ini : Initiator) (off : Nat), ini ≠ .pcie ∧ s.regs.wf regDefault = true ∧ s.iniServes ini = true
        ∧ s.noAuth ini true (pgPMAP * 0x1000 + off) 4 = false ∧ s.busFails pgPMAP off = false ∧ s.kindAt pgPMAP = some .pmap
        ∧ s.openTo pgPMAP = true ∧ off = 0x108 ∧ s.pmapState = 2) :=
  ⟨⟨w [(pgPWRST, PWRST_STATE_STEP, 3), (pgPMAP, PAGE_STAT_READY, 1)], .hk, 0x114, by decide, by decide +kernel,
      by decide +kernel, by decide +kernel, by decide +kernel, by decide +kernel, by decide +kernel, rfl, by decide +kernel⟩,
    ⟨w [(pgPWRST, PWRST_STATE_STEP, 3), (pgPMAP, PAGE_STAT_READY, 1), (pgPMAP, PMAP_STAT_STATE, 2)], .hk, 0x108, by decide,
        by decide +kernel, by decide +kernel, by decide +kernel, by decide +kernel, by decide +kernel, by decide +kernel,
        rfl, by decide +kernel⟩⟩

/-- The hypotheses of `Obligations.PointMapSumReadsTheStagedTable` can be met. -/
theorem witness_PointMapSumReadsTheStagedTable :
    (∃ (s : State), s.kindAt pgPMAP = some .pmap ∧ s.on pgPMAP PAGE_STAT_READY = true ∧ s.pmapState = 2)
    ∧ (∃ (s : State), s.kindAt pgPMAP = some .pmap ∧ s.on pgPMAP PAGE_STAT_READY = true ∧ s.pmapState ≠ 1
        ∧ s.pmapState ≠ 2) :=
  ⟨⟨w [(pgPMAP, PAGE_STAT_READY, 1), (pgPMAP, PMAP_STAT_STATE, 2)], by decide +kernel, by decide +kernel, by decide +kernel⟩,
    ⟨w [(pgPMAP, PAGE_STAT_READY, 1)], by decide +kernel, by decide +kernel, by decide +kernel, by decide +kernel⟩⟩

/-- The hypotheses of `Obligations.Bar2WindowsMapToGlobalAddresses` can be met. -/
theorem witness_Bar2WindowsMapToGlobalAddresses :
    (∃ (s : State) (t : State), s.on pgPCIE PCIE_STAT_LINK_UP = true ∧ s.pcie.mem = true ∧ s.on pgPCIE PCIE_STAT_D3 = false
        ∧ t = s.count pgPCIE 2 ∧ t.on pgPCIE PCIE_WINk_EN 63 = false)
    ∧ (∃ (s : State) (t : State), s.on pgPCIE PCIE_STAT_LINK_UP = true ∧ s.pcie.mem = true ∧ s.on pgPCIE PCIE_STAT_D3 = false
        ∧ t = s.count pgPCIE 2 ∧ t.on pgPCIE PCIE_WINk_EN 0 = true) :=
  ⟨⟨{ (w [(pgPCIE, PCIE_STAT_LINK_UP, 1)]) with pcie := { mem := true } }, _, by decide +kernel, by decide +kernel,
      by decide +kernel, rfl, by decide +kernel⟩,
    ⟨{ (w [(pgPCIE, PCIE_STAT_LINK_UP, 1), (pgPCIE, PCIE_WINk_EN, 1)]) with pcie := { mem := true } }, _, by decide +kernel,
        by decide +kernel, by decide +kernel, rfl, by decide +kernel⟩⟩

/-- The hypotheses of `Obligations.OriginatedCellsCarryTheirOrigin` can be met. -/
theorem witness_OriginatedCellsCarryTheirOrigin :
    (∃ (s t : State) (x : WaitCell), s.admitCell x = some t)
    ∧ (∃ (s t : State) (x : WaitCell), s.admitCell x = some t ∧ x.port = none ∧ srcZero x.cell.typ = false) :=
  ⟨⟨sWait, (sWait.admitCell wait1).getD sWait, wait1, by decide +kernel⟩,
    ⟨sUp, (sUp.admitCell { cell := { typ := tTOPO, dkind := 2 }, fixedGen := false, replay := none, port := none }).getD sUp,
        { cell := { typ := tTOPO, dkind := 2 }, fixedGen := false, replay := none, port := none }, by decide +kernel, rfl,
        by decide⟩⟩

/-- The hypotheses of `Obligations.PageControlCommandsTakeEffect` can be met. -/
theorem witness_PageControlCommandsTakeEffect :
    (∃ (s : State) (page : Nat) (k : Kind), s.kindAt page = some k ∧ (s.hkPaused && servedByHk page) = false)
    ∧ (∃ (s : State) (page : Nat) (k : Kind), s.kindAt page = some k ∧ (s.hkPaused && servedByHk page) = false)
    ∧ (∃ (s : State) (page : Nat), (s.pageSt page).softBusy = true)
    ∧ (∃ (s : State) (page : Nat), (s.kindAt page).isSome = true ∧ (s.hkPaused && servedByHk page) = false)
    ∧ (∃ (s : State) (page : Nat), (s.pageSt page).applyPend = true ∧ s.copyWaits page = false)
    ∧ (∃ (s : State) (page : Nat), (s.kindAt page).isSome = true ∧ (s.hkPaused && servedByHk page) = false)
    ∧ (∃ (s : State) (page : Nat), (s.kindAt page).isSome = true ∧ (s.hkPaused && servedByHk page) = false)
    ∧ (∃ (s : State) (page : Nat), s.kindAt page = none) :=
  ⟨⟨(w []), pgLNCH, .lnch,
      by decide +kernel⟩,
    ⟨(w []), pgLNCH, .lnch,
      by decide +kernel⟩,
    ⟨((w []).setPageSt pgIMG { softBusy := true }), pgIMG,
      by decide +kernel⟩,
    ⟨(w []), pgIMG,
      by decide +kernel⟩,
    ⟨((w []).setPageSt pgIMG { applyPend := true }), pgIMG,
      by decide +kernel⟩,
    ⟨(w []), pgIMG,
      by decide +kernel⟩,
    ⟨(w []), pgIMG,
      by decide +kernel⟩,
    ⟨(w []), 0x500,
      by decide +kernel⟩⟩

/-- The hypotheses of `Obligations.HeaderRegisterCommandsTakeEffect` can be met. -/
theorem witness_HeaderRegisterCommandsTakeEffect :
    (∃ (s : State) (page : Nat), (s.kindAt page).isSome = true ∧ (s.hkPaused && servedByHk page) = false)
    ∧ (∃ (s : State) (page : Nat), (s.kindAt page).isSome = true ∧ (s.hkPaused && servedByHk page) = false)
    ∧ (∃ (s : State) (page : Nat), (s.kindAt page).isSome = true ∧ (s.hkPaused && servedByHk page) = false)
    ∧ (∃ (s : State) (page : Nat) (k : Kind), s.kindAt page = some k ∧ pageKind? page = some k
        ∧ (s.hkPaused && servedByHk page) = false)
    ∧ (∃ (s : State) (ini : Initiator) (page : Nat) (j : Nat) (t : State), j < 24 ∧ s.iniServes ini = true
        ∧ s.noAuth ini false (page * 0x1000 + (0x040 + 8 * j)) 4 = false ∧ s.busFails page (0x040 + 8 * j) = false
        ∧ t = s.settled page (0x040 + 8 * j) ∧ (t.kindAt page).isSome = true ∧ ((t.asHeld page).kindAt page).isSome = true)
    ∧ (∃ (s : State) (page : Nat), s.takes page = true)
    ∧ (∃ (s : State) (page : Nat) (f : Field) (g : Field), s.takes page = true ∧ (pageKind? page).bind ovfFields = some (f,
        g))
    ∧ (∃ (s : State) (ini : Initiator) (page : Nat) (j : Nat), j < 24 ∧ s.iniServes ini = true
        ∧ s.noAuth ini false (page * 0x1000 + (0x040 + 8 * j)) 4 = true) :=
  ⟨⟨(w []), pgIMG,
      by decide +kernel⟩,
    ⟨(w []), pgIMG,
      by decide +kernel⟩,
    ⟨(w []), pgIMG,
      by decide +kernel⟩,
    ⟨(w []), pgIMG, .img,
      by decide +kernel⟩,
    ⟨(w []), .pcie, pgIMG, 23, (w []),
      by decide +kernel, by decide +kernel, by decide +kernel, by decide +kernel, rfl, by decide +kernel, by decide +kernel⟩,
    ⟨(w [(pgTXTS, PAGE_STAT_READY, 1)]), pgTXTS,
      by decide +kernel⟩,
    ⟨(w [(pgTXTS, PAGE_STAT_READY, 1)]), pgTXTS, ((((pageKind? pgTXTS).bind ovfFields).getD (INT_RAW_W, INT_RAW_W)).1),
        ((((pageKind? pgTXTS).bind ovfFields).getD (INT_RAW_W, INT_RAW_W)).2),
      by decide +kernel⟩,
    ⟨(w [(pgPWRST, PWRST_STATE_STEP, 7)]), .usb, pgKEY, 0,
      by decide +kernel⟩⟩

/-- The hypotheses of `Obligations.RegisterWriteChangesItsWord` can be met. -/
theorem witness_RegisterWriteChangesItsWord :
    (∃ (s : State) (ini : Initiator) (page : Nat) (off : Nat) (value : Nat) (v : Nat) (a : Nat) (x : State × Nat),
        s.iniServes ini = true ∧ s.noAuth ini true a 4 = false ∧ page < 0x1000 ∧ off < 0x1000 ∧ off % 4 = 0
        ∧ v = value % 2 ^ 32 ∧ a = page * 0x1000 + off ∧ x = s.writeWord page off v ini)
    ∧ (∃ (s : State) (ini : Initiator) (page : Nat) (off : Nat), s.iniServes ini = true
        ∧ s.noAuth ini true (page * 0x1000 + off) 4 = true) :=
  ⟨⟨(w [(pgIMG, PAGE_STAT_READY, 1)]), .hk, pgIMG, 0x100, 1, 1, (pgIMG * 0x1000 + 0x100), ((w [(pgIMG, PAGE_STAT_READY,
      1)]).writeWord pgIMG 0x100 1 .hk),
      by decide +kernel, by decide +kernel, by decide +kernel, by decide +kernel, by decide +kernel, by decide +kernel,
          by decide +kernel, rfl⟩,
    ⟨(w [(pgPWRST, PWRST_STATE_STEP, 3), (pgUSB, PAGE_CTRL_EN, 1)]), .usb, pgKEY, 0x100,
      by decide +kernel⟩⟩

/-- The hypotheses of `Obligations.ResetAndSupplyCommandsTakeEffect` can be met. -/
theorem witness_ResetAndSupplyCommandsTakeEffect :
    (∃ (s : State), s.takes pgPWRST = true)
    ∧ (∃ (s : State), s.takes pgPWRST = true)
    ∧ (∃ (s : State), s.takes pgPWRST = true)
    ∧ (∃ (s : State), s.takes pgPWRST = true)
    ∧ (∃ (s : State) (t : Nat) (rec_ : Bool) (l : List (Nat × Bool)), s.rst.due = (t, rec_) :: l)
    ∧ (∃ (s : State) (port : Nat), port < 2 ∧ s.held = [])
    ∧ (∃ (s : State) (port : Nat), port < 2 ∧ s.held = [])
    ∧ (∃ (s : State), s.held = [])
    ∧ (∃ (s : State), s.held = []) :=
  ⟨⟨(w [(pgPWRST, PAGE_STAT_READY, 1)]),
      by decide +kernel⟩,
    ⟨(w [(pgPWRST, PAGE_STAT_READY, 1)]),
      by decide +kernel⟩,
    ⟨(w [(pgPWRST, PAGE_STAT_READY, 1), (pgPWRST, PWRST_STATE_STATE, nsSERVICE)]),
      by decide +kernel⟩,
    ⟨(w [(pgPWRST, PAGE_STAT_READY, 1), (pgPWRST, PWRST_STATE_STATE, nsQUIET)]),
      by decide +kernel⟩,
    ⟨({ (w []) with rst := { due := [(10000, true)] } }), 10000, true, [],
      by decide +kernel⟩,
    ⟨(w []), 1,
      by decide +kernel⟩,
    ⟨(w []), 1,
      by decide +kernel⟩,
    ⟨(w []),
      by decide +kernel⟩,
    ⟨(w []),
      by decide +kernel⟩⟩

/-- The hypotheses of `Obligations.BootCommandsTakeEffect` can be met. -/
theorem witness_BootCommandsTakeEffect :
    (∃ (s : State), s.held = [] ∧ s.node = nsBOOT ∧ s.rd pgPWRST PWRST_STATE_STEP = 1)
    ∧ (∃ (s : State) (n : Nat) (second : Bool), s.held = [] ∧ s.hkUp = false ∧ (s.node == nsRECOVERY) = false
        ∧ s.rd pgPWRST PWRST_STATE_STEP < 3 ∧ s.hk.starting = some (n, second))
    ∧ (∃ (s : State) (n : Nat), s.held = [] ∧ s.hkUp = false ∧ (s.node == nsRECOVERY) = false
        ∧ 3 ≤ s.rd pgPWRST PWRST_STATE_STEP ∧ s.hk.starting = none ∧ s.upd.run = some n)
    ∧ (∃ (s : State), s.held = [] ∧ s.stepOk 2 = false)
    ∧ (∃ (s : State), s.held = [] ∧ s.stepOk 3 = false)
    ∧ (∃ (s : State), s.held = [] ∧ s.stepOk 4 = false)
    ∧ (∃ (s : State), s.held = [] ∧ s.stepOk 5 = false)
    ∧ (∃ (s : State), s.held = [] ∧ s.stepOk 6 = false)
    ∧ (∃ (s : State), s.held = [] ∧ s.stepOk 7 = false ∧ s.stepOk 6 = true)
    ∧ (∃ (s : State) (n : Nat) (fallback : Bool), s.held = [] ∧ s.hkUp = false ∧ (s.node == nsRECOVERY) = false
        ∧ 3 ≤ s.rd pgPWRST PWRST_STATE_STEP ∧ s.hk.starting = some (n, fallback))
    ∧ (∃ (s : State), s.held = [] ∧ s.stepOk 7 = false ∧ s.stepOk 6 = false) :=
  ⟨⟨(w [(pgPWRST, PWRST_STATE_STEP, 1)]),
      by decide +kernel⟩,
    ⟨({ (w []) with hk := { starting := some (0, false) } }), 0, false,
      by decide +kernel⟩,
    ⟨({ (w [(pgPWRST, PWRST_STATE_STEP, 3), (pgPWRST, PWRST_STATE_STATE, nsJOIN)]) with upd := { run := some 0 } }), 0,
      by decide +kernel⟩,
    ⟨(w [(pgPWRST, PWRST_STATE_STEP, 1)]),
      by decide +kernel⟩,
    ⟨({ (w []) with hk := { starting := some (0, false) } }),
      by decide +kernel⟩,
    ⟨(w []),
      by decide +kernel⟩,
    ⟨(wi [(pgPWRST, PWRST_STEP_TIME_TIME_US, 0, 3)]),
      by decide +kernel⟩,
    ⟨(w []),
      by decide +kernel⟩,
    ⟨(wi [(pgPWRST, PWRST_STEP_TIME_TIME_US, 0, 5)]),
      by decide +kernel⟩,
    ⟨({ (w [(pgPWRST, PWRST_STATE_STEP, 3), (pgPWRST, PWRST_STATE_STATE, nsJOIN)]) with hk := { starting := some (0, true) } }), 0, true,
      by decide +kernel⟩,
    ⟨(w []),
      by decide +kernel⟩⟩

/-- The hypotheses of `Obligations.LinkEventsTakeEffect` can be met. -/
theorem witness_LinkEventsTakeEffect :
    (∃ (s : State) (port : Nat), s.lstate port = 1 ∧ (s.lnk port).cableEnd = none)
    ∧ (∃ (s : State) (port : Nat), s.on (pgLINK + port) LINK_STAT_PCS_LOCK = true)
    ∧ (∃ (s : State) (port : Nat), s.dark 35 = false ∧ s.serdes port = true)
    ∧ (∃ (s : State) (port : Nat), 2 ≤ s.lstate port ∧ s.lstate port ≤ 6)
    ∧ (∃ (s : State) (r : RxCell) (u : State), s.takeCell 4 tHELLO = some (r, u) ∧ u.lstate r.port = 2
        ∧ u.judgeHello r.port r.cell.payload = 0 ∧ ((u.neighbour r.port r.cell.payload).lnk r.port).good = 2
        ∧ u.protected r.port = false)
    ∧ (∃ (s : State) (port : Nat), 2 ≤ s.lstate port ∧ s.lstate port ≤ 6)
    ∧ (∃ (s : State) (port : Nat), s.takes (pgLINK + port) = true)
    ∧ (∃ (s : State) (port : Nat), s.takes (pgLINK + port) = true ∧ s.rd (pgLINK + port) LINK_CFG_MEDIUM = 0
        ∧ s.lstate port ≤ 1)
    ∧ (∃ (s : State) (port : Nat), s.takes (pgLINK + port) = true ∧ 1 < s.lstate port)
    ∧ (∃ (s : State) (port : Nat), (s.lnk port).cableEnd.isSome = true)
    ∧ (∃ (s : State) (port : Nat), s.takes (pgLINK + port) = true)
    ∧ (∃ (s : State) (port : Nat), s.rd (pgLINK + port) LINK_CFG_MEDIUM = 0 ∧ s.on (pgLINK + port) LINK_STAT_PCS_LOCK = true)
    ∧ (∃ (s : State) (port : Nat), s.dark 35 = false ∧ s.serdes port = false) :=
  ⟨⟨(w [(pgLINK, LINK_STAT_STATE, 1)]), 0,
      by decide +kernel⟩,
    ⟨(w [(pgLINK, LINK_STAT_PCS_LOCK, 1)]), 0,
      by decide +kernel⟩,
    ⟨(w [(pgLINK, LINK_CFG_MEDIUM, 1)]), 0,
      by decide +kernel⟩,
    ⟨(w [(pgLINK, LINK_STAT_STATE, 6)]), 0,
      by decide +kernel⟩,
    ⟨((ask 4 tHELLO (beBytes 8 1 ++ beBytes 2 0 ++ beBytes 1 1 ++ beBytes 5 0) 0 0 (w [(pgLINK, LINK_STAT_STATE, 2), (pgLINK,
        RING_LINE_LINE_ID, 0)] sSer)).setLnk 0 { good := 2 }),
        ((tk 4 tHELLO (((ask 4 tHELLO (beBytes 8 1 ++ beBytes 2 0 ++ beBytes 1 1 ++ beBytes 5 0) 0 0 (w [(pgLINK,
        LINK_STAT_STATE, 2), (pgLINK, RING_LINE_LINE_ID, 0)] sSer)).setLnk 0 { good := 2 }))).1),
        ((tk 4 tHELLO (((ask 4 tHELLO (beBytes 8 1 ++ beBytes 2 0 ++ beBytes 1 1 ++ beBytes 5 0) 0 0 (w [(pgLINK,
        LINK_STAT_STATE, 2), (pgLINK, RING_LINE_LINE_ID, 0)] sSer)).setLnk 0 { good := 2 }))).2),
      by decide +kernel⟩,
    ⟨(w [(pgLINK, LINK_STAT_STATE, 2)]), 0,
      by decide +kernel⟩,
    ⟨(w [(pgLINK, PAGE_STAT_READY, 1)]), 0,
      by decide +kernel⟩,
    ⟨(w [(pgLINK, PAGE_STAT_READY, 1), (pgLINK, LINK_STAT_STATE, 1)]), 0,
      by decide +kernel⟩,
    ⟨(w [(pgLINK, PAGE_STAT_READY, 1), (pgLINK, LINK_STAT_STATE, 2)]), 0,
      by decide +kernel⟩,
    ⟨((w []).setLnk 0 { cableEnd := some 0 }), 0,
      by decide +kernel⟩,
    ⟨(w [(pgLINK, PAGE_STAT_READY, 1)]), 0,
      by decide +kernel⟩,
    ⟨(w [(pgLINK, LINK_STAT_PCS_LOCK, 1)]), 0,
      by decide +kernel⟩,
    ⟨(w []), 0,
      by decide +kernel⟩⟩

/-- The hypotheses of `Obligations.FramesAndCellsAreReceivedAndSent` can be met. -/
theorem witness_FramesAndCellsAreReceivedAndSent :
    (∃ (s : State) (port : Nat) (f : Frame) (b : List Byte) (c : Cell) (t : State) (u : State), port ≤ 1 ∧ s.held = []
        ∧ s.lstate port = 3 ∧ s.macCheck port f = (t, some b) ∧ t.headCheck port b = (u, some c))
    ∧ (∃ (s : State) (port : Nat) (t : TxCell) (u : State), port ≤ 1 ∧ s.held = [] ∧ s.lstate port = 3
        ∧ (u = (List.range 4).foldl (fun (a : State) cls => State.txAge (a.txq port cls).length a port cls) s)
        ∧ (List.range 4).findSome? (u.txNext port) = some t ∧ (t.cell.typ = tHELLO ∨ u.protected port = false))
    ∧ (∃ (s : State) (cls : Nat) (x : WaitCell) (u : State),
        (s.sw.waiting.find? (fun (y : WaitCell) => classOf y.cell.typ == cls) = some x) ∧ s.mayAdmit x = true
        ∧ (({ s with sw := { s.sw with waiting := s.sw.waiting.erase x } } : State).admitCell x = some u))
    ∧ (∃ (s : State) (x : Nat), ((s.rsq.filterMap (fun e => s.holdEnd e.2)).min? = some x))
    ∧ (∃ (s : State) (e : RetryEnt) (l : List RetryEnt), s.sw.retry = e :: l)
    ∧ (∃ (s : State), s.takes pgMIR = true) :=
  ⟨⟨sUp, 1, frame1, ((sUp.macCheck 1 frame1).2.getD []),
      (((sUp.macCheck 1 frame1).1.headCheck 1 ((sUp.macCheck 1 frame1).2.getD [])).2.getD
      { typ := 0, dkind := 0, payload := [] }), ((sUp.macCheck 1 frame1).1),
      (((sUp.macCheck 1 frame1).1.headCheck 1 ((sUp.macCheck 1 frame1).2.getD [])).1),
      by decide +kernel⟩,
    ⟨sTx, 0, ({ cell := { typ := tTOPO, dkind := 2, payload := [] }, buf := 1, fwd := false }),
        ((List.range 4).foldl (fun (a : State) cls => State.txAge (a.txq 0 cls).length a 0 cls) sTx),
      by decide +kernel⟩,
    ⟨sWait, (classOf tPDELAY_REQ), wait1,
        ((({ sWait with sw := { sWait.sw with waiting := sWait.sw.waiting.erase wait1 } } : State).admitCell wait1).getD
        sWait),
      by decide +kernel⟩,
    ⟨({ (w []) with rsq := [(5, { valid := true, ctx := true, exp := 1, held := [rx1 tTOPO [] 0 5] })] }),
        (((w []).holdEnd { valid := true, ctx := true, exp := 1, held := [rx1 tTOPO [] 0 5] }).getD 0),
      by decide +kernel⟩,
    ⟨({ (w []) with sw := { retry := [⟨5, 1, 0⟩] } }), (⟨5, 1, 0⟩), [],
      by decide +kernel⟩,
    ⟨(w [(pgMIR, PAGE_STAT_READY, 1)]),
      by decide +kernel⟩⟩

/-- The hypotheses of `Obligations.ClaimingTakesEffect` can be met. -/
theorem witness_ClaimingTakesEffect :
    (∃ (s : State), s.claimable = true)
    ∧ (∃ (s : State), s.rd pgLINK RING_ID_CLAIM = 1 ∧ s.ring.claims < 4 ∧ s.maySource tID_CLAIM = true)
    ∧ (∃ (s : State), s.rd pgLINK RING_ID_CLAIM = 1 ∧ s.node ≠ nsHOLD ∧ s.node ≠ nsRECOVERY)
    ∧ (∃ (s : State) (r : RxCell) (u : State), s.hkPaused = false ∧ s.takeCell 4 tID_CLAIM = some (r, u))
    ∧ (∃ (s : State) (r : RxCell) (u : State), s.hkPaused = false ∧ s.takeCell 4 tID_REFUSE = some (r, u)
        ∧ beAt r.cell.payload 0 8 = u.serial ∧ (u.rd pgLINK RING_ID_CLAIM = 1 ∨ u.rd pgLINK RING_ID_CLAIM = 2))
    ∧ (∃ (s : State) (j : RefuseJob), s.ring.nextRefuse = some j ∧ 2 ≤ j.left)
    ∧ (∃ (s : State) (ini : Initiator) (data : Nat), s.takes pgLINK = true ∧ ini ≠ .bridge ∧ bitsOf data 12 4 = 1
        ∧ bitsOf data 24 8 = 0x5A ∧ bitsOf data 0 11 ≠ 0 ∧ (s.rd pgLINK RING_ID_CLAIM = 0 ∨ s.rd pgLINK RING_ID_CLAIM = 3))
    ∧ (∃ (s : State), s.heldId = true ∧ s.hkPaused = false)
    ∧ (∃ (s : State), s.heldId = true ∧ s.hkPaused = false ∧ s.ring.topoEvent.isSome = true)
    ∧ (∃ (s : State) (r : RxCell) (u : State), s.hkPaused = false ∧ s.takeCell 4 tTOPO = some (r, u)
        ∧ (beAt r.cell.payload 11 1 % 2 == 1 && u.needsPosition) = false)
    ∧ (∃ (s : State) (x : Nat), ((s.ring.topo.flatMap (fun e => e.at_ :: [e.east,
        e.west].filterMap (fun y => y.map (·.2))) ++ s.ring.own.map (·.at_)).min? = some x))
    ∧ (∃ (s : State) (t : Nat) (h : Nat), s.ring.eastAnchor = some (t, h) ∧ s.needsPosition = true)
    ∧ (∃ (s : State) (j : RefuseJob), s.ring.nextRefuse = some j ∧ j.left ≤ 1)
    ∧ (∃ (s : State) (r : RxCell) (u : State), s.hkPaused = false ∧ s.takeCell 4 tTOPO = some (r, u)
        ∧ beAt r.cell.payload 11 1 % 2 = 1 ∧ u.needsPosition = true ∧ r.port = 1)
    ∧ (∃ (s : State) (r : RxCell) (u : State), s.hkPaused = false ∧ s.takeCell 4 tTOPO = some (r, u)
        ∧ beAt r.cell.payload 11 1 % 2 = 1 ∧ u.needsPosition = true ∧ r.port = 0 ∧ u.ring.eastAnchor = none) :=
  ⟨⟨sClaim,
      by decide +kernel⟩,
    ⟨({ (w [(pgLINK, RING_ID_CLAIM, 1)]) with ring := { claims := 3 } }),
      by decide +kernel⟩,
    ⟨({ (w [(pgLINK, RING_ID_CLAIM, 1)]) with ring := { want := 7 } }),
      by decide +kernel⟩,
    ⟨(ask 4 tID_CLAIM (beBytes 8 9 ++ beBytes 2 7 ++ beBytes 6 0) 0 0 (w [])),
        ((tk 4 tID_CLAIM ((ask 4 tID_CLAIM (beBytes 8 9 ++ beBytes 2 7 ++ beBytes 6 0) 0 0 (w [])))).1),
        ((tk 4 tID_CLAIM ((ask 4 tID_CLAIM (beBytes 8 9 ++ beBytes 2 7 ++ beBytes 6 0) 0 0 (w [])))).2),
      by decide +kernel⟩,
    ⟨(ask 4 tID_REFUSE (beBytes 8 77 ++ beBytes 8 9 ++ beBytes 2 7 ++ beBytes 6 0) 0 3 (w [(pgLINK, RING_ID_CLAIM,
        2)] sSer)),
        ((tk 4 tID_REFUSE ((ask 4 tID_REFUSE (beBytes 8 77 ++ beBytes 8 9 ++ beBytes 2 7 ++ beBytes 6 0) 0 3 (w [(pgLINK,
        RING_ID_CLAIM, 2)] sSer)))).1),
        ((tk 4 tID_REFUSE ((ask 4 tID_REFUSE (beBytes 8 77 ++ beBytes 8 9 ++ beBytes 2 7 ++ beBytes 6 0) 0 3 (w [(pgLINK,
        RING_ID_CLAIM, 2)] sSer)))).2),
      by decide +kernel⟩,
    ⟨({ (w []) with ring := { refuse := [⟨1, 2, 3, 2, 0⟩] } }), (⟨1, 2, 3, 2, 0⟩),
      by decide +kernel⟩,
    ⟨(w [(pgLINK, PAGE_STAT_READY, 1), (pgLINK, RING_ID_CLAIM, 3)]), .usb, 0x5A001007,
      by decide +kernel⟩,
    ⟨(w [(pgLINK, RING_ID_CLAIM, 2)]),
      by decide +kernel⟩,
    ⟨({ (w [(pgLINK, RING_ID_CLAIM, 2)]) with ring := { topoEvent := some 0 } }),
      by decide +kernel⟩,
    ⟨(ask 4 tTOPO (beBytes 8 9 ++ beBytes 24 0) 1 3 (w [(pgLINK, RING_ID_CLAIM, 2)])),
        ((tk 4 tTOPO ((ask 4 tTOPO (beBytes 8 9 ++ beBytes 24 0) 1 3 (w [(pgLINK, RING_ID_CLAIM, 2)])))).1),
        ((tk 4 tTOPO ((ask 4 tTOPO (beBytes 8 9 ++ beBytes 24 0) 1 3 (w [(pgLINK, RING_ID_CLAIM, 2)])))).2),
      by decide +kernel⟩,
    ⟨({ (w []) with ring := { topo := [{ src := 3, serial := 9, at_ := 0, slow := false }] } }), 0,
      by decide +kernel⟩,
    ⟨sPos, 0, 1,
      by decide +kernel⟩,
    ⟨({ (w []) with ring := { refuse := [⟨1, 2, 3, 1, 0⟩] } }), (⟨1, 2, 3, 1, 0⟩),
      by decide +kernel⟩,
    ⟨(ask 4 tTOPO (beBytes 8 9 ++ beBytes 3 0 ++ beBytes 1 1 ++ beBytes 20 0) 1 3 sPos),
        ((tk 4 tTOPO ((ask 4 tTOPO (beBytes 8 9 ++ beBytes 3 0 ++ beBytes 1 1 ++ beBytes 20 0) 1 3 sPos))).1),
        ((tk 4 tTOPO ((ask 4 tTOPO (beBytes 8 9 ++ beBytes 3 0 ++ beBytes 1 1 ++ beBytes 20 0) 1 3 sPos))).2),
      by decide +kernel⟩,
    ⟨(ask 4 tTOPO (beBytes 8 9 ++ beBytes 3 0 ++ beBytes 1 1 ++ beBytes 20 0) 0 3
        { sPos with ring := { sPos.ring with eastAnchor := none } }),
        ((tk 4 tTOPO ((ask 4 tTOPO (beBytes 8 9 ++ beBytes 3 0 ++ beBytes 1 1 ++ beBytes 20 0) 0 3
        { sPos with ring := { sPos.ring with eastAnchor := none } }))).1),
        ((tk 4 tTOPO ((ask 4 tTOPO (beBytes 8 9 ++ beBytes 3 0 ++ beBytes 1 1 ++ beBytes 20 0) 0 3
        { sPos with ring := { sPos.ring with eastAnchor := none } }))).2),
      by decide +kernel⟩⟩

/-- The hypotheses of `Obligations.PeerDelayAndSyncRecordsTakeEffect` can be met. -/
theorem witness_PeerDelayAndSyncRecordsTakeEffect :
    (∃ (s : State) (port : Nat) (d : Nat), (s.pd port).due = some d ∧ s.linkUp port = true)
    ∧ (∃ (s : State) (r : RxCell) (u : State), s.takeCell 1 tPDELAY_REQ = some (r, u))
    ∧ (∃ (s : State) (r : RxCell) (u : State), s.takeCell 1 tPDELAY_RESP = some (r, u) ∧ (u.pd r.port).open_ = true
        ∧ beAt r.cell.payload 0 2 = (u.pd r.port).reqId ∧ u.now ≤ (u.pd r.port).sent + 1000000)
    ∧ (∃ (s : State) (r : RxCell) (u : State), s.takeCell 1 tPDELAY_RESP_FU = some (r, u))
    ∧ (∃ (s : State) (port : Nat), (s.pd port).open_ = true ∧ (s.pd port).t2 = none ∧ (s.pd port).missed < 2)
    ∧ (∃ (s : State) (port : Nat), (s.pd port).open_ = true ∧ (s.pd port).t2 = none ∧ 2 ≤ (s.pd port).missed)
    ∧ (∃ (s : State) (port : Nat) (o : SyncOut), (s.time.syncOut.find? (fun x => x.port == port) = some o))
    ∧ (∃ (s : State) (port : Nat) (seq : Nat) (c : SyncCopy),
        (s.time.copies.find? (fun x => x.port == port && x.seq == seq && x.cin.isNone && !x.failed) = some c)) :=
  ⟨⟨((w [(pgLINK, LINK_STAT_STATE, 3)]).setPd 0 { due := some 8 }), 0, 8,
      by decide +kernel⟩,
    ⟨(ask 1 tPDELAY_REQ (beBytes 4 0) 0 0 (w [])), ((tk 1 tPDELAY_REQ ((ask 1 tPDELAY_REQ (beBytes 4 0) 0 0 (w [])))).1),
        ((tk 1 tPDELAY_REQ ((ask 1 tPDELAY_REQ (beBytes 4 0) 0 0 (w [])))).2),
      by decide +kernel⟩,
    ⟨((ask 1 tPDELAY_RESP (beBytes 12 0) 0 0 (w [])).setPd 0 { open_ := true, reqId := 0 }),
        ((tk 1 tPDELAY_RESP (((ask 1 tPDELAY_RESP (beBytes 12 0) 0 0 (w [])).setPd 0 { open_ := true, reqId := 0 }))).1),
        ((tk 1 tPDELAY_RESP (((ask 1 tPDELAY_RESP (beBytes 12 0) 0 0 (w [])).setPd 0 { open_ := true, reqId := 0 }))).2),
      by decide +kernel⟩,
    ⟨((ask 1 tPDELAY_RESP_FU (beBytes 28 0) 0 0 (w [])).setPd 0 { open_ := true, reqId := 0 }),
        ((tk 1 tPDELAY_RESP_FU (((ask 1 tPDELAY_RESP_FU (beBytes 28 0) 0 0 (w [])).setPd 0
        { open_ := true, reqId := 0 }))).1),
        ((tk 1 tPDELAY_RESP_FU (((ask 1 tPDELAY_RESP_FU (beBytes 28 0) 0 0 (w [])).setPd 0
        { open_ := true, reqId := 0 }))).2),
      by decide +kernel⟩,
    ⟨((w []).setPd 0 { open_ := true, missed := 1 }), 0,
      by decide +kernel⟩,
    ⟨((w []).setPd 0 { open_ := true, missed := 2 }), 0,
      by decide +kernel⟩,
    ⟨({ (w []) with time := { syncOut := [⟨1, 5, 0, none, 0, 0⟩] } }), 1, (⟨1, 5, 0, none, 0, 0⟩),
      by decide +kernel⟩,
    ⟨({ (w []) with time := { copies := [{ seq := 5, src := 2, port := 1, arr := 0, at_ := 0, originT := 0, hops := 1 }] } }), 1, 5, { seq := 5, src := 2, port := 1, arr := 0, at_ := 0, originT := 0, hops := 1 },
      by decide +kernel⟩⟩

/-- The hypotheses of `Obligations.GovernorTakesEffect` can be met. -/
theorem witness_GovernorTakesEffect :
    (∃ (s : State) (d : Nat), s.time.syncDue = some d ∧ s.gov = 4)
    ∧ (∃ (s : State) (r : RxCell) (u : State), s.takeCell 1 tTIME_SYNC = some (r, u) ∧ r.cell.src = u.rd pgTIME TIME_GM_GM_ID
        ∧ r.cell.src ≠ u.nodeId)
    ∧ (∃ (s : State) (x : Nat), s.time.ownAnn = some x ∧ (s.passTo (x + 64000000)).mayAnnounce = true)
    ∧ (∃ (s : State) (r : RxCell) (u : State), s.takeCell 1 tTIME_ANNOUNCE = some (r, u))
    ∧ (∃ (s : State) (a : Nat) (b : Nat), s.rd pgTIME TIME_GM_GM_ID ≠ 0 ∧ s.rd pgTIME TIME_GM_GM_ID ≠ s.nodeId
        ∧ (a = (match s.time.cands.find? (fun (y : GmCand) => y.id == s.rd pgTIME TIME_GM_GM_ID) with
          | some c => c.at_ + 192000004
          | none => s.now)) ∧ b = (match s.time.lastSync with
          | some x => x + 8 * s.syncInt
          | none => s.now))
    ∧ (∃ (s : State), s.gov = 2)
    ∧ (∃ (s : State), s.gov = 3)
    ∧ (∃ (s : State) (seq : Nat) (c : SyncCopy) (l : List SyncCopy), s.gov ≠ 4
        ∧ (s.time.copies.filter (fun x => x.seq == seq && !x.late) = c :: l))
    ∧ (∃ (s : State), s.on pgTIME TIME_GM_CFG_EXT_EN = true ∧ s.dark 35 = false ∧ s.time.ppsFirst = true)
    ∧ (∃ (s : State) (t : Nat), s.time.ppsLast = some t ∧ s.on pgTIME TIME_GM_CFG_EXT_EN = true ∧ s.time.ppsMissed = false)
    ∧ (∃ (s : State) (t : Nat), s.time.ppsLast = some t ∧ s.on pgTIME TIME_GM_CFG_EXT_EN = true)
    ∧ (∃ (s : State), s.locked = true ∧ (s.rd pgTIME TIME_PPS_OUT_MODE = 1 ∨ s.rd pgTIME TIME_PPS_OUT_MODE = 2)
        ∧ s.time.ppsOut = false)
    ∧ (∃ (s : State) (t : Nat), s.time.ppsFall = some t)
    ∧ (∃ (s : State), s.takes pgTIME = true)
    ∧ (∃ (s : State), s.time.ownAnn = none ∧ s.mayAnnounce = true)
    ∧ (∃ (s : State) (err : Int), s.on pgTIME TIME_GM_CFG_EXT_EN = true ∧ s.dark 35 = false ∧ s.time.ppsFirst = false
        ∧ err = s.time.ppsHeld - ((s.rd64 pgTIME TIME_TOD_NEXT_LO_W TIME_TOD_NEXT_HI_W : Int) * 10 ^ 9 - s.ringNow)
        ∧ (1000 < err ∨ err < -1000)) :=
  ⟨⟨({ (w [(pgTIME, TIME_STAT_STATE, 4), (pgTIME, TIME_STAT_LOCKED, 1)]) with time := { syncDue := some 8 } }), 8,
      by decide +kernel⟩,
    ⟨(ask 1 tTIME_SYNC (beBytes 12 0) 0 3 (w [(pgTIME, TIME_GM_GM_ID, 3), (pgTIME, TIME_STAT_LOCKED, 1)])),
        ((tk 1 tTIME_SYNC ((ask 1 tTIME_SYNC (beBytes 12 0) 0 3 (w [(pgTIME, TIME_GM_GM_ID, 3), (pgTIME, TIME_STAT_LOCKED,
        1)])))).1), ((tk 1 tTIME_SYNC ((ask 1 tTIME_SYNC (beBytes 12 0) 0 3 (w [(pgTIME, TIME_GM_GM_ID, 3), (pgTIME,
        TIME_STAT_LOCKED, 1)])))).2),
      by decide +kernel⟩,
    ⟨sAnn, 0,
      by decide +kernel⟩,
    ⟨sAnnRx, ((tk 1 tTIME_ANNOUNCE (sAnnRx)).1), ((tk 1 tTIME_ANNOUNCE (sAnnRx)).2),
      by decide +kernel⟩,
    ⟨({ (w [(pgTIME, TIME_GM_GM_ID, 3), (pgTIME, TIME_STAT_LOCKED, 1)]) with time := { cands := [cand3], lastSync := some 0 } }), 192000004, (8 * State.syncInt (w [])),
      by decide +kernel⟩,
    ⟨(w [(pgTIME, TIME_STAT_STATE, 2)]),
      by decide +kernel⟩,
    ⟨(w [(pgTIME, TIME_STAT_STATE, 3), (pgTIME, TIME_STAT_LOCKED, 1)]),
      by decide +kernel⟩,
    ⟨sDec, 5, decCopy, [],
      by decide +kernel⟩,
    ⟨sPps,
      by decide +kernel⟩,
    ⟨({ (w [(pgTIME, TIME_GM_CFG_EXT_EN, 1)]) with time := { ppsLast := some 0 } }), 0,
      by decide +kernel⟩,
    ⟨({ (w [(pgTIME, TIME_GM_CFG_EXT_EN, 1)]) with time := { ppsLast := some 0 } }), 0,
      by decide +kernel⟩,
    ⟨(w [(pgTIME, TIME_STAT_LOCKED, 1), (pgTIME, TIME_PPS_OUT_MODE, 1)]),
      by decide +kernel⟩,
    ⟨({ (w []) with time := { ppsFall := some 4 } }), 4,
      by decide +kernel⟩,
    ⟨(w [(pgTIME, PAGE_STAT_READY, 1)]),
      by decide +kernel⟩,
    ⟨({ sAnn with time := { sAnn.time with ownAnn := none } }),
      by decide +kernel⟩,
    ⟨({ (w [(pgTIME, TIME_GM_CFG_EXT_EN, 1)]) with time := { ppsFirst := false, ppsHeld := 1001 } }), 1001,
      by decide +kernel⟩⟩

/-- The hypotheses of `Obligations.EpochsAndPublishingTakeEffect` can be met. -/
theorem witness_EpochsAndPublishingTakeEffect :
    (∃ (s : State), s.locked = true)
    ∧ (∃ (s : State) (x : OwnEpoch), s.ownNow = some x ∧ s.mayPublish = true)
    ∧ (∃ (s : State) (x : OwnEpoch), s.ownNow = some x ∧ s.mayPublish = true ∧ x.sent = changeCells x.entries.length)
    ∧ (∃ (s : State) (r : RxCell) (u : State), s.takeCell 0 tCHANGE = some (r, u) ∧ (u.count pgIMG 4).epoch ≠ ones64)
    ∧ (∃ (s : State) (r : RxCell) (u : State), s.takeCell 0 tSEAL = some (r, u) ∧ (u.count pgIMG 3).epoch ≠ ones64
        ∧ ((u.count pgIMG 3).holdSeal r.cell.payload r.cell.src (some r.ring)).isRunner = false)
    ∧ (∃ (s : State) (r : RxCell) (u : State) (tab : SMap Nat), s.takeCell 0 tREFRESH = some (r, u)
        ∧ (u.count pgIMG 5).epoch ≠ ones64
        ∧ (u.count pgIMG 5).tableAt ((u.count pgIMG 5).epochFrom (beAt r.cell.payload 0 4)) = some tab
        ∧ refreshValid (shardPoints tab (beAt r.cell.payload 4 2 % 2048)) r.cell.payload = true
        ∧ (u.count pgIMG 5).lowTenure (beAt r.cell.payload 4 2 % 2048) (beAt r.cell.payload 6 1) = false
        ∧ ((u.count pgIMG 5).shard (beAt r.cell.payload 4 2 % 2048)).pend = true
        ∧ ((u.count pgIMG 5).shard (beAt r.cell.payload 4 2 % 2048)).states = [])
    ∧ (∃ (s : State), s.locked = true)
    ∧ (∃ (s : State), s.locked = true) :=
  ⟨⟨sEpoch,
      by decide +kernel⟩,
    ⟨sPub, own1,
      by decide +kernel⟩,
    ⟨sPub, own1,
      by decide +kernel⟩,
    ⟨(ask 0 tCHANGE (beBytes 16 0) 0 3 sEpoch), ((tk 0 tCHANGE ((ask 0 tCHANGE (beBytes 16 0) 0 3 sEpoch))).1),
        ((tk 0 tCHANGE ((ask 0 tCHANGE (beBytes 16 0) 0 3 sEpoch))).2),
      by decide +kernel⟩,
    ⟨(ask 0 tSEAL (beBytes 24 0) 0 3 sEpoch), ((tk 0 tSEAL ((ask 0 tSEAL (beBytes 24 0) 0 3 sEpoch))).1),
        ((tk 0 tSEAL ((ask 0 tSEAL (beBytes 24 0) 0 3 sEpoch))).2),
      by decide +kernel⟩,
    ⟨(ask 0 tREFRESH refPl 0 3 sRef), ((tk 0 tREFRESH ((ask 0 tREFRESH refPl 0 3 sRef))).1),
        ((tk 0 tREFRESH ((ask 0 tREFRESH refPl 0 3 sRef))).2), sRef.img.cur,
      by decide +kernel⟩,
    ⟨(w [(pgTIME, TIME_STAT_LOCKED, 1)]),
      by decide +kernel⟩,
    ⟨(w [(pgTIME, TIME_STAT_LOCKED, 1)]),
      by decide +kernel⟩⟩

/-- The hypotheses of `Obligations.RepairTakesEffect` can be met. -/
theorem witness_RepairTakesEffect :
    (∃ (s : State) (tag : Nat) (r : RepairReq), (s.img.repairs.find? (fun x => x.tag == tag && x.sent) = some r))
    ∧ (∃ (s : State) (r : RxCell) (u : State), s.takeCell 0 tREPAIR_REQ = some (r, u))
    ∧ (∃ (s : State) (j : ServeJob) (l : List ServeJob) (t : State), s.img.serve = j :: l ∧ (j.kind = 0 ∨ j.kind = 1)
        ∧ (t = State.repairSync { s with img := { s.img with serve := l } }))
    ∧ (∃ (s : State) (c : RxCell) (u : State) (r : RepairReq), s.takeCell 0 tREPAIR_DATA = some (c, u)
        ∧ (u.img.repairs.find? (fun x => x.tag == beAt c.cell.payload 1 1 && x.sent) = some r))
    ∧ (∃ (s : State) (owner : Nat), s.on pgIMG IMG_STAT_COLLECTING = true ∧ (s.shard owner).pend = true
        ∧ (s.shard owner).states = [] ∧ (tableOwners s.img.cur).contains owner = true ∧ s.epoch ≠ ones64
        ∧ max s.img.colEpoch (((s.shard owner).heard.map (· + 1)).getD 0) + s.settle_ + 1 ≤ s.epoch
        ∧ s.rd (if s.linkUp 0 then pgLINK else pgLINK + 1) LINK_STAT_NEIGH_ID ≠ 0)
    ∧ (∃ (s : State) (c : RxCell) (u : State), s.takeCell 0 tREPAIR_DATA = some (c, u)
        ∧ (u.img.repairs.find? (fun x => x.tag == beAt c.cell.payload 1 1 && x.sent) = none))
    ∧ (∃ (s : State) (j : ServeJob) (l : List ServeJob) (t : State), s.img.serve = j :: l ∧ j.kind ≠ 0 ∧ j.kind ≠ 1
        ∧ (t = State.repairSync { s with img := { s.img with serve := l } })) :=
  ⟨⟨({ (w []) with img := { repairs := [rep1] } }), 9, rep1,
      by decide +kernel⟩,
    ⟨(ask 0 tREPAIR_REQ (beBytes 16 0) 0 3 (w [])), ((tk 0 tREPAIR_REQ ((ask 0 tREPAIR_REQ (beBytes 16 0) 0 3 (w [])))).1),
        ((tk 0 tREPAIR_REQ ((ask 0 tREPAIR_REQ (beBytes 16 0) 0 3 (w [])))).2),
      by decide +kernel⟩,
    ⟨({ (w []) with img := { serve := [⟨3, 1, 5, 0, 0, 0, 127⟩] } }), (⟨3, 1, 5, 0, 0, 0, 127⟩), [],
        (State.repairSync { (w []) with img := { serve := [] } }),
      by decide +kernel, by decide +kernel, rfl⟩,
    ⟨(ask 0 tREPAIR_DATA (beBytes 1 tCHANGE ++ beBytes 1 9 ++ beBytes 16 0) 0 3
        { (w []) with img := { repairs := [rep1] } }),
        ((tk 0 tREPAIR_DATA ((ask 0 tREPAIR_DATA (beBytes 1 tCHANGE ++ beBytes 1 9 ++ beBytes 16 0) 0 3
        { (w []) with img := { repairs := [rep1] } }))).1),
        ((tk 0 tREPAIR_DATA ((ask 0 tREPAIR_DATA (beBytes 1 tCHANGE ++ beBytes 1 9 ++ beBytes 16 0) 0 3
        { (w []) with img := { repairs := [rep1] } }))).2), rep1,
      by decide +kernel⟩,
    ⟨sProxy, 5,
      by decide +kernel⟩,
    ⟨(ask 0 tREPAIR_DATA (beBytes 18 0) 0 3 (w [])),
        ((tk 0 tREPAIR_DATA ((ask 0 tREPAIR_DATA (beBytes 18 0) 0 3 (w [])))).1),
        ((tk 0 tREPAIR_DATA ((ask 0 tREPAIR_DATA (beBytes 18 0) 0 3 (w [])))).2),
      by decide +kernel⟩,
    ⟨({ (w []) with img := { serve := [⟨3, 1, 5, 0, 2, 0, 127⟩] } }), (⟨3, 1, 5, 0, 2, 0, 127⟩), [],
        (State.repairSync { (w []) with img := { serve := [] } }),
      by decide +kernel, by decide +kernel, by decide +kernel, rfl⟩⟩

/-- The hypotheses of `Obligations.PointMapCommandsTakeEffect` can be met. -/
theorem witness_PointMapCommandsTakeEffect :
    (∃ (s : State), s.on pgIMG IMG_BANK_SHADOW_CATCHUP = true)
    ∧ (∃ (s : State), s.takes pgPMAP = true ∧ s.pmapState ≠ 2)
    ∧ (∃ (s : State), s.takes pgPMAP = true ∧ s.pmapState ≠ 2)
    ∧ (∃ (s : State), s.img.pmapBusy = true ∧ s.pmapState ≠ 2 ∧ tableError s.img.stg = none)
    ∧ (∃ (s : State) (e : Nat) (o : Nat) (k : Nat), s.img.pmapBusy = true ∧ s.pmapState ≠ 2 ∧ tableError s.img.stg = some (e,
        o, k))
    ∧ (∃ (s : State), s.takes pgPMAP = true ∧ s.pmapState = 1 ∧ s.epoch ≠ ones64 ∧ s.epoch + 2 ≤ s.pmapAt
        ∧ (s.img.lastAdv.any (fun a => decide (s.pmapAt < a + s.settle_ + 1)) = false))
    ∧ (∃ (s : State), s.takes pgPMAP = true ∧ s.pmapState = 2)
    ∧ (∃ (s : State), s.takes pgPMAP = true ∧ nsJOIN ≤ s.node ∧ s.node ≤ nsQUIET ∧ (s.on pgIMG IMG_STAT_FULL = false
        ∨ s.on pgIMG IMG_STAT_LAG = true))
    ∧ (∃ (s : State), s.openTo pgPMAP = true)
    ∧ (∃ (s : State), s.on pgIMG IMG_BANK_SHADOW_CATCHUP = false ∧ s.rd pgIMG IMG_BANK_THIRD_ROLE = 1)
    ∧ (∃ (s : State), s.takes pgPMAP = true ∧ s.pmapState = 2)
    ∧ (∃ (s : State), s.takes pgPMAP = true ∧ s.pmapState = 2)
    ∧ (∃ (s : State), s.img.pmapBusy = true ∧ s.pmapState = 2)
    ∧ (∃ (s : State), s.takes pgPMAP = true ∧ s.pmapState ≠ 1)
    ∧ (∃ (s : State), s.takes pgPMAP = true ∧ s.pmapState = 1 ∧ (s.epoch = ones64 ∨ s.pmapAt < s.epoch + 2
        ∨ s.img.lastAdv.any (fun a => decide (s.pmapAt < a + s.settle_ + 1)) = true))
    ∧ (∃ (s : State), s.takes pgPMAP = true ∧ s.pmapState ≠ 2)
    ∧ (∃ (s : State), s.takes pgPMAP = true ∧ (s.node < nsJOIN ∨ nsQUIET < s.node ∨ (s.on pgIMG IMG_STAT_FULL = true
        ∧ s.on pgIMG IMG_STAT_LAG = false))) :=
  ⟨⟨(w [(pgIMG, IMG_BANK_SHADOW_CATCHUP, 1)]),
      by decide +kernel⟩,
    ⟨(w [(pgPMAP, PAGE_STAT_READY, 1)]),
      by decide +kernel⟩,
    ⟨(w [(pgPMAP, PAGE_STAT_READY, 1)]),
      by decide +kernel⟩,
    ⟨({ (w []) with img := { pmapBusy := true } }),
      by decide +kernel⟩,
    ⟨({ (w []) with img := { pmapBusy := true, stg := [(8, 2 ^ 63 - 1)] } }), (((tableError [(8, 2 ^ 63 - 1)]).getD (0, 0,
        0)).1), (((tableError [(8, 2 ^ 63 - 1)]).getD (0, 0, 0)).2.1), (((tableError [(8, 2 ^ 63 - 1)]).getD (0, 0, 0)).2.2),
      by decide +kernel⟩,
    ⟨(w [(pgPMAP, PAGE_STAT_READY, 1), (pgPMAP, PMAP_STAT_STATE, 1), (pgPMAP, PMAP_AT_LO_EPOCH, 99)] sEpoch),
      by decide +kernel⟩,
    ⟨(w [(pgPMAP, PAGE_STAT_READY, 1), (pgPMAP, PMAP_STAT_STATE, 2)]),
      by decide +kernel⟩,
    ⟨(w [(pgPMAP, PAGE_STAT_READY, 1), (pgPWRST, PWRST_STATE_STATE, nsJOIN)]),
      by decide +kernel⟩,
    ⟨(w [(pgPMAP, PAGE_STAT_READY, 1)]),
      by decide +kernel⟩,
    ⟨(w [(pgIMG, IMG_BANK_THIRD_ROLE, 1)]),
      by decide +kernel⟩,
    ⟨(w [(pgPMAP, PAGE_STAT_READY, 1), (pgPMAP, PMAP_STAT_STATE, 2)]),
      by decide +kernel⟩,
    ⟨(w [(pgPMAP, PAGE_STAT_READY, 1), (pgPMAP, PMAP_STAT_STATE, 2)]),
      by decide +kernel⟩,
    ⟨({ (w [(pgPMAP, PAGE_STAT_READY, 1), (pgPMAP, PMAP_STAT_STATE, 2)]) with img := { pmapBusy := true } }),
      by decide +kernel⟩,
    ⟨(w [(pgPMAP, PAGE_STAT_READY, 1), (pgPMAP, PMAP_STAT_STATE, 2)]),
      by decide +kernel⟩,
    ⟨(w [(pgPMAP, PAGE_STAT_READY, 1), (pgPMAP, PMAP_STAT_STATE, 1)]),
      by decide +kernel⟩,
    ⟨(w [(pgPMAP, PAGE_STAT_READY, 1)]),
      by decide +kernel⟩,
    ⟨(w [(pgPMAP, PAGE_STAT_READY, 1)]),
      by decide +kernel⟩⟩

/-- The hypotheses of `Obligations.PinsDemandsAndBindingsTakeEffect` can be met. -/
theorem witness_PinsDemandsAndBindingsTakeEffect :
    (∃ (s : State), s.takes pgIMG = true)
    ∧ (∃ (s : State), s.takes pgIMG = true ∧ s.pinHeld = false)
    ∧ (∃ (s : State) (tag : Nat), s.takes pgIMG = true ∧ s.pinHeld = true ∧ s.rd pgIMG IMG_PIN_STAT_TAG = tag % 256)
    ∧ (∃ (s : State) (tag : Nat), s.takes pgIMG = true ∧ s.pinHeld = true ∧ s.rd pgIMG IMG_PIN_STAT_TAG = tag % 256)
    ∧ (∃ (s : State), s.pinHeld = true)
    ∧ (∃ (s : State) (ini : Initiator) (index : Nat) (value : Nat) (x : State × Nat), s.iniServes ini = true
        ∧ s.noAuth ini true demandAddr 8 = false ∧ s.takes pgIMG = true
        ∧ x = s.demandLocal ini.num (s.tagOf ini) (index % 2 ^ 17) (value % 2 ^ 32) s.ringNow)
    ∧ (∃ (s : State), s.takes pgBIND = true)
    ∧ (∃ (s : State), s.img.bindBusy = true)
    ∧ (∃ (s : State), s.takes pgBIND = true ∧ (s.pageSt pgBIND).applyPend = false ∧ (s.pageSt pgBIND).armed = false)
    ∧ (∃ (s : State) (ch : Nat), (s.copyCh ch).due = true ∧ s.rd pgMOV MOVn_CFG_SRC_KIND (s.copyCh ch).mover = 5
        ∧ s.rd pgMOV MOVn_CFG_DST_KIND (s.copyCh ch).mover = 0 ∧ s.pcieMaster = true)
    ∧ (∃ (s : State) (ch : Nat), (s.copyCh ch).busy = true ∧ (s.copyCh ch).stop = false
        ∧ (s.copyCh ch).words.length ≤ (s.moverSt (s.copyCh ch).mover).pos ∧ s.pcieMaster = true)
    ∧ (∃ (s : State), s.takes pgIMG = true ∧ s.pinHeld = true)
    ∧ (∃ (s : State) (ch : Nat), (s.copyCh ch).due = true ∧ (s.rd pgMOV MOVn_CFG_SRC_KIND (s.copyCh ch).mover ≠ 5
        ∨ s.rd pgMOV MOVn_CFG_DST_KIND (s.copyCh ch).mover ≠ 0))
    ∧ (∃ (s : State) (ch : Nat), (s.copyCh ch).busy = true ∧ (s.copyCh ch).stop = true ∧ s.pcieMaster = true) :=
  ⟨⟨(w [(pgIMG, PAGE_STAT_READY, 1)]),
      by decide +kernel⟩,
    ⟨(w [(pgIMG, PAGE_STAT_READY, 1)]),
      by decide +kernel⟩,
    ⟨(w [(pgIMG, PAGE_STAT_READY, 1), (pgIMG, IMG_PIN_STAT_STATE, 1), (pgIMG, IMG_PIN_STAT_TAG, 7)]), 7,
      by decide +kernel⟩,
    ⟨(w [(pgIMG, PAGE_STAT_READY, 1), (pgIMG, IMG_PIN_STAT_STATE, 1), (pgIMG, IMG_PIN_STAT_TAG, 7)]), 7,
      by decide +kernel⟩,
    ⟨(w [(pgIMG, IMG_PIN_STAT_STATE, 1)]),
      by decide +kernel⟩,
    ⟨(w [(pgIMG, PAGE_STAT_READY, 1)]), .hk, 5, 1, ((w [(pgIMG, PAGE_STAT_READY,
        1)]).demandLocal Initiator.hk.num ((w [(pgIMG, PAGE_STAT_READY, 1)]).tagOf .hk) 5 1 (w [(pgIMG, PAGE_STAT_READY,
        1)]).ringNow),
      by decide +kernel, by decide +kernel, by decide +kernel, rfl⟩,
    ⟨(w [(pgBIND, PAGE_STAT_READY, 1)]),
      by decide +kernel⟩,
    ⟨({ (w []) with img := { bindBusy := true } }),
      by decide +kernel⟩,
    ⟨(w [(pgBIND, PAGE_STAT_READY, 1)]),
      by decide +kernel⟩,
    ⟨((w [(pgMOV, MOVn_CFG_SRC_KIND, 5), (pgPCIE, PCIE_STAT_LINK_UP, 1), (pgPCIE, PCIE_STAT_BME,
        1)]).setCopy 0 { due := true }), 0,
      by decide +kernel⟩,
    ⟨((w [(pgPCIE, PCIE_STAT_LINK_UP, 1), (pgPCIE, PCIE_STAT_BME, 1)]).setCopy 0 { busy := true }), 0,
      by decide +kernel⟩,
    ⟨(w [(pgIMG, PAGE_STAT_READY, 1), (pgIMG, IMG_PIN_STAT_STATE, 1)]),
      by decide +kernel⟩,
    ⟨(State.setCopy (w []) 0 { due := true }), 0,
      by decide +kernel⟩,
    ⟨(State.setCopy (w [(pgPCIE, PCIE_STAT_LINK_UP, 1), (pgPCIE, PCIE_STAT_BME, 1)]) 0 { busy := true, stop := true }), 0,
      by decide +kernel⟩⟩

/-- The hypotheses of `Obligations.AxesTakeEffect` can be met. -/
theorem witness_AxesTakeEffect :
    (∃ (s : State) (axis : Nat) (a : Bool) (b : Bool), s.enabled pgAXIS = true ∧ axis < 16 ∧ s.axisSrc axis = 1
        ∧ (s.node == nsQUIET) = false ∧ a = s.rawLevel (s.rd pgAXIS AXISn_CFG_SRC_A axis)
        ∧ b = s.rawLevel (s.rd pgAXIS AXISn_CFG_SRC_B axis) ∧ (s.axisSt axis).a ≠ a ∧ (s.axisSt axis).b = b)
    ∧ (∃ (s : State) (axis : Nat) (a : Bool) (b : Bool), s.enabled pgAXIS = true ∧ axis < 16 ∧ s.axisSrc axis = 1
        ∧ (s.node == nsQUIET) = false ∧ a = s.rawLevel (s.rd pgAXIS AXISn_CFG_SRC_A axis)
        ∧ b = s.rawLevel (s.rd pgAXIS AXISn_CFG_SRC_B axis) ∧ (s.axisSt axis).a ≠ a ∧ (s.axisSt axis).b ≠ b)
    ∧ (∃ (s : State) (axis : Nat), s.enabled pgAXIS = true ∧ axis < 16 ∧ s.axisSrc axis = 2)
    ∧ (∃ (s : State) (lane : Nat) (a : Nat) (x : Nat), (s.laneSt lane).ssi = some (some a, x) ∧ s.laneDark lane = false
        ∧ s.lanePar lane = false ∧ s.laneRd lane LANE_FMT_ZERO_CHK = 0 ∧ s.laneRd lane LANE_MODE_RX_EN ≠ 1)
    ∧ (∃ (s : State) (axis : Nat), s.takes pgAXIS = true ∧ axis < 16)
    ∧ (∃ (s : State) (ref : Nat) (t2 : Nat) (y : Nat) (x : Nat × Nat), s.refLine ref = some (x, (t2, y))
        ∧ (s.refSt ref).valid = true)
    ∧ (∃ (s : State) (axis : Nat) (a : Bool) (b : Bool), s.enabled pgAXIS = true ∧ axis < 16 ∧ s.axisSrc axis = 1
        ∧ (s.node == nsQUIET) = false ∧ a = s.rawLevel (s.rd pgAXIS AXISn_CFG_SRC_A axis)
        ∧ b = s.rawLevel (s.rd pgAXIS AXISn_CFG_SRC_B axis) ∧ (s.axisSt axis).a = a ∧ (s.axisSt axis).b ≠ b) :=
  ⟨⟨((w [(pgAXIS, PAGE_CTRL_EN, 1), (pgAXIS, AXISn_CFG_SRC, 1)]).setAxis 0 { a := true }), 0, false, false,
      by decide +kernel⟩,
    ⟨((w [(pgAXIS, PAGE_CTRL_EN, 1), (pgAXIS, AXISn_CFG_SRC, 1)]).setAxis 0 { a := true, b := true }), 0, false, false,
      by decide +kernel⟩,
    ⟨(w [(pgAXIS, PAGE_CTRL_EN, 1), (pgAXIS, AXISn_CFG_SRC, 2)]), 0,
      by decide +kernel⟩,
    ⟨((w [(lanePg 63, LANE_MODE_RX_EN, 0)]).setLane 63 { ssi := some (some 0, 4) }), 63, 0, 4,
      by decide +kernel⟩,
    ⟨(w [(pgAXIS, PAGE_STAT_READY, 1)]), 15,
      by decide +kernel⟩,
    ⟨sRefLine, 0, 8, 5, (4, 3),
      by decide +kernel⟩,
    ⟨((w [(pgAXIS, PAGE_CTRL_EN, 1), (pgAXIS, AXISn_CFG_SRC, 1)]).setAxis 0 { b := true }), 0, false, false,
      by decide +kernel⟩⟩

/-- The hypotheses of `Obligations.TrackingCommandsTakeEffect` can be met. -/
theorem witness_TrackingCommandsTakeEffect :
    (∃ (s : State), s.takes pgTRK = true)
    ∧ (∃ (s : State) (ini : Initiator) (x : Win), s.takes pgTRK = true ∧ (x = {
            ctl := s.rd pgTRK TRK_WINn_DATA 0 ini.num, arm := s.rd pgTRK TRK_WINn_DATA 1 ini.num,
            hit := s.rd pgTRK TRK_WINn_DATA 2 ini.num, openOff := s.rd pgTRK TRK_WINn_DATA 3 ini.num,
            closeOff := s.rd pgTRK TRK_WINn_DATA 4 ini.num, act := s.rd pgTRK TRK_WINn_DATA 5 ini.num }))
    ∧ (∃ (s : State), s.takes pgTRK = true)
    ∧ (∃ (s : State), s.takes pgTRK = true) :=
  ⟨⟨(w [(pgTRK, PAGE_STAT_READY, 1)]),
      by decide +kernel⟩,
    ⟨(State.wr (w [(pgTRK, PAGE_STAT_READY, 1)]) pgTRK TRK_WINn_DATA 9 4 1), .pcie, { closeOff := 9 },
      by decide +kernel⟩,
    ⟨((w [(pgTRK, PAGE_STAT_READY, 1)]).setWin 0 { ctl := wsLISTEN }),
      by decide +kernel⟩,
    ⟨((w [(pgTRK, PAGE_STAT_READY, 1)]).setWin 0 { ctl := wsLISTEN }),
      by decide +kernel⟩⟩

/-- The hypotheses of `Obligations.LaunchesExecuteAtTheirTime` can be met. -/
theorem witness_LaunchesExecuteAtTheirTime :
    (∃ (s : State) (i : Nat) (e : LaunchEnt), s.locked = true ∧ s.enabled pgLNCH = true ∧ firstLaunch s.launches = some (i,
        e) ∧ opOf e.opword = opDO_SET)
    ∧ (∃ (s : State) (i : Nat) (e : LaunchEnt), s.locked = true ∧ s.enabled pgLNCH = true ∧ firstLaunch s.launches = some (i,
        e) ∧ opOf e.opword = opDO_CLEAR)
    ∧ (∃ (s : State) (i : Nat) (e : LaunchEnt), s.locked = true ∧ s.enabled pgLNCH = true ∧ firstLaunch s.launches = some (i,
        e) ∧ opOf e.opword = opDO_PULSE)
    ∧ (∃ (s : State) (i : Nat) (e : LaunchEnt), s.locked = true ∧ s.enabled pgLNCH = true ∧ firstLaunch s.launches = some (i,
        e) ∧ opOf e.opword = opLANE_START)
    ∧ (∃ (s : State) (i : Nat) (e : LaunchEnt), s.locked = true ∧ s.enabled pgLNCH = true ∧ firstLaunch s.launches = some (i,
        e) ∧ opOf e.opword = opCOG_START)
    ∧ (∃ (s : State) (i : Nat) (e : LaunchEnt), s.locked = true ∧ s.enabled pgLNCH = true ∧ firstLaunch s.launches = some (i,
        e) ∧ opOf e.opword = opPOINT_WRITE)
    ∧ (∃ (s : State) (i : Nat) (e : LaunchEnt), s.locked = true ∧ s.enabled pgLNCH = true ∧ firstLaunch s.launches = some (i,
        e) ∧ opOf e.opword = opCAN_INJECT)
    ∧ (∃ (s : State) (i : Nat) (e : LaunchEnt), s.locked = true
        ∧ (firstLaunch (s.launches.filter (fun x => !x.2.staged)) = some (i, e)))
    ∧ (∃ (s : State) (line : Nat) (t : Nat), (s.lineSt line).pulseEnd = some t)
    ∧ (∃ (s : State), s.takes pgLNCH = true ∧ s.enabled pgLNCH = true)
    ∧ (∃ (s : State), s.takes pgLNCH = true)
    ∧ (∃ (s : State), s.takes pgLNCH = true) :=
  ⟨⟨(sLaunch opDO_SET), 0, (launchOf opDO_SET),
      by decide +kernel⟩,
    ⟨(sLaunch opDO_CLEAR), 0, (launchOf opDO_CLEAR),
      by decide +kernel⟩,
    ⟨(sLaunch opDO_PULSE), 0, (launchOf opDO_PULSE),
      by decide +kernel⟩,
    ⟨(sLaunch opLANE_START), 0, (launchOf opLANE_START),
      by decide +kernel⟩,
    ⟨(sLaunch opCOG_START), 0, (launchOf opCOG_START),
      by decide +kernel⟩,
    ⟨(sLaunch opPOINT_WRITE), 0, (launchOf opPOINT_WRITE),
      by decide +kernel⟩,
    ⟨(sLaunch opCAN_INJECT), 0, (launchOf opCAN_INJECT),
      by decide +kernel⟩,
    ⟨(sLaunch opDO_SET), 0, (launchOf opDO_SET),
      by decide +kernel⟩,
    ⟨((w []).setLine 255 { pulseEnd := some 4 }), 255, 4,
      by decide +kernel⟩,
    ⟨(w [(pgLNCH, PAGE_STAT_READY, 1), (pgLNCH, PAGE_CTRL_EN, 1)]),
      by decide +kernel⟩,
    ⟨((w [(pgLNCH, PAGE_STAT_READY, 1)]).setLaunch 0 { time := 0, opword := 0x80 }),
      by decide +kernel⟩,
    ⟨(w [(pgLNCH, PAGE_STAT_READY, 1)]),
      by decide +kernel⟩⟩

/-- The hypotheses of `Obligations.DiscreteLinesTakeEffect` can be met. -/
theorem witness_DiscreteLinesTakeEffect :
    (∃ (s : State) (line : Nat) (level : Bool), line < 256 ∧ s.sampling line = true ∧ (level && s.lineOff line) = false
        ∧ (s.dioBit line DIO_RAW_W == level) = false)
    ∧ (∃ (s : State) (line : Nat), line < 256 ∧ s.sampling line = true ∧ (s.dioBit line DIO_IN_W == s.filtered line) = false)
    ∧ (∃ (s : State), s.held = [])
    ∧ (∃ (s : State) (line : Nat), line < 256 ∧ s.dioBit line DIO_CHATTER_W = true)
    ∧ (∃ (s : State) (line : Nat) (t : Nat), (s.lineSt line).activeAt = some t ∧ s.dioCfg line DIO_LINEj_CFG_STUCK_EN = 1
        ∧ s.dioCfg line DIO_LINEj_CFG_DIR = 0 ∧ s.dioBit line DIO_STUCK_W = false ∧ s.sampling line = true)
    ∧ (∃ (s : State) (line : Nat) (e : Bool), s.held = [] ∧ (s.lineSt line).rb = some e
        ∧ s.dioCfg line DIO_LINEj_CFG_RB_EN = 1 ∧ e ≠ s.dioBit line DIO_RAW_W ∧ s.dioBit line DIO_RB_FAIL_W = false)
    ∧ (∃ (bank : Nat), bank < 36)
    ∧ (∃ (s : State) (page : Nat), page < 8 ∧ s.takes (pgDIO + page) = true)
    ∧ (∃ (s : State) (page : Nat), page < 8 ∧ s.takes (pgDIO + page) = true)
    ∧ (∃ (s : State) (page : Nat), page < 8 ∧ s.openTo (pgDIO + page) = true)
    ∧ (∃ (s : State) (page : Nat), page < 8 ∧ s.takes (pgDIO + page) = true)
    ∧ (∃ (s : State) (line : Nat) (level : Bool), line < 256 ∧ s.sampling line = true ∧ (level && s.lineOff line) = false) :=
  ⟨⟨(w []), 255, true,
      by decide +kernel⟩,
    ⟨((w []).setDioBit 255 DIO_RAW_W true), 255,
      by decide +kernel⟩,
    ⟨(w []),
      by decide +kernel⟩,
    ⟨((w []).setDioBit 255 DIO_CHATTER_W true), 255,
      by decide +kernel⟩,
    ⟨((w [(pgDIO, DIO_LINEj_CFG_STUCK_EN, 1)]).setLine 0 { activeAt := some 4 }), 0, 4,
      by decide +kernel⟩,
    ⟨((w [(pgDIO, DIO_LINEj_CFG_RB_EN, 1)]).setLine 0 { rb := some true }), 0, true,
      by decide +kernel⟩,
    ⟨31,
      by decide +kernel⟩,
    ⟨(w [(pgDIO + 7, PAGE_STAT_READY, 1)]), 7,
      by decide +kernel⟩,
    ⟨(w [(pgDIO + 7, PAGE_STAT_READY, 1)]), 7,
      by decide +kernel⟩,
    ⟨(w [(pgDIO + 7, PAGE_STAT_READY, 1)]), 7,
      by decide +kernel⟩,
    ⟨(w [(pgDIO + 7, PAGE_STAT_READY, 1)]), 7,
      by decide +kernel⟩,
    ⟨(w [(pgPWRST, PWRST_STATE_STATE, nsSERVICE)]), 255, true,
      by decide +kernel⟩⟩

/-- The hypotheses of `Obligations.LaneFifoCommandsTakeEffect` can be met. -/
theorem witness_LaneFifoCommandsTakeEffect :
    (∃ (s : State) (lane : Nat), lane < 64 ∧ s.takes (lanePg lane) = true ∧ (s.laneNow lane).laneRoom lane = true)
    ∧ (∃ (s : State) (lane : Nat), lane < 64 ∧ s.takes (lanePg lane) = true ∧ (s.laneNow lane).laneRoom lane = true)
    ∧ (∃ (s : State) (lane : Nat) (f : LaneSend) (t : State), t = s.laneNow lane ∧ (t.laneSt lane).send = some f
        ∧ f.halt = false ∧ f.under = false ∧ t.lanePaused lane = false ∧ (f.left (t.laneSt lane).tx).isEmpty = false)
    ∧ (∃ (s : State) (x : LaneWait) (l : List LaneWait), s.upd.waits = x :: l)
    ∧ (∃ (s : State) (lane : Nat) (x : LaneWait) (l : List LaneWait) (u : State), lane ≠ 64 ∧ (s.laneSt lane).wait = x :: l
        ∧ x.ini ≠ .bridge ∧ u = (s.passTo (x.at_ + 100000)).laneNow lane ∧ (u.laneSt lane).wait.head? = some x)
    ∧ (∃ (s : State) (lane : Nat) (x : LaneWord) (l : List LaneWord), s.held = [] ∧ s.on (lanePg lane) PAGE_STAT_READY = true
        ∧ (s.laneSt lane).rx = x :: l ∧ x.bad = false)
    ∧ (∃ (s : State) (lane : Nat), s.takes (lanePg lane) = true)
    ∧ (∃ (s : State) (lane : Nat), s.takes (lanePg lane) = true ∧ (s.laneSt lane).send = none)
    ∧ (∃ (s : State) (lane : Nat), s.takes (lanePg lane) = true ∧ (s.laneSt lane).rx.any (·.fin) = true)
    ∧ (∃ (s : State) (lane : Nat), s.takes (lanePg lane) = true ∧ (s.laneSt lane).rx.any (·.fin) = false)
    ∧ (∃ (s : State) (lane : Nat), s.takes (lanePg lane) = true ∧ (s.laneSt lane).send = none) :=
  ⟨⟨(w [(lanePg 63, PAGE_STAT_READY, 1)]), 63,
      by decide +kernel⟩,
    ⟨(w [(lanePg 63, PAGE_STAT_READY, 1)]), 63,
      by decide +kernel⟩,
    ⟨((w []).setLane 63 { tx := [⟨7, true, false⟩], send := some { edge := 1000 } }), 63,
        (((((w []).setLane 63 { tx := [⟨7, true, false⟩], send := some { edge := 1000 } }).laneNow 63).laneSt 63).send.getD
        {}), (((w []).setLane 63 { tx := [⟨7, true, false⟩], send := some { edge := 1000 } }).laneNow 63),
      rfl, by decide +kernel, by decide +kernel, by decide +kernel, by decide +kernel, by decide +kernel⟩,
    ⟨({ (w []) with upd := { waits := [{ ini := .hk, data := 1, fin := false, at_ := 4 }] } }),
        { ini := .hk, data := 1, fin := false, at_ := 4 }, [],
      by decide +kernel⟩,
    ⟨((w []).setLane 63 { tx := List.replicate 256 { data := 1, fin := false }, wait := [{ ini := .hk, data := 1, fin := false, at_ := 4 }] }), 63, { ini := .hk, data := 1, fin := false, at_ := 4 }, [], ((((w []).setLane 63 { tx := List.replicate 256 { data := 1, fin := false }, wait := [{ ini := .hk, data := 1, fin := false, at_ := 4 }] }).passTo 100004).laneNow 63),
      by decide +kernel, by decide +kernel, by decide +kernel, rfl, by decide +kernel⟩,
    ⟨((w [(lanePg 63, PAGE_STAT_READY, 1)]).setLane 63 { rx := [⟨7, true, false⟩] }), 63, (⟨7, true, false⟩), [],
      by decide +kernel⟩,
    ⟨(w [(lanePg 63, PAGE_STAT_READY, 1)]), 63,
      by decide +kernel⟩,
    ⟨(w [(lanePg 63, PAGE_STAT_READY, 1)]), 63,
      by decide +kernel⟩,
    ⟨((w [(lanePg 63, PAGE_STAT_READY, 1)]).setLane 63 { rx := [⟨7, true, false⟩] }), 63,
      by decide +kernel⟩,
    ⟨((w [(lanePg 63, PAGE_STAT_READY, 1)]).setLane 63 { rx := [⟨7, false, false⟩] }), 63,
      by decide +kernel⟩,
    ⟨(w [(lanePg 63, PAGE_STAT_READY, 1)]), 63,
      by decide +kernel⟩⟩

/-- The hypotheses of `Obligations.LaneFramesTakeEffect` can be met. -/
theorem witness_LaneFramesTakeEffect :
    (∃ (s : State) (lane : Nat), s.takes (lanePg lane) = true)
    ∧ (∃ (s : State) (lane : Nat), s.takes (lanePg lane) = true ∧ s.laneOn lane = true ∧ s.laneMode lane = 4
        ∧ s.laneGated = false ∧ (s.laneSt lane).send = none ∧ (s.laneSt lane).rsp = 0)
    ∧ (∃ (s : State) (lane : Nat) (t : Nat), (s.laneSt lane).wurqEnd = some t)
    ∧ (∃ (s : State) (lane : Nat), s.laneReady lane = true)
    ∧ (∃ (s : State) (lane : Nat) (nack : Bool) (f : LaneSend) (t : State), t = s.laneNow lane
        ∧ (t.laneSt lane).send = some f ∧ f.halt = false ∧ (f.under && (t.laneSt lane).tx.isEmpty) = false
        ∧ (t.lanePaused lane && decide (f.chars < t.laneAvail lane f (t.laneSt lane).tx)) = false ∧ (t.laneMode lane ≠ 2
        ∨ nack = false) ∧ t.laneReadDone lane f = true ∧ (f.whole || (t.laneSt lane).tx.any (·.fin)) = true)
    ∧ (∃ (s : State) (lane : Nat) (f : LaneSend) (t : State), t = s.laneNow lane ∧ (t.laneSt lane).send = some f
        ∧ f.halt = false ∧ (f.under && (t.laneSt lane).tx.isEmpty) = false
        ∧ (t.lanePaused lane && decide (f.chars < t.laneAvail lane f (t.laneSt lane).tx)) = false ∧ t.laneMode lane = 2)
    ∧ (∃ (s : State) (lane : Nat), lane < 64 ∧ s.laneDark lane = false ∧ s.laneMode lane = 1)
    ∧ (∃ (s : State) (lane : Nat), s.laneOn lane = true ∧ (s.laneSt lane).pkt ≠ [] ∧ s.laneMode lane = 1
        ∧ (s.laneSt lane).send = none)
    ∧ (∃ (s : State) (lane : Nat) (f : LaneSend) (t : State), t = s.laneNow lane ∧ (t.laneSt lane).send = some f
        ∧ t.laneMode lane = 2 ∧ f.halt = false)
    ∧ (∃ (s : State) (lane : Nat), s.laneOn lane = true ∧ s.laneMode lane = 4 ∧ (s.laneSt lane).rsp ≠ 0
        ∧ (s.laneSt lane).rsp = (s.laneSt lane).rspLen)
    ∧ (∃ (s : State) (lane : Nat) (nack : Bool) (f : LaneSend) (t : State), t = s.laneNow lane
        ∧ (t.laneSt lane).send = some f ∧ f.halt = false ∧ (f.under && (t.laneSt lane).tx.isEmpty) = false
        ∧ (t.lanePaused lane && decide (f.chars < t.laneAvail lane f (t.laneSt lane).tx)) = false ∧ (t.laneMode lane ≠ 2
        ∨ nack = false) ∧ t.laneReadDone lane f = true ∧ (f.whole || (t.laneSt lane).tx.any (·.fin)) = false)
    ∧ (∃ (s : State) (lane : Nat), lane < 64 ∧ s.rxOpen lane = true ∧ s.laneDark lane = false ∧ s.laneMode lane = 0) :=
  ⟨⟨(w [(lanePg 63, PAGE_STAT_READY, 1)]), 63,
      by decide +kernel⟩,
    ⟨(w [(lanePg 0, PAGE_STAT_READY, 1), (lanePg 0, PAGE_CTRL_EN, 1), (lanePg 0, LANE_MODE_MODE, 4), (pgPWRST,
        PWRST_STATE_STATE, nsSERVICE), (pgPWRST, PWRST_STATE_STEP, 7)]), 0,
      by decide +kernel⟩,
    ⟨((w []).setLane 63 { wurqEnd := some 4 }), 63, 4,
      by decide +kernel⟩,
    ⟨((w [(lanePg 0, PAGE_STAT_READY, 1), (lanePg 0, PAGE_CTRL_EN, 1), (lanePg 0, LANE_MODE_MODE, 0), (pgPWRST,
        PWRST_STATE_STATE, nsSERVICE), (pgPWRST, PWRST_STATE_STEP, 7)]).setLane 0 { tx := [⟨7, true, false⟩] }), 0,
      by decide +kernel⟩,
    ⟨((w []).setLane 0 { send := some { words := [7], whole := true } }), 0, false,
        (((((w []).setLane 0 { send := some { words := [7], whole := true } }).laneNow 0).laneSt 0).send.getD {}),
        (((w []).setLane 0 { send := some { words := [7], whole := true } }).laneNow 0),
      rfl, by decide +kernel, by decide +kernel, by decide +kernel, by decide +kernel, by decide +kernel, by decide +kernel,
          by decide +kernel⟩,
    ⟨((w [(lanePg 0, LANE_MODE_MODE, 2)]).setLane 0 { send := some { words := [7], whole := true } }), 0, (((((w [(lanePg 0,
        LANE_MODE_MODE, 2)]).setLane 0 { send := some { words := [7], whole := true } }).laneNow 0).laneSt 0).send.getD {}),
        (((w [(lanePg 0, LANE_MODE_MODE, 2)]).setLane 0 { send := some { words := [7], whole := true } }).laneNow 0),
      rfl, by decide +kernel, by decide +kernel, by decide +kernel, by decide +kernel, by decide +kernel⟩,
    ⟨(w [(lanePg 0, PAGE_CTRL_EN, 1), (lanePg 0, LANE_MODE_MODE, 1), (lanePg 0, LANE_MODE_RX_EN, 1), (pgPWRST,
        PWRST_STATE_STATE, nsSERVICE), (pgPWRST, PWRST_STATE_STEP, 7)]), 0,
      by decide +kernel⟩,
    ⟨((w [(lanePg 0, PAGE_CTRL_EN, 1), (lanePg 0, LANE_MODE_MODE, 1)]).setLane 0 { pkt := [1] }), 0,
      by decide +kernel⟩,
    ⟨((w [(lanePg 0, LANE_MODE_MODE, 2)]).setLane 0 { send := some { words := [7], whole := true } }), 0, (((((w [(lanePg 0,
        LANE_MODE_MODE, 2)]).setLane 0 { send := some { words := [7], whole := true } }).laneNow 0).laneSt 0).send.getD {}),
        (((w [(lanePg 0, LANE_MODE_MODE, 2)]).setLane 0 { send := some { words := [7], whole := true } }).laneNow 0),
      rfl, by decide +kernel, by decide +kernel, by decide +kernel⟩,
    ⟨((w [(lanePg 0, PAGE_CTRL_EN, 1), (lanePg 0, LANE_MODE_MODE, 4)]).setLane 0 { rsp := 1, rspLen := 1 }), 0,
      by decide +kernel⟩,
    ⟨((w []).setLane 0 { send := some { words := [7] }, tx := [⟨7, false, false⟩] }), 0, false,
        (((((w []).setLane 0 { send := some { words := [7] }, tx := [⟨7, false, false⟩] }).laneNow 0).laneSt 0).send.getD
        {}), (((w []).setLane 0 { send := some { words := [7] }, tx := [⟨7, false, false⟩] }).laneNow 0),
      rfl, by decide +kernel, by decide +kernel, by decide +kernel, by decide +kernel, by decide +kernel, by decide +kernel,
          by decide +kernel⟩,
    ⟨(w [(lanePg 0, PAGE_CTRL_EN, 1), (lanePg 0, LANE_MODE_MODE, 0), (lanePg 0, LANE_MODE_RX_EN, 1), (pgPWRST,
        PWRST_STATE_STATE, nsSERVICE), (pgPWRST, PWRST_STATE_STEP, 7)]), 0,
      by decide +kernel⟩⟩

/-- The hypotheses of `Obligations.MoverCommandsTakeEffect` can be met. -/
theorem witness_MoverCommandsTakeEffect :
    (∃ (s : State) (mover : Nat), s.takes pgMOV = true ∧ s.enabled pgMOV = true ∧ mover < 48)
    ∧ (∃ (s : State) (mover : Nat), s.takes pgMOV = true ∧ mover < 48)
    ∧ (∃ (s : State) (mover : Nat) (t : State), (t = (List.range 64).foldl (fun (v : State) l => v.laneNow l) s)
        ∧ t.movTurn = some mover ∧ t.copyNow mover = none)
    ∧ (∃ (s : State) (mover : Nat) (t : Nat), (s.moverSt mover).backoff = some t)
    ∧ (∃ (s : State) (mover : Nat) (ch : Nat) (t : State), (t = (List.range 64).foldl (fun (v : State) l => v.laneNow l) s)
        ∧ t.movTurn = some mover ∧ t.copyNow mover = some ch) :=
  ⟨⟨(w [(pgMOV, PAGE_STAT_READY, 1), (pgMOV, PAGE_CTRL_EN, 1)]), 47,
      by decide +kernel⟩,
    ⟨(wi [(pgMOV, PAGE_STAT_READY, 1, 0), (pgMOV, MOVn_STAT_STATE, 1, 47)]), 47,
      by decide +kernel⟩,
    ⟨(w [(pgMOV, PAGE_CTRL_EN, 1), (pgMOV, MOVn_STAT_STATE, 1), (pgMOV, MOVn_CFG_RING, 1)]), 0,
        ((List.range 64).foldl (fun (v : State) l => v.laneNow l) (w [(pgMOV, PAGE_CTRL_EN, 1), (pgMOV, MOVn_STAT_STATE, 1),
        (pgMOV, MOVn_CFG_RING, 1)])),
      rfl, by decide +kernel, by decide +kernel⟩,
    ⟨((w []).setMover 47 { backoff := some 4 }), 47, 4,
      by decide +kernel⟩,
    ⟨((w [(pgMOV, PAGE_CTRL_EN, 1)]).setCopy 1 { busy := true, mover := 3 }), 3, 1,
        ((List.range 64).foldl (fun (v : State) l => v.laneNow l) ((w [(pgMOV, PAGE_CTRL_EN,
        1)]).setCopy 1 { busy := true, mover := 3 })),
      rfl, by decide +kernel, by decide +kernel⟩⟩

/-- The hypotheses of `Obligations.CogInstructionsExecute` can be met. -/
theorem witness_CogInstructionsExecute :
    (∃ (s : State) (e : Nat) (levels : Nat) (x : Nat) (u : State), s.cogRd e COGe_STAT_STATE = 1
        ∧ cogIllegal (s.cogWord e) (s.cogRd e COGe_STAT_PC) = false ∧ bitsOf (s.cogWord e) 20 4 = 0x0
        ∧ u = ((s.passTo (s.cogSt e).due).cogPass e).cogLook e levels ∧ x = s.cogWord e)
    ∧ (∃ (s : State) (e : Nat) (levels : Nat) (x : Nat) (u : State), s.cogRd e COGe_STAT_STATE = 1
        ∧ cogIllegal (s.cogWord e) (s.cogRd e COGe_STAT_PC) = false ∧ bitsOf (s.cogWord e) 20 4 = 0x1
        ∧ u = ((s.passTo (s.cogSt e).due).cogPass e).cogLook e levels ∧ x = s.cogWord e)
    ∧ (∃ (s : State) (e : Nat) (levels : Nat) (x : Nat) (u : State), s.cogRd e COGe_STAT_STATE = 1
        ∧ cogIllegal (s.cogWord e) (s.cogRd e COGe_STAT_PC) = false ∧ bitsOf (s.cogWord e) 20 4 = 0x2
        ∧ u = ((s.passTo (s.cogSt e).due).cogPass e).cogLook e levels ∧ x = s.cogWord e)
    ∧ (∃ (s : State) (e : Nat) (levels : Nat) (x : Nat) (u : State), s.cogRd e COGe_STAT_STATE = 1
        ∧ cogIllegal (s.cogWord e) (s.cogRd e COGe_STAT_PC) = false ∧ bitsOf (s.cogWord e) 20 4 = 0x3
        ∧ u = ((s.passTo (s.cogSt e).due).cogPass e).cogLook e levels ∧ x = s.cogWord e)
    ∧ (∃ (s : State) (e : Nat) (levels : Nat) (x : Nat) (u : State), s.cogRd e COGe_STAT_STATE = 1
        ∧ cogIllegal (s.cogWord e) (s.cogRd e COGe_STAT_PC) = false ∧ bitsOf (s.cogWord e) 20 4 = 0x4
        ∧ u = ((s.passTo (s.cogSt e).due).cogPass e).cogLook e levels ∧ x = s.cogWord e)
    ∧ (∃ (s : State) (e : Nat) (levels : Nat) (x : Nat) (u : State), s.cogRd e COGe_STAT_STATE = 1
        ∧ cogIllegal (s.cogWord e) (s.cogRd e COGe_STAT_PC) = false ∧ bitsOf (s.cogWord e) 20 4 = 0x5
        ∧ u = ((s.passTo (s.cogSt e).due).cogPass e).cogLook e levels ∧ x = s.cogWord e)
    ∧ (∃ (s : State) (e : Nat) (levels : Nat) (x : Nat) (u : State), s.cogRd e COGe_STAT_STATE = 1
        ∧ cogIllegal (s.cogWord e) (s.cogRd e COGe_STAT_PC) = false ∧ bitsOf (s.cogWord e) 20 4 = 0x6
        ∧ u = ((s.passTo (s.cogSt e).due).cogPass e).cogLook e levels ∧ x = s.cogWord e)
    ∧ (∃ (s : State) (e : Nat) (levels : Nat) (x : Nat) (u : State), s.cogRd e COGe_STAT_STATE = 1
        ∧ cogIllegal (s.cogWord e) (s.cogRd e COGe_STAT_PC) = false ∧ bitsOf (s.cogWord e) 20 4 = 0x7
        ∧ u = ((s.passTo (s.cogSt e).due).cogPass e).cogLook e levels ∧ x = s.cogWord e)
    ∧ (∃ (s : State) (e : Nat) (levels : Nat) (x : Nat) (u : State), s.cogRd e COGe_STAT_STATE = 1
        ∧ cogIllegal (s.cogWord e) (s.cogRd e COGe_STAT_PC) = false ∧ bitsOf (s.cogWord e) 20 4 = 0x8
        ∧ u = ((s.passTo (s.cogSt e).due).cogPass e).cogLook e levels ∧ x = s.cogWord e)
    ∧ (∃ (s : State) (e : Nat) (levels : Nat) (x : Nat) (u : State), s.cogRd e COGe_STAT_STATE = 1
        ∧ cogIllegal (s.cogWord e) (s.cogRd e COGe_STAT_PC) = false ∧ bitsOf (s.cogWord e) 20 4 = 0x9
        ∧ u = ((s.passTo (s.cogSt e).due).cogPass e).cogLook e levels ∧ x = s.cogWord e)
    ∧ (∃ (s : State) (e : Nat) (levels : Nat) (x : Nat) (u : State), s.cogRd e COGe_STAT_STATE = 1
        ∧ cogIllegal (s.cogWord e) (s.cogRd e COGe_STAT_PC) = false ∧ bitsOf (s.cogWord e) 20 4 = 0xA
        ∧ u = ((s.passTo (s.cogSt e).due).cogPass e).cogLook e levels ∧ x = s.cogWord e)
    ∧ (∃ (s : State) (e : Nat) (levels : Nat) (u : State), s.cogRd e COGe_STAT_STATE = 1
        ∧ u = ((s.passTo (s.cogSt e).due).cogPass e).cogLook e levels)
    ∧ (∃ (s : State) (e : Nat) (levels : Nat) (u : State), s.cogRd e COGe_STAT_STATE = 1
        ∧ u = ((s.passTo (s.cogSt e).due).cogPass e).cogLook e levels
        ∧ cogIllegal (s.cogWord e) (s.cogRd e COGe_STAT_PC) = true) :=
  ⟨⟨(w [(pgCOG, COGe_STAT_STATE, 1), (pgCOG, COG_STOREa_WORD, 0)]), 0, 5, (State.cogWord (w [(pgCOG, COGe_STAT_STATE, 1),
      (pgCOG, COG_STOREa_WORD, 0)]) 0), (((State.passTo (w [(pgCOG, COGe_STAT_STATE, 1), (pgCOG, COG_STOREa_WORD,
      0)]) (State.cogSt (w [(pgCOG, COGe_STAT_STATE, 1), (pgCOG, COG_STOREa_WORD, 0)]) 0).due).cogPass 0).cogLook 0 5),
      by decide +kernel⟩,
    ⟨(w [(pgCOG, COGe_STAT_STATE, 1), (pgCOG, COG_STOREa_WORD, 0x1 * 2 ^ 20)]), 0, 5, (State.cogWord (w [(pgCOG,
        COGe_STAT_STATE, 1), (pgCOG, COG_STOREa_WORD, 0x1 * 2 ^ 20)]) 0), (((State.passTo (w [(pgCOG, COGe_STAT_STATE, 1),
        (pgCOG, COG_STOREa_WORD, 0x1 * 2 ^ 20)]) (State.cogSt (w [(pgCOG, COGe_STAT_STATE, 1), (pgCOG, COG_STOREa_WORD,
        0x1 * 2 ^ 20)]) 0).due).cogPass 0).cogLook 0 5),
      by decide +kernel⟩,
    ⟨(w [(pgCOG, COGe_STAT_STATE, 1), (pgCOG, COG_STOREa_WORD, 0x2 * 2 ^ 20)]), 0, 5, (State.cogWord (w [(pgCOG,
        COGe_STAT_STATE, 1), (pgCOG, COG_STOREa_WORD, 0x2 * 2 ^ 20)]) 0), (((State.passTo (w [(pgCOG, COGe_STAT_STATE, 1),
        (pgCOG, COG_STOREa_WORD, 0x2 * 2 ^ 20)]) (State.cogSt (w [(pgCOG, COGe_STAT_STATE, 1), (pgCOG, COG_STOREa_WORD,
        0x2 * 2 ^ 20)]) 0).due).cogPass 0).cogLook 0 5),
      by decide +kernel⟩,
    ⟨sCogTake, 0, 5, (State.cogWord sCogTake 0), sCogTakeU,
      by decide +kernel⟩,
    ⟨sCogGive, 0, 5, (State.cogWord sCogGive 0), sCogGiveU,
      by decide +kernel⟩,
    ⟨(w [(pgCOG, COGe_STAT_STATE, 1), (pgCOG, COG_STOREa_WORD, 0x5 * 2 ^ 20)]), 0, 5, (State.cogWord (w [(pgCOG,
        COGe_STAT_STATE, 1), (pgCOG, COG_STOREa_WORD, 0x5 * 2 ^ 20)]) 0), (((State.passTo (w [(pgCOG, COGe_STAT_STATE, 1),
        (pgCOG, COG_STOREa_WORD, 0x5 * 2 ^ 20)]) (State.cogSt (w [(pgCOG, COGe_STAT_STATE, 1), (pgCOG, COG_STOREa_WORD,
        0x5 * 2 ^ 20)]) 0).due).cogPass 0).cogLook 0 5),
      by decide +kernel⟩,
    ⟨(w [(pgCOG, COGe_STAT_STATE, 1), (pgCOG, COG_STOREa_WORD, 0x6 * 2 ^ 20 + 5)]), 0, 5, (State.cogWord (w [(pgCOG,
        COGe_STAT_STATE, 1), (pgCOG, COG_STOREa_WORD, 0x6 * 2 ^ 20 + 5)]) 0), (((State.passTo (w [(pgCOG, COGe_STAT_STATE,
        1), (pgCOG, COG_STOREa_WORD, 0x6 * 2 ^ 20 + 5)]) (State.cogSt (w [(pgCOG, COGe_STAT_STATE, 1), (pgCOG,
        COG_STOREa_WORD, 0x6 * 2 ^ 20 + 5)]) 0).due).cogPass 0).cogLook 0 5),
      by decide +kernel⟩,
    ⟨(w [(pgCOG, COGe_STAT_STATE, 1), (pgCOG, COG_STOREa_WORD, 0x7 * 2 ^ 20)]), 0, 5, (State.cogWord (w [(pgCOG,
        COGe_STAT_STATE, 1), (pgCOG, COG_STOREa_WORD, 0x7 * 2 ^ 20)]) 0), (((State.passTo (w [(pgCOG, COGe_STAT_STATE, 1),
        (pgCOG, COG_STOREa_WORD, 0x7 * 2 ^ 20)]) (State.cogSt (w [(pgCOG, COGe_STAT_STATE, 1), (pgCOG, COG_STOREa_WORD,
        0x7 * 2 ^ 20)]) 0).due).cogPass 0).cogLook 0 5),
      by decide +kernel⟩,
    ⟨(w [(pgCOG, COGe_STAT_STATE, 1), (pgCOG, COG_STOREa_WORD, 0x8 * 2 ^ 20)]), 0, 5, (State.cogWord (w [(pgCOG,
        COGe_STAT_STATE, 1), (pgCOG, COG_STOREa_WORD, 0x8 * 2 ^ 20)]) 0), (((State.passTo (w [(pgCOG, COGe_STAT_STATE, 1),
        (pgCOG, COG_STOREa_WORD, 0x8 * 2 ^ 20)]) (State.cogSt (w [(pgCOG, COGe_STAT_STATE, 1), (pgCOG, COG_STOREa_WORD,
        0x8 * 2 ^ 20)]) 0).due).cogPass 0).cogLook 0 5),
      by decide +kernel⟩,
    ⟨sCogMark, 0, 5, (State.cogWord sCogMark 0), sCogMarkU,
      by decide +kernel⟩,
    ⟨(w [(pgCOG, COGe_STAT_STATE, 1), (pgCOG, COG_STOREa_WORD, 0xA * 2 ^ 20)]), 0, 5, (State.cogWord (w [(pgCOG,
        COGe_STAT_STATE, 1), (pgCOG, COG_STOREa_WORD, 0xA * 2 ^ 20)]) 0), (((State.passTo (w [(pgCOG, COGe_STAT_STATE, 1),
        (pgCOG, COG_STOREa_WORD, 0xA * 2 ^ 20)]) (State.cogSt (w [(pgCOG, COGe_STAT_STATE, 1), (pgCOG, COG_STOREa_WORD,
        0xA * 2 ^ 20)]) 0).due).cogPass 0).cogLook 0 5),
      by decide +kernel⟩,
    ⟨(w [(pgCOG, COGe_STAT_STATE, 1)]), 0, 5, (((State.passTo (w [(pgCOG, COGe_STAT_STATE, 1)]) 0).cogPass 0).cogLook 0 5),
      by decide +kernel⟩,
    ⟨(w [(pgCOG, COGe_STAT_STATE, 1), (pgCOG, COG_STOREa_WORD, 0xFFFFFF)]), 0, 5, (((State.passTo (w [(pgCOG,
        COGe_STAT_STATE, 1), (pgCOG, COG_STOREa_WORD, 0xFFFFFF)]) 0).cogPass 0).cogLook 0 5),
      by decide +kernel⟩⟩

/-- The hypotheses of `Obligations.CogControlTakesEffect` can be met. -/
theorem witness_CogControlTakesEffect :
    (∃ (s : State) (page : Nat), page < 8 ∧ s.takes (pgCOG + page) = true)
    ∧ (∃ (s : State) (page : Nat), page < 8 ∧ s.takes (pgCOG + page) = true)
    ∧ (∃ (s : State) (page : Nat), page < 8 ∧ s.takes (pgCOG + page) = true ∧ s.node = nsSERVICE
        ∧ s.cogActive (4 * page) = false ∧ s.enabled (cogPg (4 * page)) = true ∧ s.cogRd (4 * page) COGe_STAT_STATE = 4
        ∧ s.cogRd (4 * page) COGe_STAT_RESUME_OK ≠ 0)
    ∧ (∃ (s : State) (e : Nat) (levels : Nat) (u : State), s.cogWaits e 5 = true
        ∧ (u = (let t := ((s.passTo ((s.cogSt e).evalAt + 4)).cogUnstall e).cogLook e levels
        t.setCogSt e { t.cogSt e with evalAt := t.now })))
    ∧ (∃ (s : State) (e : Nat), s.cogWaits e 9 = true ∧ bitAt (s.cogWord e) 0 = true ∧ s.cogRd e COGe_STAT_MATCH = 1)
    ∧ (∃ (s : State) (e : Nat), s.cogWaits e 5 = true ∧ bitsOf (s.cogWord e) 10 5 ≠ 0)
    ∧ (∃ (s : State) (page : Nat) (addr : Nat), page < 8 ∧ addr < 64 ∧ s.openTo (pgCOG + page) = true)
    ∧ (∃ (s : State) (page : Nat), page < 8 ∧ s.takes (pgCOG + page) = true)
    ∧ (∃ (s : State) (page : Nat), page < 8 ∧ s.takes (pgCOG + page) = true)
    ∧ (∃ (s : State) (e : Nat), e < 32 ∧ s.openTo (cogPg e) = true)
    ∧ (∃ (s : State) (e : Nat), e < 32 ∧ s.openTo (cogPg e) = true)
    ∧ (∃ (s : State) (e : Nat) (levels : Nat) (u : State), s.cogWaits e 3 = true
        ∧ (u = (let t := ((s.passTo ((s.cogSt e).evalAt + 4)).cogUnstall e).cogLook e levels
        t.setCogSt e { t.cogSt e with evalAt := t.now })))
    ∧ (∃ (s : State) (e : Nat) (levels : Nat) (u : State), s.cogWaits e 4 = true
        ∧ (u = (let t := ((s.passTo ((s.cogSt e).evalAt + 4)).cogUnstall e).cogLook e levels
        t.setCogSt e { t.cogSt e with evalAt := t.now })))
    ∧ (∃ (s : State) (e : Nat) (levels : Nat) (u : State), s.cogWaits e 9 = true ∧ bitAt (s.cogWord e) 0 = false
        ∧ (u = (let t := ((s.passTo ((s.cogSt e).evalAt + 4)).cogUnstall e).cogLook e levels
        t.setCogSt e { t.cogSt e with evalAt := t.now }))) :=
  ⟨⟨(w [(pgCOG + 7, PAGE_STAT_READY, 1)]), 7,
      by decide +kernel⟩,
    ⟨(w [(pgCOG + 7, PAGE_STAT_READY, 1)]), 7,
      by decide +kernel⟩,
    ⟨(w [(pgCOG, PAGE_STAT_READY, 1), (pgCOG, PAGE_CTRL_EN, 1), (pgPWRST, PWRST_STATE_STATE, nsSERVICE), (pgCOG,
        COGe_STAT_STATE, 4), (pgCOG, COGe_STAT_RESUME_OK, 1)]), 0,
      by decide +kernel⟩,
    ⟨(w [(pgCOG, COGe_STAT_STATE, 2), (pgCOG, COG_STOREa_WORD, 5 * 2 ^ 20)]), 0, 1, (((((w [(pgCOG, COGe_STAT_STATE, 2),
        (pgCOG, COG_STOREa_WORD, 5 * 2 ^ 20)]).passTo ((State.cogSt (w [(pgCOG, COGe_STAT_STATE, 2), (pgCOG, COG_STOREa_WORD,
        5 * 2 ^ 20)]) 0).evalAt + 4)).cogUnstall 0).cogLook 0 1).setCogSt 0
        { ((((w [(pgCOG, COGe_STAT_STATE, 2), (pgCOG, COG_STOREa_WORD, 5 * 2 ^ 20)]).passTo ((State.cogSt (w [(pgCOG, COGe_STAT_STATE, 2), (pgCOG, COG_STOREa_WORD, 5 * 2 ^ 20)]) 0).evalAt + 4)).cogUnstall 0).cogLook 0 1).cogSt 0 with evalAt := ((((w [(pgCOG, COGe_STAT_STATE, 2), (pgCOG, COG_STOREa_WORD, 5 * 2 ^ 20)]).passTo ((State.cogSt (w [(pgCOG, COGe_STAT_STATE, 2), (pgCOG, COG_STOREa_WORD, 5 * 2 ^ 20)]) 0).evalAt + 4)).cogUnstall 0).cogLook 0 1).now }),
      by decide +kernel⟩,
    ⟨(w [(pgCOG, COGe_STAT_STATE, 2), (pgCOG, COGe_STAT_MATCH, 1), (pgCOG, COG_STOREa_WORD, 9 * 2 ^ 20 + 1)]), 0,
      by decide +kernel⟩,
    ⟨(w [(pgCOG, COGe_STAT_STATE, 2), (pgCOG, COG_STOREa_WORD, 5 * 2 ^ 20 + 2 ^ 10)]), 0,
      by decide +kernel⟩,
    ⟨(w [(pgCOG + 7, PAGE_STAT_READY, 1)]), 7, 63,
      by decide +kernel⟩,
    ⟨(w [(pgCOG + 7, PAGE_STAT_READY, 1)]), 7,
      by decide +kernel⟩,
    ⟨(w [(pgCOG + 7, PAGE_STAT_READY, 1)]), 7,
      by decide +kernel⟩,
    ⟨(w [(pgCOG + 7, PAGE_STAT_READY, 1)]), 31,
      by decide +kernel⟩,
    ⟨(w [(pgCOG + 7, PAGE_STAT_READY, 1)]), 31,
      by decide +kernel⟩,
    ⟨(w [(pgCOG, COGe_STAT_STATE, 3), (pgCOG, COG_STOREa_WORD, 3 * 2 ^ 20)]), 0, 1, (((((w [(pgCOG, COGe_STAT_STATE, 3),
        (pgCOG, COG_STOREa_WORD, 3 * 2 ^ 20)]).passTo ((State.cogSt (w [(pgCOG, COGe_STAT_STATE, 3), (pgCOG, COG_STOREa_WORD,
        3 * 2 ^ 20)]) 0).evalAt + 4)).cogUnstall 0).cogLook 0 1).setCogSt 0
        { ((((w [(pgCOG, COGe_STAT_STATE, 3), (pgCOG, COG_STOREa_WORD, 3 * 2 ^ 20)]).passTo ((State.cogSt (w [(pgCOG, COGe_STAT_STATE, 3), (pgCOG, COG_STOREa_WORD, 3 * 2 ^ 20)]) 0).evalAt + 4)).cogUnstall 0).cogLook 0 1).cogSt 0 with evalAt := ((((w [(pgCOG, COGe_STAT_STATE, 3), (pgCOG, COG_STOREa_WORD, 3 * 2 ^ 20)]).passTo ((State.cogSt (w [(pgCOG, COGe_STAT_STATE, 3), (pgCOG, COG_STOREa_WORD, 3 * 2 ^ 20)]) 0).evalAt + 4)).cogUnstall 0).cogLook 0 1).now }),
      by decide +kernel⟩,
    ⟨(w [(pgCOG, COGe_STAT_STATE, 3), (pgCOG, COG_STOREa_WORD, 4 * 2 ^ 20)]), 0, 1, (((((w [(pgCOG, COGe_STAT_STATE, 3),
        (pgCOG, COG_STOREa_WORD, 4 * 2 ^ 20)]).passTo ((State.cogSt (w [(pgCOG, COGe_STAT_STATE, 3), (pgCOG, COG_STOREa_WORD,
        4 * 2 ^ 20)]) 0).evalAt + 4)).cogUnstall 0).cogLook 0 1).setCogSt 0
        { ((((w [(pgCOG, COGe_STAT_STATE, 3), (pgCOG, COG_STOREa_WORD, 4 * 2 ^ 20)]).passTo ((State.cogSt (w [(pgCOG, COGe_STAT_STATE, 3), (pgCOG, COG_STOREa_WORD, 4 * 2 ^ 20)]) 0).evalAt + 4)).cogUnstall 0).cogLook 0 1).cogSt 0 with evalAt := ((((w [(pgCOG, COGe_STAT_STATE, 3), (pgCOG, COG_STOREa_WORD, 4 * 2 ^ 20)]).passTo ((State.cogSt (w [(pgCOG, COGe_STAT_STATE, 3), (pgCOG, COG_STOREa_WORD, 4 * 2 ^ 20)]) 0).evalAt + 4)).cogUnstall 0).cogLook 0 1).now }),
      by decide +kernel⟩,
    ⟨(w [(pgCOG, COGe_STAT_STATE, 3), (pgCOG, COG_STOREa_WORD, 9 * 2 ^ 20)]), 0, 1, (((((w [(pgCOG, COGe_STAT_STATE, 3),
        (pgCOG, COG_STOREa_WORD, 9 * 2 ^ 20)]).passTo ((State.cogSt (w [(pgCOG, COGe_STAT_STATE, 3), (pgCOG, COG_STOREa_WORD,
        9 * 2 ^ 20)]) 0).evalAt + 4)).cogUnstall 0).cogLook 0 1).setCogSt 0
        { ((((w [(pgCOG, COGe_STAT_STATE, 3), (pgCOG, COG_STOREa_WORD, 9 * 2 ^ 20)]).passTo ((State.cogSt (w [(pgCOG, COGe_STAT_STATE, 3), (pgCOG, COG_STOREa_WORD, 9 * 2 ^ 20)]) 0).evalAt + 4)).cogUnstall 0).cogLook 0 1).cogSt 0 with evalAt := ((((w [(pgCOG, COGe_STAT_STATE, 3), (pgCOG, COG_STOREa_WORD, 9 * 2 ^ 20)]).passTo ((State.cogSt (w [(pgCOG, COGe_STAT_STATE, 3), (pgCOG, COG_STOREa_WORD, 9 * 2 ^ 20)]) 0).evalAt + 4)).cogUnstall 0).cogLook 0 1).now }),
      by decide +kernel⟩⟩

/-- The hypotheses of `Obligations.CanFramesTakeEffect` can be met. -/
theorem witness_CanFramesTakeEffect :
    (∃ (s : State) (port : Nat) (idw : Nat) (dlc : Nat) (brs : Bool) (esi : Bool) (res : Bool) (data : List Byte) (f :
        CanFrame), port < 8 ∧ s.canHears port = true
        ∧ (f = (let g : CanFrame := { idw := idw % 2 ^ 32, dlc := dlc % 16, brs := brs, esi := esi, data := [] }
          { g with data := if g.rtr then [] else data.take (dlcLen g.fdf (dlc % 16)) })) ∧ (f.fdf = false
              ∨ (s.on (canPg port) CAN_CTRL_FD_EN = true ∧ res = false)) ∧ s.on (canPg port) CAN_STAT_PARTIAL = false)
    ∧ (∃ (s : State) (port : Nat) (e : CanEnt) (l : List CanEnt), s.held = [] ∧ s.on (canPg port) PAGE_STAT_READY = true
        ∧ (s.canSt port).ring = e :: l)
    ∧ (∃ (s : State) (port : Nat) (b : Nat) (z : Option ZoneFrame) (w0 : Option Nat), port < 8 ∧ s.canSends port = true
        ∧ s.canOffer port = some (some b, z, w0))
    ∧ (∃ (s : State) (port : Nat) (b : Nat) (a : CanTry), (s.node = nsSERVICE ∨ s.node = nsQUIET)
        ∧ (s.canSt port).act = some a ∧ a.buf = some b)
    ∧ (∃ (s : State) (port : Nat), port < 8 ∧ s.canState port = 2)
    ∧ (∃ (s : State) (port : Nat), port < 8 ∧ s.enabled (canPg port) = true ∧ s.canState port = 3
        ∧ s.on (canPg port) CAN_STAT_STANDBY = false ∧ s.canDark port = false ∧ 4 ≤ s.rd pgPWRST PWRST_STATE_STEP
        ∧ s.node ≠ nsHOLD)
    ∧ (∃ (s : State) (port : Nat), port < 8 ∧ s.canHears port = true)
    ∧ (∃ (s : State) (port : Nat) (idw : Nat) (dlc : Nat) (brs : Bool) (esi : Bool) (res : Bool) (data : List Byte) (f :
        CanFrame), port < 8 ∧ s.canHears port = true
        ∧ (f = (let g : CanFrame := { idw := idw % 2 ^ 32, dlc := dlc % 16, brs := brs, esi := esi, data := [] }
          { g with data := if g.rtr then [] else data.take (dlcLen g.fdf (dlc % 16)) })) ∧ f.fdf = true
              ∧ (s.on (canPg port) CAN_CTRL_FD_EN = false ∨ res = true))
    ∧ (∃ (s : State) (port : Nat) (idw : Nat) (dlc : Nat) (brs : Bool) (esi : Bool) (res : Bool) (data : List Byte) (f :
        CanFrame), port < 8 ∧ s.canHears port = true
        ∧ (f = (let g : CanFrame := { idw := idw % 2 ^ 32, dlc := dlc % 16, brs := brs, esi := esi, data := [] }
          { g with data := if g.rtr then [] else data.take (dlcLen g.fdf (dlc % 16)) })) ∧ (f.fdf = false
              ∨ (s.on (canPg port) CAN_CTRL_FD_EN = true ∧ res = false)) ∧ s.on (canPg port) CAN_STAT_PARTIAL = true)
    ∧ (∃ (s : State) (port : Nat) (f : ZoneFrame) (w0 : Option Nat), port < 8 ∧ s.canSends port = true
        ∧ s.canOffer port = some (none, some f, w0))
    ∧ (∃ (s : State) (port : Nat) (outcome : Nat) (b : Nat) (a : CanTry), (s.node = nsSERVICE ∨ s.node = nsQUIET)
        ∧ (s.canSt port).act = some a ∧ a.buf = some b ∧ outcome ≠ 0)
    ∧ (∃ (s : State) (port : Nat) (a : CanTry) (f : ZoneFrame), (s.node = nsSERVICE ∨ s.node = nsQUIET)
        ∧ (s.canSt port).act = some a ∧ a.buf = none ∧ a.zone = some f)
    ∧ (∃ (s : State) (port : Nat) (outcome : Nat) (a : CanTry) (f : ZoneFrame), (s.node = nsSERVICE ∨ s.node = nsQUIET)
        ∧ (s.canSt port).act = some a ∧ a.buf = none ∧ a.zone = some f ∧ outcome ≠ 0)
    ∧ (∃ (s : State) (port : Nat) (k : Nat), port < 8 ∧ s.enabled (canPg port) = true ∧ s.canState port = 2
        ∧ s.on (canPg port) CAN_STAT_STANDBY = false ∧ s.canDark port = false ∧ 4 ≤ s.rd pgPWRST PWRST_STATE_STEP
        ∧ s.node ≠ nsHOLD ∧ k = s.rd (canPg port) CAN_ERR_RECOV + 1) :=
  ⟨⟨sCan, 0, 5, 1, false, false, false, (beBytes 1 7), { idw := 5, dlc := 1, data := beBytes 1 7 },
      by decide +kernel⟩,
    ⟨((w [(canPg 0, PAGE_STAT_READY, 1)]).setCan 0 { ring := [canEnt1] }), 0, canEnt1, [],
      by decide +kernel⟩,
    ⟨sCanSend, 0, 0, none, none,
      by decide +kernel⟩,
    ⟨((w [(pgPWRST, PWRST_STATE_STATE, nsSERVICE)]).setCan 0 { act := some canTry1 }), 0, 31, canTry1,
      by decide +kernel⟩,
    ⟨(w [(canPg 0, CAN_ERR_STATE, 2)]), 0,
      by decide +kernel⟩,
    ⟨(w [(canPg 0, CAN_ERR_STATE, 3), (canPg 0, PAGE_CTRL_EN, 1), (pgPWRST, PWRST_STATE_STEP, 4)]), 0,
      by decide +kernel⟩,
    ⟨sCan, 0,
      by decide +kernel⟩,
    ⟨sCan, 0, (5 + 2 ^ 31), 1, false, false, true, (beBytes 1 7), { idw := 5 + 2 ^ 31, dlc := 1, data := beBytes 1 7 },
      by decide +kernel⟩,
    ⟨(sCan.wr (canPg 0) CAN_STAT_PARTIAL 1), 0, 5, 1, false, false, false, (beBytes 1 7),
        { idw := 5, dlc := 1, data := beBytes 1 7 },
      by decide +kernel⟩,
    ⟨sCanZone, 0, zoneFr, none,
      by decide +kernel⟩,
    ⟨((w [(pgPWRST, PWRST_STATE_STATE, nsSERVICE)]).setCan 0 { act := some canTry1 }), 0, 2, 31, canTry1,
      by decide +kernel⟩,
    ⟨((w [(pgPWRST, PWRST_STATE_STATE,
        nsSERVICE)]).setCan 0 { act := some { buf := none, zone := some zoneFr, frame := zoneFr.frame, at_ := 0 } }), 0,
        { buf := none, zone := some zoneFr, frame := zoneFr.frame, at_ := 0 }, zoneFr,
      by decide +kernel⟩,
    ⟨((w [(pgPWRST, PWRST_STATE_STATE,
        nsSERVICE)]).setCan 0 { act := some { buf := none, zone := some zoneFr, frame := zoneFr.frame, at_ := 0 } }), 0, 1,
        { buf := none, zone := some zoneFr, frame := zoneFr.frame, at_ := 0 }, zoneFr,
      by decide +kernel⟩,
    ⟨(w [(canPg 0, CAN_ERR_STATE, 2), (canPg 0, PAGE_CTRL_EN, 1), (pgPWRST, PWRST_STATE_STEP, 4)]), 0, 1,
      by decide +kernel⟩⟩

/-- The hypotheses of `Obligations.CanBuffersAndScheduleTakeEffect` can be met. -/
theorem witness_CanBuffersAndScheduleTakeEffect :
    (∃ (s : State) (port : Nat) (buf : Nat), s.takes (canPg port) = true ∧ port < 8 ∧ buf < 32)
    ∧ (∃ (s : State) (port : Nat) (buf : Nat), s.takes (canPg port) = true ∧ port < 8 ∧ buf < 32
        ∧ ((s.canSt port).bufAt buf).st = 1)
    ∧ (∃ (s : State) (port : Nat) (buf : Nat), s.takes (canPg port) = true ∧ port < 8 ∧ buf < 32
        ∧ ((s.canSt port).bufAt buf).st = 3)
    ∧ (∃ (s : State) (port : Nat) (t : Nat) (y : Nat) (u : State), port < 8 ∧ s.enabled (canPg port) = true
        ∧ bitAt (s.canSt port).sched 0 = true ∧ y = (s.canSt port).sched
        ∧ t = boundary (match (s.canSt port).cycle with | some c => max s.ringNow (c + 1) | none => s.ringNow)
            (cycleLen y) (schedPhase y)
                ∧ u = (if (s.canSt port).schedNew && (t - schedPhase y) / cycleLen y % matrixLen y == 0 && (s.passRing
                t).locked
            then (s.passRing t).canLoad port else s.passRing t))
    ∧ (∃ (s : State) (port : Nat) (slot : Nat) (c : Nat) (a : Nat) (b : Nat) (u : State), (s.canSt port).cycle = some c
        ∧ ((s.canSt port).slots.find? (fun e => e.1 == slot) = some (slot, a, b)) ∧ bitAt (s.canSt port).sched 0 = true
        ∧ slotApplies b ((c - schedPhase (s.canSt port).sched) / cycleLen (s.canSt port).sched % matrixLen (s.canSt
        port).sched) = true ∧ u = s.passRing (c + slotStart a) ∧ u.locked = true
        ∧ u.on (canPg port) CAN_SCHED_STAT_RUNNING = true ∧ u.zoneOpen port = true ∧ slotKind a ≠ 1)
    ∧ (∃ (s : State) (port : Nat) (x : CanWin), (s.canSt port).win = some x ∧ x.buf = none)
    ∧ (∃ (s : State) (port : Nat), s.takes (canPg port) = true ∧ port < 8 ∧ s.enabled (canPg port) = true
        ∧ s.canMode port = 3 ∧ s.on (canPg port) CAN_DET_STAT_RUNNING = false)
    ∧ (∃ (s : State) (port : Nat) (pulse : Nat) (u : State), port < 8 ∧ s.on (canPg port) CAN_DET_STAT_RUNNING = true
        ∧ u = (s.passTo (s.canSt port).dwellEnd).canPulse port pulse
        ∧ (s.canSt port).cand < u.rd (canPg port) CAN_DET_CTRL_CANDS)
    ∧ (∃ (s : State) (port : Nat) (t : Nat) (y : Nat) (u : State), s.locked = true ∧ port < 8 ∧ s.enabled (canPg port) = true
        ∧ bitAt (s.canSt port).sched 0 = false ∧ (s.canSt port).schedNew = true ∧ y = (s.word (canPg port) 0x10C).toNat
        ∧ bitAt y 0 = true ∧ t = boundary s.ringNow (cycleLen y * matrixLen y) (schedPhase y)
        ∧ u = (if (t - schedPhase y) / cycleLen y % matrixLen y == 0 && (s.passRing t).locked
            then (s.passRing t).canLoad port else s.passRing t))
    ∧ (∃ (s : State) (port : Nat) (slot : Nat) (c : Nat) (a : Nat) (b : Nat) (u : State), (s.canSt port).cycle = some c
        ∧ ((s.canSt port).slots.find? (fun e => e.1 == slot) = some (slot, a, b)) ∧ bitAt (s.canSt port).sched 0 = true
        ∧ slotApplies b ((c - schedPhase (s.canSt port).sched) / cycleLen (s.canSt port).sched % matrixLen (s.canSt
        port).sched) = true ∧ u = s.passRing (c + slotStart a) ∧ u.locked = true
        ∧ u.on (canPg port) CAN_SCHED_STAT_RUNNING = true ∧ u.zoneOpen port = true ∧ slotKind a = 1)
    ∧ (∃ (s : State) (port : Nat) (slot : Nat) (c : Nat) (a : Nat) (b : Nat) (u : State), (s.canSt port).cycle = some c
        ∧ ((s.canSt port).slots.find? (fun e => e.1 == slot) = some (slot, a, b)) ∧ bitAt (s.canSt port).sched 0 = true
        ∧ slotApplies b ((c - schedPhase (s.canSt port).sched) / cycleLen (s.canSt port).sched % matrixLen (s.canSt
        port).sched) = true ∧ u = s.passRing (c + slotStart a) ∧ (u.locked = false
        ∨ u.on (canPg port) CAN_SCHED_STAT_RUNNING = false ∨ (u.zoneOpen port = false ∧ (slotKind a = 1
        ∨ u.zoneTalks port = false))))
    ∧ (∃ (s : State) (port : Nat) (b : Nat) (x : CanWin), (s.canSt port).win = some x ∧ x.buf = some b)
    ∧ (∃ (s : State) (port : Nat) (pulse : Nat) (u : State), port < 8 ∧ s.on (canPg port) CAN_DET_STAT_RUNNING = true
        ∧ u = (s.passTo (s.canSt port).dwellEnd).canPulse port pulse
        ∧ u.rd (canPg port) CAN_DET_CTRL_CANDS ≤ (s.canSt port).cand) :=
  ⟨⟨(w [(canPg 7, PAGE_STAT_READY, 1)]), 7, 31,
      by decide +kernel⟩,
    ⟨((w [(canPg 0, PAGE_STAT_READY, 1)]).setCan 0 { buf := [(31, { st := 1 })] }), 0, 31,
      by decide +kernel⟩,
    ⟨((w [(canPg 0, PAGE_STAT_READY, 1)]).setCan 0 { buf := [(31, { st := 3 })] }), 0, 31,
      by decide +kernel⟩,
    ⟨sCanSched, 0, canT, ((sCanSched.canSt 0).sched), (sCanSched.passRing canT),
      by decide +kernel⟩,
    ⟨sCanWin, 0, 0, 4000, slotA, slotB, (sCanWin.passRing (4000 + slotStart slotA)),
      by decide +kernel⟩,
    ⟨((w []).setCan 7 { win := some { slot := 0, till := 4, buf := none, claimed := false } }), 7,
        { slot := 0, till := 4, buf := none, claimed := false },
      by decide +kernel⟩,
    ⟨(w [(canPg 0, PAGE_STAT_READY, 1), (canPg 0, PAGE_CTRL_EN, 1), (canPg 0, CAN_CTRL_MODE, 3)]), 0,
      by decide +kernel⟩,
    ⟨(w [(canPg 0, CAN_DET_STAT_RUNNING, 1), (canPg 0, CAN_DET_CTRL_CANDS, 3)]), 0, 9, (((w [(canPg 0, CAN_DET_STAT_RUNNING,
        1), (canPg 0, CAN_DET_CTRL_CANDS, 3)]).passTo (State.canSt (w [(canPg 0, CAN_DET_STAT_RUNNING, 1), (canPg 0,
        CAN_DET_CTRL_CANDS, 3)]) 0).dwellEnd).canPulse 0 9),
      by decide +kernel⟩,
    ⟨((w [(canPg 0, PAGE_CTRL_EN, 1), (canPg 0, CAN_SCHED_EN, 1), (pgTIME, TIME_STAT_LOCKED,
        1)]).setCan 0 { schedNew := true }), 0, 0, ((State.word ((w [(canPg 0, PAGE_CTRL_EN, 1), (canPg 0, CAN_SCHED_EN, 1),
        (pgTIME, TIME_STAT_LOCKED, 1)]).setCan 0 { schedNew := true }) (canPg 0) 0x10C).toNat),
        (State.canLoad (State.passRing ((w [(canPg 0, PAGE_CTRL_EN, 1), (canPg 0, CAN_SCHED_EN, 1), (pgTIME,
        TIME_STAT_LOCKED, 1)]).setCan 0 { schedNew := true }) 0) 0),
      by decide +kernel⟩,
    ⟨sCanWinX, 0, 0, 4000, slotX, slotB, (sCanWinX.passRing (4000 + slotStart slotX)),
      by decide +kernel⟩,
    ⟨(sCanWin.wr pgTIME TIME_STAT_LOCKED 0), 0, 0, 4000, slotA, slotB,
        ((sCanWin.wr pgTIME TIME_STAT_LOCKED 0).passRing (4000 + slotStart slotA)),
      by decide +kernel⟩,
    ⟨((w []).setCan 7 { win := some { slot := 0, till := 4, buf := some 3, claimed := true } }), 7, 3,
        { slot := 0, till := 4, buf := some 3, claimed := true },
      by decide +kernel⟩,
    ⟨((w [(canPg 0, CAN_DET_STAT_RUNNING, 1), (canPg 0, CAN_DET_CTRL_CANDS, 0)]).setCan 0 { cand := 3 }), 0, 9,
        ((State.passTo ((w [(canPg 0, CAN_DET_STAT_RUNNING, 1), (canPg 0, CAN_DET_CTRL_CANDS,
        0)]).setCan 0 { cand := 3 }) 0).canPulse 0 9),
      by decide +kernel⟩⟩

/-- The hypotheses of `Obligations.ZoneCommandsTakeEffect` can be met. -/
theorem witness_ZoneCommandsTakeEffect :
    (∃ (s : State) (zone : Nat), s.takes pgZONE = true ∧ zone < 8 ∧ (s.node == nsQUIET) = false ∧ s.node ≠ nsHOLD
        ∧ s.zState zone = zsAWAKE ∧ s.enabled (canPg zone) = true ∧ s.canMode zone = 0 ∧ s.zRd zone ZONEz_MEMBERS_MEMBERS ≠ 0)
    ∧ (∃ (s : State) (zone : Nat), s.takes pgZONE = true ∧ zone < 8)
    ∧ (∃ (s : State) (zone : Nat) (t : Nat), (s.zoneSt zone).till = some t ∧ s.zState zone = zsAGREEING ∧ s.node ≠ nsHOLD)
    ∧ (∃ (s : State) (zone : Nat) (t : Nat), (s.zoneSt zone).till = some t ∧ s.zState zone = zsENTERING ∧ s.node ≠ nsHOLD
        ∧ (((s.passTo t).zAsleep zone 1).count pgZONE zone).zRd zone ZONEz_STAT_WAKE_LATCHED = 0)
    ∧ (∃ (s : State) (zone : Nat), zone < 8 ∧ (s.zoneSt zone).pulse = false ∧ (s.zoneSt zone).ignoreTill ≤ s.now)
    ∧ (∃ (s : State) (zone : Nat), zone < 8 ∧ s.zState zone = zsASLEEP ∧ s.zRd zone ZONEz_CFG_KIND = 0)
    ∧ (∃ (s : State) (zone : Nat) (t : Nat), (s.zoneSt zone).till = some t ∧ s.zState zone = zsWAKING
        ∧ (s.zoneSt zone).pulse = true ∧ s.node ≠ nsHOLD)
    ∧ (∃ (s : State) (zone : Nat) (t : Nat), (s.zoneSt zone).till = some t ∧ s.zState zone = zsWAKING
        ∧ (s.zoneSt zone).pulse = false ∧ s.node ≠ nsHOLD ∧ (s.passTo t).zRd zone ZONEz_REPLIED_REPLIED = 0
        ∧ max 1 ((s.passTo t).zRd zone ZONEz_CFG_WAKE_TRIES) ≤ (s.passTo t).zRd zone ZONEz_STAT_TRIES)
    ∧ (∃ (s : State) (zone : Nat) (t : Nat), (s.zoneSt zone).till = some t ∧ s.zState zone = zsWAKING
        ∧ (s.zoneSt zone).pulse = false ∧ s.node ≠ nsHOLD ∧ (s.passTo t).zRd zone ZONEz_REPLIED_REPLIED = 0
        ∧ (s.passTo t).zRd zone ZONEz_STAT_TRIES < max 1 ((s.passTo t).zRd zone ZONEz_CFG_WAKE_TRIES))
    ∧ (∃ (s : State) (zone : Nat) (t : Nat), (s.zoneSt zone).till = some t ∧ s.zState zone = zsENTERING ∧ s.node ≠ nsHOLD
        ∧ (((s.passTo t).zAsleep zone 1).count pgZONE zone).zRd zone ZONEz_STAT_WAKE_LATCHED = 1)
    ∧ (∃ (s : State) (zone : Nat) (t : Nat), (s.zoneSt zone).till = some t ∧ s.zState zone = zsWAKING
        ∧ (s.zoneSt zone).pulse = false ∧ s.node ≠ nsHOLD ∧ (s.passTo t).zRd zone ZONEz_REPLIED_REPLIED ≠ 0) :=
  ⟨⟨(wi [(pgZONE, PAGE_STAT_READY, 1, 0), (canPg 7, PAGE_CTRL_EN, 1, 0), (pgZONE, ZONEz_STAT_STATE, zsAWAKE, 7), (pgZONE,
      ZONEz_MEMBERS_MEMBERS, 1, 7)]), 7,
      by decide +kernel⟩,
    ⟨(w [(pgZONE, PAGE_STAT_READY, 1)]), 7,
      by decide +kernel⟩,
    ⟨((wi [(pgZONE, ZONEz_STAT_STATE, zsAGREEING, 7)]).setZone 7 { till := some 4 }), 7, 4,
      by decide +kernel⟩,
    ⟨((wi [(pgZONE, ZONEz_STAT_STATE, zsENTERING, 7)]).setZone 7 { till := some 4 }), 7, 4,
      by decide +kernel⟩,
    ⟨(w []), 7,
      by decide +kernel⟩,
    ⟨(wi [(pgZONE, ZONEz_STAT_STATE, zsASLEEP, 7)]), 7,
      by decide +kernel⟩,
    ⟨((wi [(pgZONE, ZONEz_STAT_STATE, zsWAKING, 7)]).setZone 7 { till := some 4, pulse := true }), 7, 4,
      by decide +kernel⟩,
    ⟨((wi [(pgZONE, ZONEz_STAT_STATE, zsWAKING, 7), (pgZONE, ZONEz_STAT_TRIES, 15, 7)]).setZone 7 { till := some 4 }), 7, 4,
      by decide +kernel⟩,
    ⟨((wi [(pgZONE, ZONEz_STAT_STATE, zsWAKING, 7)]).setZone 7 { till := some 4 }), 7, 4,
      by decide +kernel⟩,
    ⟨zoneLatched, 0, 4,
      by decide +kernel⟩,
    ⟨zoneReplied, 0, 4,
      by decide +kernel⟩⟩

/-- The hypotheses of `Obligations.PowerDieEventsTakeEffect` can be met. -/
theorem witness_PowerDieEventsTakeEffect :
    (∃ (s : State), s.on pgPWD PWD_STAT_OV = false)
    ∧ (∃ (s : State), s.on pgPWD PWD_STAT_OV = true)
    ∧ (∃ (s : State), s.on pgPWD PWD_STAT_THERMAL = false)
    ∧ (∃ (s : State), s.pwd.silent = false ∧ s.held = [])
    ∧ (∃ (s : State), s.pwd.silent = true)
    ∧ (∃ (s : State), s.on pgPWD PWD_STAT_PFW1 = false)
    ∧ (∃ (s : State), s.on pgPWD PWD_STAT_PFW0 = false)
    ∧ (∃ (pin : Nat), pin < 2)
    ∧ (∃ (s : State), s.on pgPWD PWD_STAT_TAMPER = false ∧ (s.wr pgPWD PWD_STAT_TAMPER 1).dieHeard = true)
    ∧ (∃ (s : State) (t : Nat), s.pwd.sampleAt = some t)
    ∧ (∃ (s : State), s.takes pgPWD = true ∧ s.pwd.silent = false)
    ∧ (∃ (s : State), s.pwd.silent = false ∧ s.held ≠ [])
    ∧ (∃ (s : State), s.on pgPWD PWD_STAT_TAMPER = false ∧ (s.wr pgPWD PWD_STAT_TAMPER 1).dieHeard = false) :=
  ⟨⟨(w []),
      by decide +kernel⟩,
    ⟨(w [(pgPWD, PWD_STAT_OV, 1)]),
      by decide +kernel⟩,
    ⟨(w []),
      by decide +kernel⟩,
    ⟨(w []),
      by decide +kernel⟩,
    ⟨({ (w []) with pwd := { silent := true } }),
      by decide +kernel⟩,
    ⟨(w [(pgPWD, PWD_STAT_PFW1, 0)]),
      by decide +kernel⟩,
    ⟨(w [(pgPWD, PWD_STAT_PFW0, 0)]),
      by decide +kernel⟩,
    ⟨1,
      by decide +kernel⟩,
    ⟨(w []),
      by decide +kernel⟩,
    ⟨({ (w []) with pwd := { sampleAt := some 0 } }), 0,
      by decide +kernel⟩,
    ⟨(w [(pgPWD, PAGE_STAT_READY, 1)]),
      by decide +kernel⟩,
    ⟨{ (w []) with held := [3] },
      by decide +kernel⟩,
    ⟨{ (w []) with held := [3] },
      by decide +kernel⟩⟩

/-- The hypotheses of `Obligations.SluicesTakeEffect` can be met. -/
theorem witness_SluicesTakeEffect :
    (∃ (s : State) (sluice : Nat), sluice < 8 ∧ (s.sluState sluice = 1 ∨ s.sluState sluice = 2)
        ∧ s.on (sluPg sluice) SLU_STAT_LIMIT = false)
    ∧ (∃ (s : State) (sluice : Nat), s.on (sluPg sluice) SLU_STAT_LIMIT = true)
    ∧ (∃ (s : State) (sluice : Nat), sluice < 8 ∧ s.sluState sluice ≠ 3 ∧ s.sluState sluice ≠ 5)
    ∧ (∃ (s : State) (sluice : Nat), s.on (sluPg sluice) SLU_STAT_LIMIT = true)
    ∧ (∃ (s : State) (sluice : Nat), s.sluState sluice = 1)
    ∧ (∃ (s : State) (sluice : Nat), s.sluState sluice = 1)
    ∧ (∃ (s : State) (sluice : Nat), s.sluState sluice = 2 ∧ s.on (sluPg sluice) SLU_STAT_LIMIT = false
        ∧ s.on (sluPg sluice) SLU_STAT_PG = false)
    ∧ (∃ (sluice : Nat), sluice < 8)
    ∧ (∃ (s : State) (sluice : Nat) (t : Nat), (s.sluSt sluice).retryAt = some t ∧ s.sluState sluice = 3
        ∧ s.on (sluPg sluice) SLU_STAT_LEVEL = true ∧ s.sluMayRetry sluice = true
        ∧ (s.pwd.waitVin || s.rd (sluPg sluice) SLU_STAT_CAUSE == 5 && s.on pgPWD PWD_STAT_THERMAL) = false)
    ∧ (∃ (s : State) (sluice : Nat), s.on (sluPg sluice) SLU_STAT_PG = true)
    ∧ (∃ (s : State) (sluice : Nat), s.sluTakes sluice = true ∧ sluice ≠ 0 ∧ s.on (sluPg sluice) SLU_CFG_SRC = true
        ∧ s.sluSafeSrc = false ∧ s.sluState sluice ≠ 5)
    ∧ (∃ (s : State) (sluice : Nat), s.sluTakes sluice = true ∧ sluice ≠ 0 ∧ s.on (sluPg sluice) SLU_CFG_SRC = true
        ∧ s.sluSafeSrc = false ∧ s.sluState sluice ≠ 5)
    ∧ (∃ (s : State) (sluice : Nat), s.sluTakes sluice = true ∧ s.sluState sluice = 3)
    ∧ (∃ (s : State), s.sluState 0 = 0 ∧ s.pwd.offTill = none ∧ s.pwd.waitVin = false)
    ∧ (∃ (s : State), s.takes pgPWD = true ∧ s.pwd.silent = false)
    ∧ (∃ (s : State) (t : Nat), s.pwd.offTill = some t)
    ∧ (∃ (s : State) (sluice : Nat), sluice < 8 ∧ (s.sluState sluice = 0 ∨ s.sluState sluice = 3))
    ∧ (∃ (s : State) (sluice : Nat), s.sluState sluice = 5)
    ∧ (∃ (s : State) (sluice : Nat), s.sluTakes sluice = true ∧ (sluice = 0 ∨ s.on (sluPg sluice) SLU_CFG_SRC = false
        ∨ s.sluSafeSrc = true ∨ s.sluState sluice = 5))
    ∧ (∃ (s : State) (sluice : Nat), s.sluTakes sluice = true ∧ s.sluState sluice = 5) :=
  ⟨⟨(w [(sluPg 7, SLU_STAT_STATE, 1)]), 7,
      by decide +kernel⟩,
    ⟨(w [(sluPg 7, SLU_STAT_LIMIT, 1)]), 7,
      by decide +kernel⟩,
    ⟨(w []), 7,
      by decide +kernel⟩,
    ⟨(w [(sluPg 7, SLU_STAT_LIMIT, 1)]), 7,
      by decide +kernel⟩,
    ⟨(w [(sluPg 7, SLU_STAT_STATE, 1)]), 7,
      by decide +kernel⟩,
    ⟨(w [(sluPg 7, SLU_STAT_STATE, 1)]), 7,
      by decide +kernel⟩,
    ⟨(w [(sluPg 7, SLU_STAT_STATE, 2)]), 7,
      by decide +kernel⟩,
    ⟨7,
      by decide +kernel⟩,
    ⟨((w [(sluPg 7, SLU_STAT_STATE, 3), (sluPg 7, SLU_STAT_LEVEL, 1)]).setSluSt 7 { retryAt := some 4 }), 7, 4,
      by decide +kernel⟩,
    ⟨(w [(sluPg 7, SLU_STAT_PG, 1)]), 7,
      by decide +kernel⟩,
    ⟨sSlu, 7,
      by decide +kernel⟩,
    ⟨sSlu, 7,
      by decide +kernel⟩,
    ⟨(w [(sluPg 7, SLU_STAT_STATE, 3)] sSlu), 7,
      by decide +kernel⟩,
    ⟨(w []),
      by decide +kernel⟩,
    ⟨(w [(pgPWD, PAGE_STAT_READY, 1)]),
      by decide +kernel⟩,
    ⟨({ (w []) with pwd := { offTill := some 4 } }), 4,
      by decide +kernel⟩,
    ⟨(w []), 7,
      by decide +kernel⟩,
    ⟨(w [(sluPg 7, SLU_STAT_STATE, 5)]), 7,
      by decide +kernel⟩,
    ⟨(sSlu.wr (sluPg 7) SLU_CFG_SRC 0), 7,
      by decide +kernel⟩,
    ⟨(sSlu.wr (sluPg 7) SLU_STAT_STATE 5), 7,
      by decide +kernel⟩⟩

/-- The hypotheses of `Obligations.BridgeAsTargetTakesEffect` can be met. -/
theorem witness_BridgeAsTargetTakesEffect :
    (∃ (s : State), s.nextAccess = some tBRG_WRITE)
    ∧ (∃ (s : State), s.nextAccess = some tBRG_READ)
    ∧ (∃ (s : State), s.brg.held.isSome = true)
    ∧ (∃ (s : State), ((s.consQ 2).any (fun x => x.cell.typ == tBRG_POSTED_ERR) = true)) :=
  ⟨⟨(ask 2 tBRG_WRITE (beBytes 4 (pgIMG * 0x1000 + 0x14) ++ beBytes 12 0 ++ beBytes 4 0) 0 3 (w [(pgBRG, BRG_CFG_REMOTE_WR,
      1)])),
      by decide +kernel⟩,
    ⟨(ask 2 tBRG_READ (beBytes 6 0 ++ beBytes 2 4 ++ beBytes 8 0) 0 3 (w [])),
      by decide +kernel⟩,
    ⟨({ (w []) with brg := { held := some (rx1 tBRG_WRITE (beBytes 20 0) 0 3, 4) } }),
      by decide +kernel⟩,
    ⟨(ask 2 tBRG_POSTED_ERR (beBytes 20 0) 0 3 (w [])),
      by decide +kernel⟩⟩

/-- The hypotheses of `Obligations.BridgeAsInitiatorTakesEffect` can be met. -/
theorem witness_BridgeAsInitiatorTakesEffect :
    (∃ (s : State) (ini : Initiator) (node : Nat) (addr : Nat) (words : List Nat), s.iniServes ini = true
        ∧ s.isHere node = false ∧ ini ≠ .bridge ∧ s.noAuth ini true addr (4 * words.length) = false)
    ∧ (∃ (s : State) (ini : Initiator) (node : Nat) (addr : Nat) (len : Nat), s.iniServes ini = true ∧ s.isHere node = false
        ∧ ini ≠ .bridge ∧ len ≠ 0 ∧ len ≤ 256 ∧ len % 4 = 0 ∧ s.noAuth ini false addr len = false)
    ∧ (∃ (s : State) (c : ReadCtx) (l : List ReadCtx) (t : State), s.brg.waiting = c :: l ∧ s.grant c = some t)
    ∧ (∃ (s : State) (r : RxCell) (u : State), s.takeCell 2 tBRG_READ_RESP = some (r, u) ∧ beAt r.cell.payload 0 1 % 32 < 8
        ∧ (u.rctx (beAt r.cell.payload 0 1 % 32)).used = true
        ∧ (u.rctx (beAt r.cell.payload 0 1 % 32)).gen = beAt r.cell.payload 1 1)
    ∧ (∃ (s : State) (rid : Nat), s.readHeld rid = false ∧ rid < 8 ∧ (s.rctx rid).used = true)
    ∧ (∃ (s : State) (e : PfEnt), (s.brg.pf.foldl (fun (a : Option PfEnt) x => match a with
          | some y => if x.till < y.till then some x else a
          | none => some x) none = some e))
    ∧ (∃ (s : State) (ini : Initiator) (len : Nat) (a : Nat) (i : Nat) (t : State), s.takes pgBRG = true ∧ 4 ≤ len
        ∧ len ≤ 256 ∧ a = s.rd64 pgBRG BRG_CREQ_ADDR_LO_ADDR BRG_CREQ_ADDR_HI_ADDR 0 ini.num % 2 ^ 40
        ∧ s.isHere (a / 2 ^ 29) = false ∧ s.takeSlot ini (a / 2 ^ 29) (a % 2 ^ 29) len = some (t, i))
    ∧ (∃ (s : State) (slot : Nat), s.takes pgBRG = true ∧ s.rd pgBRG BRG_SLOTn_STAT_STATE slot = 2 ∧ s.now < s.slotDue slot)
    ∧ (∃ (s : State) (slot : Nat), s.rd pgBRG BRG_SLOTn_STAT_STATE slot = 2)
    ∧ (∃ (s : State), s.takes pgBRG = true)
    ∧ (∃ (s : State) (r : RxCell) (u : State), s.takeCell 2 tBRG_READ_RESP = some (r, u) ∧ 8 ≤ beAt r.cell.payload 0 1 % 32
        ∧ beAt r.cell.payload 0 1 % 32 < 24 ∧ u.rd pgBRG BRG_SLOTn_STAT_STATE (beAt r.cell.payload 0 1 % 32 - 8) = 1
        ∧ u.rd pgBRG BRG_SLOTn_STAT_GEN (beAt r.cell.payload 0 1 % 32 - 8) = beAt r.cell.payload 1 1)
    ∧ (∃ (s : State) (r : RxCell) (u : State), s.takeCell 2 tBRG_READ_RESP = some (r, u) ∧ beAt r.cell.payload 0 1 % 32 < 8
        ∧ ((u.rctx (beAt r.cell.payload 0 1 % 32)).used = false
        ∨ (u.rctx (beAt r.cell.payload 0 1 % 32)).gen ≠ beAt r.cell.payload 1 1))
    ∧ (∃ (s : State) (rid : Nat), s.readHeld rid = false ∧ 8 ≤ rid ∧ rid < 24 ∧ s.rd pgBRG BRG_SLOTn_STAT_STATE (rid - 8) = 1)
    ∧ (∃ (s : State) (ini : Initiator) (len : Nat) (a : Nat), s.takes pgBRG = true
        ∧ a = s.rd64 pgBRG BRG_CREQ_ADDR_LO_ADDR BRG_CREQ_ADDR_HI_ADDR 0 ini.num % 2 ^ 40 ∧ (len < 4 ∨ 256 < len
        ∨ s.isHere (a / 2 ^ 29) = true ∨ s.takeSlot ini (a / 2 ^ 29) (a % 2 ^ 29) len = none))
    ∧ (∃ (s : State) (slot : Nat), s.takes pgBRG = true ∧ s.rd pgBRG BRG_SLOTn_STAT_STATE slot = 2 ∧ s.slotDue slot ≤ s.now)
    ∧ (∃ (s : State) (ini : Initiator) (node : Nat) (addr : Nat) (words : List Nat) (w : Bool), s.iniServes ini = true
        ∧ s.isHere node = false ∧ ini ≠ .bridge ∧ 0 < words.length ∧ words.length ≤ 64
        ∧ s.noAuth ini w addr (4 * words.length) = true) :=
  ⟨⟨sHeld7, .pcie, 3, 0, [1],
      by decide +kernel⟩,
    ⟨sHeld7, .pcie, 3, 0, 256,
      by decide +kernel⟩,
    ⟨sGrant, {}, [], ((sGrant.grant {}).getD sGrant),
      by decide +kernel⟩,
    ⟨(ask 2 tBRG_READ_RESP (beBytes 8 0 ++ beBytes 4 9) 0 3
        { (w []) with brg := { ctx := [(0, { used := true, len := 4 })] } }),
        ((tk 2 tBRG_READ_RESP ((ask 2 tBRG_READ_RESP (beBytes 8 0 ++ beBytes 4 9) 0 3
        { (w []) with brg := { ctx := [(0, { used := true, len := 4 })] } }))).1),
        ((tk 2 tBRG_READ_RESP ((ask 2 tBRG_READ_RESP (beBytes 8 0 ++ beBytes 4 9) 0 3
        { (w []) with brg := { ctx := [(0, { used := true, len := 4 })] } }))).2),
      by decide +kernel⟩,
    ⟨({ (w []) with brg := { ctx := [(7, { used := true, len := 4 })] } }), 7,
      by decide +kernel⟩,
    ⟨({ (w []) with brg := { pf := [⟨3, 0, [], 4, 0⟩] } }), (⟨3, 0, [], 4, 0⟩),
      by decide +kernel⟩,
    ⟨sCreq, .pcie, 256, (3 * 2 ^ 29), (((sCreq.takeSlot .pcie 3 0 256).getD (sCreq, 0)).2),
        (((sCreq.takeSlot .pcie 3 0 256).getD (sCreq, 0)).1),
      by decide +kernel⟩,
    ⟨(wi [(pgBRG, PAGE_STAT_READY, 1, 0), (pgBRG, BRG_SLOTn_STAT_STATE, 2, 15)]), 15,
      by decide +kernel⟩,
    ⟨(wi [(pgBRG, BRG_SLOTn_STAT_STATE, 2, 15)]), 15,
      by decide +kernel⟩,
    ⟨(w [(pgBRG, PAGE_STAT_READY, 1)]),
      by decide +kernel⟩,
    ⟨(ask 2 tBRG_READ_RESP (beBytes 1 8 ++ beBytes 11 0) 0 3 (w [(pgBRG, BRG_SLOTn_STAT_STATE, 1)])),
        ((tk 2 tBRG_READ_RESP ((ask 2 tBRG_READ_RESP (beBytes 1 8 ++ beBytes 11 0) 0 3 (w [(pgBRG, BRG_SLOTn_STAT_STATE,
        1)])))).1), ((tk 2 tBRG_READ_RESP ((ask 2 tBRG_READ_RESP (beBytes 1 8 ++ beBytes 11 0) 0 3 (w [(pgBRG,
        BRG_SLOTn_STAT_STATE, 1)])))).2),
      by decide +kernel⟩,
    ⟨(ask 2 tBRG_READ_RESP (beBytes 12 0) 0 3 (w [])),
        ((tk 2 tBRG_READ_RESP ((ask 2 tBRG_READ_RESP (beBytes 12 0) 0 3 (w [])))).1),
        ((tk 2 tBRG_READ_RESP ((ask 2 tBRG_READ_RESP (beBytes 12 0) 0 3 (w [])))).2),
      by decide +kernel⟩,
    ⟨(w [(pgBRG, BRG_SLOTn_STAT_STATE, 1)]), 8,
      by decide +kernel⟩,
    ⟨(w [(pgBRG, PAGE_STAT_READY, 1)]), .pcie, 3, 0,
      by decide +kernel⟩,
    ⟨(State.pass (wi [(pgBRG, PAGE_STAT_READY, 1, 0), (pgBRG, BRG_SLOTn_STAT_STATE, 2, 15)]) 1000000000000), 15,
      by decide +kernel⟩,
    ⟨(w [(pgPWRST, PWRST_STATE_STATE, nsSERVICE), (pgPWRST, PWRST_STATE_STEP, 7), (pgUSB, PAGE_CTRL_EN, 1), (pgUSB,
        PAGE_STAT_READY, 1)]), .usb, 3, 0, [0], true,
      by decide +kernel⟩⟩

/-- The hypotheses of `Obligations.PcieCommandsTakeEffect` can be met. -/
theorem witness_PcieCommandsTakeEffect :
    (∃ (s : State) (write : Bool) (off : Nat) (len : Nat) (n : Nat) (data : List Nat), s.on pgPCIE PCIE_STAT_LINK_UP = true
        ∧ s.pcie.mem = true ∧ s.on pgPCIE PCIE_STAT_D3 = false ∧ n = (if write then 4 * data.length else len)
        ∧ (n == 8 && off % 8 == 4) = false)
    ∧ (∃ (s : State) (write : Bool) (off : Nat) (len : Nat) (n : Nat) (data : List Nat) (whole : Bool),
        s.on pgPCIE PCIE_STAT_LINK_UP = true ∧ s.pcie.mem = true ∧ s.on pgPCIE PCIE_STAT_D3 = false
        ∧ n = (if write then 4 * data.length else len) ∧ (whole && !(n == 8 && off % 8 == 4)) = true
        ∧ (s.count pgPCIE (2 + b2n write)).on pgPCIE PCIE_WINk_EN (off / 2 ^ 24 % 64) = true ∧ off % 2 ^ 24 % 4 = 0
        ∧ n % 4 = 0 ∧ n ≠ 0
        ∧ (s.count pgPCIE (2 + b2n write)).isHere ((s.count pgPCIE (2 + b2n write)).rd pgPCIE PCIE_WINk_NODE (off / 2 ^ 24 %
        64)) = true)
    ∧ (∃ (s : State), s.on pgPCIE PCIE_STAT_LINK_UP = true)
    ∧ (∃ (s : State), s.on pgPCIE PCIE_STAT_LINK_UP = true ∧ s.pcie.mem = true ∧ s.on pgPCIE PCIE_STAT_D3 = false)
    ∧ (∃ (s : State), s.dark 34 = false ∧ s.on pgPCIE PCIE_STAT_LINK_UP = false ∧ s.on pgCLK CLK_STAT_PCIE_PLL_LOCK = true
        ∧ s.portOn pgPCIE = true)
    ∧ (∃ (s : State), s.on pgPCIE PCIE_STAT_LINK_UP = true)
    ∧ (∃ (s : State) (write : Bool) (whole : Bool) (off : Nat) (len : Nat) (n : Nat) (data : List Nat),
        s.on pgPCIE PCIE_STAT_LINK_UP = true ∧ s.pcie.mem = true ∧ s.on pgPCIE PCIE_STAT_D3 = false
        ∧ n = (if write then 4 * data.length else len) ∧ (whole && !(n == 8 && off % 8 == 4)) = false)
    ∧ (∃ (s : State), s.on pgPCIE PCIE_STAT_LINK_UP = true ∧ s.pcie.mem = true ∧ s.on pgPCIE PCIE_STAT_D3 = false)
    ∧ (∃ (s : State) (write : Bool) (off : Nat), s.on pgPCIE PCIE_STAT_LINK_UP = true ∧ s.pcie.mem = true
        ∧ s.on pgPCIE PCIE_STAT_D3 = false
        ∧ ((s.count pgPCIE (2 + b2n write)).on pgPCIE PCIE_WINk_EN (off / 2 ^ 24 % 64) = false ∨ off % 2 ^ 24 % 4 ≠ 0))
    ∧ (∃ (s : State) (write : Bool) (whole : Bool) (off : Nat) (len : Nat) (n : Nat) (data : List Nat),
        s.on pgPCIE PCIE_STAT_LINK_UP = true ∧ s.pcie.mem = true ∧ s.on pgPCIE PCIE_STAT_D3 = false
        ∧ n = (if write then 4 * data.length else len) ∧ (whole && !(n == 8 && off % 8 == 4)) = true
        ∧ (s.count pgPCIE (2 + b2n write)).on pgPCIE PCIE_WINk_EN (off / 2 ^ 24 % 64) = true ∧ off % 2 ^ 24 % 4 = 0
        ∧ n % 4 = 0 ∧ n ≠ 0
        ∧ (s.count pgPCIE (2 + b2n write)).isHere ((s.count pgPCIE (2 + b2n write)).rd pgPCIE PCIE_WINk_NODE (off / 2 ^ 24 %
        64)) = false) :=
  ⟨⟨({ (w [(pgPCIE, PCIE_STAT_LINK_UP, 1)]) with pcie := { mem := true } }), true, 0, 0, 4, [1],
      by decide +kernel⟩,
    ⟨({ (w [(pgPCIE, PCIE_STAT_LINK_UP, 1), (pgPCIE, PCIE_WINk_EN, 1)]) with pcie := { mem := true } }), false, 0, 4, 4, [],
        true,
      by decide +kernel⟩,
    ⟨(w [(pgPCIE, PCIE_STAT_LINK_UP, 1)]),
      by decide +kernel⟩,
    ⟨({ (w [(pgPCIE, PCIE_STAT_LINK_UP, 1)]) with pcie := { mem := true } }),
      by decide +kernel⟩,
    ⟨(w [(pgCLK, CLK_STAT_PCIE_PLL_LOCK, 1)]),
      by decide +kernel⟩,
    ⟨(w [(pgPCIE, PCIE_STAT_LINK_UP, 1)]),
      by decide +kernel⟩,
    ⟨({ (w [(pgPCIE, PCIE_STAT_LINK_UP, 1)]) with pcie := { mem := true } }), true, false, 0, 0, 4, [1],
      by decide +kernel⟩,
    ⟨({ (w [(pgPCIE, PCIE_STAT_LINK_UP, 1), (pgPCIE, PCIE_WINk_EN, 1), (pgPCIE, PCIE_WINk_NODE, 5)]) with pcie := { mem := true } }),
      by decide +kernel⟩,
    ⟨({ (w [(pgPCIE, PCIE_STAT_LINK_UP, 1), (pgPCIE, PCIE_WINk_EN, 1), (pgPCIE, PCIE_WINk_NODE, 5)]) with pcie := { mem := true } }), false, 2,
      by decide +kernel⟩,
    ⟨(w [(pgLINK, RING_ID_CLAIM, 2), (pgLINK, RING_ID_ID,
        7)] { (w [(pgPCIE, PCIE_STAT_LINK_UP, 1), (pgPCIE, PCIE_WINk_EN, 1), (pgPCIE, PCIE_WINk_NODE, 5)]) with pcie := { mem := true } }), false, true, 0, 4, 4, [],
      by decide +kernel⟩⟩

/-- The hypotheses of `Obligations.QspiFramesTakeEffect` can be met. -/
theorem witness_QspiFramesTakeEffect :
    (∃ (s : State) (hdr : List Byte), s.portsServe pgQSH = true ∧ s.qsh.frame = false ∧ s.qsh.waiting = false
        ∧ beAt hdr 0 1 / 16 = 1)
    ∧ (∃ (s : State) (hdr : List Byte), s.portsServe pgQSH = true ∧ s.qsh.frame = false ∧ s.qsh.waiting = false
        ∧ beAt hdr 0 1 / 16 = 2)
    ∧ (∃ (s : State) (hdr : List Byte), s.portsServe pgQSH = true ∧ s.qsh.frame = false ∧ s.qsh.waiting = false
        ∧ beAt hdr 0 1 / 16 = 3)
    ∧ (∃ (s : State) (hdr : List Byte), s.portsServe pgQSH = true ∧ s.qsh.frame = false ∧ s.qsh.waiting = false
        ∧ beAt hdr 0 1 / 16 = 4)
    ∧ (∃ (s : State), s.qsh.frame = false ∧ s.portsServe pgQSH = true)
    ∧ (∃ (s : State) (hdr : List Byte), s.portsServe pgQSH = true ∧ s.qsh.frame = false ∧ s.qsh.waiting = false
        ∧ (beAt hdr 0 1 / 16 = 0 ∨ 5 ≤ beAt hdr 0 1 / 16)) :=
  ⟨⟨sQsh, (qHdr 1 0),
      by decide +kernel⟩,
    ⟨sQsh, (qHdr 2 0),
      by decide +kernel⟩,
    ⟨sQsh, (qHdr 3 0),
      by decide +kernel⟩,
    ⟨sQsh, (qHdr 4 0),
      by decide +kernel⟩,
    ⟨sQsh,
      by decide +kernel⟩,
    ⟨sQsh, (qHdr 0 0),
      by decide +kernel⟩⟩

/-- The hypotheses of `Obligations.UsbRequestsTakeEffect` can be met. -/
theorem witness_UsbRequestsTakeEffect :
    (∃ (s : State) (recipient : Nat), s.usbLive = true ∧ recipient < 32)
    ∧ (∃ (s : State) (recipient : Nat), s.usbLive = true ∧ recipient < 32)
    ∧ (∃ (s : State), s.usbLive = true)
    ∧ (∃ (s : State), s.usbLive = true)
    ∧ (∃ (s : State), s.usbLive = true)
    ∧ (∃ (s : State), s.usbLive = true)
    ∧ (∃ (s : State), s.usbLive = true)
    ∧ (∃ (s : State), s.usbLive = true)
    ∧ (∃ (s : State), s.usbLive = true)
    ∧ (∃ (s : State), s.usbLive = true)
    ∧ (∃ (s : State) (hdr : List Byte), s.tunnelOpen = true ∧ s.usb.test = 0 ∧ s.usb.reqs = [] ∧ leAt hdr 0 1 ≠ 2)
    ∧ (∃ (s : State) (hdr : List Byte) (data : List Byte), s.tunnelOpen = true ∧ s.usb.test = 0 ∧ s.usb.reqs = []
        ∧ leAt hdr 0 1 = 2 ∧ 16 + data.length ≤ 4096)
    ∧ (∃ (s : State), s.usbState ≠ 0)
    ∧ (∃ (s : State), s.usbLive = true)
    ∧ (∃ (s : State), s.usbState = 4)
    ∧ (∃ (s : State), s.usbState = 4 ∧ s.on pgUSB USB_STAT_RWAKE_EN = true
        ∧ (s.rd pgUSB USB_WAKE_REASON_REASON &&& (s.word pgUSB 0x108).toNat % 16) ≠ 0 ∧ s.usb.suspAt + 5000000 ≤ s.now)
    ∧ (∃ (s : State) (t : Nat), s.usb.lockEnd = some t)
    ∧ (∃ (s : State) (recipient : Nat), s.usbLive = true ∧ recipient < 32)
    ∧ (∃ (s : State) (recipient : Nat), s.usbLive = true ∧ recipient < 32)
    ∧ (∃ (s : State) (recipient : Nat), s.usbLive = true ∧ recipient < 32)
    ∧ (∃ (s : State) (recipient : Nat), s.usbLive = true ∧ recipient < 32)
    ∧ (∃ (s : State) (recipient : Nat), s.usbLive = true ∧ recipient < 32)
    ∧ (∃ (s : State) (recipient : Nat), s.usbLive = true ∧ recipient < 32)
    ∧ (∃ (s : State) (recipient : Nat), s.usbLive = true ∧ recipient < 32)
    ∧ (∃ (s : State) (request : Nat), s.usbLive = true ∧ request ∉ [0, 1, 3, 5, 6, 8, 9, 10, 11])
    ∧ (∃ (s : State) (recipient : Nat), s.usbLive = true ∧ 32 ≤ recipient)
    ∧ (∃ (s : State) (hdr : List Byte) (data : List Byte), s.usbState = 3 ∧ s.usb.test = 0 ∧ s.usb.halted.contains 1 = false
        ∧ s.usb.reading.isSome = true ∧ s.usb.reqs = [] ∧ (data = [] ∨ leAt hdr 0 1 = 2 ∧ 16 + data.length ≤ 4096)) :=
  ⟨⟨(w [(pgUSB, USB_STAT_STATE, 1)]), 0,
      by decide +kernel⟩,
    ⟨(w [(pgUSB, USB_STAT_STATE, 2)]), 0,
      by decide +kernel⟩,
    ⟨(w [(pgUSB, USB_STAT_STATE, 3)]),
      by decide +kernel⟩,
    ⟨sAuth,
      by decide +kernel⟩,
    ⟨({ sAuth with usb := { nonce := some ([], 0) } }),
      by decide +kernel⟩,
    ⟨(w [(pgUSB, USB_STAT_STATE, 3)]),
      by decide +kernel⟩,
    ⟨(w [(pgUSB, USB_STAT_AUTH, 1)] (w [(pgUSB, USB_STAT_STATE, 3)])),
      by decide +kernel⟩,
    ⟨(w [(pgUSB, USB_STAT_STATE, 3)]),
      by decide +kernel⟩,
    ⟨(w [(pgUSB, USB_STAT_STATE, 3)]),
      by decide +kernel⟩,
    ⟨(w [(pgUSB, USB_STAT_STATE, 3)]),
      by decide +kernel⟩,
    ⟨sTun, (tHdr 1),
      by decide +kernel⟩,
    ⟨sTun, (tHdr 2), (beBytes 4 0),
      by decide +kernel⟩,
    ⟨(w [(pgUSB, USB_STAT_STATE, 3)]),
      by decide +kernel⟩,
    ⟨(w [(pgUSB, USB_STAT_STATE, 3)]),
      by decide +kernel⟩,
    ⟨(w [(pgUSB, USB_STAT_STATE, 4)]),
      by decide +kernel⟩,
    ⟨{ ((w [(pgUSB, USB_STAT_STATE, 4), (pgUSB, USB_STAT_RWAKE_EN, 1), (pgUSB, USB_WAKE_REASON_REASON, 1)]).setWord pgUSB 0x108 1) with now := 5000000 },
      by decide +kernel⟩,
    ⟨({ (w []) with usb := { lockEnd := some 4 } }), 4,
      by decide +kernel⟩,
    ⟨(w [(pgUSB, USB_STAT_STATE, 2)]), 0,
      by decide +kernel⟩,
    ⟨(w [(pgUSB, USB_STAT_STATE, 2)]), 0,
      by decide +kernel⟩,
    ⟨(w [(pgUSB, USB_STAT_STATE, 2)]), 0,
      by decide +kernel⟩,
    ⟨(w [(pgUSB, USB_STAT_STATE, 2)]), 0,
      by decide +kernel⟩,
    ⟨(w [(pgUSB, USB_STAT_STATE, 2)]), 0,
      by decide +kernel⟩,
    ⟨(w [(pgUSB, USB_STAT_STATE, 2)]), 0,
      by decide +kernel⟩,
    ⟨(w [(pgUSB, USB_STAT_STATE, 2)]), 0,
      by decide +kernel⟩,
    ⟨(w [(pgUSB, USB_STAT_STATE, 2)]), 7,
      by decide +kernel⟩,
    ⟨(w [(pgUSB, USB_STAT_STATE, 3)]), 64,
      by decide +kernel⟩,
    ⟨({ sTun with usb := { reading := some { op := 1, seq := 0 } } }), (tHdr 1), [],
      by decide +kernel⟩⟩

/-- The hypotheses of `Obligations.FaultsAndClackTakeEffect` can be met. -/
theorem witness_FaultsAndClackTakeEffect :
    (∃ (s : State) (source : Nat) (kind : Nat) (uc : Bool) (k : Kind) (r : KindRow), s.held = []
        ∧ pageKind? (healthPage source) = some k ∧ ((kindRows k).find? (fun x => x.kind == kind) = some r)
        ∧ (r.hk != (source == 0x3F0)) = false ∧ eccKinds.contains kind = false ∧ ¬(kind = 0x0F ∧ source ≠ pgLINK)
        ∧ ¬(kind = 0x20 ∧ uc = true))
    ∧ (∃ (s : State) (t : Nat), s.flt.resetDue = some t)
    ∧ (∃ (s : State) (seq : Nat) (r : FltRec),
        (((s.fltExpire).flt.log ++ (s.fltExpire).flt.popped).find? (fun x => x.seq == seq && x.isOpen) = some r))
    ∧ (∃ (s : State) (page : Nat), (s.flt.ceUntil.get (fun _ => 0) page ≠ 0))
    ∧ (∃ (s : State), s.hkUp = true)
    ∧ (∃ (s : State) (t : Nat), s.flt.lastBeat = some t ∧ s.flt.graceEnd = none ∧ s.on pgFLT FLT_CLACK_RUN = true)
    ∧ (∃ (s : State), s.held = [])
    ∧ (∃ (s : State) (e : Nat), s.flt.graceEnd = some e)
    ∧ (∃ (s : State), s.takes pgFLT = true)
    ∧ (∃ (s : State), s.held = [])
    ∧ (∃ (s : State) (kind : Nat), s.held = [] ∧ (kind = 3 ∨ kind = 4))
    ∧ (∃ (s : State) (source : Nat) (kind : Nat) (k : Kind) (r : KindRow), s.held = []
        ∧ pageKind? (healthPage source) = some k ∧ ((kindRows k).find? (fun x => x.kind == kind) = some r)
        ∧ (r.hk != (source == 0x3F0)) = false ∧ eccKinds.contains kind = true)
    ∧ (∃ (s : State) (source : Nat) (kind : Nat) (k : Kind) (r : KindRow), s.held = []
        ∧ pageKind? (healthPage source) = some k ∧ ((kindRows k).find? (fun x => x.kind == kind) = some r)
        ∧ (r.hk != (source == 0x3F0)) = false ∧ kind = 0x20) :=
  ⟨⟨(w []), pgLINK, 0x0E, false, .link,
      (((kindRows .link).find? (fun x => x.kind == 0x0E)).getD ((kindRows .link).head (by decide))),
      by decide +kernel⟩,
    ⟨({ (w []) with flt := { resetDue := some 4 } }), 4,
      by decide +kernel⟩,
    ⟨({ (w []) with flt := { log := [flt1] } }), 9, flt1,
      by decide +kernel⟩,
    ⟨({ (w []) with flt := { ceUntil := [(pgIMG, 4)] } }), pgIMG,
      by decide +kernel⟩,
    ⟨({ (w []) with hkUp := true, flt := { lastBeat := some 0 }, now := 2000000 }),
      by decide +kernel⟩,
    ⟨({ (w [(pgFLT, FLT_CLACK_RUN, 1)]) with flt := { lastBeat := some 0 } }), 0,
      by decide +kernel⟩,
    ⟨(w []),
      by decide +kernel⟩,
    ⟨({ (w []) with flt := { graceEnd := some 4 } }), 4,
      by decide +kernel⟩,
    ⟨(w [(pgFLT, PAGE_STAT_READY, 1)]),
      by decide +kernel⟩,
    ⟨(w []),
      by decide +kernel⟩,
    ⟨(w []), 4,
      by decide +kernel⟩,
    ⟨(w []), pgIMG, 0x17, .img, (((kindRows .img).find? (fun x => x.kind == 0x17)).getD ((kindRows .img).head (by decide))),
      by decide +kernel⟩,
    ⟨(w []), (lanePg 0), 0x20, ((pageKind? (lanePg 0)).getD .lane),
        (((kindRows .lane).find? (fun x => x.kind == 0x20)).getD ⟨0, 0, 0, 0, false⟩),
      by decide +kernel⟩⟩

/-- The hypotheses of `Obligations.TwinEventsTakeEffect` can be met. -/
theorem witness_TwinEventsTakeEffect :
    (∃ (s : State) (n : Nat), s.twin.lateFrom = some n ∧ s.isBedstone = true ∧ s.peerSealed n = false)
    ∧ (∃ (s : State) (r : RxCell) (u : State), s.takeCell 3 tJOURNAL = some (r, u))
    ∧ (∃ (s : State), s.isRunner = true ∧ s.twin.owed = true)
    ∧ (∃ (s : State) (line : Nat), s.compares line = true ∧ (s.expected line != s.dioBit line DIO_RAW_W) = true)
    ∧ (∃ (s : State) (t : State), s.isBedstone = true ∧ s.on pgTWIN TWIN_CFG_SEAL_EN = true ∧ s.locked = true
        ∧ s.epoch ≠ ones64
        ∧ t = s.passRing (s.tS s.epoch + (if (s.shard s.shardId).sealAt = 0 then s.rd pgIMG IMG_EPOCH_SEAL_AT else (s.shard
        s.shardId).sealAt)
          * s.epochLen / 8 + 1000 * max 5 (s.rd pgTWIN TWIN_CFG_SEAL_WAIT)))
    ∧ (∃ (s : State), s.takes pgTWIN = true)
    ∧ (∃ (s : State), s.takes pgTWIN = true)
    ∧ (∃ (s : State), s.takes pgTWIN = true)
    ∧ (∃ (s : State), s.twin.phase = 1)
    ∧ (∃ (s : State) (t : State), s.twin.phase = 2 ∧ t = s.twinOffsets)
    ∧ (∃ (s : State), s.twin.phase = 3)
    ∧ (∃ (s : State), s.on pgTWIN TWIN_STAT_PEER_ACT = true ∧ s.twin.driving = true ∧ s.twin.cause ≠ 0
        ∧ s.now ≤ s.twin.driveAt + 20000) :=
  ⟨⟨({ sBed with twin := { lateFrom := some 0 } }), 0,
      by decide +kernel⟩,
    ⟨(ask 3 tJOURNAL (beBytes 8 0) 0 3 { sBed with twin := { jnext := some 0 } }),
        ((tk 3 tJOURNAL ((ask 3 tJOURNAL (beBytes 8 0) 0 3 { sBed with twin := { jnext := some 0 } }))).1),
        ((tk 3 tJOURNAL ((ask 3 tJOURNAL (beBytes 8 0) 0 3 { sBed with twin := { jnext := some 0 } }))).2),
      by decide +kernel⟩,
    ⟨({ (w [(pgTWIN, PAGE_CTRL_EN, 1), (pgTWIN, TWIN_STAT_ROLE, 1)]) with twin := { owed := true } }),
      by decide +kernel⟩,
    ⟨sCmp, 0,
      by decide +kernel⟩,
    ⟨sSealCk,
        (sSealCk.passRing (sSealCk.tS sSealCk.epoch + (if (sSealCk.shard sSealCk.shardId).sealAt = 0 then sSealCk.rd pgIMG
        IMG_EPOCH_SEAL_AT else (sSealCk.shard sSealCk.shardId).sealAt) * sSealCk.epochLen / 8 + 1000 * max 5 (sSealCk.rd
        pgTWIN TWIN_CFG_SEAL_WAIT))),
      by decide +kernel⟩,
    ⟨(w [(pgTWIN, PAGE_STAT_READY, 1), (pgTWIN, TWIN_STAT_SYNC, 2)] sBed),
      by decide +kernel⟩,
    ⟨(w [(pgTWIN, PAGE_STAT_READY, 1)] sBed),
      by decide +kernel⟩,
    ⟨(w [(pgTWIN, PAGE_STAT_READY, 1), (pgTWIN, PAGE_CTRL_EN, 1), (pgTWIN, TWIN_STAT_ROLE, 3)]),
      by decide +kernel⟩,
    ⟨({ (w []) with twin := { phase := 1 } }),
      by decide +kernel⟩,
    ⟨({ (w []) with twin := { phase := 2 } }), (State.twinOffsets { (w []) with twin := { phase := 2 } }),
      by decide +kernel⟩,
    ⟨({ (w []) with twin := { phase := 3 } }),
      by decide +kernel⟩,
    ⟨({ (w [(pgTWIN, TWIN_STAT_PEER_ACT, 1)]) with twin := { driving := true, cause := 1 } }),
      by decide +kernel⟩⟩

/-- The hypotheses of `Obligations.DressingTakesEffect` can be met. -/
theorem witness_DressingTakesEffect :
    (∃ (s : State) (m : Nat) (word : Nat), s.enabled pgDRS = true ∧ m < 12 ∧ word < scrubWords m
        ∧ s.on pgDRS DRS_SCRUBm_EN m = true)
    ∧ (∃ (s : State) (i : Nat) (training : Bool), (s.enabled pgDRS = true ∨ training = true) ∧ i < 4)
    ∧ (∃ (s : State), s.takes pgDRS = true ∧ s.enabled pgDRS = true)
    ∧ (∃ (s : State), s.on pgDRS DRS_CAL_STAT_BUSY = true)
    ∧ (∃ (s : State), s.held = [])
    ∧ (∃ (s : State) (r : List Nat) (l : List (List Nat)), s.hk.ledger = r :: l ∧ s.hkUp = true
        ∧ s.on pgDRS DRS_WEARr_A_EXHAUSTED 0 = false)
    ∧ (∃ (s : State), s.held = [])
    ∧ (∃ (i : Nat), i < 2)
    ∧ (∃ (s : State) (i : Nat) (training : Bool), (s.enabled pgDRS = true ∨ training = true) ∧ i < 8)
    ∧ (∃ (s : State) (i : Nat) (training : Bool), (s.enabled pgDRS = true ∨ training = true) ∧ i < 2 ∧ ¬(i = 1
        ∧ s.hkPaused = true)) :=
  ⟨⟨(wi [(pgDRS, PAGE_CTRL_EN, 1, 0), (pgDRS, DRS_SCRUBm_EN, 1, 11)]), 11, 0,
      by decide +kernel⟩,
    ⟨(w []), 3, true,
      by decide +kernel⟩,
    ⟨(w [(pgDRS, PAGE_STAT_READY, 1), (pgDRS, PAGE_CTRL_EN, 1)]),
      by decide +kernel⟩,
    ⟨(w [(pgDRS, DRS_CAL_STAT_BUSY, 1)]),
      by decide +kernel⟩,
    ⟨(w []),
      by decide +kernel⟩,
    ⟨({ (w []) with hkUp := true, hk := { ledger := [[1]] } }), [1], [],
      by decide +kernel⟩,
    ⟨({ (w []) with rst := { telemAt := some 0 } }),
      by decide +kernel⟩,
    ⟨1,
      by decide +kernel⟩,
    ⟨(w []), 1, true,
      by decide +kernel⟩,
    ⟨(w []), 1, true,
      by decide +kernel⟩⟩

/-- The hypotheses of `Obligations.CourseCommandsTakeEffect` can be met. -/
theorem witness_CourseCommandsTakeEffect :
    (∃ (s : State), s.takes pgCRS = true ∧ s.hkPaused = false)
    ∧ (∃ (s : State) (p : List Byte) (n : Nat) (x : Nat), s.crs.sends = some (p, n, x))
    ∧ (∃ (s : State) (r : RxCell) (u : State), s.hkUp = true ∧ s.takeCell 4 tCOURSE_SWITCH = some (r, u)
        ∧ beAt r.cell.payload 8 1 % 16 = 1)
    ∧ (∃ (s : State), s.time.firstUp.isSome = true ∧ s.hkUp = true ∧ s.crs.answered = false
        ∧ (s.crs.once && s.crs.query.isSome) = false ∧ s.heldId = true ∧ nsJOIN ≤ s.node ∧ s.node ≤ nsQUIET)
    ∧ (∃ (s : State), s.takes pgCRS = true ∧ s.hkPaused = false)
    ∧ (∃ (s : State) (x : CrsStore), s.takes pgCRS = true ∧ s.hkPaused = false ∧ s.crs.store = some x)
    ∧ (∃ (s : State) (ini : Initiator) (key : Nat) (x : CrsStore), s.takes pgCRS = true ∧ s.hkPaused = false
        ∧ s.crs.store = some x ∧ s.storeTakes key = true ∧ x.ini = ini ∧ x.writing = false)
    ∧ (∃ (s : State) (x : CrsStore), s.crs.store = some x ∧ x.writing = true)
    ∧ (∃ (s : State) (x : CrsStore), s.takes pgCRS = true ∧ s.hkPaused = false ∧ s.crs.store = some x)
    ∧ (∃ (s : State) (x : CrsStore), s.crs.store = some x ∧ x.writing = false)
    ∧ (∃ (s : State) (r : RxCell) (u : State), s.hkUp = true ∧ s.takeCell 4 tCOURSE_SWITCH = some (r, u)
        ∧ beAt r.cell.payload 8 1 % 16 = 2)
    ∧ (∃ (s : State) (r : RxCell) (u : State), s.hkUp = true ∧ s.takeCell 4 tCOURSE_SWITCH = some (r, u)
        ∧ beAt r.cell.payload 8 1 % 16 = 3)
    ∧ (∃ (s : State) (r : RxCell) (u : State), s.hkUp = true ∧ s.takeCell 4 tCOURSE_SWITCH = some (r, u)
        ∧ (beAt r.cell.payload 8 1 % 16 = 0 ∨ 3 < beAt r.cell.payload 8 1 % 16))
    ∧ (∃ (s : State), s.takes pgCRS = true ∧ s.hkPaused = false ∧ s.crs.store = none) :=
  ⟨⟨sSwitch,
      by decide +kernel⟩,
    ⟨({ (w []) with crs := { sends := some ([], 2, 4) } }), [], 2, 4,
      by decide +kernel⟩,
    ⟨(ask 4 tCOURSE_SWITCH (beBytes 8 9 ++ beBytes 1 1 ++ beBytes 23 0) 0 3 { (w []) with hkUp := true }),
        ((tk 4 tCOURSE_SWITCH ((ask 4 tCOURSE_SWITCH (beBytes 8 9 ++ beBytes 1 1 ++ beBytes 23 0) 0 3
        { (w []) with hkUp := true }))).1),
        ((tk 4 tCOURSE_SWITCH ((ask 4 tCOURSE_SWITCH (beBytes 8 9 ++ beBytes 1 1 ++ beBytes 23 0) 0 3
        { (w []) with hkUp := true }))).2),
      by decide +kernel⟩,
    ⟨({ (w [(pgLINK, RING_ID_CLAIM, 2), (pgPWRST, PWRST_STATE_STATE, nsJOIN)]) with hkUp := true, time := { firstUp := some 0 } }),
      by decide +kernel⟩,
    ⟨(sStore none),
      by decide +kernel⟩,
    ⟨(sStore (some { ini := .pcie, image := 1, at_ := 0 })), { ini := .pcie, image := 1, at_ := 0 },
      by decide +kernel⟩,
    ⟨(sStore (some { ini := .pcie, image := 1, at_ := 0 })), .pcie, storeKey, { ini := .pcie, image := 1, at_ := 0 },
      by decide +kernel⟩,
    ⟨({ (w []) with crs := { store := some { ini := .pcie, image := 1, at_ := 0, writing := true } } }),
        { ini := .pcie, image := 1, at_ := 0, writing := true },
      by decide +kernel⟩,
    ⟨(sStore (some { ini := .pcie, image := 1, at_ := 0 })), { ini := .pcie, image := 1, at_ := 0 },
      by decide +kernel⟩,
    ⟨({ (w []) with crs := { store := some { ini := .pcie, image := 1, at_ := 0 } } }),
        { ini := .pcie, image := 1, at_ := 0 },
      by decide +kernel⟩,
    ⟨(ask 4 tCOURSE_SWITCH (beBytes 8 9 ++ beBytes 1 2 ++ beBytes 23 0) 0 3 { (w []) with hkUp := true }),
        ((tk 4 tCOURSE_SWITCH ((ask 4 tCOURSE_SWITCH (beBytes 8 9 ++ beBytes 1 2 ++ beBytes 23 0) 0 3
        { (w []) with hkUp := true }))).1),
        ((tk 4 tCOURSE_SWITCH ((ask 4 tCOURSE_SWITCH (beBytes 8 9 ++ beBytes 1 2 ++ beBytes 23 0) 0 3
        { (w []) with hkUp := true }))).2),
      by decide +kernel⟩,
    ⟨(ask 4 tCOURSE_SWITCH (beBytes 8 9 ++ beBytes 1 3 ++ beBytes 23 0) 0 3 { (w []) with hkUp := true }),
        ((tk 4 tCOURSE_SWITCH ((ask 4 tCOURSE_SWITCH (beBytes 8 9 ++ beBytes 1 3 ++ beBytes 23 0) 0 3
        { (w []) with hkUp := true }))).1),
        ((tk 4 tCOURSE_SWITCH ((ask 4 tCOURSE_SWITCH (beBytes 8 9 ++ beBytes 1 3 ++ beBytes 23 0) 0 3
        { (w []) with hkUp := true }))).2),
      by decide +kernel⟩,
    ⟨(ask 4 tCOURSE_SWITCH (beBytes 8 9 ++ beBytes 1 0 ++ beBytes 23 0) 0 3 { (w []) with hkUp := true }),
        ((tk 4 tCOURSE_SWITCH ((ask 4 tCOURSE_SWITCH (beBytes 8 9 ++ beBytes 1 0 ++ beBytes 23 0) 0 3
        { (w []) with hkUp := true }))).1),
        ((tk 4 tCOURSE_SWITCH ((ask 4 tCOURSE_SWITCH (beBytes 8 9 ++ beBytes 1 0 ++ beBytes 23 0) 0 3
        { (w []) with hkUp := true }))).2),
      by decide +kernel⟩,
    ⟨(sStore none),
      by decide +kernel⟩⟩

/-- The hypotheses of `Obligations.UpdateTakesEffect` can be met. -/
theorem witness_UpdateTakesEffect :
    (∃ (s : State) (ini : Initiator) (src : Nat), s.updTakes = true ∧ s.hkPaused = false ∧ updSource ini = some src)
    ∧ (∃ (s : State) (ini : Initiator) (src : Nat), s.updTakes = true ∧ s.hkPaused = false ∧ updSource ini = some src)
    ∧ (∃ (s : State), s.updTakes = true ∧ s.hkPaused = false)
    ∧ (∃ (s : State) (ini : Initiator) (src : Nat), s.updTakes = true ∧ s.hkPaused = false ∧ updSource ini = some src
        ∧ src ≠ 3)
    ∧ (∃ (s : State), s.rd pgUSB USB_STAT_STATE = 3 ∧ s.usb.halted.contains 3 = false)
    ∧ (∃ (s : State) (r : RxCell) (u : State), s.hkUp = true ∧ s.takeCell 4 tUPD_DATA = some (r, u))
    ∧ (∃ (s : State) (n : Nat), s.upd.erasing = some n)
    ∧ (∃ (s : State) (src : Nat), (s.updHdr src).open_ = true)
    ∧ (∃ (s : State) (slot : Nat), s.updTakes = true ∧ s.hkPaused = false ∧ slot < 2)
    ∧ (∃ (s : State), s.updTakes = true ∧ s.hkPaused = false)
    ∧ (∃ (s : State), s.updTakes = true ∧ s.hkPaused = false)
    ∧ (∃ (s : State) (d : UpdDist), s.upd.dist = some d ∧ s.hkUp = true)
    ∧ (∃ (s : State) (t : Nat), s.upd.trialAt = some t)
    ∧ (∃ (s : State) (n : Nat) (second : Bool), s.held = [] ∧ s.hkUp = false ∧ (s.node == nsRECOVERY) = false
        ∧ s.hk.starting = some (n, second) ∧ s.rd pgPWRST PWRST_STATE_STEP < 3)
    ∧ (∃ (s : State) (ini : Initiator), s.updTakes = true ∧ s.hkPaused = false ∧ (updSource ini = none
        ∨ updSource ini = some 3))
    ∧ (∃ (s : State) (src : Nat) (x : UpdSess), (s.updHdr src).open_ = false ∧ s.upd.sess = some x ∧ x.source = src)
    ∧ (∃ (s : State) (n : Nat) (second : Bool), s.held = [] ∧ s.hkUp = false ∧ (s.node == nsRECOVERY) = false
        ∧ s.hk.starting = some (n, second) ∧ 3 ≤ s.rd pgPWRST PWRST_STATE_STEP) :=
  ⟨⟨sUpd, .pcie, ((updSource .pcie).getD 0),
      by decide +kernel⟩,
    ⟨(sUpd.setUpdHdr ((updSource .pcie).getD 0) { open_ := true }), .pcie, ((updSource .pcie).getD 0),
      by decide +kernel⟩,
    ⟨sUpd,
      by decide +kernel⟩,
    ⟨sUpd, .pcie, ((updSource .pcie).getD 0),
      by decide +kernel⟩,
    ⟨(w [(pgUSB, USB_STAT_STATE, 3), (pgUSB, USB_STAT_AUTH, 1)]),
      by decide +kernel⟩,
    ⟨(ask 4 tUPD_DATA (beBytes 2 1 ++ beBytes 2 5 ++ beBytes 4 0 ++ beBytes 2 4 ++ beBytes 6 0 ++ beBytes 4 0) 0 3
        { (w [(pgUPD, PAGE_CTRL_EN, 1)]) with hkUp := true }),
        ((tk 4 tUPD_DATA ((ask 4 tUPD_DATA (beBytes 2 1 ++ beBytes 2 5 ++ beBytes 4 0 ++ beBytes 2 4 ++ beBytes 6 0 ++
        beBytes 4 0) 0 3 { (w [(pgUPD, PAGE_CTRL_EN, 1)]) with hkUp := true }))).1),
        ((tk 4 tUPD_DATA ((ask 4 tUPD_DATA (beBytes 2 1 ++ beBytes 2 5 ++ beBytes 4 0 ++ beBytes 2 4 ++ beBytes 6 0 ++
        beBytes 4 0) 0 3 { (w [(pgUPD, PAGE_CTRL_EN, 1)]) with hkUp := true }))).2),
      by decide +kernel⟩,
    ⟨({ (w []) with upd := { erasing := some 1 } }), 1,
      by decide +kernel⟩,
    ⟨((w []).setUpdHdr 8 { open_ := true }), 8,
      by decide +kernel⟩,
    ⟨({ (w [(pgPWRST, PWRST_STATE_STATE, nsRECOVERY)] sUpd) with flash := { slotA := { st := 3 } } }), 0,
      by decide +kernel⟩,
    ⟨({ sUpd with upd := { trialAt := some 0 } }),
      by decide +kernel⟩,
    ⟨({ (w [(pgUPD, PAGE_CTRL_EN, 1)] sUpd) with flash := { slotA := { st := 5 } } }),
      by decide +kernel⟩,
    ⟨sDist, { slot := 0, session := 1, due := 4 },
      by decide +kernel⟩,
    ⟨({ (w [(pgUPD, UPD_CFG_AUTO_CONFIRM, 1)]) with upd := { trialAt := some 0 } }), 0,
      by decide +kernel⟩,
    ⟨({ (w []) with hk := { starting := some (1, true) } }), 1, true,
      by decide +kernel⟩,
    ⟨sUpd, .hk,
      by decide +kernel⟩,
    ⟨({ (w []) with upd := { sess := some updSess1 } }), updSess1.source, updSess1,
      by decide +kernel⟩,
    ⟨({ (w [(pgPWRST, PWRST_STATE_STEP, 3)]) with hk := { starting := some (1, true) } }), 1, true,
      by decide +kernel⟩⟩

/-- The hypotheses of `Obligations.KeyCommandsTakeEffect` can be met. -/
theorem witness_KeyCommandsTakeEffect :
    (∃ (s : State), s.keyTakes = true ∧ s.hkPaused = false)
    ∧ (∃ (s : State), s.keyTakes = true ∧ s.hkPaused = false)
    ∧ (∃ (s : State), s.keyTakes = true ∧ s.hkPaused = false)
    ∧ (∃ (s : State), s.keyTakes = true ∧ s.hkPaused = false)
    ∧ (∃ (s : State), s.keyTakes = true ∧ s.hkPaused = false)
    ∧ (∃ (s : State), s.keyTakes = true ∧ s.hkPaused = false)
    ∧ (∃ (s : State) (op : KeyOp), s.key.op = some op)
    ∧ (∃ (s : State), s.on pgKEY KEY_STAT_LOADED = false ∧ (s.hkUp = true ∨ s.node = nsRECOVERY))
    ∧ (∃ (s : State), s.held = [])
    ∧ (∃ (s : State) (port : Nat), port < 2 ∧ s.linkUp port = true ∧ 0xC0000000 ≤ (s.protSt port).txPn
        ∧ (s.protSt port).txWait = false)
    ∧ (∃ (s : State) (port : Nat) (p : PairEnt),
        ((s.protSt port).pairs.find? (fun q => q.serial == s.neighSerial port) = some p))
    ∧ (∃ (s : State) (port : Nat) (an : Nat) (n : Nat) (f : Frame) (k : List Byte), (s.protSt port).search = some (an, n, f)
        ∧ s.linkMaster = some k)
    ∧ (∃ (s : State) (port : Nat) (t : Nat), (s.protSt port).failing = some t ∧ s.protected port = true
        ∧ s.linkUp port = true) :=
  ⟨⟨sKey,
      by decide +kernel⟩,
    ⟨sKeyW,
      by decide +kernel⟩,
    ⟨sKeyGen,
      by decide +kernel⟩,
    ⟨sKey,
      by decide +kernel⟩,
    ⟨sKeyArm,
      by decide +kernel⟩,
    ⟨sKey,
      by decide +kernel⟩,
    ⟨({ (w []) with key := { op := some { ini := .pcie, destroy := true, slot := 1 } } }),
        { ini := .pcie, destroy := true, slot := 1 },
      by decide +kernel⟩,
    ⟨{ (w []) with hkUp := true },
      by decide +kernel⟩,
    ⟨(w []),
      by decide +kernel⟩,
    ⟨((w [(pgLINK + 1, LINK_STAT_STATE, 3)]).setProt 1 { txPn := 0xC0000000 }), 1,
      by decide +kernel⟩,
    ⟨((w []).setProt 0 { pairs := [{ serial := 0, nextT := 1 }] }), 0, { serial := 0, nextT := 1 },
      by decide +kernel⟩,
    ⟨sSearch, 0, 1, 2, frame1, [1],
      by decide +kernel⟩,
    ⟨((w [(pgLINK, LINK_CFG_PROTECT, 1), (pgLINK, LINK_STAT_STATE, 3)]).setProt 0 { failing := some 4 }), 0, 4,
      by decide +kernel⟩⟩

/-- The hypotheses of `Obligations.PlumbAndTestPortTakeEffect` can be met. -/
theorem witness_PlumbAndTestPortTakeEffect :
    (∃ (s : State), s.hkPaused = false ∧ s.takes pgPLUMB = true)
    ∧ (∃ (s : State), s.hkPaused = false ∧ s.takes pgPLUMB = true)
    ∧ (∃ (s : State), s.hkPaused = false ∧ s.takes pgPLUMB = true)
    ∧ (∃ (s : State) (atCommit : Bool) (pin : Bool) (scope : Nat) (ini : Nat) (t : Nat), s.plumb.snap = some (atCommit, pin,
        scope, ini, t))
    ∧ (∃ (s : State) (page : Nat), s.plumbState = 2
        ∧ (s.plumb.recs.any (fun (r : List Byte) => leAt r 0 1 == 2 && leAt r 4 2 == page) = true))
    ∧ (∃ (s : State), s.plumbState = 2 ∧ s.hkPaused = false)
    ∧ (∃ (s : State) (p : Nat), s.plumb.build = some p ∧ s.hkPaused = false)
    ∧ (∃ (s : State) (t : Nat), s.plumb.till = some t)
    ∧ (∃ (s : State), s.takes pgOBS = true)
    ∧ (∃ (s : State), s.takes pgOBS = true)
    ∧ (∃ (s : State), s.tapOn = true)
    ∧ (∃ (s : State), s.tapOn = true)
    ∧ (∃ (s : State) (code : Nat), s.tapOn = true ∧ 2 ≤ code % 16) :=
  ⟨⟨(w [(pgPLUMB, PAGE_STAT_READY, 1)]),
      by decide +kernel⟩,
    ⟨(w [(pgPLUMB, PAGE_STAT_READY, 1), (pgPLUMB, PLUMB_STAT_STATE, 3)]),
      by decide +kernel⟩,
    ⟨(w [(pgPLUMB, PAGE_STAT_READY, 1), (pgPLUMB, PLUMB_STAT_STATE, 3), (pgPLUMB, PLUMB_STAT_PARTS, 1)]),
      by decide +kernel⟩,
    ⟨({ (w []) with plumb := { snap := some (false, true, 15, 1, 4) } }), false, true, 15, 1, 4,
      by decide +kernel⟩,
    ⟨({ (w [(pgPLUMB, PLUMB_STAT_STATE, 2)]) with plumb := { recs := [[2, 0, 0, 0, 7, 0]] } }), 7,
      by decide +kernel⟩,
    ⟨(w [(pgPLUMB, PLUMB_STAT_STATE, 2)]),
      by decide +kernel⟩,
    ⟨({ (w []) with plumb := { build := some 1 } }), 1,
      by decide +kernel⟩,
    ⟨({ (w []) with plumb := { till := some 4 } }), 4,
      by decide +kernel⟩,
    ⟨(w [(pgOBS, PAGE_STAT_READY, 1)]),
      by decide +kernel⟩,
    ⟨(w [(pgOBS, PAGE_STAT_READY, 1)]),
      by decide +kernel⟩,
    ⟨({ (w []) with held := [1], rst := { testEn := true } }),
      by decide +kernel⟩,
    ⟨({ (w []) with held := [1], rst := { testEn := true } }),
      by decide +kernel⟩,
    ⟨({ (w []) with held := [1], rst := { testEn := true } }), 15,
      by decide +kernel⟩⟩

end Sys2Proof.Tests
end

section
/-!
The switch core: what the admission of an originated cell does to the transmit queues and to the sequence number (R118, R146, R153).
-/
namespace Sys2Proof.Machine

/-! ## Reading a sparse map after a write

An insertion is read back in a map of any form; only the removal of an entry needs the canonical form. -/

theorem SMap.get_ins {α : Type} (d : Nat → α) (m : SMap α) (k j : Nat) (v : α) :
    (m.ins k v).get d j = if j = k then v else m.get d j := by
  induction m with
  | nil => rfl
  | cons e m ih =>
    obtain ⟨k', v'⟩ := e
    rw [SMap.ins]
    split
    · rfl
    · split
      · next h =>
        subst h
        by_cases hj : j = k <;> simp [SMap.get, hj]
      · next hk =>
        rw [SMap.get, ih, SMap.get]
        by_cases hj : j = k'
        · rw [if_pos hj, if_pos hj, if_neg (hj ▸ Ne.symm hk)]
        · rw [if_neg hj, if_neg hj]

theorem SMap.get_set_of_ne {α : Type} [DecidableEq α] {d : Nat → α} {k : Nat} {v : α} (h : v ≠ d k) (m : SMap α) (j : Nat) :
    (m.set d k v).get d j = if j = k then v else m.get d j := by
  rw [SMap.set, if_neg h, SMap.get_ins]

/-! ## The transmit queues after a push -/

theorem State.txq_setTxq {q : List TxCell} (h : q ≠ []) (s : State) (p k port cls : Nat) :
    (s.setTxq p k q).txq port cls = if 4 * port + cls = 4 * p + k then q else s.txq port cls :=
  SMap.get_set_of_ne h s.sw.txq (4 * port + cls)

/-- The pair (port, cls) names the queue in which port `p` keeps cells of `c`'s class. -/
def onQueue (port cls p : Nat) (c : TxCell) : Bool := 4 * port + cls == 4 * p + classOf c.cell.typ

theorem State.txq_txPush (s : State) (p port cls : Nat) (c : TxCell) :
    (s.txPush p c).txq port cls = s.txq port cls ++ if onQueue port cls p c then [c] else [] := by
  rw [State.txPush, State.txq_setTxq (by simp)]
  by_cases h : 4 * port + cls = 4 * p + classOf c.cell.typ
  · simp [onQueue, h, State.txq]
  · simp [onQueue, h]

@[simp] theorem State.txPush_ring (s : State) (p : Nat) (c : TxCell) : (s.txPush p c).ring = s.ring := rfl

theorem State.txq_foldl_txPush (f : Nat → TxCell) (ports : List Nat) (s : State) (port cls : Nat) :
    (ports.foldl (fun s p => s.txPush p (f p)) s).txq port cls
      = s.txq port cls ++ (ports.filter (fun p => onQueue port cls p (f p))).map f := by
  induction ports generalizing s with
  | nil => simp
  | cons p ports ih =>
    rw [List.foldl_cons, ih, State.txq_txPush, List.filter_cons, List.append_assoc]
    split <;> rfl

@[simp] theorem State.foldl_txPush_ring (f : Nat → TxCell) (ports : List Nat) (s : State) :
    (ports.foldl (fun s p => s.txPush p (f p)) s).ring = s.ring := by
  induction ports generalizing s with
  | nil => rfl
  | cons p ports ih => exact (ih _).trans (s.txPush_ring p (f p))

/-! ## What the other parts of an admission leave alone -/

theorem State.txq_congr {s t : State} (h : t.sw.txq = s.sw.txq) : t.txq = s.txq := by
  funext port cls
  simp only [State.txq, h]

@[simp] theorem State.wr_txq (s : State) (p : Nat) (f : Field) (v k n : Nat) : (s.wr p f v k n).txq = s.txq :=
  State.txq_congr (by rw [State.wr_sw])

@[simp] theorem State.count_txq (s : State) (p k n : Nat) : (s.count p k n).txq = s.txq :=
  State.txq_congr (by rw [State.count_sw])

theorem State.alloc_txq_ring {s t : State} {cls g refs id : Nat} (h : s.alloc cls g refs = some (t, id)) :
    t.txq = s.txq ∧ t.ring = s.ring := by
  unfold State.alloc at h
  dsimp only at h
  split at h
  · cases h
    exact ⟨State.wr_txq .., State.wr_ring ..⟩
  · split at h
    · cases h
      exact ⟨State.wr_txq .., State.wr_ring ..⟩
    · cases h

@[simp] theorem State.release_txq (s : State) (id n : Nat) : (s.release id n).txq = s.txq := by
  unfold State.release
  dsimp only
  split
  · rw [State.wr_txq, State.wr_txq]
    rfl
  · rfl

@[simp] theorem State.release_ring (s : State) (id n : Nat) : (s.release id n).ring = s.ring := by
  unfold State.release
  dsimp only
  split
  · rw [State.wr_ring, State.wr_ring]
  · rfl

@[simp] theorem State.replaySync_txq (s : State) : s.replaySync.txq = s.txq := by
  rw [State.replaySync, State.wr_txq, State.wr_txq]

@[simp] theorem State.replaySync_ring (s : State) : s.replaySync.ring = s.ring := by
  rw [State.replaySync, State.wr_ring, State.wr_ring]

@[simp] theorem State.replayAdd_txq (s : State) (epoch : Nat) (c : Cell) : (s.replayAdd epoch c).txq = s.txq := by
  unfold State.replayAdd
  dsimp only
  rw [State.replaySync_txq, State.count_txq]
  rfl

@[simp] theorem State.replayAdd_ring (s : State) (epoch : Nat) (c : Cell) : (s.replayAdd epoch c).ring = s.ring := by
  unfold State.replayAdd
  dsimp only
  rw [State.replaySync_ring, State.count_ring]

/-! ## An admission, stage by stage -/

/-- The ports to whose queues an originated cell goes: its own for link scope, else those whose link is UP (R118). -/
def State.admitPorts (s : State) (x : WaitCell) : List Nat :=
  match x.port with
  | some p => [p]
  | none => [0, 1].filter s.linkUp

/-- The copy of an originated cell that goes to port `p`, in buffer entry `id`. -/
def State.originCopy (s : State) (x : WaitCell) (id p : Nat) : TxCell :=
  { cell := { s.originCell x with race := p }, buf := id, fwd := false }

/-- A ring-scope cell with a source takes the next SEQ (R118). -/
def State.takeSeq (s : State) (x : WaitCell) : State :=
  if x.port.isSome || srcZero x.cell.typ then s
  else { s with ring := { s.ring with nextSeq := (s.ring.nextSeq + 1) % 2 ^ 32 } }

/-- A cell that no port takes gives its buffer entry back. -/
def State.releaseUnsent (s : State) (ports : List Nat) (id : Nat) : State := if ports.isEmpty then s.release id else s

/-- The REPLAY copy of a CHANGE or SEAL is kept (R148). -/
def State.keepReplay (s : State) (x : WaitCell) (c : Cell) : State :=
  match x.replay with
  | some e => s.replayAdd e c
  | none => s

/-- The state after the admission of `x` in `s`, where `u` is `s` with the granules taken, under buffer entry `id`. -/
def State.admitted (s : State) (x : WaitCell) (u : State) (id : Nat) : State :=
  State.keepReplay
    (State.releaseUnsent
      ((s.admitPorts x).foldl (fun v p => v.txPush p (s.originCopy x id p)) ((u.takeSeq x).count pgSWC 16))
      (s.admitPorts x) id)
    x (s.originCell x)

theorem State.admitCell_eq (s : State) (x : WaitCell) :
    s.admitCell x = (s.alloc (classOf (s.originCell x).typ) (s.originCell x).granules (s.admitPorts x).length).map
      (fun r => s.admitted x r.1 r.2) := by
  show (match s.alloc (classOf (s.originCell x).typ) (s.originCell x).granules (s.admitPorts x).length with
    | none => none
    | some (u, id) => some (s.admitted x u id)) = _
  cases s.alloc (classOf (s.originCell x).typ) (s.originCell x).granules (s.admitPorts x).length <;> rfl

@[simp] theorem State.takeSeq_txq (s : State) (x : WaitCell) : (s.takeSeq x).txq = s.txq := by
  unfold State.takeSeq
  split <;> rfl

theorem State.takeSeq_nextSeq (s : State) {x : WaitCell} (hp : x.port = none) (hz : srcZero x.cell.typ = false) :
    (s.takeSeq x).ring.nextSeq = (s.ring.nextSeq + 1) % 2 ^ 32 := by
  simp [State.takeSeq, hp, hz]

@[simp] theorem State.releaseUnsent_txq (s : State) (ports : List Nat) (id : Nat) :
    (s.releaseUnsent ports id).txq = s.txq := by
  unfold State.releaseUnsent
  split
  · exact s.release_txq id 1
  · rfl

@[simp] theorem State.releaseUnsent_ring (s : State) (ports : List Nat) (id : Nat) :
    (s.releaseUnsent ports id).ring = s.ring := by
  unfold State.releaseUnsent
  split
  · exact s.release_ring id 1
  · rfl

@[simp] theorem State.keepReplay_txq (s : State) (x : WaitCell) (c : Cell) : (s.keepReplay x c).txq = s.txq := by
  unfold State.keepReplay
  split
  · exact s.replayAdd_txq _ c
  · rfl

@[simp] theorem State.keepReplay_ring (s : State) (x : WaitCell) (c : Cell) : (s.keepReplay x c).ring = s.ring := by
  unfold State.keepReplay
  split
  · exact s.replayAdd_ring _ c
  · rfl

/-! ## What an admission does -/

/-- The queues gain the copies for the ports that are theirs, in the order of the ports. -/
theorem State.admitCell_txq {s t : State} {x : WaitCell} (h : s.admitCell x = some t) :
    ∃ id, ∀ port cls, t.txq port cls = s.txq port cls
      ++ ((s.admitPorts x).filter (fun p => onQueue port cls p (s.originCopy x id p))).map (s.originCopy x id) := by
  rw [State.admitCell_eq, Option.map_eq_some_iff] at h
  obtain ⟨⟨u, id⟩, ha, rfl⟩ := h
  refine ⟨id, fun port cls => ?_⟩
  rw [State.admitted, State.keepReplay_txq, State.releaseUnsent_txq, State.txq_foldl_txPush, State.count_txq,
    State.takeSeq_txq, (State.alloc_txq_ring ha).1]

theorem State.admitCell_nextSeq {s t : State} {x : WaitCell} (h : s.admitCell x = some t) (hp : x.port = none)
    (hz : srcZero x.cell.typ = false) : t.ring.nextSeq = (s.ring.nextSeq + 1) % 2 ^ 32 := by
  rw [State.admitCell_eq, Option.map_eq_some_iff] at h
  obtain ⟨⟨u, id⟩, ha, rfl⟩ := h
  rw [State.admitted, State.keepReplay_ring, State.releaseUnsent_ring, State.foldl_txPush_ring, State.count_ring,
    State.takeSeq_nextSeq u hp hz, (State.alloc_txq_ring ha).2]

theorem State.originCell_seq (s : State) {x : WaitCell} (hp : x.port = none) (hz : srcZero x.cell.typ = false) :
    (s.originCell x).seq = s.ring.nextSeq := by
  simp [State.originCell, hp, hz]

/-- Settles O20: what a queue gains are copies of `originCell`, which writes ORIGIN, HOPS, SEQ and the payload; of the other
stages of the admission only `takeSeq` touches what the statement speaks of. -/
theorem originatedCellsCarryTheirOrigin : Obligations.OriginatedCellsCarryTheirOrigin := by
  unfold Obligations.OriginatedCellsCarryTheirOrigin
  intro s t x port cls h
  refine ⟨?_, State.admitCell_nextSeq h⟩
  obtain ⟨id, hq⟩ := State.admitCell_txq h
  refine ⟨_, hq port cls, fun c hc => ?_⟩
  obtain ⟨p, -, rfl⟩ := List.mem_map.mp hc
  exact ⟨rfl, rfl, rfl, rfl, rfl, s.originCell_seq⟩

end Sys2Proof.Machine
end

section
/-!
The staging of the point map: what a write of a register field reads back as, how a port's write of one word reaches a block
register, and what such a write does to PMAP_STAGE, PMAP_MCAST and PMAP_SUM (R251, R252, R255).
-/
namespace Sys2Proof.Machine

/-! ## Reading a canonical sparse map after a write -/

theorem SMap.get_del_other {α : Type} (d : Nat → α) (m : SMap α) {j k : Nat} (h : j ≠ k) :
    (m.del k).get d j = m.get d j := by
  induction m with
  | nil => rfl
  | cons e m ih =>
    obtain ⟨k', v'⟩ := e
    rw [SMap.del]
    split
    · next hk =>
      subst hk
      rw [SMap.get, if_neg h]
    · rw [SMap.get, SMap.get, ih]

theorem SMap.get_set_other {α : Type} [DecidableEq α] (d : Nat → α) (m : SMap α) {j k : Nat} (v : α) (h : j ≠ k) :
    (m.set d k v).get d j = m.get d j := by
  unfold SMap.set
  split
  · exact SMap.get_del_other d m h
  · rw [SMap.get_ins, if_neg h]

theorem SMap.get_of_lt_wfFrom {α : Type} [DecidableEq α] {d : Nat → α} {m : SMap α} {n k : Nat}
    (hm : m.wfFrom d n = true) (hk : k < n) : m.get d k = d k := by
  induction m generalizing n with
  | nil => rfl
  | cons e m ih =>
    obtain ⟨k', v'⟩ := e
    simp only [SMap.wfFrom, Bool.and_eq_true, decide_eq_true_eq] at hm
    obtain ⟨⟨hn, -⟩, htail⟩ := hm
    rw [SMap.get, if_neg (by omega), ih htail (by omega)]

theorem SMap.get_del_self {α : Type} [DecidableEq α] {d : Nat → α} {m : SMap α} {n : Nat} (hm : m.wfFrom d n = true)
    (k : Nat) : (m.del k).get d k = d k := by
  induction m generalizing n with
  | nil => rfl
  | cons e m ih =>
    obtain ⟨k', v'⟩ := e
    simp only [SMap.wfFrom, Bool.and_eq_true, decide_eq_true_eq] at hm
    obtain ⟨-, htail⟩ := hm
    rw [SMap.del]
    split
    · exact SMap.get_of_lt_wfFrom htail (by omega)
    · next hk => rw [SMap.get, if_neg hk, ih htail]

theorem SMap.get_set_self {α : Type} [DecidableEq α] {d : Nat → α} {m : SMap α} (hm : m.wf d = true) (k : Nat) (v : α) :
    (m.set d k v).get d k = v := by
  unfold SMap.set
  split
  · next hv => rw [SMap.get_del_self hm, hv]
  · rw [SMap.get_ins, if_pos rfl]

/-! ## Reading a field after a write of a field -/

/-- The bits below, in and above a field make up the value. -/
theorem bitsOf_split (v lo w : Nat) : v = 2 ^ (lo + w) * (v / 2 ^ (lo + w)) + bitsOf v lo w * 2 ^ lo + v % 2 ^ lo := by
  have hlo := Nat.div_add_mod v (2 ^ lo)
  have hw := Nat.div_add_mod (v / 2 ^ lo) (2 ^ w)
  rw [Nat.div_div_eq_div_mul, ← Nat.pow_add] at hw
  calc v = 2 ^ lo * (2 ^ w * (v / 2 ^ (lo + w)) + v / 2 ^ lo % 2 ^ w) + v % 2 ^ lo := by rw [hw, hlo]
    _ = _ := by rw [bitsOf]; ring

theorem setBits_eq (v lo w x : Nat) :
    setBits v lo w x = 2 ^ lo * (2 ^ w * (v / 2 ^ (lo + w)) + x % 2 ^ w) + v % 2 ^ lo := by
  have hv := bitsOf_split v lo w
  have hring : 2 ^ lo * (2 ^ w * (v / 2 ^ (lo + w)) + x % 2 ^ w)
      = 2 ^ (lo + w) * (v / 2 ^ (lo + w)) + x % 2 ^ w * 2 ^ lo := by ring
  rw [setBits, hring]
  omega

theorem bitsOf_setBits (v lo w x : Nat) : bitsOf (setBits v lo w x) lo w = x % 2 ^ w := by
  rw [bitsOf, setBits_eq, Nat.mul_add_div (Nat.two_pow_pos lo), Nat.div_eq_of_lt (Nat.mod_lt _ (Nat.two_pow_pos lo)),
    Nat.add_zero, Nat.mul_add_mod, Nat.mod_mod]

theorem setBits_lt {v lo w n : Nat} (x : Nat) (hv : v < 2 ^ n) (h : lo + w ≤ n) : setBits v lo w x < 2 ^ n := by
  obtain ⟨m, rfl⟩ := Nat.exists_eq_add_of_le h
  have hhigh : v / 2 ^ (lo + w) < 2 ^ m := Nat.div_lt_of_lt_mul (by rwa [← Nat.pow_add])
  have hupper : 2 ^ w * (v / 2 ^ (lo + w)) + x % 2 ^ w < 2 ^ m * 2 ^ w :=
    Nat.mul_add_lt_mul_of_lt_of_lt hhigh (Nat.mod_lt _ (Nat.two_pow_pos w))
  calc setBits v lo w x < 2 ^ m * 2 ^ w * 2 ^ lo := by
        rw [setBits_eq]
        exact Nat.mul_add_lt_mul_of_lt_of_lt hupper (Nat.mod_lt _ (Nat.two_pow_pos lo))
    _ = 2 ^ (lo + w + m) := by ring

theorem Field.of_into {f : Field} (hf : f.lo + f.width ≤ 32) (w : Word) (x : Nat) : f.of (f.into w x) = x % 2 ^ f.width := by
  rw [Field.of, Field.into, BitVec.toNat_ofNat, Nat.mod_eq_of_lt (setBits_lt x w.isLt hf), bitsOf_setBits]

theorem State.rd_wr_self {s : State} (hs : s.regs.wf regDefault = true) (p : Nat) {f : Field} (hf : f.lo + f.width ≤ 32)
    (v i ini : Nat) : (s.wr p f v i ini).rd p f i ini = v % 2 ^ f.width := by
  have hword : (s.wr p f v i ini).word p (f.off i) ini = f.into (s.word p (f.off i) ini) v := SMap.get_set_self hs _ _
  rw [State.rd, hword, Field.of_into hf]

/-- A write leaves the fields of the other register words as they are. -/
theorem State.rd_wr_other (s : State) {p q : Nat} {f g : Field} (v : Nat) {i j ini ini' : Nat}
    (h : regKey ini' q (g.off j) ≠ regKey ini p (f.off i)) : (s.wr p f v i ini).rd q g j ini' = s.rd q g j ini' :=
  congrArg g.of (SMap.get_set_other regDefault s.regs _ h)

/-! ## A port's write of one register word -/

/-- A word of page space that is no command of the multicast write is written by `writeWord` alone. -/
theorem State.writePart_of_writeWord {s t : State} {ini : Initiator} {a v : Nat} {dem : State → Nat → Nat → State × Nat}
    {mc : State → State} (hp : inPages a = true) (hmc : a ≠ 0x20160)
    (hw : s.writeWord (a / 0x1000) (a % 0x1000) v ini = (t, stOK)) :
    s.writePart ini a [v] dem mc false = { s := t } := by
  simp [State.writePart, hp, hmc, hw, stOK, stFULL]

theorem State.writeLocal_of_writeWord {s t : State} {ini : Initiator} {a v : Nat} {dem : State → Nat → Nat → State × Nat}
    {mc : State → State} (ha : a % 4 = 0) (hp : inPages a = true) (hmc : a ≠ 0x20160)
    (hw : s.writeWord (a / 0x1000) (a % 0x1000) v ini = (t, stOK)) :
    s.writeLocal ini a [v] dem mc = { s := t } := by
  have haligned : misaligned a 4 = false := by simp [misaligned, ha]
  have hpart : accessParts 4 a 4 = [(a, 4)] := by simp [accessParts]
  simp [State.writeLocal, haligned, hpart, State.writePart_of_writeWord hp hmc hw]

theorem State.portWrite_of_writeLocal {s t : State} {ini : Initiator} {a : Nat} {ws : List Nat} (hini : ini ≠ .pcie)
    (hw : s.writeLocal ini a ws (portDemand ini) (fun s => s.multicast ini) = { s := t }) (full : Nat) (bar2 : Bool) :
    s.portWrite ini a ws full bar2 false = t.rsp ini stOK [] := by
  simp [State.portWrite, hw, hini]

/-- A port's write of an aligned word completes with status OK where `writeWord` does (R35 to R38); the PCIe port, which also
records failures, and the page of BRG_MCW_CMD are left out. -/
theorem execRegisterWrite_of_writeWord {s t : State} {ini : Initiator} {page off value : Nat} (hini : ini ≠ .pcie)
    (hserves : s.iniServes ini = true) (hauth : s.noAuth ini true (page * 0x1000 + off) 4 = false)
    (hpage : page < 0x1000) (hbrg : page ≠ pgBRG) (hoff : off < 0x1000) (halign : off % 4 = 0)
    (hw : s.writeWord page off (value % 2 ^ 32) ini = (t, stOK)) :
    execRegisterWrite ini page off value s = .next (t.rsp ini stOK []) := by
  have hdiv : (page * 0x1000 + off) / 0x1000 = page := by omega
  have hmod : (page * 0x1000 + off) % 0x1000 = off := by omega
  have hmc : page * 0x1000 + off ≠ 0x20160 := by
    rw [pgBRG] at hbrg
    omega
  have hlocal := State.writeLocal_of_writeWord (s := s) (t := t) (ini := ini) (dem := portDemand ini)
    (mc := fun s => s.multicast ini) (by omega) (by simp only [inPages, decide_eq_true_eq]; omega) hmc
    (by rw [hdiv, hmod]; exact hw)
  simp only [execRegisterWrite, hserves, hauth, State.portWrite_of_writeLocal hini hlocal]
  rfl

/-! ## Writes to the block registers of PMAP -/

theorem State.openTo_iff (s : State) (p : Nat) : s.openTo p = true ↔ s.takes p = true ∧ s.on p PAGE_CTRL_LOCK = false := by
  simp [State.openTo]

theorem State.w1cWrite_of_mask_zero {k : Kind} {p off : Nat} (h : pageMask k p .w1c off = 0) (s : State) (v : Nat) :
    s.w1cWrite k p off v = s := by
  simp [State.w1cWrite, h]

/-- A word that holds no RWS and no W1C field, and no RW field that LOCK blocks: the RW fields are written, then the commands
start (R56). -/
theorem State.blockWrite_of_masks {s : State} {k : Kind} {p off : Nat} (hrws : pageMask k p .rws off = 0)
    (hw1c : pageMask k p .w1c off = 0) (hlock : pageMask k p .rw off = 0 ∨ s.on p PAGE_CTRL_LOCK = false)
    (v : Nat) (ini : Initiator) :
    s.blockWrite k p off v ini =
      ((if pageMask k p .rw off = 0 then s else s.rwWrite p off v ini.num).cmdWrite k p off v ini, stOK) := by
  obtain hrw | hopen := hlock
  · simp [State.blockWrite, hrws, hrw, State.w1cWrite_of_mask_zero hw1c]
  · simp [State.blockWrite, hrws, hopen, State.w1cWrite_of_mask_zero hw1c]

theorem State.cmdWrite_pmap_of_ne (s : State) (p : Nat) {off : Nat} (h : off ≠ 0x120) (v : Nat) (ini : Initiator) :
    s.cmdWrite .pmap p off v ini = s :=
  if_neg h

/-- PMAP is a page of the logic die. -/
@[simp] theorem State.dieSilent_pmap (s : State) : s.dieSilent pgPMAP = false := by
  simp [State.dieSilent, pgPMAP, pgPWD]

@[simp] theorem servedByHk_pmap : servedByHk pgPMAP = false := by decide

/-- The words of PMAP_STAGE and PMAP_MCAST (R251). -/
def pmapStaging (off : Nat) : Prop := off = 0x108 ∨ off = 0x10C ∨ off = 0x110 ∨ off = 0x114

theorem pageMask_pmapStaging {off : Nat} (h : pmapStaging off) : pageMask .pmap pgPMAP .rw off ≠ 0
    ∧ pageMask .pmap pgPMAP .rws off = 0 ∧ pageMask .pmap pgPMAP .w1c off = 0 := by
  obtain rfl | rfl | rfl | rfl := h <;> decide

theorem State.rwWrite_pmapStaging (s : State) {off : Nat} (h : pmapStaging off) (v ini : Nat) :
    ∃ which x, s.rwWrite pgPMAP off v ini = s.pmapStageWrite which x := by
  have hkind : pageKind? pgPMAP = some .pmap := by decide
  obtain rfl | rfl | rfl | rfl := h <;> simp only [State.rwWrite, hkind, State.dieSilent_pmap] <;> exact ⟨_, _, rfl⟩

theorem State.writeWord_pmapStaging {s : State} {off : Nat} (h : pmapStaging off) (hbus : s.busFails pgPMAP off = false)
    (hkind : s.kindAt pgPMAP = some .pmap) (hopen : s.openTo pgPMAP = true) (v : Nat) (ini : Initiator) :
    s.writeWord pgPMAP off v ini = (s.rwWrite pgPMAP off v ini.num, stOK) := by
  obtain ⟨htakes, hlock⟩ := (s.openTo_iff pgPMAP).mp hopen
  obtain ⟨hrw, hrws, hw1c⟩ := pageMask_pmapStaging h
  have hblock : ¬ off < 0x100 ∧ off ≠ 0x120 := by
    unfold pmapStaging at h
    omega
  have hwrite : s.blockWrite .pmap pgPMAP off v ini = (s.rwWrite pgPMAP off v ini.num, stOK) := by
    rw [State.blockWrite_of_masks hrws hw1c (.inr hlock), if_neg hrw, State.cmdWrite_pmap_of_ne _ _ hblock.2]
  simp [State.writeWord, hkind, hbus, htakes, hblock.1, hwrite]

/-- A port's write of a staging word is the model's write of its RW fields, and completes with status OK. -/
theorem execRegisterWrite_pmapStaging {s : State} {ini : Initiator} {off : Nat} (h : pmapStaging off) (hini : ini ≠ .pcie)
    (hserves : s.iniServes ini = true) (hauth : s.noAuth ini true (pgPMAP * 0x1000 + off) 4 = false)
    (hbus : s.busFails pgPMAP off = false) (hkind : s.kindAt pgPMAP = some .pmap) (hopen : s.openTo pgPMAP = true)
    (value : Nat) : execRegisterWrite ini pgPMAP off value s
      = .next ((s.rwWrite pgPMAP off (value % 2 ^ 32) ini.num).rsp ini stOK []) := by
  have hoff : off < 0x1000 ∧ off % 4 = 0 := by
    unfold pmapStaging at h
    omega
  exact execRegisterWrite_of_writeWord hini hserves hauth (by decide) (by decide) hoff.1 hoff.2
    (State.writeWord_pmapStaging h hbus hkind hopen _ ini)

/-! ## STATE after a write to the staging -/

theorem State.pmapStageWrite_of_armed {s : State} (h : s.pmapState = 2) (which value : Nat) :
    s.pmapStageWrite which value = s.irq pgPMAP 5 :=
  if_pos h

theorem State.pmapState_setMcastStage (s : State) (v : Nat) : (s.setMcastStage v).pmapState = s.pmapState := by
  rw [State.pmapState, State.setMcastStage, State.wr64, State.rd_wr_other _ _ (by decide), State.rd_wr_other _ _ (by decide),
    State.pmapState]

theorem State.pmapState_pmapStageWrite {s : State} (hs : s.regs.wf regDefault = true) (h : s.pmapState ≠ 2)
    (which value : Nat) : (s.pmapStageWrite which value).pmapState = 0 := by
  have hidle : (s.wr pgPMAP PMAP_STAT_STATE 0).pmapState = 0 := State.rd_wr_self hs pgPMAP (by decide) 0 0 0
  rw [State.pmapStageWrite, if_neg h]
  dsimp only
  split
  · exact hidle
  · exact (State.pmapState_setMcastStage _ _).trans hidle

/-- Settles O17: the word is written by `pmapStageWrite`, which while ARMED raises STAGE_REJECT alone, and otherwise writes
STATE before staging words that do not hold STATE. -/
theorem pointMapStagingFollowsItsState : Obligations.PointMapStagingFollowsItsState := by
  unfold Obligations.PointMapStagingFollowsItsState
  intro s ini off value hini hs hserves hauth hbus hkind hopen hoff
  have hexec := execRegisterWrite_pmapStaging hoff hini hserves hauth hbus hkind hopen value
  have hidle (h : s.pmapState ≠ 2) (v : Nat) : (s.rwWrite pgPMAP off v ini.num).pmapState = 0 := by
    obtain ⟨which, x, hx⟩ := s.rwWrite_pmapStaging hoff v ini.num
    rw [hx, State.pmapState_pmapStageWrite hs h]
  refine ⟨fun h => ⟨hidle h value, _, hexec, hidle h _⟩, fun h => ?_⟩
  obtain ⟨which, x, hx⟩ := s.rwWrite_pmapStaging hoff (value % 2 ^ 32) ini.num
  rw [hx, State.pmapStageWrite_of_armed h] at hexec
  exact hexec

/-! ## PMAP_SUM -/

theorem State.viewWord_pmapSum {s : State} (hkind : s.kindAt pgPMAP = some .pmap) (hready : s.on pgPMAP PAGE_STAT_READY = true)
    (ini : Nat) : s.viewWord pgPMAP 0x128 ini = s.pmapSum := by
  simp [State.viewWord, State.asHeld, State.liveWord, hkind, hready, State.derivedWord]

/-- Settles O18: PMAP_SUM is computed when it is read, and its word holds no field that a write reaches. -/
theorem pointMapSumReadsTheStagedTable : Obligations.PointMapSumReadsTheStagedTable := by
  unfold Obligations.PointMapSumReadsTheStagedTable
  intro s ini value hkind hready
  rw [State.viewWord_pmapSum hkind hready, State.pmapSum]
  refine ⟨fun h => if_pos h, fun h1 h2 => if_neg (not_or.mpr ⟨h1, h2⟩), ?_⟩
  rw [State.blockWrite_of_masks (by decide) (by decide) (.inl (by decide)), if_pos (by decide),
    State.cmdWrite_pmap_of_ne _ _ (by decide)]

end Sys2Proof.Machine
end

section
/-!
The PCIe port: what the endpoint does with a memory request in BAR2 (R512, R513).
-/
namespace Sys2Proof.Machine

/-- An access in an enabled window completes with ALIGN when a byte is not enabled, when it is of two words that straddle a
multiple of 8, or when it is not of whole words at a word boundary (R35, R512). -/
theorem bar2_misaligned_iff (whole : Bool) (off n a : Nat) :
    (!(whole && !(n == 8 && off % 8 == 4)) || a % 4 != 0 || n % 4 != 0 || n == 0) = true
      ↔ whole = false ∨ (n = 8 ∧ off % 8 = 4) ∨ a % 4 ≠ 0 ∨ n % 4 ≠ 0 ∨ n = 0 := by
  simp only [Bool.or_eq_true, Bool.not_eq_true', Bool.and_eq_false_iff, Bool.not_eq_false', Bool.and_eq_true, beq_iff_eq,
    bne_iff_ne, or_assoc]

/-- An aligned access in an enabled window is executed here where NODE names this hub, else written or read at that node. -/
def State.bar2Execute (t : State) (write : Bool) (node a n : Nat) (data : List Nat) : State :=
  if t.isHere node then t.pcieLocal true write a (node * 2 ^ 29 + a) n data
  else if write then t.postWrite .pcie node a data
  else State.pcieRemote (n / 256 + 2) t node a n

/-- A request in BAR2 that the endpoint takes is counted, and answered in the state `t` so reached through window `k` at the
global address of `node` and `a`. -/
theorem execPcieRequest_bar2 {s t : State} {write whole : Bool} {off len n k node a : Nat} {data : List Nat}
    (hup : s.on pgPCIE PCIE_STAT_LINK_UP = true) (hmem : s.pcie.mem = true) (hd3 : s.on pgPCIE PCIE_STAT_D3 = false)
    (ht : t = s.count pgPCIE (2 + b2n write)) (hn : n = if write then 4 * data.length else len)
    (hk : k = off / 2 ^ 24 % 64) (hnode : node = t.rd pgPCIE PCIE_WINk_NODE k)
    (ha : a = t.rd pgPCIE PCIE_WINk_BASE k * 2 ^ 24 + off % 2 ^ 24) :
    execPcieRequest 2 write whole off len data s = .next (
      if !t.on pgPCIE PCIE_WINk_EN k then t.pcieFail true write (node * 2 ^ 29 + a) stUNMAPPED n
      else if !(whole && !(n == 8 && off % 8 == 4)) || a % 4 != 0 || n % 4 != 0 || n == 0 then
        t.pcieFail true write (node * 2 ^ 29 + a) stALIGN n
      else t.bar2Execute write node a n data) := by
  have htaken : (!(s.on pgPCIE PCIE_STAT_LINK_UP && s.pcie.mem) || s.on pgPCIE PCIE_STAT_D3) = false := by
    rw [hup, hmem, hd3]
    rfl
  subst ha hnode hk hn ht
  rw [execPcieRequest, htaken]
  simp only [State.bar2Execute, apply_ite Host.Outcome.next]
  rfl

/-- Settles O19: the answer of `execPcieRequest_bar2` has the statement's branches, with the tests of EN and of the alignment
written as Booleans. -/
theorem bar2WindowsMapToGlobalAddresses : Obligations.Bar2WindowsMapToGlobalAddresses := by
  unfold Obligations.Bar2WindowsMapToGlobalAddresses
  intro s write whole off len n data t k node a hup hmem hd3 ht hn hk hnode ha
  have hdisabled : (!t.on pgPCIE PCIE_WINk_EN k) = true ↔ t.on pgPCIE PCIE_WINk_EN k = false := .of_eq (Bool.not_eq_true' _)
  calc exec (.pcieRequest 2 write whole off len data) s
      = .next _ := execPcieRequest_bar2 hup hmem hd3 ht hn hk hnode ha
    _ = .next _ := congrArg _ (if_congr hdisabled rfl (if_congr (bar2_misaligned_iff whole off n a) rfl rfl))

end Sys2Proof.Machine
end

section
/-!
The invariant on what holds the hub in reset, and that every command completes (R38, R73, R78, R81, R88, R702).  All commands but
nine keep what only a reset may touch (Laws/Kept…); the nine act on it through `State.hubReset`, `State.powerOn` and `State.unhold`.
-/
namespace Sys2Proof.Machine

/-! ## The invariant, said of the part of the state that only a reset touches -/

/-- Causes of R78, each once. -/
def causesOk (held : List Nat) : Prop := (∀ c ∈ held, c < 7) ∧ held.Nodup

/-- Rails of the logic die, each once (R702). -/
def railsOk (rails : List Nat) : Prop := (∀ r ∈ rails, r < 3) ∧ rails.Nodup

/-- The causes that hold the hub and the low rails meet the invariant of O5. -/
def State.guarded (s : State) : Prop := s.heldWf = true ∧ s.railsWf = true

theorem State.guarded_iff_of_kept {s : State} {q : List Instr} {held rails : List Nat} (h : s.kept = (q, held, rails)) :
    s.guarded ↔ causesOk held ∧ railsOk rails ∧ (rails = [] ∨ 2 ∈ held) := by
  obtain ⟨rfl, rfl, rfl⟩ : s.pending = q ∧ s.held = held ∧ s.rst.lowRails = rails := by simpa [State.kept] using h
  simp [State.guarded, State.heldWf, State.railsWf, causesOk, railsOk, and_assoc]

theorem State.guarded_iff (s : State) : s.guarded ↔
    causesOk s.held ∧ railsOk s.rst.lowRails ∧ (s.rst.lowRails = [] ∨ 2 ∈ s.held) :=
  State.guarded_iff_of_kept rfl

theorem State.guarded_congr {s t : State} (h : t.kept = s.kept) : t.guarded ↔ s.guarded :=
  (State.guarded_iff_of_kept h).trans s.guarded_iff.symm

theorem State.pending_congr {s t : State} (h : t.kept = s.kept) : t.pending = s.pending := congrArg Prod.fst h

/-! ## The three ways to begin and end a hold -/

/-- The causes that hold the hub once `c` does too. -/
def heldBy (held : List Nat) (c : Nat) : List Nat := if held.contains c then held else held ++ [c]

theorem mem_heldBy {held : List Nat} {c x : Nat} : x ∈ heldBy held c ↔ x ∈ held ∨ x = c := by
  unfold heldBy
  split
  · next h =>
    have hc : c ∈ held := List.contains_iff_mem.mp h
    exact ⟨.inl, fun hx => hx.elim id (fun e => e ▸ hc)⟩
  · simp

theorem causesOk_heldBy {held : List Nat} {c : Nat} (h : causesOk held) (hc : c < 7) : causesOk (heldBy held c) := by
  refine ⟨fun x hx => (mem_heldBy.mp hx).elim (h.1 x) (fun e => e ▸ hc), ?_⟩
  unfold heldBy
  split
  · exact h.2
  · next hn =>
    have hn : c ∉ held := fun hm => hn (List.contains_iff_mem.mpr hm)
    exact h.2.append (List.nodup_singleton c) (by simpa using hn)

theorem causesOk_filter {held : List Nat} (h : causesOk held) (p : Nat → Bool) : causesOk (held.filter p) :=
  ⟨fun c hc => h.1 c (List.mem_of_mem_filter hc), h.2.filter p⟩

theorem railsOk_filter {rails : List Nat} (h : railsOk rails) (p : Nat → Bool) : railsOk (rails.filter p) :=
  ⟨fun r hr => h.1 r (List.mem_of_mem_filter hr), h.2.filter p⟩

/-- A hub reset adds its cause to those that hold the hub (R78). -/
theorem State.hubReset_kept (s : State) (c : Nat) :
    (s.hubReset c).kept = (s.pending, heldBy s.held c, s.rst.lowRails) := rfl

theorem State.powerOn_kept (s : State) :
    s.powerOn.kept = (s.pending, if s.rst.lowRails.isEmpty then [0] else [0, 2], s.rst.lowRails) := rfl

/-- Causes that end no longer hold the hub. -/
theorem State.unhold_kept (s : State) (cs : List Nat) :
    (s.unhold cs).kept = (s.pending, s.held.filter (fun c => !cs.contains c), s.rst.lowRails) := by
  unfold State.unhold
  split
  · exact State.romEntry_kept _
  · next h =>
    have hall : s.held.filter (fun c => !cs.contains c) = s.held := by
      simpa [List.filter_eq_self] using h
    rw [hall]
    rfl

theorem State.hubReset_guarded {s : State} {c : Nat} (hc : c < 7) (h : s.guarded) : (s.hubReset c).guarded := by
  obtain ⟨hheld, hrails, hsupply⟩ := s.guarded_iff.mp h
  exact (State.guarded_iff_of_kept (s.hubReset_kept c)).mpr
    ⟨causesOk_heldBy hheld hc, hrails, hsupply.imp_right (fun h2 => mem_heldBy.mpr (.inl h2))⟩

/-- A hub reset for SUPPLY meets the invariant whatever rails are low. -/
theorem State.hubReset_supply_guarded {s : State} (hheld : causesOk s.held) (hrails : railsOk s.rst.lowRails) :
    (s.hubReset 2).guarded :=
  (State.guarded_iff_of_kept (s.hubReset_kept 2)).mpr
    ⟨causesOk_heldBy hheld (by decide), hrails, .inr (mem_heldBy.mpr (.inr rfl))⟩

theorem State.powerOn_guarded {s : State} (h : s.guarded) : s.powerOn.guarded := by
  obtain ⟨-, hrails, -⟩ := s.guarded_iff.mp h
  refine (State.guarded_iff_of_kept s.powerOn_kept).mpr ⟨?_, hrails, ?_⟩
  · split <;> simp [causesOk]
  · split
    · next he => exact .inl (List.isEmpty_iff.mp he)
    · exact .inr (by decide)

/-- Causes other than SUPPLY may end at any time, SUPPLY once no rail is low. -/
theorem State.unhold_guarded {s : State} {cs : List Nat} (hcs : 2 ∉ cs ∨ s.rst.lowRails = []) (h : s.guarded) :
    (s.unhold cs).guarded := by
  obtain ⟨hheld, hrails, hsupply⟩ := s.guarded_iff.mp h
  refine (State.guarded_iff_of_kept (s.unhold_kept cs)).mpr ⟨causesOk_filter hheld _, hrails, ?_⟩
  obtain h2 | hnone := hcs
  · exact hsupply.imp_right (fun hm => List.mem_filter.mpr ⟨hm, by simpa using h2⟩)
  · exact .inl hnone

/-! ## The nine commands that reset the hub or end a hold -/

/-- A meaning that answers a next state, with the waiting commands as they were and the invariant kept. -/
def Safe (r : Res) (s : State) : Prop := ∃ t : State, r = .next t ∧ t.pending = s.pending ∧ (s.guarded → t.guarded)

theorem safe_next {s t : State} (hp : t.pending = s.pending) (hg : s.guarded → t.guarded) : Safe (.next t) s :=
  ⟨t, rfl, hp, hg⟩

theorem Keeps.safe {r : Res} {s : State} (h : Keeps r s) : Safe r s := by
  obtain ⟨t, rfl, hk⟩ := h
  exact safe_next (State.pending_congr hk) (State.guarded_congr hk).mpr

theorem State.pending_of_kept {s t : State} {p : List Nat × List Nat} (h : t.kept = (s.pending, p)) :
    t.pending = s.pending := congrArg Prod.fst h

theorem execPowerOnReset_safe (s : State) : Safe (execPowerOnReset s) s :=
  safe_next (State.pending_of_kept s.powerOn_kept) State.powerOn_guarded

theorem execCorePllUnlock_safe (s : State) : Safe (execCorePllUnlock s) s :=
  safe_next (State.pending_of_kept (s.hubReset_kept 4)) (State.hubReset_guarded (by decide))

theorem execPorstAssert_safe (ns : Nat) (testEn : Bool) (s : State) : Safe (execPorstAssert ns testEn s) s := by
  unfold execPorstAssert
  split
  · exact safe_next rfl id
  · exact safe_next rfl (fun h => State.hubReset_guarded (by decide) ((State.guarded_congr (s := s) rfl).mpr h))

theorem execPorstRelease_safe (testEn : Bool) (s : State) : Safe (execPorstRelease testEn s) s :=
  safe_next (State.pending_of_kept (State.unhold_kept _ _)) (fun h =>
    State.unhold_guarded (.inl (by decide)) ((State.guarded_congr (s := s) rfl).mpr h))

/-- What a window of the reference monitor does to the holds: the second bad one in a row begins one, the 64th good one in a
row ends it (R72, R76). -/
def State.refHold (s : State) : State :=
  if 2 ≤ s.rst.badWin ∧ !s.held.contains 3 then s.hubReset 3
  else if s.held.contains 3 && decide (64 ≤ s.rst.goodWin) then s.unhold [3] else s

theorem State.refHold_pending (s : State) : s.refHold.pending = s.pending := by
  unfold State.refHold
  split
  · rfl
  · split
    · exact State.pending_of_kept (s.unhold_kept [3])
    · rfl

theorem State.refHold_guarded {s : State} (h : s.guarded) : s.refHold.guarded := by
  unfold State.refHold
  split
  · exact State.hubReset_guarded (by decide) h
  · split
    · exact State.unhold_guarded (.inl (by decide)) h
    · exact h

/-- The two counts of windows in a row. -/
def State.refCounted (s : State) (good : Bool) : State :=
  { s with rst := { s.rst with badWin := if good then 0 else s.rst.badWin + 1,
                               goodWin := if good then s.rst.goodWin + 1 else 0 } }

theorem State.refCounted_kept (s : State) (good : Bool) : (s.refCounted good).kept = s.kept := rfl

theorem execRefMonitorWindow_safe (edges : Nat) (s : State) : Safe (execRefMonitorWindow edges s) s := by
  show Safe (.next (((s.refCounted _).refHold.wr pgCLK CLK_REF_CNT_EDGES _).wr pgCLK CLK_STAT_REF_OK _)) s
  generalize hu : s.refCounted _ = u
  have hkept : u.kept = s.kept := hu ▸ s.refCounted_kept _
  have hwr (a b : Nat) : ((u.refHold.wr pgCLK CLK_REF_CNT_EDGES a).wr pgCLK CLK_STAT_REF_OK b).kept = u.refHold.kept :=
    (State.wr_kept ..).trans (State.wr_kept ..)
  exact safe_next (((State.pending_congr (hwr _ _)).trans u.refHold_pending).trans (State.pending_congr hkept)) (fun h =>
    (State.guarded_congr (hwr _ _)).mpr (State.refHold_guarded ((State.guarded_congr hkept).mpr h)))

theorem execSupplyLow_safe (rail : Nat) (s : State) : Safe (execSupplyLow rail s) s := by
  unfold execSupplyLow
  split
  · exact safe_next rfl id
  · next hnew =>
    obtain ⟨hlt, hnot⟩ : rail < 3 ∧ rail ∉ s.rst.lowRails := by simpa [not_or] using hnew
    refine safe_next rfl (fun h => ?_)
    obtain ⟨hheld, hrails, -⟩ := s.guarded_iff.mp h
    refine State.hubReset_supply_guarded hheld ⟨fun r hr => ?_, hrails.2.append (List.nodup_singleton rail) (by simpa using hnot)⟩
    exact (List.mem_append.mp hr).elim (hrails.1 r) (fun e => List.mem_singleton.mp e ▸ hlt)

theorem execSupplyOk_safe (rail : Nat) (s : State) : Safe (execSupplyOk rail s) s := by
  have hkept (h : s.guarded) : causesOk s.held ∧ railsOk (s.rst.lowRails.filter (· != rail))
      ∧ (s.rst.lowRails.filter (· != rail) = [] ∨ 2 ∈ s.held) := by
    obtain ⟨hheld, hrails, hsupply⟩ := s.guarded_iff.mp h
    exact ⟨hheld, railsOk_filter hrails _, hsupply.imp_left (fun e => by rw [e]; rfl)⟩
  unfold execSupplyOk
  split
  · exact safe_next rfl id
  · dsimp only
    split
    · next hempty =>
      exact safe_next (State.pending_of_kept (State.unhold_kept _ _)) (fun h =>
        State.unhold_guarded (.inr (List.isEmpty_iff.mp hempty)) ((State.guarded_iff _).mpr (hkept h)))
    · exact safe_next rfl (fun h => (State.guarded_iff _).mpr (hkept h))

theorem execPwrstResetTakeEffect_safe (s : State) : Safe (execPwrstResetTakeEffect s) s := by
  unfold execPwrstResetTakeEffect
  split
  · exact safe_next rfl id
  · next t recovery rest hdue =>
    have hreset (h : s.guarded) : ((s.passTo t).hubReset 6).guarded :=
      State.hubReset_guarded (by decide) ((State.guarded_congr (s.passTo_kept t)).mpr h)
    dsimp only
    split
    · exact safe_next rfl (fun h => (State.guarded_congr (State.wr_kept ..)).mpr ((State.guarded_congr rfl).mpr (hreset h)))
    · exact safe_next rfl (fun h => (State.guarded_congr rfl).mpr (hreset h))

theorem execFatalHubReset_safe (s : State) : Safe (execFatalHubReset s) s := by
  unfold execFatalHubReset
  split
  · exact safe_next rfl id
  · next t hdue =>
    exact safe_next rfl (fun h => State.hubReset_guarded (by decide) ((State.guarded_congr (s.passTo_kept t)).mpr h))

/-! ## Every command -/

theorem exec_safe (c : Instr) (s : State) : Safe (exec c s) s := by
  cases c with
  | registerWrite ini page off value => exact (execRegisterWrite_keeps ini page off value s).safe
  | pageEnableWrite page en => exact (execPageEnableWrite_keeps page en s).safe
  | softReset page => exact (execSoftReset_keeps page s).safe
  | softResetDone page => exact (execSoftResetDone_keeps page s).safe
  | apply page => exact (execApply_keeps page s).safe
  | applyCopy page => exact (execApplyCopy_keeps page s).safe
  | applyAtCommit page => exact (execApplyAtCommit_keeps page s).safe
  | lock page => exact (execLock_keeps page s).safe
  | intRawClear page value => exact (execIntRawClear_keeps page value s).safe
  | intEnWrite page value => exact (execIntEnWrite_keeps page value s).safe
  | intForce page value => exact (execIntForce_keeps page value s).safe
  | fltForce page value => exact (execFltForce_keeps page value s).safe
  | counterLowRead ini page k => exact (execCounterLowRead_keeps ini page k s).safe
  | queuePop page => exact (execQueuePop_keeps page s).safe
  | queueOvfClear page => exact (execQueueOvfClear_keeps page s).safe
  | refMonitorWindow edges => exact execRefMonitorWindow_safe edges s
  | phyPllUnlock port => exact (execPhyPllUnlock_keeps port s).safe
  | phyPllLock port => exact (execPhyPllLock_keeps port s).safe
  | porstAssert ns testEn => exact execPorstAssert_safe ns testEn s
  | porstRelease testEn => exact execPorstRelease_safe testEn s
  | supplyLow rail => exact execSupplyLow_safe rail s
  | supplyOk rail => exact execSupplyOk_safe rail s
  | flashHeaderCheck fitted answers sfdp jedec size quad rate => exact (execFlashHeaderCheck_keeps fitted answers sfdp jedec size quad rate s).safe
  | bootStepLate step => exact (execBootStepLate_keeps step s).safe
  | pwrstHubReset key => exact (execPwrstHubReset_keeps key s).safe
  | pwrstEnterQuiet key => exact (execPwrstEnterQuiet_keeps key s).safe
  | pwrstLeaveQuiet key => exact (execPwrstLeaveQuiet_keeps key s).safe
  | pwrstRecovery key => exact (execPwrstRecovery_keeps key s).safe
  | pcsLockGained port txDelay rxDelay asym => exact (execPcsLockGained_keeps port txDelay rxDelay asym s).safe
  | pcsLockLost port => exact (execPcsLockLost_keeps port s).safe
  | sdLosRise port => exact (execSdLosRise_keeps port s).safe
  | sdLosFall port => exact (execSdLosFall_keeps port s).safe
  | helloTx port => exact (execHelloTx_keeps port s).safe
  | helloTimeout port => exact (execHelloTimeout_keeps port s).safe
  | frameRx port f => exact (execFrameRx_keeps port f s).safe
  | frameTx d => exact (execFrameTx_keeps d s).safe
  | cellAdmitResume cls => exact (execCellAdmitResume_keeps cls s).safe
  | linkRetrain port => exact (execLinkRetrain_keeps port s).safe
  | cableTest port => exact (execCableTest_keeps port s).safe
  | cableTestDone port result dist => exact (execCableTestDone_keeps port result dist s).safe
  | clearWorst port => exact (execClearWorst_keeps port s).safe
  | sqiUpdate port grade => exact (execSqiUpdate_keeps port grade s).safe
  | ringIdSet ini data => exact (execRingIdSet_keeps ini data s).safe
  | pdelayReqTx port => exact (execPdelayReqTx_keeps port s).safe
  | pdelayTimeout port => exact (execPdelayTimeout_keeps port s).safe
  | syncRecordTx port => exact (execSyncRecordTx_keeps port s).safe
  | syncRecordTimeout port seq => exact (execSyncRecordTimeout_keeps port seq s).safe
  | syncDecision seq => exact (execSyncDecision_keeps seq s).safe
  | shardVerify owner epoch => exact (execShardVerify_keeps owner epoch s).safe
  | repairReqRetry tag => exact (execRepairReqRetry_keeps tag s).safe
  | proxyShardRequest owner => exact (execProxyShardRequest_keeps owner s).safe
  | commitInstant upset => exact (execCommitInstant_keeps upset s).safe
  | pmapAdopt gen => exact (execPmapAdopt_keeps gen s).safe
  | pmapStageWrite which value => exact (execPmapStageWrite_keeps which value s).safe
  | pin tag => exact (execPin_keeps tag s).safe
  | renew tag => exact (execRenew_keeps tag s).safe
  | unpin tag => exact (execUnpin_keeps tag s).safe
  | demandWrite ini index value => exact (execDemandWrite_keeps ini index value s).safe
  | imageCopyStart ch => exact (execImageCopyStart_keeps ch s).safe
  | imageCopyDone ch => exact (execImageCopyDone_keeps ch s).safe
  | axisQuadCount axis => exact (execAxisQuadCount_keeps axis s).safe
  | axisSsiStart axis => exact (execAxisSsiStart_keeps axis s).safe
  | ssiReadDone lane high value par zero => exact (execSsiReadDone_keeps lane high value par zero s).safe
  | axisPreset axis => exact (execAxisPreset_keeps axis s).safe
  | trkRead ini => exact (execTrkRead_keeps ini s).safe
  | trkWrite ini => exact (execTrkWrite_keeps ini s).safe
  | trkDisarm ini => exact (execTrkDisarm_keeps ini s).safe
  | armSoft ini => exact (execArmSoft_keeps ini s).safe
  | lnchInsert ini => exact (execLnchInsert_keeps ini s).safe
  | lnchCancel ini slot => exact (execLnchCancel_keeps ini slot s).safe
  | flushTarget ini => exact (execFlushTarget_keeps ini s).safe
  | pulseEnd line => exact (execPulseEnd_keeps line s).safe
  | dioFilteredChange line x => exact (execDioFilteredChange_keeps line x s).safe
  | dioEdge line => exact (execDioEdge_keeps line s).safe
  | chatterWindow page => exact (execChatterWindow_keeps page s).safe
  | chatterEnd line => exact (execChatterEnd_keeps line s).safe
  | dioStuck line => exact (execDioStuck_keeps line s).safe
  | rbFail line => exact (execRbFail_keeps line s).safe
  | dioOutSet page value => exact (execDioOutSet_keeps page value s).safe
  | dioOutClr page value => exact (execDioOutClr_keeps page value s).safe
  | dioOutHostWrite page value => exact (execDioOutHostWrite_keeps page value s).safe
  | dioCntClr page value => exact (execDioCntClr_keeps page value s).safe
  | laneTxd ini lane data => exact (execLaneTxd_keeps ini lane data s).safe
  | laneTxdEnd ini lane data => exact (execLaneTxdEnd_keeps ini lane data s).safe
  | txFifoRoom lane => exact (execTxFifoRoom_keeps lane s).safe
  | localWriteExpired lane => exact (execLocalWriteExpired_keeps lane s).safe
  | laneRxPop ini lane wide perr => exact (execLaneRxPop_keeps ini lane wide perr s).safe
  | rxFlush lane => exact (execRxFlush_keeps lane s).safe
  | txFlush lane => exact (execTxFlush_keeps lane s).safe
  | rxDropRest lane => exact (execRxDropRest_keeps lane s).safe
  | txDropHead lane => exact (execTxDropHead_keeps lane s).safe
  | ssiRead lane => exact (execSsiRead_keeps lane s).safe
  | iolWurq lane => exact (execIolWurq_keeps lane s).safe
  | iolWurqEnd lane => exact (execIolWurqEnd_keeps lane s).safe
  | laneFrameStart lane => exact (execLaneFrameStart_keeps lane s).safe
  | laneFrameDone lane nack => exact (execLaneFrameDone_keeps lane nack s).safe
  | laneRxChar lane data perr ferr brk late => exact (execLaneRxChar_keeps lane data perr ferr brk late s).safe
  | lanePacketEnd lane => exact (execLanePacketEnd_keeps lane s).safe
  | i2cStretchTimeout lane => exact (execI2cStretchTimeout_keeps lane s).safe
  | iolNoResponse lane => exact (execIolNoResponse_keeps lane s).safe
  | moverStart mover => exact (execMoverStart_keeps mover s).safe
  | moverStop mover => exact (execMoverStop_keeps mover s).safe
  | moverBurst mover host contend => exact (execMoverBurst_keeps mover host contend s).safe
  | moverBackoffEnd mover => exact (execMoverBackoffEnd_keeps mover s).safe
  | cogCmdStart page mask => exact (execCogCmdStart_keeps page mask s).safe
  | cogCmdStop page mask => exact (execCogCmdStop_keeps page mask s).safe
  | cogCmdResume page mask => exact (execCogCmdResume_keeps page mask s).safe
  | cogDrive e perr levels => exact (execCogDrive_keeps e perr levels s).safe
  | cogSample e perr levels => exact (execCogSample_keeps e perr levels s).safe
  | cogEmit e perr levels => exact (execCogEmit_keeps e perr levels s).safe
  | cogTake e perr levels ferr => exact (execCogTake_keeps e perr levels ferr s).safe
  | cogGive e perr levels => exact (execCogGive_keeps e perr levels s).safe
  | cogAwait e perr levels => exact (execCogAwait_keeps e perr levels s).safe
  | cogLoop e perr levels => exact (execCogLoop_keeps e perr levels s).safe
  | cogBranch e perr levels => exact (execCogBranch_keeps e perr levels s).safe
  | cogLoad e perr levels => exact (execCogLoad_keeps e perr levels s).safe
  | cogMark e perr levels => exact (execCogMark_keeps e perr levels s).safe
  | cogSignal e perr levels => exact (execCogSignal_keeps e perr levels s).safe
  | cogWaitDone e levels ferr => exact (execCogWaitDone_keeps e levels ferr s).safe
  | awaitTimeout e => exact (execAwaitTimeout_keeps e s).safe
  | cogStoreWrite page addr value => exact (execCogStoreWrite_keeps page addr value s).safe
  | cogTokenGive page value => exact (execCogTokenGive_keeps page value s).safe
  | cogTokenClr page value => exact (execCogTokenClr_keeps page value s).safe
  | cogClaimWrite e value => exact (execCogClaimWrite_keeps e value s).safe
  | cogCfgWrite e value => exact (execCogCfgWrite_keeps e value s).safe
  | canFrameRx port idw dlc brs esi data age res pulse => exact (execCanFrameRx_keeps port idw dlc brs esi data age res pulse s).safe
  | canRxPop ini port => exact (execCanRxPop_keeps ini port s).safe
  | canRequest ini port buf => exact (execCanRequest_keeps ini port buf s).safe
  | canCancel ini port buf => exact (execCanCancel_keeps ini port buf s).safe
  | canRelease ini port buf => exact (execCanRelease_keeps ini port buf s).safe
  | canAttemptStart port => exact (execCanAttemptStart_keeps port s).safe
  | canAttemptEnd port outcome lec clash exempt => exact (execCanAttemptEnd_keeps port outcome lec clash exempt s).safe
  | canBusoffRecovered port => exact (execCanBusoffRecovered_keeps port s).safe
  | canIntegrated port => exact (execCanIntegrated_keeps port s).safe
  | canCycleStart port => exact (execCanCycleStart_keeps port s).safe
  | canWindowStart port slot => exact (execCanWindowStart_keeps port slot s).safe
  | canWindowEnd port => exact (execCanWindowEnd_keeps port s).safe
  | canDetectStart port => exact (execCanDetectStart_keeps port s).safe
  | canDetectDwell port pulse => exact (execCanDetectDwell_keeps port pulse s).safe
  | zoneSleep ini zone => exact (execZoneSleep_keeps ini zone s).safe
  | zoneWake ini zone => exact (execZoneWake_keeps ini zone s).safe
  | zoneAgreeTimeout zone => exact (execZoneAgreeTimeout_keeps zone s).safe
  | zoneEnterDone zone => exact (execZoneEnterDone_keeps zone s).safe
  | zoneLineWake zone => exact (execZoneLineWake_keeps zone s).safe
  | zoneBusWake zone => exact (execZoneBusWake_keeps zone s).safe
  | zoneWakePulseEnd zone => exact (execZoneWakePulseEnd_keeps zone s).safe
  | zoneWakeRspTimeout zone => exact (execZoneWakeRspTimeout_keeps zone s).safe
  | sluLimitEntry sluice => exact (execSluLimitEntry_keeps sluice s).safe
  | sluShortTrip sluice => exact (execSluShortTrip_keeps sluice s).safe
  | sluTimerTrip sluice => exact (execSluTimerTrip_keeps sluice s).safe
  | sluRampDone sluice => exact (execSluRampDone_keeps sluice s).safe
  | sluRampTimeout sluice => exact (execSluRampTimeout_keeps sluice s).safe
  | sluPgQualify sluice => exact (execSluPgQualify_keeps sluice s).safe
  | sluRetry sluice => exact (execSluRetry_keeps sluice s).safe
  | sluRetryCountClear sluice => exact (execSluRetryCountClear_keeps sluice s).safe
  | sluOn sluice => exact (execSluOn_keeps sluice s).safe
  | sluOff sluice => exact (execSluOff_keeps sluice s).safe
  | sluClear sluice => exact (execSluClear_keeps sluice s).safe
  | powerCycle offTime key => exact (execPowerCycle_keeps offTime key s).safe
  | sluFetShortDetect sluice => exact (execSluFetShortDetect_keeps sluice s).safe
  | sluFetShortClear sluice => exact (execSluFetShortClear_keeps sluice s).safe
  | pfwAssert pin => exact (execPfwAssert_keeps pin s).safe
  | pfwDeassert pin => exact (execPfwDeassert_keeps pin s).safe
  | pwdTelemetrySample vin temp vout sense => exact (execPwdTelemetrySample_keeps vin temp vout sense s).safe
  | brgWriteIssue ini node addr words => exact (execBrgWriteIssue_keeps ini node addr words s).safe
  | brgReadIssue ini node addr len => exact (execBrgReadIssue_keeps ini node addr len s).safe
  | brgReadTimeout rid => exact (execBrgReadTimeout_keeps rid s).safe
  | collectRequest ini len => exact (execCollectRequest_keeps ini len s).safe
  | slotCollect slot => exact (execSlotCollect_keeps slot s).safe
  | slotDiscard slot => exact (execSlotDiscard_keeps slot s).safe
  | multicastSend ini => exact (execMulticastSend_keeps ini s).safe
  | pcieRequest bar write whole off len data => exact (execPcieRequest_keeps bar write whole off len data s).safe
  | pcieConfigWrite mem bme msixEn fmask d3 => exact (execPcieConfigWrite_keeps mem bme msixEn fmask d3 s).safe
  | msixUnmask vector addr data masked => exact (execMsixUnmask_keeps vector addr data masked s).safe
  | qshRead hdr => exact (execQshRead_keeps hdr s).safe
  | qshWrite hdr data dcrc => exact (execQshWrite_keeps hdr data dcrc s).safe
  | qshTicket hdr => exact (execQshTicket_keeps hdr s).safe
  | qshCollect hdr => exact (execQshCollect_keeps hdr s).safe
  | qshCsRise cut => exact (execQshCsRise_keeps cut s).safe
  | usbStandardRequest recipient request value index length => exact (execUsbStandardRequest_keeps recipient request value index length s).safe
  | usbEndpointHalt ep => exact (execUsbEndpointHalt_keeps ep s).safe
  | usbHaltClear ep => exact (execUsbHaltClear_keeps ep s).safe
  | getInfo length => exact (execGetInfo_keeps length s).safe
  | authChallenge length => exact (execAuthChallenge_keeps length s).safe
  | authResponse tag => exact (execAuthResponse_keeps tag s).safe
  | usbRegRead addr length => exact (execUsbRegRead_keeps addr length s).safe
  | usbRegWrite addr words => exact (execUsbRegWrite_keeps addr words s).safe
  | getLastStatus length => exact (execGetLastStatus_keeps length s).safe
  | getWakeReason length => exact (execGetWakeReason_keeps length s).safe
  | deauth length => exact (execDeauth_keeps length s).safe
  | tunnelRead hdr ecc => exact (execTunnelRead_keeps hdr ecc s).safe
  | tunnelWrite hdr data ecc => exact (execTunnelWrite_keeps hdr data ecc s).safe
  | usbBusReset highSpeed control => exact (execUsbBusReset_keeps highSpeed control s).safe
  | usbRemoteWake seen => exact (execUsbRemoteWake_keeps seen s).safe
  | faultMessage source kind uc addr word replay victim => exact (execFaultMessage_keeps source kind uc addr word replay victim s).safe
  | faultRecordClose seq => exact (execFaultRecordClose_keeps seq s).safe
  | healthCeExpiry page => exact (execHealthCeExpiry_keeps page s).safe
  | hkRestart kind => exact (execHkRestart_keeps kind s).safe
  | twinPeerRise level => exact (execTwinPeerRise_keeps level s).safe
  | compareMismatch line => exact (execCompareMismatch_keeps line s).safe
  | twinSwitch key => exact (execTwinSwitch_keeps key s).safe
  | twinResync key => exact (execTwinResync_keeps key s).safe
  | twinRejoin key => exact (execTwinRejoin_keeps key s).safe
  | scrubStep m word found replay victim => exact (execScrubStep_keeps m word found replay victim s).safe
  | calibration quantity k training ok value => exact (execCalibration_keeps quantity k training ok value s).safe
  | flashOpDone region sector op ok => exact (execFlashOpDone_keeps region sector op ok s).safe
  | logicTelemetrySample temp core phy08 phy18 vddio => exact (execLogicTelemetrySample_keeps temp core phy08 phy18 vddio s).safe
  | crsSwitch ini course key => exact (execCrsSwitch_keeps ini course key s).safe
  | crsStoreOpen ini image key => exact (execCrsStoreOpen_keeps ini image key s).safe
  | crsStoreData ini data => exact (execCrsStoreData_keeps ini data s).safe
  | crsStoreCommit ini key => exact (execCrsStoreCommit_keeps ini key s).safe
  | crsStoreAbort ini key => exact (execCrsStoreAbort_keeps ini key s).safe
  | updOpen ini => exact (execUpdOpen_keeps ini s).safe
  | updAbort ini => exact (execUpdAbort_keeps ini s).safe
  | updPrepare ini => exact (execUpdPrepare_keeps ini s).safe
  | updActivate ini slot key => exact (execUpdActivate_keeps ini slot key s).safe
  | updConfirm ini => exact (execUpdConfirm_keeps ini s).safe
  | updDistribute ini => exact (execUpdDistribute_keeps ini s).safe
  | updDataWrite ini data => exact (execUpdDataWrite_keeps ini data s).safe
  | updUsbData data bad => exact (execUpdUsbData_keeps data bad s).safe
  | updSessionTimeout src => exact (execUpdSessionTimeout_keeps src s).safe
  | installClear ini slot parent key => exact (execInstallClear_keeps ini slot parent key s).safe
  | installWrapped ini slot parent key => exact (execInstallWrapped_keeps ini slot parent key s).safe
  | generate ini slot parent key => exact (execGenerate_keeps ini slot parent key s).safe
  | destroy ini slot key force => exact (execDestroy_keeps ini slot key force s).safe
  | linkArm ini key => exact (execLinkArm_keeps ini key s).safe
  | linkDisarm ini key => exact (execLinkDisarm_keeps ini key s).safe
  | saRekey port => exact (execSaRekey_keeps port s).safe
  | pairRecordWrite port => exact (execPairRecordWrite_keeps port s).safe
  | keySearch port => exact (execKeySearch_keeps port s).safe
  | noVerifyTimeout port => exact (execNoVerifyTimeout_keeps port s).safe
  | plumbSnap ini atCommit pin scope tag => exact (execPlumbSnap_keeps ini atCommit pin scope tag s).safe
  | plumbRelease ini tag => exact (execPlumbRelease_keeps ini tag s).safe
  | plumbPartSelect ini part tag => exact (execPlumbPartSelect_keeps ini part tag s).safe
  | plumbLatchTimeout page => exact (execPlumbLatchTimeout_keeps page s).safe
  | obsMark data => exact (execObsMark_keeps data s).safe
  | extest pins bits => exact (execExtest_keeps pins bits s).safe
  | samplePreload pins bits => exact (execSamplePreload_keeps pins bits s).safe
  | bypass code bits => exact (execBypass_keeps code bits s).safe
  | pcieLinkUp speed width => exact (execPcieLinkUp_keeps speed width s).safe
  | canErrorDetected port lec eight => exact (execCanErrorDetected_keeps port lec eight s).safe
  | vddioBankChange bank present at3v3 => exact (execVddioBankChange_keeps bank present at3v3 s).safe
  | sluLimitExit sluice => exact (execSluLimitExit_keeps sluice s).safe
  | voutBelowPgFloor sluice => exact (execVoutBelowPgFloor_keeps sluice s).safe
  | extrapMaxExpiry ref => exact (execExtrapMaxExpiry_keeps ref s).safe
  | corePllUnlock => exact execCorePllUnlock_safe s
  | pciePllUnlock => exact (execPciePllUnlock_keeps s).safe
  | pciePllLock => exact (execPciePllLock_keeps s).safe
  | powerOnReset => exact execPowerOnReset_safe s
  | hkFirmwareRunning => exact (execHkFirmwareRunning_keeps s).safe
  | foundationApply => exact (execFoundationApply_keeps s).safe
  | pwrstResetTakeEffect => exact execPwrstResetTakeEffect_safe s
  | helloRx => exact (execHelloRx_keeps s).safe
  | claimStart => exact (execClaimStart_keeps s).safe
  | idClaimRepeat => exact (execIdClaimRepeat_keeps s).safe
  | claimHeld => exact (execClaimHeld_keeps s).safe
  | idClaimRx => exact (execIdClaimRx_keeps s).safe
  | idRefuseRx => exact (execIdRefuseRx_keeps s).safe
  | idRefuseRepeat => exact (execIdRefuseRepeat_keeps s).safe
  | topoTx => exact (execTopoTx_keeps s).safe
  | topoEventTx => exact (execTopoEventTx_keeps s).safe
  | topoRx => exact (execTopoRx_keeps s).safe
  | topoExpire => exact (execTopoExpire_keeps s).safe
  | positionTimeout => exact (execPositionTimeout_keeps s).safe
  | rsqHoldExpiry => exact (execRsqHoldExpiry_keeps s).safe
  | retryExpiry => exact (execRetryExpiry_keeps s).safe
  | mirClear => exact (execMirClear_keeps s).safe
  | pdelayReqRx => exact (execPdelayReqRx_keeps s).safe
  | pdelayRespRx => exact (execPdelayRespRx_keeps s).safe
  | pdelayRespFuRx => exact (execPdelayRespFuRx_keeps s).safe
  | timeSyncTx => exact (execTimeSyncTx_keeps s).safe
  | timeSyncRx => exact (execTimeSyncRx_keeps s).safe
  | timeAnnounceTx => exact (execTimeAnnounceTx_keeps s).safe
  | timeAnnounceRx => exact (execTimeAnnounceRx_keeps s).safe
  | gmDrop => exact (execGmDrop_keeps s).safe
  | holdoverEntry => exact (execHoldoverEntry_keeps s).safe
  | holdoverExpiry => exact (execHoldoverExpiry_keeps s).safe
  | ppsInEdge => exact (execPpsInEdge_keeps s).safe
  | ppsMiss => exact (execPpsMiss_keeps s).safe
  | ppsHoldover => exact (execPpsHoldover_keeps s).safe
  | ppsOutRise => exact (execPpsOutRise_keeps s).safe
  | ppsOutFall => exact (execPpsOutFall_keeps s).safe
  | timeCapture => exact (execTimeCapture_keeps s).safe
  | epochStart => exact (execEpochStart_keeps s).safe
  | changePublish => exact (execChangePublish_keeps s).safe
  | sealTx => exact (execSealTx_keeps s).safe
  | changeRx => exact (execChangeRx_keeps s).safe
  | sealRx => exact (execSealRx_keeps s).safe
  | refreshRx => exact (execRefreshRx_keeps s).safe
  | repairReqRx => exact (execRepairReqRx_keeps s).safe
  | repairServe => exact (execRepairServe_keeps s).safe
  | repairDataRx => exact (execRepairDataRx_keeps s).safe
  | lateCommit => exact (execLateCommit_keeps s).safe
  | bankCatchupDone => exact (execBankCatchupDone_keeps s).safe
  | pmapCopy => exact (execPmapCopy_keeps s).safe
  | pmapValidate => exact (execPmapValidate_keeps s).safe
  | pmapValidateDone => exact (execPmapValidateDone_keeps s).safe
  | pmapArm => exact (execPmapArm_keeps s).safe
  | pmapDisarm => exact (execPmapDisarm_keeps s).safe
  | marginClear => exact (execMarginClear_keeps s).safe
  | pinLeaseExpiry => exact (execPinLeaseExpiry_keeps s).safe
  | bindValidate => exact (execBindValidate_keeps s).safe
  | bindValidateDone => exact (execBindValidateDone_keeps s).safe
  | clearShadow => exact (execClearShadow_keeps s).safe
  | windowEvaluate => exact (execWindowEvaluate_keeps s).safe
  | launchStage => exact (execLaunchStage_keeps s).safe
  | doSet => exact (execDoSet_keeps s).safe
  | doClear => exact (execDoClear_keeps s).safe
  | doPulse => exact (execDoPulse_keeps s).safe
  | laneStart => exact (execLaneStart_keeps s).safe
  | cogStart => exact (execCogStart_keeps s).safe
  | pointWrite => exact (execPointWrite_keeps s).safe
  | canInject => exact (execCanInject_keeps s).safe
  | vinUndervolt => exact (execVinUndervolt_keeps s).safe
  | vinOvervolt => exact (execVinOvervolt_keeps s).safe
  | vinOvRecover => exact (execVinOvRecover_keeps s).safe
  | pwdThermal => exact (execPwdThermal_keeps s).safe
  | pwdThermalClear => exact (execPwdThermalClear_keeps s).safe
  | slu0StartupRamp => exact (execSlu0StartupRamp_keeps s).safe
  | powerCycleRamp => exact (execPowerCycleRamp_keeps s).safe
  | clearMin => exact (execClearMin_keeps s).safe
  | dieLinkSilence => exact (execDieLinkSilence_keeps s).safe
  | dieLinkResumed => exact (execDieLinkResumed_keeps s).safe
  | tamperAlarm => exact (execTamperAlarm_keeps s).safe
  | brgWriteRx => exact (execBrgWriteRx_keeps s).safe
  | readContextGrant => exact (execReadContextGrant_keeps s).safe
  | brgReadRx => exact (execBrgReadRx_keeps s).safe
  | brgReadRespRx => exact (execBrgReadRespRx_keeps s).safe
  | brgWaitExpired => exact (execBrgWaitExpired_keeps s).safe
  | brgPostedErrRx => exact (execBrgPostedErrRx_keeps s).safe
  | prefetchExpiry => exact (execPrefetchExpiry_keeps s).safe
  | pcieLinkDown => exact (execPcieLinkDown_keeps s).safe
  | pcieHotReset => exact (execPcieHotReset_keeps s).safe
  | usbSuspend => exact (execUsbSuspend_keeps s).safe
  | usbResume => exact (execUsbResume_keeps s).safe
  | usbVbusRise => exact (execUsbVbusRise_keeps s).safe
  | usbVbusFall => exact (execUsbVbusFall_keeps s).safe
  | usbLockoutEnd => exact (execUsbLockoutEnd_keeps s).safe
  | fatalHubReset => exact execFatalHubReset_safe s
  | hkHeartbeat => exact (execHkHeartbeat_keeps s).safe
  | heartbeatLoss => exact (execHeartbeatLoss_keeps s).safe
  | clackToggle => exact (execClackToggle_keeps s).safe
  | clackGraceExpiry => exact (execClackGraceExpiry_keeps s).safe
  | fltLastfatalClr => exact (execFltLastfatalClr_keeps s).safe
  | twinLateRunner => exact (execTwinLateRunner_keeps s).safe
  | journalRx => exact (execJournalRx_keeps s).safe
  | fullCheckpointTx => exact (execFullCheckpointTx_keeps s).safe
  | sealCheck => exact (execSealCheck_keeps s).safe
  | twinTakeover => exact (execTwinTakeover_keeps s).safe
  | twinFirstDrive => exact (execTwinFirstDrive_keeps s).safe
  | twinTakeoverDone => exact (execTwinTakeoverDone_keeps s).safe
  | twinStandoff => exact (execTwinStandoff_keeps s).safe
  | calRunNow => exact (execCalRunNow_keeps s).safe
  | calDone => exact (execCalDone_keeps s).safe
  | ledgerWrite => exact (execLedgerWrite_keeps s).safe
  | courseSwitchRepeat => exact (execCourseSwitchRepeat_keeps s).safe
  | courseSwitchRx => exact (execCourseSwitchRx_keeps s).safe
  | courseQueryTx => exact (execCourseQueryTx_keeps s).safe
  | crsStoreDone => exact (execCrsStoreDone_keeps s).safe
  | crsStoreTimeout => exact (execCrsStoreTimeout_keeps s).safe
  | updDataRx => exact (execUpdDataRx_keeps s).safe
  | updDistCellTx => exact (execUpdDistCellTx_keeps s).safe
  | updEraseDone => exact (execUpdEraseDone_keeps s).safe
  | updAutoConfirm => exact (execUpdAutoConfirm_keeps s).safe
  | updRunTimeout => exact (execUpdRunTimeout_keeps s).safe
  | keyOpDone => exact (execKeyOpDone_keeps s).safe
  | keyLoad => exact (execKeyLoad_keeps s).safe
  | plumbSnapshot => exact (execPlumbSnapshot_keeps s).safe
  | plumbReady => exact (execPlumbReady_keeps s).safe
  | plumbPartReady => exact (execPlumbPartReady_keeps s).safe
  | plumbHoldExpiry => exact (execPlumbHoldExpiry_keeps s).safe
  | traceClear => exact (execTraceClear_keeps s).safe
  | entropyHealthFail => exact (execEntropyHealthFail_keeps s).safe

theorem step_guarded {s t : State} (h : s.guarded) (ht : step s = .next t) : t.guarded := by
  unfold step at ht
  split at ht
  · cases ht
    exact (State.guarded_congr s.idle_kept).mpr h
  · next c rest hq =>
    obtain ⟨u, hu, -, hg⟩ := exec_safe c { s with pending := rest }
    rw [hu] at ht
    cases ht
    exact hg ((State.guarded_iff _).mpr (s.guarded_iff.mp h))

/-- Settles O5: of the commands, nine alone touch what the invariant speaks of, and they do so by `State.hubReset`,
`State.powerOn` and `State.unhold`. -/
theorem everyStepKeepsTheInvariant : Obligations.EveryStepKeepsTheInvariant := by
  unfold Obligations.EveryStepKeepsTheInvariant
  exact fun s t hheld hrails ht => step_guarded ⟨hheld, hrails⟩ ht

/-- Settles O6: each meaning answers a next state with the queue as it was. -/
theorem everyCommandCompletes : Obligations.EveryCommandCompletes := by
  unfold Obligations.EveryCommandCompletes
  intro c s
  obtain ⟨t, ht, hpending, -⟩ := exec_safe c s
  exact ⟨t, ht, hpending⟩

/-- Settles O4, by evaluation: no cause holds the hub and no rail is low. -/
theorem resetMeetsTheInvariant : Obligations.ResetMeetsTheInvariant := by
  unfold Obligations.ResetMeetsTheInvariant
  decide

end Sys2Proof.Machine
end

section
/-!
The wire form of a cell (R113 to R115): the bytes of a number and the number of its bytes, the sixteen header bytes, and what the
fields read from them.
-/
namespace Sys2Proof.Machine

/-! ## Big-endian numbers -/

@[simp] theorem length_beBytes (n v : Nat) : (beBytes n v).length = n := by
  induction n with
  | zero => rfl
  | succ n ih => rw [beBytes, List.length_cons, ih]

theorem beNat_cons (b : Byte) (l : List Byte) : beNat (b :: l) = b.toNat * 256 ^ l.length + beNat l := by
  have hfold (m : List Byte) (a : Nat) : m.foldl (fun a b => a * 256 + b.toNat) a = a * 256 ^ m.length + beNat m := by
    induction m generalizing a with
    | nil => simp [beNat]
    | cons x m ih =>
      have hx : beNat (x :: m) = m.foldl (fun a b => a * 256 + b.toNat) (0 * 256 + x.toNat) := rfl
      rw [List.foldl_cons, ih, hx, ih, List.length_cons]
      ring
  rw [beNat, List.foldl_cons, hfold, Nat.zero_mul, Nat.zero_add]

theorem beNat_beBytes (n v : Nat) : beNat (beBytes n v) = v % 256 ^ n := by
  induction n with
  | zero => simp [beBytes, beNat, Nat.mod_one]
  | succ n ih =>
    have hbyte : (BitVec.ofNat 8 (v / 256 ^ n)).toNat = v / 256 ^ n % 256 := BitVec.toNat_ofNat _ 8
    rw [beBytes, beNat_cons, ih, length_beBytes, hbyte, Nat.pow_succ, Nat.mod_mul, Nat.add_comm, Nat.mul_comm]

/-! ## The CRC-32C is a word -/

theorem crc32cBit_lt {c : Nat} (h : c < 2 ^ 32) : crc32cBit c < 2 ^ 32 := by
  have hhalf : c / 2 < 2 ^ 32 := by omega
  unfold crc32cBit
  split
  · exact Nat.xor_lt_two_pow hhalf (by decide)
  · exact hhalf

theorem crc32cByte_lt {c : Nat} (h : c < 2 ^ 32) (b : Byte) : crc32cByte c b < 2 ^ 32 := by
  have hb : c ^^^ b.toNat < 2 ^ 32 := Nat.xor_lt_two_pow h (b.isLt.trans (by decide))
  unfold crc32cByte
  iterate 8 apply crc32cBit_lt
  exact hb

theorem crc32c_lt (l : List Byte) : crc32c l < 2 ^ 32 := by
  have hfold (m : List Byte) (c : Nat) (hc : c < 2 ^ 32) : m.foldl crc32cByte c < 2 ^ 32 := by
    induction m generalizing c with
    | nil => exact hc
    | cons b m ih => exact ih _ (crc32cByte_lt hc b)
  exact Nat.xor_lt_two_pow (hfold l _ (by decide)) (by decide)

/-! ## The header -/

/-- Bytes 0 and 1 of the header: VER, TYPE, RACE, DKIND, reserved bits and the top of DEST (R114). -/
def Cell.word01 (c : Cell) : Nat :=
  (0x40 + c.typ % 64) * 256 + (c.race % 2) * 128 + (c.dkind % 4) * 32 + (c.rsv % 4) * 8 + c.dest % 2048 / 256

/-- Bytes 4 to 7 of the header: SRC, HOPS, LEN and a reserved bit (R114). -/
def Cell.word47 (c : Cell) (hops : Nat) : Nat :=
  (c.src % 2048) * 2 ^ 21 + (hops % 2048) * 2 ^ 10 + (c.len % 512) * 2 + c.rsv / 4 % 2

/-- The bytes of a cell in the order in which they stand on the link. -/
theorem Cell.bytes_eq (c : Cell) : c.bytes =
    BitVec.ofNat 8 (c.word01 / 256) :: BitVec.ofNat 8 c.word01 :: BitVec.ofNat 8 (c.dest % 256) :: BitVec.ofNat 8 c.mapgen ::
      (beBytes 4 (c.word47 c.hops) ++ (beBytes 4 c.seq ++ (beBytes 4 c.origin ++ (c.payload ++ beBytes 4 c.crc)))) := by
  simp [Cell.bytes, Cell.header, Cell.word01, Cell.word47, beBytes]

/-! ## Reading fields -/

/-- Bytes that stand before the field are passed over. -/
theorem beAt_beBytes_append (k v : Nat) (l : List Byte) {o n : Nat} (h : k ≤ o) :
    beAt (beBytes k v ++ l) o n = beAt l (o - k) n := by
  simp [beAt, slice, List.drop_append, List.drop_eq_nil_of_le, h]

theorem beAt_beBytes (k v : Nat) (l : List Byte) : beAt (beBytes k v ++ l) 0 k = v % 256 ^ k := by
  rw [beAt, slice, List.drop_zero, List.take_left' (length_beBytes k v), beNat_beBytes]

section Fields

variable (c : Cell)

/-- The fields after the first word. -/
theorem beAt_bytes_add (o n : Nat) : beAt c.bytes (o + 4) n = beAt (beBytes 4 (c.word47 c.hops) ++
    (beBytes 4 c.seq ++ (beBytes 4 c.origin ++ (c.payload ++ beBytes 4 c.crc)))) o n := by
  rw [c.bytes_eq]
  simp only [beAt, slice, List.drop_succ_cons]

theorem beAt_bytes_0 : beAt c.bytes 0 1 = c.word01 / 256 % 256 := by
  rw [c.bytes_eq]
  simp [beAt, slice, beNat]

theorem beAt_bytes_1 : beAt c.bytes 1 1 = c.word01 % 256 := by
  rw [c.bytes_eq]
  simp [beAt, slice, beNat]

theorem beAt_bytes_dest : beAt c.bytes 1 2 = c.word01 % 256 * 256 + c.dest % 256 := by
  rw [c.bytes_eq]
  simp [beAt, slice, beNat]

theorem beAt_bytes_mapgen : beAt c.bytes 3 1 = c.mapgen % 256 := by
  rw [c.bytes_eq]
  simp [beAt, slice, beNat]

theorem beAt_bytes_word47 : beAt c.bytes 4 4 = c.word47 c.hops % 2 ^ 32 :=
  (beAt_bytes_add c 0 4).trans (beAt_beBytes 4 _ _)

theorem beAt_bytes_seq : beAt c.bytes 8 4 = c.seq % 2 ^ 32 := by
  rw [beAt_bytes_add c 4 4, beAt_beBytes_append 4 _ _ (by decide)]
  exact beAt_beBytes 4 _ _

theorem beAt_bytes_origin : beAt c.bytes 12 4 = c.origin % 2 ^ 32 := by
  rw [beAt_bytes_add c 8 4, beAt_beBytes_append 4 _ _ (by decide), beAt_beBytes_append 4 _ _ (by decide)]
  exact beAt_beBytes 4 _ _

theorem hdrLen_bytes (h : c.payload.length ≤ 256) : hdrLen c.bytes = c.payload.length := by
  rw [hdrLen, beAt_bytes_word47, bitsOf, Cell.word47, Cell.len]
  omega

/-- The header has 16 bytes. -/
theorem bytes_drop (n : Nat) : c.bytes.drop (16 + n) = (c.payload ++ beBytes 4 c.crc).drop n := by
  rw [c.bytes_eq, Nat.add_comm]
  simp [beBytes]

theorem crcOf_bytes (h : c.payload.length ≤ 256) : crcOf c.bytes = c.crc := by
  rw [crcOf, hdrLen_bytes c h, beAt, slice, bytes_drop, List.drop_left, List.take_of_length_le (by simp), beNat_beBytes]
  exact Nat.mod_eq_of_lt (crc32c_lt _)

theorem payload_bytes (h : c.payload.length ≤ 256) : slice c.bytes 16 (hdrLen c.bytes) = c.payload := by
  rw [hdrLen_bytes c h, slice, bytes_drop c 0, List.drop_zero, List.take_left]

end Fields

/-- Settles O11: each field of `cellOf` reads its bits of the two packed words or its own bytes. -/
theorem cellsSurviveTheWire : Obligations.CellsSurviveTheWire := by
  unfold Obligations.CellsSurviveTheWire
  intro c htyp hrace hdkind hdest hmapgen hsrc hhops hseq horigin hrsv hlen
  refine ⟨?_, ?_, hdrLen_bytes c hlen, crcOf_bytes c hlen⟩
  · rw [cellOf, payload_bytes c hlen, beAt_bytes_0, beAt_bytes_1, beAt_bytes_dest, beAt_bytes_mapgen, beAt_bytes_word47,
      beAt_bytes_seq, beAt_bytes_origin]
    have hlen' : c.len ≤ 256 := hlen
    cases c
    simp only [Cell.mk.injEq, bitsOf, Cell.word01, Cell.word47] at *
    refine ⟨?_, ?_, ?_, ?_, ?_, ?_, ?_, ?_, ?_, trivial, ?_⟩ <;> omega
  · rw [hdrVer, beAt_bytes_0, Cell.word01]
    omega


end Sys2Proof.Machine
end

section
/-!
Sparse maps, register fields, counters and interrupt bits: what a write reads back as, what it leaves alone, and that the canonical
form lasts (R33, R51, R56, R57); the admission of a cell (R144, R145); what a hub reset leaves (R80).
-/
namespace Sys2Proof.Machine

/-! ## Sparse maps in canonical form -/

theorem SMap.wfFrom_mono {α : Type} [DecidableEq α] {d : Nat → α} {m : SMap α} {n n' : Nat} (hm : m.wfFrom d n = true)
    (h : n' ≤ n) : m.wfFrom d n' = true := by
  cases m with
  | nil => rfl
  | cons e m =>
    obtain ⟨k, v⟩ := e
    simp only [SMap.wfFrom, Bool.and_eq_true, decide_eq_true_eq] at hm ⊢
    obtain ⟨⟨hk, hv⟩, htail⟩ := hm
    exact ⟨⟨h.trans hk, hv⟩, htail⟩

theorem SMap.wfFrom_ins {α : Type} [DecidableEq α] {d : Nat → α} {m : SMap α} {n k : Nat} {v : α}
    (hm : m.wfFrom d n = true) (hk : n ≤ k) (hv : v ≠ d k) : (m.ins k v).wfFrom d n = true := by
  induction m generalizing n with
  | nil => simp [SMap.ins, SMap.wfFrom, hk, hv]
  | cons e m ih =>
    obtain ⟨k', v'⟩ := e
    simp only [SMap.wfFrom, Bool.and_eq_true, decide_eq_true_eq] at hm
    obtain ⟨⟨hk', hv'⟩, htail⟩ := hm
    rw [SMap.ins]
    split
    · next hlt =>
      simp [SMap.wfFrom, hk, hv, hv', htail, Nat.succ_le_of_lt hlt]
    · next hge =>
      split
      · next heq =>
        subst heq
        simp [SMap.wfFrom, hk, hv, htail]
      · next hne => simp [SMap.wfFrom, hk', hv', ih htail (by omega)]

theorem SMap.wfFrom_del {α : Type} [DecidableEq α] {d : Nat → α} {m : SMap α} {n : Nat} (hm : m.wfFrom d n = true)
    (k : Nat) : (m.del k).wfFrom d n = true := by
  induction m generalizing n with
  | nil => rfl
  | cons e m ih =>
    obtain ⟨k', v'⟩ := e
    simp only [SMap.wfFrom, Bool.and_eq_true, decide_eq_true_eq] at hm
    obtain ⟨⟨hk', hv'⟩, htail⟩ := hm
    rw [SMap.del]
    split
    · exact SMap.wfFrom_mono htail (by omega)
    · simp [SMap.wfFrom, hk', hv', ih htail]

theorem SMap.wf_set {α : Type} [DecidableEq α] {d : Nat → α} {m : SMap α} (hm : m.wf d = true) (k : Nat) (v : α) :
    (m.set d k v).wf d = true := by
  unfold SMap.set
  split
  · exact SMap.wfFrom_del hm k
  · next hv => exact SMap.wfFrom_ins hm (Nat.zero_le k) hv

theorem SMap.get_keep {α : Type} {d : Nat → α} {p : Nat → Bool} (m : SMap α) {k : Nat} (hk : p k = true) :
    (m.keep p).get d k = m.get d k := by
  induction m with
  | nil => rfl
  | cons e m ih =>
    obtain ⟨k', v⟩ := e
    rw [SMap.keep] at ih ⊢
    rw [List.filter_cons]
    split
    · rw [SMap.get, SMap.get, ih]
    · next hp =>
      have hne : k ≠ k' := fun e => hp (e ▸ hk)
      rw [SMap.get, if_neg hne, ih]

/-- Settles O8: an insertion keeps the keys rising and writes no value that an unlisted key has. -/
theorem sparseMapsKeepTheirForm : Obligations.SparseMapsKeepTheirForm := by
  unfold Obligations.SparseMapsKeepTheirForm
  exact fun α _ d m k v hm => ⟨SMap.wf_set hm k v, SMap.get_set_self hm k v, fun k' h => SMap.get_set_other d m v h⟩

/-! ## Register fields -/

theorem State.wr_regs_wf {s : State} (hs : s.regs.wf regDefault = true) (p : Nat) (f : Field) (v i ini : Nat) :
    (s.wr p f v i ini).regs.wf regDefault = true :=
  SMap.wf_set hs _ _

theorem testBit_bitsOf (v lo w j : Nat) : (bitsOf v lo w).testBit j = (decide (j < w) && v.testBit (lo + j)) := by
  rw [bitsOf, Nat.testBit_mod_two_pow, Nat.testBit_div_two_pow, Nat.add_comm]

theorem testBit_setBits (v lo w x j : Nat) : (setBits v lo w x).testBit j =
    if j < lo then v.testBit j else if j < lo + w then x.testBit (j - lo) else v.testBit j := by
  rw [setBits_eq, Nat.testBit_two_pow_mul_add _ (Nat.mod_lt _ (Nat.two_pow_pos lo)), Nat.testBit_mod_two_pow]
  by_cases hlo : j < lo
  · simp [hlo]
  · rw [if_neg hlo, if_neg hlo, Nat.testBit_two_pow_mul_add _ (Nat.mod_lt _ (Nat.two_pow_pos w)), Nat.testBit_mod_two_pow,
      Nat.testBit_div_two_pow]
    by_cases hw : j < lo + w
    · have : j - lo < w := by omega
      simp [hw, this]
    · have h1 : ¬ j - lo < w := by omega
      have h2 : j - lo - w + (lo + w) = j := by omega
      simp [hw, h1, h2]

/-- Bits beside those that are set keep their value. -/
theorem bitsOf_setBits_other {lo w lo' w' : Nat} (h : lo' + w' ≤ lo ∨ lo + w ≤ lo') (v x : Nat) :
    bitsOf (setBits v lo w x) lo' w' = bitsOf v lo' w' := by
  refine Nat.eq_of_testBit_eq (fun j => ?_)
  rw [testBit_bitsOf, testBit_bitsOf, testBit_setBits]
  by_cases hj : j < w'
  · obtain hbelow | habove := h
    · rw [if_pos (by omega)]
    · rw [if_neg (by omega), if_neg (by omega)]
  · simp [hj]

theorem Field.of_into_other {f g : Field} (hf : f.lo + f.width ≤ 32) (h : g.lo + g.width ≤ f.lo ∨ f.lo + f.width ≤ g.lo)
    (w : Word) (x : Nat) : g.of (f.into w x) = g.of w := by
  rw [Field.of, Field.into, BitVec.toNat_ofNat, Nat.mod_eq_of_lt (setBits_lt x w.isLt hf), bitsOf_setBits_other h, Field.of]

theorem State.word_wr_self {s : State} (hs : s.regs.wf regDefault = true) (p : Nat) (f : Field) (v i ini : Nat) :
    (s.wr p f v i ini).word p (f.off i) ini = f.into (s.word p (f.off i) ini) v :=
  SMap.get_set_self hs _ _

/-- A write leaves the other bits of its word. -/
theorem State.rd_wr_beside {s : State} (hs : s.regs.wf regDefault = true) (p : Nat) {f g : Field} (v : Nat) {i j ini : Nat}
    (hoff : g.off j = f.off i) (hf : f.lo + f.width ≤ 32) (h : g.lo + g.width ≤ f.lo ∨ f.lo + f.width ≤ g.lo) :
    (s.wr p f v i ini).rd p g j ini = s.rd p g j ini := by
  rw [State.rd, State.rd, hoff, State.word_wr_self hs, Field.of_into_other hf h]

theorem State.rd_of_key {s : State} {p q : Nat} {f g : Field} {i j ini ini' : Nat}
    (h : regKey ini' q (g.off j) = regKey ini p (f.off i)) : s.rd q g j ini' = g.of (s.word p (f.off i) ini) := by
  rw [State.rd, State.word, State.word, h]

/-- Settles O7: another field is in another word, or in other bits of the word. -/
theorem fieldWritesReadBack : Obligations.FieldWritesReadBack := by
  unfold Obligations.FieldWritesReadBack
  intro s p f v i ini hs hf hv
  refine ⟨(State.rd_wr_self hs p hf v i ini).trans (Nat.mod_eq_of_lt hv), fun q g j ini' hg h => ?_⟩
  by_cases hkey : regKey ini' q (g.off j) = regKey ini p (f.off i)
  · have hbits := h.resolve_left (not_not_intro hkey)
    rw [State.rd_of_key hkey, State.rd_of_key hkey, State.word_wr_self hs, Field.of_into_other hf hbits]
  · exact State.rd_wr_other s v hkey

/-! ## Counters -/

/-- Settles O9: the keys of two counters of pages differ, as a page has less than 32 of them. -/
theorem countersSaturate : Obligations.CountersSaturate := by
  unfold Obligations.CountersSaturate
  intro s p k n hs hk
  refine ⟨SMap.get_set_self hs _ _, fun q j hj hne => SMap.get_set_other _ _ _ ?_⟩
  omega

/-! ## Admission -/

theorem State.wr_use {s : State} (hs : s.regs.wf regDefault = true) {cls : Nat} (v : Nat) :
    ((s.wr pgSWC SWC_USEn_RSV v cls).rd pgSWC SWC_USEn_RSV cls = v % 2 ^ 16
      ∧ (s.wr pgSWC SWC_USEn_RSV v cls).rd pgSWC SWC_USEn_SHARED cls = s.rd pgSWC SWC_USEn_SHARED cls)
    ∧ (s.wr pgSWC SWC_USEn_SHARED v cls).rd pgSWC SWC_USEn_SHARED cls = v % 2 ^ 13
      ∧ (s.wr pgSWC SWC_USEn_SHARED v cls).rd pgSWC SWC_USEn_RSV cls = s.rd pgSWC SWC_USEn_RSV cls :=
  ⟨⟨State.rd_wr_self hs _ (by decide) _ _ _, State.rd_wr_beside hs _ _ rfl (by decide) (by decide)⟩,
    State.rd_wr_self hs _ (by decide) _ _ _, State.rd_wr_beside hs _ _ rfl (by decide) (by decide)⟩

/-- Settles O12: a reserve and the pool fit their fields, and the two fields of a use register lie beside each other. -/
theorem admissionTakesGranules : Obligations.AdmissionTakesGranules := by
  unfold Obligations.AdmissionTakesGranules
  intro s cls g refs hs hcls
  have hsize : rsvSize cls ≤ 12288 := by
    match cls with
    | 0 | 1 | 2 | 3 => decide
  unfold State.alloc
  refine ⟨fun hroom => ?_, fun hfull hpool hcap => ?_, fun hfull hnone => ?_⟩
  · obtain ⟨⟨hrsv, hshared⟩, -⟩ := State.wr_use (s := { s with sw := { s.sw with
      buf := s.sw.buf.set (fun _ => {}) s.sw.nextBuf ⟨cls, g, 0, refs⟩, nextBuf := s.sw.nextBuf + 1 } }) hs (cls := cls)
      (s.rd pgSWC SWC_USEn_RSV cls + g)
    exact ⟨_, if_pos hroom, rfl, hrsv.trans (Nat.mod_eq_of_lt (by omega)), hshared⟩
  · obtain ⟨-, hshared, hrsv⟩ := State.wr_use (s := { s with sw := { s.sw with
      buf := s.sw.buf.set (fun _ => {}) s.sw.nextBuf ⟨cls, 0, g, refs⟩, nextBuf := s.sw.nextBuf + 1 } }) hs (cls := cls)
      (s.rd pgSWC SWC_USEn_SHARED cls + g)
    exact ⟨_, (if_neg (Nat.not_le.mpr hfull)).trans (if_pos ⟨hpool, hcap⟩), rfl,
      hshared.trans (Nat.mod_eq_of_lt (by omega)), hrsv⟩
  · exact (if_neg (Nat.not_le.mpr hfull)).trans (if_neg (by omega))

/-! ## A hub reset -/

theorem keptReg_power {p off : Nat} (hp : pgPWD ≤ p) (hp' : p ≤ pgSLU + 7) (ho : 0x100 ≤ off) (ho' : off < 0x1000) :
    keptReg (regKey 0 p off) = true := by
  simp only [pgPWD, pgSLU] at hp hp'
  have hpage : regKey 0 p off % 2 ^ 24 / 0x1000 = p := by
    rw [regKey]
    omega
  have hoff : regKey 0 p off % 0x1000 = off := by
    rw [regKey]
    omega
  simp only [keptReg, hpage, hoff, pgPWD, pgSLU, hp, hp', ho, and_self, decide_true, Bool.true_or]

/-- The registers that a hub reset leaves, but those of SYS and USB which it writes. -/
theorem State.word_hubReset {s : State} {c p off : Nat} (hkept : keptReg (regKey 0 p off) = true)
    (hsys : regKey 0 p off ≠ regKey 0 pgSYS 0x110) (husb : regKey 0 p off ≠ regKey 0 pgUSB (USB_STAT_VBUS.off 0)) :
    (s.hubReset c).word p off = s.word p off := by
  have h1 := SMap.get_set_other regDefault
  exact (h1 _ _ hsys).trans ((h1 _ _ husb).trans (SMap.get_keep s.regs hkept))

/-- Settles O13: what a hub reset builds anew is at its defaults, and the words of the power die are kept and not written. -/
theorem hubResetKeepsThePowerDie : Obligations.HubResetKeepsThePowerDie := by
  unfold Obligations.HubResetKeepsThePowerDie
  intro s c p off hp hp' ho ho'
  have hsys : regKey 0 p off ≠ regKey 0 pgSYS 0x110 := by
    simp only [regKey, pgSYS, pgPWD] at hp ⊢
    omega
  have husb : regKey 0 p off ≠ regKey 0 pgUSB (USB_STAT_VBUS.off 0) := by
    simp only [regKey, pgUSB, pgPWD, pgSLU, Field.off, USB_STAT_VBUS] at hp hp' ⊢
    omega
  have hheld : (s.hubReset c).held.contains c = true := List.contains_iff_mem.mpr (mem_heldBy.mpr (.inr rfl))
  exact ⟨State.word_hubReset (keptReg_power hp hp' ho ho') hsys husb, rfl, rfl, rfl, hheld, rfl, rfl, rfl, rfl, rfl⟩

end Sys2Proof.Machine
end

section
/-!
Interrupt bits (R51, R686): an event sets its bit; the trace that records it writes to the OBS page only, whose interrupt bits it
only sets.
-/
namespace Sys2Proof.Machine

theorem bitAt_eq_testBit (v b : Nat) : bitAt v b = v.testBit b := by
  rw [bitAt, Nat.testBit_eq_decide_div_mod_eq]
  rfl

/-! ## One interrupt bit -/

theorem State.rd_int_lt (s : State) (p : Nat) : s.rd p INT_RAW_W < 2 ^ 32 := Nat.mod_lt _ (by decide)

/-- Adding the power of a bit that is 0 sets that bit. -/
theorem add_two_pow_eq_setBits {v b : Nat} (h : bitAt v b = false) : v + 2 ^ b = setBits v b 1 1 := by
  have hbit : bitsOf v b 1 = 0 := by
    have hne : v / 2 ^ b % 2 ≠ 1 := by simpa [bitAt] using h
    rw [bitsOf]
    omega
  simp [setBits, hbit]

theorem bitAt_add_two_pow {v b : Nat} (h : bitAt v b = false) (c : Nat) :
    bitAt (v + 2 ^ b) c = (bitAt v c || decide (c = b)) := by
  rw [add_two_pow_eq_setBits h, bitAt_eq_testBit, bitAt_eq_testBit, testBit_setBits]
  by_cases hc : c = b
  · subst hc
    simp
  · simp only [hc, decide_false, Bool.or_false]
    split
    · rfl
    · rw [if_neg (by omega)]

theorem State.msixRise_regs (old s : State) (p : Nat) : (State.msixRise old s p).regs = s.regs := by
  have hsend (v : Nat) : (s.sendMsix v).regs = s.regs := by
    unfold State.sendMsix
    split
    · rfl
    · dsimp only
      split <;> rfl
  unfold State.msixRise
  split
  · dsimp only
    split
    · exact hsend _
    · rfl
  · rfl

theorem State.rd_congr {s t : State} (h : t.regs = s.regs) (p : Nat) (f : Field) (i ini : Nat) :
    t.rd p f i ini = s.rd p f i ini := by
  rw [State.rd, State.rd, State.word, State.word, h]

theorem State.irqRaw_wf {s : State} (hs : s.regs.wf regDefault = true) (p b : Nat) :
    (s.irqRaw p b).regs.wf regDefault = true := by
  unfold State.irqRaw
  split
  · exact hs
  · rw [State.msixRise_regs]
    exact State.wr_regs_wf hs _ _ _ _ _

/-- The event sets its bit of its page, and no other. -/
theorem State.bitAt_irqRaw {s : State} (hs : s.regs.wf regDefault = true) (p : Nat) {b : Nat} (hb : b < 32) (c : Nat) :
    bitAt ((s.irqRaw p b).rd p INT_RAW_W) c = (bitAt (s.rd p INT_RAW_W) c || decide (c = b)) := by
  unfold State.irqRaw
  split
  · next hset =>
    by_cases hc : c = b
    · subst hc
      simp [hset]
    · simp [hc]
  · next hclear =>
    have hclear : bitAt (s.rd p INT_RAW_W) b = false := by simpa using hclear
    have hlt : s.rd p INT_RAW_W + 2 ^ b < 2 ^ INT_RAW_W.width := by
      rw [add_two_pow_eq_setBits hclear]
      exact setBits_lt 1 (s.rd_int_lt p) hb
    rw [State.rd_congr (State.msixRise_regs _ _ p), State.rd_wr_self hs p (by decide),
      Nat.mod_eq_of_lt hlt, bitAt_add_two_pow hclear]

theorem State.rd_irqRaw_other (s : State) {p q : Nat} (h : q ≠ p) (b : Nat) :
    (s.irqRaw p b).rd q INT_RAW_W = s.rd q INT_RAW_W := by
  unfold State.irqRaw
  split
  · rfl
  · rw [State.rd_congr (State.msixRise_regs _ _ p)]
    refine State.rd_wr_other s _ ?_
    rw [regKey, regKey]
    omega

/-! ## What the trace may do to interrupt bits -/

/-- From `s` to `t` the canonical form of the registers lasts, INT_RAW of every page but OBS stays, and no bit of the OBS page's
is cleared. -/
structure ObsOnly (s t : State) : Prop where
  wf : s.regs.wf regDefault = true → t.regs.wf regDefault = true
  raw : ∀ q, q ≠ pgOBS → t.rd q INT_RAW_W = s.rd q INT_RAW_W
  up : s.regs.wf regDefault = true → ∀ b, bitAt (s.rd pgOBS INT_RAW_W) b = true → bitAt (t.rd pgOBS INT_RAW_W) b = true

theorem ObsOnly.of_regs {s t : State} (h : t.regs = s.regs) : ObsOnly s t where
  wf hs := h ▸ hs
  raw q _ := by rw [State.rd_congr h]
  up _ b hb := by rwa [State.rd_congr h]

theorem ObsOnly.trans {s t u : State} (h : ObsOnly s t) (h' : ObsOnly t u) : ObsOnly s u where
  wf hs := h'.wf (h.wf hs)
  raw q hq := (h'.raw q hq).trans (h.raw q hq)
  up hs b hb := h'.up (h.wf hs) b (h.up hs b hb)

theorem ObsOnly.ite {s t u : State} {c : Prop} [Decidable c] (ht : ObsOnly s t) (hu : ObsOnly s u) :
    ObsOnly s (if c then t else u) := by
  split
  · exact ht
  · exact hu

theorem ObsOnly.foldl {α : Type} {g : State → α → State} (hg : ∀ s x, ObsOnly s (g s x)) (l : List α) (s : State) :
    ObsOnly s (l.foldl g s) := by
  induction l generalizing s with
  | nil => exact .of_regs rfl
  | cons x l ih => exact (hg s x).trans (ih _)

/-- A field of the OBS page in another word than INT_RAW. -/
theorem ObsOnly.wr (s : State) {f : Field} (v : Nat) (h : f.base < 0x1000 ∧ f.base ≠ 0x010) : ObsOnly s (s.wr pgOBS f v) where
  wf hs := State.wr_regs_wf hs _ _ _ _ _
  raw q _ := State.rd_wr_other s v (by simp only [regKey, Field.off, INT_RAW_W]; omega)
  up _ b hb := by rwa [State.rd_wr_other s v (by simp only [regKey, Field.off, INT_RAW_W]; omega)]

theorem ObsOnly.irqRaw (s : State) {b : Nat} (hb : b < 32) : ObsOnly s (s.irqRaw pgOBS b) where
  wf hs := State.irqRaw_wf hs _ _
  raw q hq := s.rd_irqRaw_other hq b
  up hs c hc := by rw [State.bitAt_irqRaw hs pgOBS hb, hc, Bool.true_or]

theorem ObsOnly.count (s : State) (p k n : Nat) : ObsOnly s (s.count p k n) := .of_regs rfl

/-- The state of the trace unit is no register. -/
theorem ObsOnly.obs (s : State) (x : ObsSt) : ObsOnly s { s with obs := x } := .of_regs rfl

theorem ObsOnly.pinDrain (s : State) : ObsOnly s s.pinDrain := by
  unfold State.pinDrain
  refine .ite (.of_regs rfl) ?_
  have hemit (s : State) (r : Nat) : ObsOnly s (if s.dark 35 then s else s.emit (.trace r)) :=
    .ite (.of_regs rfl) (.of_regs rfl)
  exact (ObsOnly.foldl hemit _ s).trans ((ObsOnly.obs _ _).trans (.wr _ _ (by decide)))

theorem ObsOnly.tracePin (s : State) (r n : Nat) : ObsOnly s (s.tracePin r n) := by
  unfold State.tracePin
  refine .ite (.of_regs rfl) ((ObsOnly.pinDrain s).trans (.ite ?_ ?_))
  · exact (ObsOnly.obs _ _).trans (.wr _ _ (by decide))
  · exact ((ObsOnly.obs _ _).trans (.count _ _ _ _)).trans (.irqRaw _ (by decide))

theorem ObsOnly.traceUsb (s : State) (r n : Nat) : ObsOnly s (s.traceUsb r n) := by
  unfold State.traceUsb
  refine .ite (.of_regs rfl) (.ite ?_ ?_)
  · exact (ObsOnly.obs _ _).trans (.wr _ _ (by decide))
  · exact ((ObsOnly.obs _ _).trans (.count _ _ _ _)).trans (.irqRaw _ (by decide))

theorem ObsOnly.traceWrite (s : State) (r n : Nat) : ObsOnly s (s.traceWrite r n) := by
  unfold State.traceWrite
  refine .ite (.count _ _ _ _) ?_
  refine .trans ?_ ((ObsOnly.tracePin _ r n).trans (.traceUsb _ r n))
  refine .trans ?_ (ObsOnly.ite ((ObsOnly.wr _ _ (by decide)).trans (.irqRaw _ (by decide))) (.of_regs rfl))
  refine .trans ?_ (ObsOnly.ite (.irqRaw _ (by decide)) (.of_regs rfl))
  refine .trans ?_ (ObsOnly.ite (.wr _ _ (by decide)) (.of_regs rfl))
  exact ((ObsOnly.obs _ _).trans (.wr _ _ (by decide))).trans (.count _ _ _ _)

theorem ObsOnly.traceRaw (s : State) (page kind arg data : Nat) : ObsOnly s (s.traceRaw page kind arg data) := by
  unfold State.traceRaw
  refine .ite (.of_regs rfl) (.ite (.of_regs rfl) (.ite ?_ ?_))
  · exact ((ObsOnly.obs _ _).trans (.count _ _ _ _)).trans (.irqRaw _ (by decide))
  · refine .trans ?_ (ObsOnly.ite (.count _ _ _ _) (.of_regs rfl))
    refine .trans ?_ (.traceWrite _ _ _)
    refine .trans ?_ (ObsOnly.ite (.of_regs rfl) ((ObsOnly.obs _ _).trans (.traceWrite _ _ _)))
    exact .obs _ _

theorem ObsOnly.trace (s : State) (page kind arg data : Nat) : ObsOnly s (s.trace page kind arg data) := by
  unfold State.trace
  exact (ObsOnly.traceRaw s page kind arg data).trans
    (ObsOnly.foldl (fun _ _ => .ite (.traceRaw _ _ _ _ _) (.of_regs rfl)) _ _)

/-- Settles O10: `irqRaw` sets the bit, and the trace record that follows is `ObsOnly`. -/
theorem interruptEventsSetTheirBit : Obligations.InterruptEventsSetTheirBit := by
  unfold Obligations.InterruptEventsSetTheirBit
  intro s p b hs hb
  unfold State.irq
  split
  · next hset => exact ⟨hset, fun _ _ _ => rfl, fun _ _ _ => rfl⟩
  · have htrace := ObsOnly.trace (s.irqRaw p b) p 1 b ((s.irqRaw p b).rd p INT_RAW_W)
    have hbit : bitAt ((s.irqRaw p b).rd p INT_RAW_W) b = true := by simp [State.bitAt_irqRaw hs p hb]
    refine ⟨?_, fun c hc hp => ?_, fun q hq hobs => (htrace.raw q hobs).trans (s.rd_irqRaw_other hq b)⟩
    · by_cases hp : p = pgOBS
      · subst hp
        exact htrace.up (State.irqRaw_wf hs _ _) b hbit
      · rw [htrace.raw p hp, hbit]
    · rw [htrace.raw p hp, State.bitAt_irqRaw hs p hb, decide_eq_false hc, Bool.or_false]

end Sys2Proof.Machine
end

section
/-!
The commands of the Ashlar header and the write of one register word (R34 to R38, R46 to R63, R96, R473, R579, R614, R637), the
state after reset, and the idle step.
-/
namespace Sys2Proof.Machine

/-! ## The shape of a meaning -/

/-- A meaning whose branches all answer a next state answers one. -/
@[simp] theorem ite_next {c : Prop} [Decidable c] (s t : State) :
    (if c then Host.Outcome.next s else Host.Outcome.next t : Res) = .next (if c then s else t) :=
  (apply_ite Host.Outcome.next c s t).symm

/-- A hub that nothing holds in reset runs what it is told. -/
@[simp] theorem State.awake_of_held {s : State} (h : s.held = []) (r : Res) : s.awake r = r := by
  simp [State.awake, h]

/-! ## Steps and the state after reset -/

/-- Settles O1: the queue's front decides the branch of `step`. -/
theorem stepRunsTheFrontCommand : Obligations.StepRunsTheFrontCommand := by
  unfold Obligations.StepRunsTheFrontCommand
  intro s c rest hqueue
  simp only [step, hqueue]

/-- Settles O2: an idle step is `State.idle`. -/
theorem idleStepPassesOneCycle : Obligations.IdleStepPassesOneCycle := by
  unfold Obligations.IdleStepPassesOneCycle
  intro s hqueue
  simp only [step, hqueue, State.idle]

/-- Settles O3, by evaluation. -/
theorem resetStateHoldsTheResetValues : Obligations.ResetStateHoldsTheResetValues := by
  unfold Obligations.ResetStateHoldsTheResetValues
  decide

/-! ## Where a page takes a command -/

theorem State.pageKind_of_kindAt {s : State} {p : Nat} {k : Kind} (h : s.kindAt p = some k) : pageKind? p = some k := by
  unfold State.kindAt at h
  split at h
  · cases h
  · exact ite_some h

theorem State.atPage_none {s : State} {p : Nat} (h : s.kindAt p = none) (off v : Nat) (r : Res) :
    s.atPage p off v r = .next s := by
  simp [State.atPage, h]

/-- A page that the hub implements and no restarting housekeeping core serves. -/
theorem State.atPage_run {s : State} {p : Nat} (hk : (s.kindAt p).isSome = true)
    (hserved : (s.hkPaused && servedByHk p) = false) (off v : Nat) (r : Res) : s.atPage p off v r = r := by
  have hnone : (s.kindAt p).isNone = false := by simpa using hk
  simp only [State.atPage, hnone, hserved, Bool.false_eq_true, if_false]

/-- A command of a page that does nothing where LOCK is 1, on whatever page. -/
theorem State.atPage_next {s : State} {p : Nat} (hserved : (s.hkPaused && servedByHk p) = false) (off v : Nat) :
    s.atPage p off v (.next s) = .next s := by
  simp [State.atPage, hserved]

/-- Settles O14: under LOCK each meaning is the state itself. -/
theorem lockedPagesRefuseTheirControls : Obligations.LockedPagesRefuseTheirControls := by
  unfold Obligations.LockedPagesRefuseTheirControls
  intro s page value en hlock hserved
  have hnext := State.atPage_next hserved
  refine ⟨?_, ?_, ?_, ?_, ?_, ?_⟩
  · exact (congrArg (s.atPage page 0x008 _) (if_pos hlock)).trans (hnext _ _)
  · show execSoftReset page s = _
    unfold execSoftReset
    split
    · rfl
    · exact (congrArg (s.atPage page 0x008 _) (if_pos (.inr hlock))).trans (hnext _ _)
  · exact (congrArg (s.atPage page 0x008 _) (if_pos (.inl hlock))).trans (hnext _ _)
  · exact (congrArg (s.atPage page 0x008 _) (if_pos (.inl hlock))).trans (hnext _ _)
  · exact (congrArg (s.atPage page 0x01C _) (if_pos hlock)).trans (hnext _ _)
  · exact (congrArg (s.atPage page 0x020 _) (if_pos hlock)).trans (hnext _ _)

/-- Settles O15: the KEY is compared before anything is written. -/
theorem commandsNeedTheirKeys : Obligations.CommandsNeedTheirKeys := by
  unfold Obligations.CommandsNeedTheirKeys
  intro s ini key a
  refine ⟨fun hkey htakes => ⟨?_, ?_, ?_, ?_⟩, fun hkey htakes hsilent => ?_, fun hkey htakes => ⟨?_, ?_, ?_⟩,
    fun hkey => ?_, fun hkey hrunning => ?_⟩
  · show execPwrstHubReset key s = _
    simp [execPwrstHubReset, State.pwrstReject, htakes, hkey]
  · show execPwrstRecovery key s = _
    simp [execPwrstRecovery, State.pwrstReject, htakes, hkey]
  · show execPwrstEnterQuiet key s = _
    simp [execPwrstEnterQuiet, State.pwrstReject, htakes, hkey]
  · show execPwrstLeaveQuiet key s = _
    simp [execPwrstLeaveQuiet, State.pwrstReject, htakes, hkey]
  · show execPowerCycle a key s = _
    simp [execPowerCycle, htakes, hsilent, hkey]
  · show execTwinSwitch key s = _
    simp [execTwinSwitch, State.twinRefuse, htakes, hkey]
  · show execTwinResync key s = _
    simp [execTwinResync, State.twinRefuse, htakes, hkey]
  · show execTwinRejoin key s = _
    simp [execTwinRejoin, State.twinRefuse, htakes, hkey]
  · exact if_pos (.inr (.inl hkey))
  · show execCrsSwitch ini a key s = _
    simp [execCrsSwitch, hrunning, hkey]

/-! ## A port's write of one register word -/

/-- An access to a page is in page space. -/
theorem inPages_page {page off : Nat} (hpage : page < 0x1000) (hoff : off < 0x1000) :
    inPages (page * 0x1000 + off) = true := by
  simp only [inPages, decide_eq_true_eq]
  omega

theorem State.writePart_word {s t : State} {ini : Initiator} {a v st : Nat} (dem : State → Nat → Nat → State × Nat)
    (mc : State → State) (hp : inPages a = true) (hw : s.writeWord (a / 0x1000) (a % 0x1000) v ini = (t, st)) :
    s.writePart ini a [v] dem mc false =
      if st = stFULL then { s := s, rest := [(a, v)] }
      else { s := if a = 0x20160 ∧ st = stOK ∧ bitAt v 0 = true ∧ (s.kindAt pgBRG).isSome = true ∧ s.takes pgBRG = true
                  then mc t else t,
             status := st, fails := if st = stOK then [] else [(a, st)] } := by
  by_cases hsend : a = 0x20160 ∧ st = stOK ∧ bitAt v 0 = true ∧ (s.kindAt pgBRG).isSome = true ∧ s.takes pgBRG = true
  · simp only [State.writePart, hp, hw, if_pos hsend, Bool.not_true, Bool.false_eq_true, Bool.false_and, if_false]
  · simp only [State.writePart, hp, hw, if_neg hsend, Bool.not_true, Bool.false_eq_true, Bool.false_and, if_false]

theorem State.writeLocal_word {s : State} {ini : Initiator} {a : Nat} (v : Nat) (dem : State → Nat → Nat → State × Nat)
    (mc : State → State) (ha : a % 4 = 0) : s.writeLocal ini a [v] dem mc = s.writePart ini a [v] dem mc false := by
  have haligned : misaligned a 4 = false := by simp [misaligned, ha]
  have hpart : accessParts 4 a 4 = [(a, 4)] := by simp [accessParts]
  simp [State.writeLocal, haligned, hpart]

/-- A port's write of one aligned word of a page. -/
theorem State.portWrite_word {s t : State} {ini : Initiator} {a v st : Nat} (ha : a % 4 = 0) (hp : inPages a = true)
    (hw : s.writeWord (a / 0x1000) (a % 0x1000) v ini = (t, st)) :
    s.portWrite ini a [v] a false false =
      if st = stFULL then s.waitWords [(a, v)] { ini := ini, data := 0, fin := false, at_ := 0, addr := a }
      else
        let u := if a = 0x20160 ∧ st = stOK ∧ bitAt v 0 ∧ (s.kindAt pgBRG).isSome ∧ s.takes pgBRG then t.multicast ini else t
        if ini = .pcie ∧ st ≠ stOK then (u.pcieErr a st false true).rsp ini st [] else u.rsp ini st [] := by
  rw [State.portWrite, State.writeLocal_word _ _ _ ha, State.writePart_word _ _ hp hw]
  by_cases hfull : st = stFULL
  · simp [hfull, stOK]
  · rw [if_neg hfull, if_neg hfull]
    by_cases hpcie : ini = .pcie
    · by_cases hok : st = stOK <;> simp [hpcie, hok]
    · simp [hpcie]

/-- Settles O23: the access has one part, the word itself. -/
theorem registerWriteChangesItsWord : Obligations.RegisterWriteChangesItsWord := by
  unfold Obligations.RegisterWriteChangesItsWord
  refine ⟨?_, ?_⟩
  · intro s ini page off value v a x hserves hauth hpage hoff halign hv ha hx
    have hdiv : a / 0x1000 = page := by omega
    have hmod : a % 0x1000 = off := by omega
    have hw : s.writeWord (a / 0x1000) (a % 0x1000) v ini = (x.1, x.2) := by rw [hdiv, hmod, ← hx]
    have hport := State.portWrite_word (by omega) (ha ▸ inPages_page hpage hoff) hw
    show execRegisterWrite ini page off value s = _
    simp only [execRegisterWrite, ← ha, ← hv, hserves, hauth, hport]
    rfl
  · intro s ini page off value hserves hauth
    show execRegisterWrite ini page off value s = _
    simp [execRegisterWrite, hserves, hauth, State.authRefused]

/-- Settles O16: a misaligned access has no part that is written. -/
theorem misalignedWritesHaveNoEffect : Obligations.MisalignedWritesHaveNoEffect := by
  unfold Obligations.MisalignedWritesHaveNoEffect
  intro s ini page off value hserves hauth hini hoff
  have hmis : misaligned (page * 0x1000 + off) 4 = true := by
    have h4 : (page * 0x1000 + off) % 4 ≠ 0 := by omega
    simp [misaligned, h4]
  show execRegisterWrite ini page off value s = _
  simp [execRegisterWrite, hserves, hauth, State.portWrite, State.writeLocal, hmis, hini]

/-! ## The page controls -/

/-- Settles O21: on a page that runs its commands LOCK, EN and the pending apply decide the branch (`State.atPage_next`). -/
theorem pageControlCommandsTakeEffect : Obligations.PageControlCommandsTakeEffect := by
  unfold Obligations.PageControlCommandsTakeEffect
  refine ⟨?_, ?_, ?_, ?_, ?_, ?_, ?_, ?_⟩
  · intro s page en k hk hserved
    show execPageEnableWrite page en s = _
    rw [execPageEnableWrite, State.atPage_run (by simp [hk]) hserved, ite_next]
    simp only [State.setEnable, State.pageKind_of_kindAt hk]
  · intro s page k hk hserved
    show execSoftReset page s = _
    simp only [execSoftReset, State.pageKind_of_kindAt hk]
    rw [State.atPage_run (by simp [hk]) hserved, ite_next]
  · intro s page hbusy
    show execSoftResetDone page s = _
    simp [execSoftResetDone, hbusy]
  · intro s page hk hserved
    exact (State.atPage_run hk hserved _ _ _).trans (ite_next _ _)
  · intro s page hpend hwaits
    show execApplyCopy page s = _
    simp [execApplyCopy, hpend, hwaits]
  · intro s page hk hserved
    exact (State.atPage_run hk hserved _ _ _).trans (ite_next _ _)
  · intro s page hk hserved
    exact State.atPage_run hk hserved _ _ _
  · intro s page en hk
    exact State.atPage_none hk _ _ _

/-! ## Interrupt bits, counters and queues -/

/-- A read of a counter's low word. -/
theorem State.readWord_counterLow {s t : State} {page j ini : Nat} (hj : j < 24)
    (hparity : s.busFails page (0x040 + 8 * j) = false) (ht : t = s.settled page (0x040 + 8 * j))
    (hk : (t.kindAt page).isSome = true) (hview : ((t.asHeld page).kindAt page).isSome = true) :
    s.readWord page (0x040 + 8 * j) ini =
      (t.latchHigh page (0x040 + 8 * j) ini, (t.asHeld page).counterNow page j % 2 ^ 32) := by
  obtain ⟨k, hk⟩ := Option.isSome_iff_exists.mp hk
  obtain ⟨k', hview⟩ := Option.isSome_iff_exists.mp hview
  have hrange : 0x040 ≤ 0x040 + 8 * j ∧ 0x040 + 8 * j < 0x100 := by omega
  have hlow : (0x040 + 8 * j) % 8 = 0 := by omega
  have hindex : (0x040 + 8 * j - 0x040) / 8 = j := by omega
  have hstat : 0x040 + 8 * j ≠ 0x018 := by omega
  have heffect : t.readEffect page (0x040 + 8 * j) ini = t.latchHigh page (0x040 + 8 * j) ini := by
    simp only [State.readEffect, hk]
    rw [if_pos hrange, if_pos hlow]
  have hword : t.viewWord page (0x040 + 8 * j) ini = (t.asHeld page).counterNow page j % 2 ^ 32 := by
    simp only [State.viewWord, State.liveWord, hview]
    rw [if_neg hstat, if_pos hrange, if_pos hlow, hindex]
  simp only [State.readWord, hparity, ← ht, heffect, hword, Bool.false_eq_true, if_false]

/-- Settles O22: on a page that runs its commands the registers of the header are written as their access types say. -/
theorem headerRegisterCommandsTakeEffect : Obligations.HeaderRegisterCommandsTakeEffect := by
  unfold Obligations.HeaderRegisterCommandsTakeEffect
  refine ⟨?_, ?_, ?_, ?_, ?_, ?_, ?_, ?_⟩
  · intro s page value hk hserved
    exact State.atPage_run hk hserved _ _ _
  · intro s page value hk hserved
    exact State.atPage_run hk hserved _ _ _
  · intro s page value hk hserved
    exact (State.atPage_run hk hserved _ _ _).trans (ite_next _ _)
  · intro s page value k hk hkind hserved
    show execFltForce page value s = _
    rw [execFltForce, State.atPage_run (by simp [hk]) hserved, ite_next]
    simp only [State.fltForce, hkind]
  · intro s ini page j t hj hserves hauth hparity ht hk hview
    show execCounterLowRead ini page j s = _
    have hread := State.readWord_counterLow (ini := ini.num) hj hparity ht hk hview
    have hrange : ¬ 24 ≤ j := by omega
    simp [execCounterLowRead, hrange, hserves, hauth, hread]
  · intro s page htakes
    exact if_pos htakes
  · intro s page f g htakes hfields
    show execQueueOvfClear page s = _
    simp [execQueueOvfClear, htakes, State.clearOvf, hfields]
  · intro s ini page j hj hserves hauth
    show execCounterLowRead ini page j s = _
    have hrange : ¬ 24 ≤ j := by omega
    simp [execCounterLowRead, hrange, hserves, hauth, State.authRefused]

end Sys2Proof.Machine
end

section
/-!
Resets, supplies and start-up (R72 to R79, R84 to R97, R601 to R611, R637, R702).
-/
namespace Sys2Proof.Machine

/-- Settles O24: the guards of each reset event are decided by what holds the hub and by the rails that are low. -/
theorem resetAndSupplyCommandsTakeEffect : Obligations.ResetAndSupplyCommandsTakeEffect := by
  unfold Obligations.ResetAndSupplyCommandsTakeEffect
  refine ⟨?_, ?_, ?_, ?_, ?_, ?_, ?_, ?_, ?_, ?_, ?_, ?_, ?_, ?_, ?_, ?_⟩
  · exact fun _ => rfl
  · exact fun _ _ _ => ite_next _ _
  · exact fun _ _ => rfl
  · intro s rail
    show execSupplyLow rail s = _
    simp [execSupplyLow]
  · intro s rail
    exact ite_next _ _
  · intro s key htakes
    show execPwrstHubReset key s = _
    simp [execPwrstHubReset, htakes, State.pwrstReject, State.resetLater]
  · intro s key htakes
    show execPwrstRecovery key s = _
    simp [execPwrstRecovery, htakes, State.pwrstReject, State.resetLater]
  · intro s key htakes
    show execPwrstEnterQuiet key s = _
    simp [execPwrstEnterQuiet, htakes, State.pwrstReject]
  · intro s key htakes
    show execPwrstLeaveQuiet key s = _
    simp [execPwrstLeaveQuiet, htakes, State.pwrstReject]
  · intro s t rec_ l hdue
    show execPwrstResetTakeEffect s = _
    simp only [execPwrstResetTakeEffect, hdue]
  · exact fun _ _ => rfl
  · exact fun _ => rfl
  · intro s port hport hheld
    show execPhyPllUnlock port s = _
    simp [execPhyPllUnlock, hport, hheld]
  · intro s port hport hheld
    show execPhyPllLock port s = _
    simp [execPhyPllLock, hport, hheld]
  · intro s hheld
    show execPciePllUnlock s = _
    simp [execPciePllUnlock, hheld]
  · intro s hheld
    show execPciePllLock s = _
    simp [execPciePllLock, hheld]

/-! ## Start-up -/

/-- A late step on a hub that is not held passes the guards of BOOT_STEP_LATE. -/
theorem execBootStepLate_guard {s : State} {n : Nat} (hheld : s.held = []) (hlate : s.stepOk n = false) (hn : 2 ≤ n ∧ n ≤ 7) :
    (!s.held.isEmpty || s.stepOk n || decide (n < 2 ∨ 7 < n)) = false := by
  have hrange : decide (n < 2 ∨ 7 < n) = false := decide_eq_false (by omega)
  rw [hheld, hlate, hrange]
  rfl

theorem State.idleFirmware {s : State} (hheld : s.held = []) (hdown : s.hkUp = false) (hnode : (s.node == nsRECOVERY) = false) :
    (!s.held.isEmpty || s.hkUp || s.node == nsRECOVERY) = false := by
  simp [hheld, hdown, hnode]

/-- Settles O25: on a hub that is not held, the state of the start-up decides which branch of each event runs. -/
theorem bootCommandsTakeEffect : Obligations.BootCommandsTakeEffect := by
  unfold Obligations.BootCommandsTakeEffect
  refine ⟨?_, ?_, ?_, ?_, ?_, ?_, ?_, ?_, ?_, ?_, ?_, ?_⟩
  · intro s fitted answers sfdp quad jedec size rate hheld hnode hstep
    show execFlashHeaderCheck fitted answers sfdp jedec size quad rate s = _
    have hguard : (!s.held.isEmpty || s.node != nsBOOT || s.rd pgPWRST PWRST_STATE_STEP != 1) = false := by
      simp [hheld, hnode, hstep]
    simp only [execFlashHeaderCheck, hguard, apply_ite Host.Outcome.next, Bool.false_eq_true, if_false]
    refine if_congr Iff.rfl rfl (if_congr Iff.rfl rfl ?_)
    generalize State.romChoice _ = choice
    cases choice <;> rfl
  · intro s n second hheld hdown hnode hstep hstarting
    show execHkFirmwareRunning s = _
    simp only [execHkFirmwareRunning, State.idleFirmware hheld hdown hnode, if_pos hstep, hstarting]
    rfl
  · intro s n hheld hdown hnode hstep hstarting hrun
    show execHkFirmwareRunning s = _
    simp only [execHkFirmwareRunning, State.idleFirmware hheld hdown hnode, if_neg (Nat.not_lt.mpr hstep), hstarting, hrun]
    rfl
  · exact fun _ => rfl
  · intro s hheld hlate
    show execBootStepLate 2 s = _
    simp only [execBootStepLate, execBootStepLate_guard hheld hlate (by decide)]
    rfl
  · intro s hheld hlate
    show execBootStepLate 3 s = _
    simp only [execBootStepLate, execBootStepLate_guard hheld hlate (by decide)]
    rfl
  · intro s hheld hlate
    show execBootStepLate 4 s = _
    simp only [execBootStepLate, execBootStepLate_guard hheld hlate (by decide)]
    rfl
  · intro s hheld hlate
    show execBootStepLate 5 s = _
    simp only [execBootStepLate, execBootStepLate_guard hheld hlate (by decide)]
    rfl
  · intro s hheld hlate
    show execBootStepLate 6 s = _
    simp only [execBootStepLate, execBootStepLate_guard hheld hlate (by decide)]
    rfl
  · intro s hheld hlate hlock
    show execBootStepLate 7 s = _
    simp only [execBootStepLate, execBootStepLate_guard hheld hlate (by decide), hlock]
    rfl
  · intro s n fallback hheld hdown hnode hstep hstarting
    show execHkFirmwareRunning s = _
    simp only [execHkFirmwareRunning, State.idleFirmware hheld hdown hnode, if_neg (Nat.not_lt.mpr hstep), hstarting]
    rfl
  · intro s hheld hlate hlock
    show execBootStepLate 7 s = _
    simp only [execBootStepLate, execBootStepLate_guard hheld hlate (by decide), hlock]
    rfl

end Sys2Proof.Machine
end

section
/-!
Frames and cells, the claim of an ID, the ring view (R110 to R170).
-/
namespace Sys2Proof.Machine

/-- Settles O27: the frame, the queue or the hold that the event names is found by the hypothesis, and the rest is its effect. -/
theorem framesAndCellsAreReceivedAndSent : Obligations.FramesAndCellsAreReceivedAndSent := by
  unfold Obligations.FramesAndCellsAreReceivedAndSent
  refine ⟨?_, ?_, ?_, ?_, ?_, ?_⟩
  · intro s port f b c t u hport hheld hup hmac hhead
    show execFrameRx port f s = _
    simp [execFrameRx, hport, hheld, hup, hmac, hhead]
  · intro s port frac t u hport hheld hup hu hnext hprotected
    subst hu
    show execFrameTx ⟨port, frac⟩ s = _
    simp [execFrameTx, hport, hheld, hup, hnext, hprotected]
  · intro s cls x u hfind hmay hroom
    show execCellAdmitResume cls s = _
    simp [execCellAdmitResume, hfind, hmay, hroom]
  · intro s x hmin
    show execRsqHoldExpiry s = _
    simp only [execRsqHoldExpiry, hmin] <;> rfl
  · intro s e l hretry
    show execRetryExpiry s = _
    simp [execRetryExpiry, hretry]
  · intro s htakes
    show execMirClear s = _
    simp [execMirClear, htakes]

/-! ## TOPO cells -/

/-- What a TOPO cell says of its source enters the ring view (R127). -/
def State.topoHeard (u : State) (r : RxCell) : State :=
  let p := r.cell.payload
  let old := u.ring.topo.find? (fun (e : TopoEnt) => e.src == r.cell.src)
  let e : TopoEnt := {
    src := r.cell.src, serial := beAt p 0 8, at_ := u.now
    slow := bitsOf (beAt p 12 1) 3 2 = 1 ∨ bitsOf (beAt p 13 1) 3 2 = 1
    east := if r.port = 0 then some (r.cell.hops, u.now) else old.bind (·.east)
    west := if r.port = 1 then some (r.cell.hops, u.now) else old.bind (·.west) }
  { u with ring := { u.ring with
    topo := u.ring.topo.filter (fun (x : TopoEnt) => x.src != r.cell.src) ++ [e]
    topoFirst := some (u.ring.topoFirst.getD u.now) } }

/-- What the TOPO cell of an Anchor gives a hub that needs its position (R126). -/
def State.topoPlaced (t : State) (r : RxCell) : State :=
  if r.port = 1 then t.derive (r.cell.hops + 2)
  else if t.ring.eastAnchor.isNone then { t with ring := { t.ring with eastAnchor := some (t.now, r.cell.hops) } } else t

/-- TOPO_RX; whether the hub needs its position does not depend on the ring view. -/
theorem execTopoRx_of_takeCell {s u : State} {r : RxCell} (hrunning : s.hkPaused = false)
    (htake : s.takeCell 4 tTOPO = some (r, u)) : execTopoRx s = .next (State.ringView
      (if beAt r.cell.payload 11 1 % 2 == 1 && u.needsPosition then (u.topoHeard r).topoPlaced r else u.topoHeard r)) := by
  simp only [execTopoRx, hrunning, htake]
  rfl

/-- Settles O28: a claim is decided by the ID state; for the TOPO cells see `execTopoRx_of_takeCell`. -/
theorem claimingTakesEffect : Obligations.ClaimingTakesEffect := by
  unfold Obligations.ClaimingTakesEffect
  refine ⟨?_, ?_, ?_, ?_, ?_, ?_, ?_, ?_, ?_, ?_, ?_, ?_, ?_, ?_, ?_⟩
  · intro s hclaimable
    exact if_pos hclaimable
  · intro s hclaiming hfew hmay
    show execIdClaimRepeat s = _
    simp [execIdClaimRepeat, hclaiming, hfew, hmay]
  · intro s hclaiming hhold hrecovery
    exact if_pos ⟨hclaiming, hhold, hrecovery⟩
  · intro s r u hrunning htake
    show execIdClaimRx s = _
    simp [execIdClaimRx, hrunning, htake]
  · intro s r u hrunning htake hserial hclaim
    show execIdRefuseRx s = _
    simp [execIdRefuseRx, hrunning, htake, hserial, hclaim]
  · intro s j hnext hleft
    have hmore : ¬ j.left ≤ 1 := by omega
    show execIdRefuseRepeat s = _
    simp only [execIdRefuseRepeat, hnext, if_neg hmore]
  · intro s ini data htakes hini hcmd hkey hid hclaim
    show execRingIdSet ini data s = _
    simp [execRingIdSet, htakes, hini, hcmd, hkey, hid, hclaim]
  · intro s hheld hrunning
    show execTopoTx s = _
    simp [execTopoTx, hheld, hrunning]
  · intro s hheld hrunning hevent
    show execTopoEventTx s = _
    simp [execTopoEventTx, hheld, hrunning, hevent]
  · intro s r u hrunning htake hplaced
    refine (execTopoRx_of_takeCell hrunning htake).trans ?_
    rw [hplaced]
    rfl
  · intro s x hmin
    show execTopoExpire s = _
    simp [execTopoExpire, hmin]
  · intro s t h hanchor hneeds
    show execPositionTimeout s = _
    simp [execPositionTimeout, hanchor, hneeds]
  · intro s j hnext hlast
    show execIdRefuseRepeat s = _
    simp only [execIdRefuseRepeat, hnext, if_pos hlast]
  · intro s r u hrunning htake hanchor hneeds hwest
    refine (execTopoRx_of_takeCell hrunning htake).trans ?_
    rw [hanchor, hneeds, State.topoPlaced, if_pos hwest]
    rfl
  · intro s r u hrunning htake hanchor hneeds heast hnone
    have hplaced : (u.topoHeard r).topoPlaced r = { u.topoHeard r with ring := { (u.topoHeard r).ring with
        eastAnchor := some (u.now, r.cell.hops) } } :=
      (if_neg (by simp [heast])).trans (if_pos (by simp [State.topoHeard, hnone]))
    refine (execTopoRx_of_takeCell hrunning htake).trans ?_
    rw [hanchor, hneeds, hplaced]
    rfl

end Sys2Proof.Machine
end

section
/-!
Ring time: peer delay and sync records, the Governor, the grandmaster, PPS (R178 to R203).
-/
namespace Sys2Proof.Machine

/-! ## Peer delay and sync records -/

/-- Settles O29: the open exchange of the port decides each branch; the third missed response in a row is a comparison of counts. -/
theorem peerDelayAndSyncRecordsTakeEffect : Obligations.PeerDelayAndSyncRecordsTakeEffect := by
  unfold Obligations.PeerDelayAndSyncRecordsTakeEffect
  refine ⟨?_, ?_, ?_, ?_, ?_, ?_, ?_, ?_⟩
  · intro s port d hdue hup
    show execPdelayReqTx port s = _
    simp only [execPdelayReqTx, hdue, if_pos hup]
  · intro s r u htake
    show execPdelayReqRx s = _
    simp only [execPdelayReqRx, htake]
  · intro s r u htake hopen hid hintime
    show execPdelayRespRx s = _
    simp only [execPdelayRespRx, htake]
    exact if_pos ⟨hopen, hid, hintime⟩
  · intro s r u htake
    show execPdelayRespFuRx s = _
    simp only [execPdelayRespFuRx, htake, ite_next]
  · intro s port hopen hno hfew
    have hthree : ¬ 3 ≤ (s.pd port).missed + 1 := by omega
    show execPdelayTimeout port s = _
    simp only [execPdelayTimeout, hopen, hno, if_neg hthree]
    rfl
  · intro s port hopen hno htwo
    have hthree : 3 ≤ (s.pd port).missed + 1 := by omega
    show execPdelayTimeout port s = _
    simp only [execPdelayTimeout, hopen, hno, if_pos hthree]
    rfl
  · intro s port o hfind
    have hany : s.time.syncOut.any (fun o => o.port == port) = true :=
      List.any_eq_true.mpr ⟨o, List.mem_of_find?_eq_some hfind, List.find?_some (p := fun (o : SyncOut) => o.port == port) hfind⟩
    show execSyncRecordTx port s = _
    simp only [execSyncRecordTx, if_pos hany, State.takeRecord, hfind]
  · intro s port seq c hfind
    show execSyncRecordTimeout port seq s = _
    simp only [execSyncRecordTimeout, hfind]

/-! ## The Governor -/

/-- A step that locks the Governor executes the overdue launches. -/
theorem afterLock_of_next {s v : State} {r : Res} (h : r = .next v) :
    afterLock s r = .next (if v.locked && !s.locked then State.launchLock (v.launches.length + 1) v else v) := by
  subst h
  exact ite_next _ _

/-- The Governor takes the copy that a decision picked, where it has a sample (R184). -/
def State.takePicked (t : State) (pick : Option SyncCopy) : State :=
  match pick with
  | none => t
  | some x => match t.sampleOf x with
    | some th => t.sample th x.port x.hops
    | none => t

theorem State.takePicked_next (t : State) (pick : Option SyncCopy) :
    (match pick with
      | none => .next t
      | some x => match t.sampleOf x with
        | some th => .next (t.sample th x.port x.hops)
        | none => .next t : Res) = .next (t.takePicked pick) := by
  cases pick with
  | none => rfl
  | some x =>
    unfold State.takePicked
    dsimp only
    split <;> simp_all

/-- Settles O30: a meaning that can lock the Governor is `afterLock` of a step that answers the state named. -/
theorem governorTakesEffect : Obligations.GovernorTakesEffect := by
  unfold Obligations.GovernorTakesEffect
  refine ⟨?_, ?_, ?_, ?_, ?_, ?_, ?_, ?_, ?_, ?_, ?_, ?_, ?_, ?_, ?_, ?_⟩
  · intro s d hdue hgov
    refine afterLock_of_next ?_
    simp only [stepTimeSyncTx, hdue, if_pos hgov]
  · intro s r u htake hgm hother
    refine afterLock_of_next ?_
    simp only [stepTimeSyncRx, htake]
    exact if_pos ⟨hgm, hother⟩
  · intro s x hown hmay
    refine afterLock_of_next ?_
    simp only [stepTimeAnnounceTx, hown]
    exact if_pos hmay
  · intro s r u htake
    refine afterLock_of_next ?_
    simp only [stepTimeAnnounceRx, htake]
    exact ite_next _ _
  · intro s a b hgm hother ha hb
    subst ha hb
    exact afterLock_of_next (if_neg (not_or.mpr ⟨hgm, hother⟩))
  · intro s hgov
    exact if_pos hgov
  · intro s hgov
    exact afterLock_of_next (if_pos hgov)
  · intro s seq c l hgov hcopies
    refine afterLock_of_next ?_
    simp only [stepSyncDecision, if_neg hgov, hcopies]
    exact State.takePicked_next _ _
  · intro s hext hdark hfirst
    refine afterLock_of_next ?_
    simp [stepPpsInEdge, hext, hdark, hfirst]
  · intro s t hlast hext hmissed
    show execPpsMiss s = _
    simp [execPpsMiss, hlast, hext, hmissed]
  · intro s t hlast hext
    show execPpsHoldover s = _
    simp [execPpsHoldover, hlast, hext]
  · intro s hlocked hmode hout
    show execPpsOutRise s = _
    simp [execPpsOutRise, hlocked, hmode, hout]
  · intro s t hfall
    show execPpsOutFall s = _
    simp only [execPpsOutFall, hfall]
  · intro s htakes
    show execTimeCapture s = _
    simp [execTimeCapture, htakes]
  · intro s hown hmay
    refine afterLock_of_next ?_
    simp only [stepTimeAnnounceTx, hown]
    exact if_pos hmay
  · intro s err hext hdark hfirst herr hfar
    have hnear : decide (err ≤ 1000 ∧ -1000 ≤ err) = false := decide_eq_false (by omega)
    subst herr
    refine afterLock_of_next ?_
    simp only [stepPpsInEdge, hext, hdark, hfirst, hnear]
    rfl

end Sys2Proof.Machine
end

section
/-!
The image (REQ 07, 08): epochs and publishing, repair, the point map, pins, demands and bindings (O31 to O34).
-/
namespace Sys2Proof.Machine

/-- A command that asks for a condition takes its effect where the condition holds. -/
theorem ite_bnot {α : Type} {b : Bool} (h : b = true) (x y : α) : (if (!b) = true then x else y) = y := by
  rw [h]
  rfl

/-! ## Epochs and publishing -/

/-- Settles O31: the cell taken from the queue, or the owner that publishes now, decides the branch. -/
theorem epochsAndPublishingTakeEffect : Obligations.EpochsAndPublishingTakeEffect := by
  unfold Obligations.EpochsAndPublishingTakeEffect
  refine ⟨?_, ?_, ?_, ?_, ?_, ?_, ?_, ?_, ?_⟩
  · intro s hlocked
    show execEpochStart s = _
    simp [execEpochStart, hlocked]
  · intro s x hown hmay
    show execChangePublish s = _
    simp [execChangePublish, hown, hmay]
  · intro s x hown hmay hsent
    show execSealTx s = _
    simp [execSealTx, hown, hmay, hsent]
  · intro s r u htake hbooted
    show execChangeRx s = _
    simp [execChangeRx, htake, hbooted]
  · intro s r u htake hbooted hbedstone
    show execSealRx s = _
    simp [execSealRx, htake, hbedstone]
  · intro s r u tab htake hbooted htable hvalid htenure hpend hnone
    show execRefreshRx s = _
    simp [execRefreshRx, htake, hbooted, htable, hvalid, htenure, hpend, hnone]
  · intro s owner epoch
    show execShardVerify owner epoch s = _
    simp [execShardVerify]
  · intro s upset hlocked
    show execCommitInstant upset s = _
    simp [execCommitInstant, hlocked]
  · intro s hlocked
    show execLateCommit s = _
    simp [execLateCommit, hlocked]

/-! ## Repair -/

/-- A step that depends on the last epoch that this hub sealed, where each case answers a next state. -/
theorem next_of_ownEpoch {o : Option OwnEpoch} {F : OwnEpoch → Res} {G : Res} {f : OwnEpoch → State} {g : State}
    (hsome : ∀ a, F a = .next (f a)) (hnone : G = .next g) :
    (match o with | some a => F a | none => G) = .next (match o with | some a => f a | none => g) := by
  cases o with
  | none => exact hnone
  | some a => exact hsome a

/-- A step that depends on a copy in the replay buffer and on whether it may be used, likewise. -/
theorem next_of_replayEnt {o : Option ReplayEnt} {b : Bool} {F : ReplayEnt → Res} {G : Res} {f : ReplayEnt → State}
    {g : State} (hsome : ∀ a, F a = .next (f a)) (helse : G = .next g) :
    (match o, b with | some a, true => F a | _, _ => G) = .next (match o, b with | some a, true => f a | _, _ => g) := by
  cases o with
  | none => exact helse
  | some a => cases b with
    | true => exact hsome a
    | false => exact helse

/-- Settles O32: a request is served by its kind, a response taken by what it carries. -/
theorem repairTakesEffect : Obligations.RepairTakesEffect := by
  unfold Obligations.RepairTakesEffect
  refine ⟨?_, ?_, ?_, ?_, ?_, ?_, ?_⟩
  · intro s tag r hfind
    show execRepairReqRetry tag s = _
    simp only [execRepairReqRetry, hfind]
  · intro s r u htake
    show execRepairReqRx s = _
    simp only [execRepairReqRx, htake, ite_next]
  · intro s j l t hserve hkind ht
    subst ht
    show execRepairServe s = _
    unfold execRepairServe
    simp only [hserve, if_pos hkind]
    refine next_of_ownEpoch (fun o => ?_) rfl
    refine (if_congr Iff.rfl rfl ?_).trans (ite_next _ _)
    exact next_of_replayEnt (fun _ => rfl) rfl
  · intro s c u r htake hfind
    show execRepairDataRx s = _
    simp only [execRepairDataRx, htake, hfind, ite_next]
    generalize u.tableAt _ = tab
    cases tab with
    | none => simp only [ite_next]
    | some t => simp only [ite_next]
  · intro s owner hcollecting hpend hnone hcur hepoch hlate hneigh
    exact if_pos (by simp_all)
  · intro s c u htake hfind
    show execRepairDataRx s = _
    simp only [execRepairDataRx, htake, hfind]
  · intro s j l t hserve hrange hshard ht
    subst ht
    show execRepairServe s = _
    simp only [execRepairServe, hserve, if_neg (not_or.mpr ⟨hrange, hshard⟩)]
    generalize (_ && _) = mayServe
    generalize OwnerRec.last _ = last
    cases last <;> cases mayServe <;> rfl

/-! ## The point map -/

/-- Settles O33: the state of the point map decides which branch of each command runs. -/
theorem pointMapCommandsTakeEffect : Obligations.PointMapCommandsTakeEffect := by
  unfold Obligations.PointMapCommandsTakeEffect
  refine ⟨?_, ?_, ?_, ?_, ?_, ?_, ?_, ?_, ?_, ?_, ?_, ?_, ?_, ?_, ?_, ?_, ?_⟩
  · intro s hcatching
    show execBankCatchupDone s = _
    simp [execBankCatchupDone, hcatching]
  · intro s htakes hstate
    show execPmapCopy s = _
    simp [execPmapCopy, htakes, hstate]
  · intro s htakes hstate
    show execPmapValidate s = _
    simp [execPmapValidate, htakes, hstate]
  · intro s hbusy hunarmed hvalid
    refine (ite_bnot hbusy _ _).trans (congrArg (fun t : State => Host.Outcome.next (t.irq pgPMAP 2)) ?_)
    refine (if_neg hunarmed).trans ?_
    simp only [hvalid]
  · intro s e o k hbusy hunarmed herror
    refine (ite_bnot hbusy _ _).trans (congrArg (fun t : State => Host.Outcome.next (t.irq pgPMAP 2)) ?_)
    refine (if_neg hunarmed).trans ?_
    simp only [herror]
  · intro s htakes hvalid hbooted hahead hsettled
    have hnotSettled : ¬ s.img.lastAdv.any (fun a => decide (s.pmapAt < a + s.settle_ + 1)) = true := by
      simp only [hsettled, Bool.false_eq_true, not_false_eq_true]
    refine (ite_bnot htakes _ _).trans ((if_neg (not_not.mpr hvalid)).trans (if_neg ?_))
    exact not_or.mpr ⟨hbooted, not_or.mpr ⟨not_lt.mpr hahead, hnotSettled⟩⟩
  · intro s htakes hstate
    show execPmapDisarm s = _
    simp [execPmapDisarm, htakes, hstate]
  · intro s gen htakes hjoin hquiet hlagging
    show execPmapAdopt gen s = _
    simp [execPmapAdopt, htakes, hjoin, hquiet, hlagging]
  · intro s which value hopenTo
    show execPmapStageWrite which value s = _
    simp [execPmapStageWrite, hopenTo]
  · intro s hcaught hthird
    show execBankCatchupDone s = _
    simp [execBankCatchupDone, hcaught, hthird]
  · intro s htakes hstate
    show execPmapCopy s = _
    simp [execPmapCopy, htakes, hstate]
  · intro s htakes hstate
    show execPmapValidate s = _
    simp [execPmapValidate, htakes, hstate]
  · intro s hbusy harmed
    refine (ite_bnot hbusy _ _).trans (congrArg (fun t : State => Host.Outcome.next (t.irq pgPMAP 2)) ?_)
    exact if_pos harmed
  · intro s htakes hstate
    show execPmapArm s = _
    simp [execPmapArm, htakes, hstate]
  · intro s htakes hvalid hclose
    exact (ite_bnot htakes _ _).trans ((if_neg (not_not.mpr hvalid)).trans (if_pos hclose))
  · intro s htakes hstate
    show execPmapDisarm s = _
    simp [execPmapDisarm, htakes, hstate]
  · intro s gen htakes hno
    refine (ite_bnot htakes _ _).trans (if_neg ?_)
    rintro ⟨hjoin, hquiet, hlagging⟩
    rcases hno with hearly | hlate | ⟨hfull, hlag⟩
    · omega
    · omega
    · simp [hfull, hlag] at hlagging

/-! ## Pins, demands, bindings and copies -/

/-- Settles O34: whether a pin is held, and the kind of mover behind a copy, decides the branch. -/
theorem pinsDemandsAndBindingsTakeEffect : Obligations.PinsDemandsAndBindingsTakeEffect := by
  unfold Obligations.PinsDemandsAndBindingsTakeEffect
  refine ⟨?_, ?_, ?_, ?_, ?_, ?_, ?_, ?_, ?_, ?_, ?_, ?_, ?_, ?_⟩
  · intro s htakes
    show execMarginClear s = _
    simp [execMarginClear, htakes]
  · intro s tag htakes hpinHeld
    show execPin tag s = _
    simp [execPin, htakes, hpinHeld]
  · intro s tag htakes hheld htag
    show execRenew tag s = _
    simp [execRenew, htakes, hheld, htag]
  · intro s tag htakes hheld htag
    show execUnpin tag s = _
    simp [execUnpin, htakes, hheld, htag]
  · intro s hpinHeld
    show execPinLeaseExpiry s = _
    simp [execPinLeaseExpiry, hpinHeld]
  · intro s ini index value x hserves hnoAuth htakes hx
    subst hx
    show execDemandWrite ini index value s = _
    simp [execDemandWrite, hserves, hnoAuth, htakes]
  · intro s htakes
    show execBindValidate s = _
    simp [execBindValidate, htakes]
  · intro s hbindBusy
    show execBindValidateDone s = _
    simp [execBindValidateDone, hbindBusy]
  · intro s htakes hsettled hunarmed
    show execClearShadow s = _
    simp [execClearShadow, htakes, hsettled, hunarmed]
  · intro s ch hdue hsource hdest hmaster
    show execImageCopyStart ch s = _
    simp [execImageCopyStart, hdue, hsource, hdest, hmaster]
  · intro s ch hbusy hrunning hdone hmaster
    show execImageCopyDone ch s = _
    simp [execImageCopyDone, hbusy, hrunning, hdone, hmaster]
  · intro s tag htakes hpinHeld
    show execPin tag s = _
    simp [execPin, htakes, hpinHeld]
  · intro s ch hdue hother
    show execImageCopyStart ch s = _
    simp [execImageCopyStart, hdue, hother]
  · intro s ch hbusy hstopped hmaster
    show execImageCopyDone ch s = _
    simp [execImageCopyDone, hbusy, hstopped, hmaster]

end Sys2Proof.Machine
end

section
/-!
Axes, windows, launches, discrete lines and lanes (REQ 09 to 11): O35 to O40.
-/
namespace Sys2Proof.Machine

/-! ## Axes and tracking windows -/

/-- Settles O35: of the two channels of an axis the hypotheses say which moved, so one branch of the quadrature count is left. -/
theorem axesTakeEffect : Obligations.AxesTakeEffect := by
  unfold Obligations.AxesTakeEffect
  refine ⟨?_, ?_, ?_, ?_, ?_, ?_, ?_, ?_⟩
  · intro s axis a b henabled haxis hquad hawake ha hb hmovedA hmovedB
    subst ha hb
    show execAxisQuadCount axis s = _
    simp [execAxisQuadCount, henabled, haxis, hquad, hawake, hmovedA, hmovedB]
  · intro s axis a b henabled haxis hquad hawake ha hb hmovedA hmovedB
    subst ha hb
    show execAxisQuadCount axis s = _
    simp only [execAxisQuadCount, henabled, hquad, hawake, if_neg (not_le.mpr haxis)]
    exact (if_neg Bool.false_ne_true).trans (if_pos ⟨hmovedA, hmovedB⟩)
  · intro s axis henabled haxis hssi
    show execAxisSsiStart axis s = _
    simp [execAxisSsiStart, henabled, haxis, hssi]
  · intro s lane value a x hssi hdark hpar hzero hrx
    show execSsiReadDone lane true value false false s = _
    simp [execSsiReadDone, hssi, hdark, hpar, hzero, hrx, b2n]
  · intro s axis htakes haxis
    show execAxisPreset axis s = _
    simp [execAxisPreset, htakes, haxis]
  · intro s
    show execWindowEvaluate s = _
    simp [execWindowEvaluate]
  · intro s ref t2 y x hline hvalid
    show execExtrapMaxExpiry ref s = _
    simp [execExtrapMaxExpiry, hline, hvalid]
  · intro s axis a b henabled haxis hquad hawake ha hb hmovedA hmovedB
    subst ha hb
    show execAxisQuadCount axis s = _
    simp [execAxisQuadCount, henabled, haxis, hquad, hawake, hmovedA, hmovedB]

/-- Settles O36: on a page that takes commands each meaning is the operation on the window selected. -/
theorem trackingCommandsTakeEffect : Obligations.TrackingCommandsTakeEffect := by
  unfold Obligations.TrackingCommandsTakeEffect
  refine ⟨?_, ?_, ?_, ?_⟩
  · intro s ini htakes
    show execTrkRead ini s = _
    simp [execTrkRead, htakes]
  · intro s ini x htakes hx
    subst hx
    show execTrkWrite ini s = _
    simp [execTrkWrite, htakes]
  · intro s ini htakes
    show execTrkDisarm ini s = _
    simp [execTrkDisarm, htakes]
  · intro s ini htakes
    show execArmSoft ini s = _
    simp [execArmSoft, htakes]

/-! ## Launches -/

/-- The first launch by TIME, of the operation asked for, runs at its TIME; on a cold twin hub it waits or is dropped. -/
theorem State.launchDue_of_first {s : State} {i : Nat} {e : LaunchEnt} {op : Nat} (hlocked : s.locked = true)
    (henabled : s.enabled pgLNCH = true) (hfirst : firstLaunch s.launches = some (i, e)) (hop : opOf e.opword = op) :
    s.launchDue op =
      if !(s.passRing e.time).cold then (s.passRing e.time).launchRun i e false
      else if (s.passRing e.time).twin.phase = 0 then (s.passRing e.time).launchCold i e else s.passRing e.time := by
  simp only [State.launchDue, hlocked, henabled, hfirst, if_neg (not_not.mpr hop)]
  rfl

/-- Settles O37: the row of each operation is the launch that is due of that operation. -/
theorem launchesExecuteAtTheirTime : Obligations.LaunchesExecuteAtTheirTime := by
  unfold Obligations.LaunchesExecuteAtTheirTime
  refine ⟨?_, ?_, ?_, ?_, ?_, ?_, ?_, ?_, ?_, ?_, ?_, ?_⟩
  · intro s i e hlocked henabled hfirst hop
    exact congrArg Host.Outcome.next (State.launchDue_of_first hlocked henabled hfirst hop)
  · intro s i e hlocked henabled hfirst hop
    exact congrArg Host.Outcome.next (State.launchDue_of_first hlocked henabled hfirst hop)
  · intro s i e hlocked henabled hfirst hop
    exact congrArg Host.Outcome.next (State.launchDue_of_first hlocked henabled hfirst hop)
  · intro s i e hlocked henabled hfirst hop
    exact congrArg Host.Outcome.next (State.launchDue_of_first hlocked henabled hfirst hop)
  · intro s i e hlocked henabled hfirst hop
    exact congrArg Host.Outcome.next (State.launchDue_of_first hlocked henabled hfirst hop)
  · intro s i e hlocked henabled hfirst hop
    exact congrArg Host.Outcome.next (State.launchDue_of_first hlocked henabled hfirst hop)
  · intro s i e hlocked henabled hfirst hop
    exact congrArg Host.Outcome.next (State.launchDue_of_first hlocked henabled hfirst hop)
  · intro s i e hlocked hfirst
    show execLaunchStage s = _
    simp [execLaunchStage, hlocked, hfirst]
  · intro s line t hpulse
    show execPulseEnd line s = _
    simp [execPulseEnd, hpulse]
  · intro s ini htakes henabled
    show execLnchInsert ini s = _
    simp [execLnchInsert, htakes, henabled]
  · intro s ini slot htakes
    show execLnchCancel ini slot s = _
    simp [execLnchCancel, htakes]
  · intro s ini htakes
    show execFlushTarget ini s = _
    simp [execFlushTarget, htakes]

/-! ## Discrete lines -/

/-- Settles O38: a line that is sampled, and whose level differs from the one taken, takes the change. -/
theorem discreteLinesTakeEffect : Obligations.DiscreteLinesTakeEffect := by
  unfold Obligations.DiscreteLinesTakeEffect
  refine ⟨?_, ?_, ?_, ?_, ?_, ?_, ?_, ?_, ?_, ?_, ?_, ?_⟩
  · intro s line level hline hsampling hon hchanged
    have htaken : (!(decide (line < 256) && s.sampling line) || (level && s.lineOff line)) = false := by
      rw [decide_eq_true hline, hsampling, hon]
      rfl
    have hnew : (!true || s.dioBit line DIO_RAW_W == level) = false := hchanged
    exact (if_neg (Bool.eq_false_iff.mp htaken)).trans (if_neg (Bool.eq_false_iff.mp hnew))
  · intro s line hline hsampling hdioBit
    show execDioEdge line s = _
    simp [execDioEdge, hline, hsampling, hdioBit]
  · intro s page hheld
    show execChatterWindow page s = _
    simp [execChatterWindow, hheld]
  · intro s line hline hdioBit
    show execChatterEnd line s = _
    simp [execChatterEnd, hline, hdioBit]
  · intro s line t hactive hdioCfg hdioCfgMax hdioBit hsampling
    show execDioStuck line s = _
    simp [execDioStuck, hactive, hdioCfg, hdioCfgMax, hdioBit, hsampling]
  · intro s line e hheld hdriven hdioCfg hdioBit hdioBitFail
    show execRbFail line s = _
    simp [execRbFail, hheld, hdriven, hdioCfg, hdioBit, hdioBitFail]
  · intro s bank present at3v3 hbank
    show execVddioBankChange bank present at3v3 s = _
    simp [execVddioBankChange, hbank]
  · intro s page value hpage htakes
    show execDioOutSet page value s = _
    simp [execDioOutSet, hpage, htakes]
  · intro s page value hpage htakes
    show execDioOutClr page value s = _
    simp [execDioOutClr, hpage, htakes]
  · intro s page value hpage hopenTo
    show execDioOutHostWrite page value s = _
    simp [execDioOutHostWrite, hpage, hopenTo]
  · intro s page value hpage htakes
    show execDioCntClr page value s = _
    simp [execDioCntClr, hpage, htakes]
  · intro s line level hline hsampling hon
    show execDioFilteredChange line ⟨level, false⟩ s = _
    simp [execDioFilteredChange, hline, hsampling, hon]

/-! ## Lanes -/

/-- A word with room in the transmit FIFO enters it and is answered. -/
theorem State.laneWrite_of_room {s : State} {n : Nat} (ini : Initiator) (data : Nat) (fin : Bool)
    (hroom : (s.laneNow n).laneRoom n = true) :
    s.laneWrite ini n data fin = ((s.laneNow n).lanePush n data fin).rsp ini stOK [] := by
  simp only [State.laneWrite, if_pos hroom]

/-- A word that is good is popped with its end mark. -/
theorem State.rxPop_of_good {s : State} {n : Nat} {x : LaneWord} {l : List LaneWord} (hhead : (s.laneSt n).rx = x :: l)
    (hgood : x.bad = false) : s.rxPop n false = (s.rxTake n l, x.data, 1 + 2 * b2n x.fin + 4 * b2n false) := by
  simp only [State.rxPop, hhead, hgood, Bool.or_self, Bool.false_eq_true, if_false]

/-- A lane that sends nothing has no characters to account for. -/
theorem State.laneSync_of_idle {s : State} {n : Nat} (hidle : (s.laneSt n).send = none) : s.laneSync n = s := by
  simp only [State.laneSync, hidle]

/-- Settles O39: room in the FIFO, the head of its words or a frame being sent decides the branch. -/
theorem laneFifoCommandsTakeEffect : Obligations.LaneFifoCommandsTakeEffect := by
  unfold Obligations.LaneFifoCommandsTakeEffect
  refine ⟨?_, ?_, ?_, ?_, ?_, ?_, ?_, ?_, ?_, ?_, ?_⟩
  · intro s ini lane data hlane htakes hroom
    refine (if_pos ?_).trans (congrArg Host.Outcome.next (State.laneWrite_of_room ini _ false hroom))
    rw [decide_eq_true hlane, htakes]
    rfl
  · intro s ini lane data hlane htakes hroom
    refine (if_pos ?_).trans (congrArg Host.Outcome.next (State.laneWrite_of_room ini _ true hroom))
    rw [decide_eq_true hlane, htakes]
    rfl
  · intro s lane f t ht hsend hrunning hunder hflows hwords
    subst ht
    show execTxFifoRoom lane s = _
    simp [execTxFifoRoom, hsend, hrunning, hunder, hflows, hwords]
  · intro s x l hwait
    show execLocalWriteExpired 64 s = _
    simp [execLocalWriteExpired, hwait]
  · intro s lane x l u hlane hwait hini hu hfront
    subst hu
    refine (if_pos hlane).trans ?_
    simp only [laneExpired, hwait, if_neg hini]
    exact if_neg (not_not.mpr hfront)
  · intro s ini lane x l hheld hready hhead hgood
    show execLaneRxPop ini lane true false s = _
    rw [execLaneRxPop, State.awake_of_held hheld]
    simp only [if_pos hready, State.rxPop_of_good hhead hgood]
    rfl
  · intro s lane htakes
    show execRxFlush lane s = _
    simp [execRxFlush, htakes]
  · intro s lane htakes hidle
    rw [← hidle]
    show execTxFlush lane s = _
    simp only [execTxFlush, htakes, State.laneSync_of_idle hidle, hidle]
    rfl
  · intro s lane htakes hany
    show execRxDropRest lane s = _
    simp [execRxDropRest, htakes, hany]
  · intro s lane htakes hany
    show execRxDropRest lane s = _
    simp [execRxDropRest, htakes, hany]
  · intro s lane htakes hsend
    show execTxDropHead lane s = _
    simp [execTxDropHead, htakes, hsend]

/-- Settles O40: the frame being sent, with its end mark and its characters, decides the branch. -/
theorem laneFramesTakeEffect : Obligations.LaneFramesTakeEffect := by
  unfold Obligations.LaneFramesTakeEffect
  refine ⟨?_, ?_, ?_, ?_, ?_, ?_, ?_, ?_, ?_, ?_, ?_, ?_⟩
  · intro s lane htakes
    show execSsiRead lane s = _
    simp [execSsiRead, htakes]
  · intro s lane htakes hon hmode hungated hidle hresponse
    show execIolWurq lane s = _
    simp [execIolWurq, htakes, hon, hmode, hungated, hidle, hresponse]
  · intro s lane t hwake
    show execIolWurqEnd lane s = _
    simp [execIolWurqEnd, hwake]
  · intro s lane hready
    show execLaneFrameStart lane s = _
    simp [execLaneFrameStart, hready]
  · intro s lane nack f t ht hsend hrunning hunder hflows hack hread hwhole
    subst ht
    have hnoNack : ¬ ((s.laneNow lane).laneMode lane = 2 ∧ nack = true) := by
      rintro ⟨hmode, rfl⟩
      exact hack.elim (absurd hmode) (by decide)
    show execLaneFrameDone lane nack s = _
    simp only [execLaneFrameDone, hsend, hrunning, hunder, hflows, hread, hwhole, if_neg hnoNack]
    rfl
  · intro s lane f t ht hsend hrunning hunder hflows hmode
    subst ht
    show execLaneFrameDone lane true s = _
    simp [execLaneFrameDone, hsend, hrunning, hunder, hflows, hmode]
  · intro s lane data late hlane hlit hmode
    show execLaneRxChar lane data false false false late s = _
    simp [execLaneRxChar, hlane, hlit, hmode]
  · intro s lane hon hpacket hmode hidle
    show execLanePacketEnd lane s = _
    simp [execLanePacketEnd, hon, hpacket, hmode, hidle]
  · intro s lane f t ht hsend hmode hrunning
    subst ht
    show execI2cStretchTimeout lane s = _
    simp [execI2cStretchTimeout, hsend, hmode, hrunning]
  · intro s lane hon hmode hrsp hfull
    show execIolNoResponse lane s = _
    refine if_pos ?_
    rw [hon, hmode, decide_eq_true ⟨hrsp, hfull⟩]
    rfl
  · intro s lane nack f t ht hsend hrunning hunder hflows hack hread hpart
    subst ht
    have hnoNack : ¬ ((s.laneNow lane).laneMode lane = 2 ∧ nack = true) := by
      rintro ⟨hmode, rfl⟩
      exact hack.elim (absurd hmode) (by decide)
    show execLaneFrameDone lane nack s = _
    simp only [execLaneFrameDone, hsend, hrunning, hunder, hflows, hread, hpart, if_neg hnoNack]
    rfl
  · intro s lane data late hlane hrxOpen hlit hmode
    show execLaneRxChar lane data false false false late s = _
    simp [execLaneRxChar, hlane, hrxOpen, hlit, hmode]

end Sys2Proof.Machine
end

section
/-!
Movers, cogs and CAN (REQ 11 to 13): O41, O42, O44 and O45.
-/
namespace Sys2Proof.Machine

/-- A command that asks for two conditions takes its effect where both hold. -/
theorem not_and_of_true {a b : Bool} (ha : a = true) (hb : b = true) : ¬ (!(a && b)) = true := by
  rw [ha, hb]
  decide

/-! ## Movers -/

/-- Settles O41: a burst is the turn of one mover, which has a copy channel or not. -/
theorem moverCommandsTakeEffect : Obligations.MoverCommandsTakeEffect := by
  unfold Obligations.MoverCommandsTakeEffect
  refine ⟨?_, ?_, ?_, ?_, ?_⟩
  · intro s mover htakes henabled hmover
    have hguard : (!(s.takes pgMOV && s.enabled pgMOV && decide (mover < 48)) || s.movState mover == 1)
        = (s.movState mover == 1) := by
      rw [htakes, henabled, decide_eq_true hmover]
      rfl
    show execMoverStart mover s = _
    rw [execMoverStart, hguard]
    exact (if_congr Iff.rfl rfl (ite_next _ _)).trans (ite_next _ _)
  · intro s mover htakes hmover
    show execMoverStop mover s = _
    simp [execMoverStop, htakes, hmover]
  · intro s mover host contend t ht hturn hcopy
    show execMoverBurst mover host contend s = _
    simp only [execMoverBurst, ← ht, hturn, hcopy, beq_self_eq_true]
    exact ite_next _ _
  · intro s mover t hbackoff
    show execMoverBackoffEnd mover s = _
    simp [execMoverBackoffEnd, hbackoff]
  · intro s mover ch host contend t ht hturn hcopy
    show execMoverBurst mover host contend s = _
    simp only [execMoverBurst, ← ht, hturn, hcopy, beq_self_eq_true]
    exact ite_next _ _

/-! ## Cogs -/

/-- A legal word of the opcode, good in parity, is executed. -/
theorem State.cogFetch_run {s : State} {e levels op : Nat} {body : State → Nat → State}
    (hrunning : s.cogRd e COGe_STAT_STATE = 1) (hlegal : cogIllegal (s.cogWord e) (s.cogRd e COGe_STAT_PC) = false)
    (hop : bitsOf (s.cogWord e) 20 4 = op) :
    s.cogFetch e false levels op body = body (((s.passTo (s.cogSt e).due).cogPass e).cogLook e levels) (s.cogWord e) := by
  simp [State.cogFetch, hrunning, hlegal, hop]

/-- A word that fails its parity check stops the engine with a fault and its record (R410). -/
theorem State.cogFetch_parity {s : State} {e levels op : Nat} {body : State → Nat → State} {u : State}
    (hrunning : s.cogRd e COGe_STAT_STATE = 1) (hu : u = ((s.passTo (s.cogSt e).due).cogPass e).cogLook e levels) :
    s.cogFetch e true levels op body = (u.cogFault e 2).fault (cogPg e) 0x21 1
      (u.globalAddr (cogPg e * 0x1000 + COG_STOREa_WORD.off (u.cogRd e COGe_STAT_PC))) := by
  simp [State.cogFetch, hrunning, hu]

/-- An illegal word stops the engine with a fault (R394). -/
theorem State.cogFetch_illegal {s : State} {e levels op : Nat} {body : State → Nat → State}
    (hrunning : s.cogRd e COGe_STAT_STATE = 1) (hillegal : cogIllegal (s.cogWord e) (s.cogRd e COGe_STAT_PC) = true) :
    s.cogFetch e false levels op body = (((s.passTo (s.cogSt e).due).cogPass e).cogLook e levels).cogFault e 1 := by
  simp [State.cogFetch, hrunning, hillegal]

/-- Settles O42: every instruction is a fetch, which runs the word, or stops the engine at bad parity or an illegal word. -/
theorem cogInstructionsExecute : Obligations.CogInstructionsExecute := by
  unfold Obligations.CogInstructionsExecute
  refine ⟨?_, ?_, ?_, ?_, ?_, ?_, ?_, ?_, ?_, ?_, ?_, ?_, ?_⟩
  · intro s e levels x u hrunning hlegal hop hu hx
    subst hu hx
    exact congrArg Host.Outcome.next (State.cogFetch_run hrunning hlegal hop)
  · intro s e levels x u hrunning hlegal hop hu hx
    subst hu hx
    exact congrArg Host.Outcome.next (State.cogFetch_run hrunning hlegal hop)
  · intro s e levels x u hrunning hlegal hop hu hx
    subst hu hx
    exact congrArg Host.Outcome.next (State.cogFetch_run hrunning hlegal hop)
  · intro s e levels x ferr u hrunning hlegal hop hu hx
    subst hu hx
    exact congrArg Host.Outcome.next (State.cogFetch_run hrunning hlegal hop)
  · intro s e levels x u hrunning hlegal hop hu hx
    subst hu hx
    exact congrArg Host.Outcome.next (State.cogFetch_run hrunning hlegal hop)
  · intro s e levels x u hrunning hlegal hop hu hx
    subst hu hx
    exact congrArg Host.Outcome.next (State.cogFetch_run hrunning hlegal hop)
  · intro s e levels x u hrunning hlegal hop hu hx
    subst hu hx
    exact congrArg Host.Outcome.next (State.cogFetch_run hrunning hlegal hop)
  · intro s e levels x u hrunning hlegal hop hu hx
    subst hu hx
    exact congrArg Host.Outcome.next (State.cogFetch_run hrunning hlegal hop)
  · intro s e levels x u hrunning hlegal hop hu hx
    subst hu hx
    exact congrArg Host.Outcome.next (State.cogFetch_run hrunning hlegal hop)
  · intro s e levels x u hrunning hlegal hop hu hx
    subst hu hx
    exact congrArg Host.Outcome.next (State.cogFetch_run hrunning hlegal hop)
  · intro s e levels x u hrunning hlegal hop hu hx
    subst hu hx
    exact congrArg Host.Outcome.next (State.cogFetch_run hrunning hlegal hop)
  · intro s e levels ferr u hrunning hu c hc
    simp only [List.mem_cons, List.not_mem_nil, or_false] at hc
    rcases hc with rfl | rfl | rfl | rfl | rfl | rfl | rfl | rfl | rfl | rfl | rfl <;>
      exact congrArg Host.Outcome.next (State.cogFetch_parity hrunning hu)
  · intro s e levels ferr u hrunning hu hillegal c hc
    subst hu
    simp only [List.mem_cons, List.not_mem_nil, or_false] at hc
    rcases hc with rfl | rfl | rfl | rfl | rfl | rfl | rfl | rfl | rfl | rfl | rfl <;>
      exact congrArg Host.Outcome.next (State.cogFetch_illegal hrunning hillegal)

/-! ## CAN -/

/-- A frame that is classic, or CAN FD on a port that takes it, is not refused. -/
theorem canKept {fdf en res : Bool} (h : fdf = false ∨ en = true ∧ res = false) :
    ¬ (fdf = true ∧ ((!en) = true ∨ res = true)) := by
  rintro ⟨hfd, hrefused⟩
  rcases h with h | ⟨hen, hres⟩
  · simp [h] at hfd
  · simp [hen, hres] at hrefused

/-- The registers of a CAN page are apart from the lock of the Governor. -/
theorem State.locked_wr_canPg (u : State) (n : Nat) (f : Field) (v : Nat) : (u.wr (canPg n) f v).locked = u.locked := by
  have hkey : regKey 0 pgTIME (TIME_STAT_LOCKED.off 0) ≠ regKey 0 (canPg n) (f.off 0) := by
    have htime : regKey 0 pgTIME (TIME_STAT_LOCKED.off 0) = 0x18108 := rfl
    have hcan : regKey 0 (canPg n) (f.off 0) = (0x90 + n) * 0x1000 + f.off 0 := by simp [regKey, canPg, pgCAN]
    omega
  rw [State.locked, State.on, State.rd_wr_other u v hkey]
  rfl

theorem State.setCan_locked (u : State) (n : Nat) (x : CanSt) : (u.setCan n x).locked = u.locked := by
  simp only [State.setCan, State.locked_wr_canPg]
  rfl

/-- Settles O44: a frame is refused by its format, taken as a wake in partial wake, or stored; an attempt ends by its outcome. -/
theorem canFramesTakeEffect : Obligations.CanFramesTakeEffect := by
  unfold Obligations.CanFramesTakeEffect
  refine ⟨?_, ?_, ?_, ?_, ?_, ?_, ?_, ?_, ?_, ?_, ?_, ?_, ?_, ?_⟩
  · intro s port idw dlc age pulse brs esi res data f hport hhears hf hclassic hawake
    show execCanFrameRx port idw dlc brs esi data age res pulse s = _
    rw [execCanFrameRx, ← hf]
    refine (if_neg (not_and_of_true (decide_eq_true hport) hhears)).trans ((if_neg (canKept hclassic)).trans ?_)
    refine (if_neg (Bool.eq_false_iff.mp hawake)).trans ?_
    exact (if_congr Iff.rfl (ite_next _ _) rfl).trans (ite_next _ _)
  · intro s ini port e l hheld hready hhead
    show execCanRxPop ini port s = _
    simp [execCanRxPop, hheld, hready, hhead]
  · intro s port b z w0 hport hsends hoffer
    show execCanAttemptStart port s = _
    simp [execCanAttemptStart, hport, hsends, hoffer]
  · intro s port lec b clash exempt a hnode hact hbuf
    show execCanAttemptEnd port 0 lec clash exempt s = _
    simp [execCanAttemptEnd, hnode, hact, hbuf]
  · intro s port hport hbusoff
    show execCanBusoffRecovered port s = _
    simp [execCanBusoffRecovered, hport, hbusoff, State.canRecovered]
  · intro s port hport henabled hstate hawake hlit hstep hnode
    show execCanIntegrated port s = _
    simp [execCanIntegrated, hport, henabled, hstate, hawake, hlit, hstep, hnode]
  · intro s port lec eight hport hhears
    show execCanErrorDetected port lec eight s = _
    simp [execCanErrorDetected, hport, hhears]
  · intro s port idw dlc age pulse brs esi res data f hport hhears hf hfd hrefused
    have hdropped : (!s.on (canPg port) CAN_CTRL_FD_EN) = true ∨ res = true :=
      hrefused.imp_left fun h => by rw [h]; rfl
    show execCanFrameRx port idw dlc brs esi data age res pulse s = _
    rw [execCanFrameRx, ← hf]
    refine (if_neg (not_and_of_true (decide_eq_true hport) hhears)).trans ((if_pos ⟨hfd, hdropped⟩).trans ?_)
    exact ite_next _ _
  · intro s port idw dlc age pulse brs esi res data f hport hhears hf hclassic hpartial
    show execCanFrameRx port idw dlc brs esi data age res pulse s = _
    rw [execCanFrameRx, ← hf]
    refine (if_neg (not_and_of_true (decide_eq_true hport) hhears)).trans ((if_neg (canKept hclassic)).trans ?_)
    exact (if_pos hpartial).trans (ite_next _ _)
  · intro s port f w0 hport hsends hoffer
    show execCanAttemptStart port s = _
    simp [execCanAttemptStart, hport, hsends, hoffer]
  · intro s port outcome lec b clash exempt a hnode hact hbuf hnot
    show execCanAttemptEnd port outcome lec clash exempt s = _
    simp [execCanAttemptEnd, hnode, hact, hbuf, hnot]
  · intro s port lec clash exempt a f hnode hact hbuf hzone
    show execCanAttemptEnd port 0 lec clash exempt s = _
    simp [execCanAttemptEnd, hnode, hact, hbuf, hzone]
  · intro s port outcome lec clash exempt a f hnode hact hbuf hzone hnot
    show execCanAttemptEnd port outcome lec clash exempt s = _
    simp [execCanAttemptEnd, hnode, hact, hbuf, hzone, hnot]
  · intro s port k hport henabled hstate hawake hlit hstep hnode hk
    subst hk
    show execCanIntegrated port s = _
    simp [execCanIntegrated, hport, henabled, hstate, hawake, hlit, hstep, hnode]

/-- Settles O45: a schedule that runs, or begins, has one next boundary, and the window of a slot is open or counted. -/
theorem canBuffersAndScheduleTakeEffect : Obligations.CanBuffersAndScheduleTakeEffect := by
  unfold Obligations.CanBuffersAndScheduleTakeEffect
  refine ⟨?_, ?_, ?_, ?_, ?_, ?_, ?_, ?_, ?_, ?_, ?_, ?_, ?_⟩
  · intro s ini port buf htakes hport hbuf
    show execCanRequest ini port buf s = _
    simp [execCanRequest, htakes, hport, hbuf]
  · intro s ini port buf htakes hport hbuf hpending
    show execCanCancel ini port buf s = _
    simp [execCanCancel, htakes, hport, hbuf, hpending]
  · intro s ini port buf htakes hport hbuf hclash
    show execCanRelease ini port buf s = _
    simp [execCanRelease, htakes, hport, hbuf, hclash]
  · intro s port t y u hport henabled hruns hy ht hu
    subst hy
    have hguard : ¬ (!(decide (port < 8) && (s.locked || !false) && s.enabled (canPg port) && true
        && (!false || (s.canSt port).schedNew))) = true := by simp [hport, henabled]
    show execCanCycleStart port s = _
    unfold execCanCycleStart
    simp only [hruns, Bool.not_true, Bool.false_eq_true, if_false]
    refine (if_neg hguard).trans ?_
    cases hcycle : (s.canSt port).cycle with
    | none =>
      simp only [hcycle] at ht
      simp only [← ht, ← hu, ite_next, State.setCan_locked]
    | some c =>
      simp only [hcycle] at ht
      simp only [← ht, ← hu, ite_next, State.setCan_locked]
  · intro s port slot c a b u hcycle hslot hruns happlies hu hlocked hrunning hopen hother
    subst hu
    show execCanWindowStart port slot s = _
    simp only [execCanWindowStart, hcycle, hslot, hruns, happlies, hlocked, hrunning, hopen, bne_iff_ne.mpr hother]
    exact (if_neg Bool.false_ne_true).trans ((if_neg Bool.false_ne_true).trans (if_neg hother))
  · intro s port x hopen hfree
    show execCanWindowEnd port s = _
    simp [execCanWindowEnd, hopen, hfree]
  · intro s port htakes hport henabled hmode hidle
    exact if_pos (by simp [htakes, hport, henabled, hmode, hidle])
  · intro s port pulse u hport hrunning hu hmore
    subst hu
    show execCanDetectDwell port pulse s = _
    simp [execCanDetectDwell, hport, hrunning, hmore]
  · intro s port t y u hlocked hport henabled hstopped hnew hy hruns ht hu
    have hguard : ¬ (!(decide (port < 8) && (s.locked || !true) && s.enabled (canPg port) && bitAt y 0
        && (!true || (s.canSt port).schedNew))) = true := by simp [hport, hlocked, henabled, hruns, hnew]
    show execCanCycleStart port s = _
    unfold execCanCycleStart
    simp only [hstopped, Bool.not_false, if_true, ← hy]
    refine (if_neg hguard).trans ?_
    rw [hnew, Bool.true_and]
    cases hcycle : (s.canSt port).cycle with
    | none =>
      simp only [← ht, ← hu, ite_next, State.setCan_locked]
    | some c =>
      simp only [← ht, ← hu, ite_next, State.setCan_locked]
  · intro s port slot c a b u hcycle hslot hruns happlies hu hlocked hrunning hopen hcyclic
    subst hu
    show execCanWindowStart port slot s = _
    simp only [execCanWindowStart, hcycle, hslot, hruns, happlies, hlocked, hrunning, hopen]
    exact (if_neg Bool.false_ne_true).trans ((if_neg Bool.false_ne_true).trans (if_pos hcyclic))
  · intro s port slot c a b u hcycle hslot hruns happlies hu hclosed
    subst hu
    show execCanWindowStart port slot s = _
    simp only [execCanWindowStart, hcycle, hslot, hruns, happlies]
    refine (if_neg Bool.false_ne_true).trans (if_pos ?_)
    rcases hclosed with hfree | hstopped | ⟨hshut, hcyclic | hsilent⟩
    · simp [hfree]
    · simp [hstopped]
    · simp [hshut, hcyclic]
    · simp [hshut, hsilent]
  · intro s port b x hopen hbuf
    show execCanWindowEnd port s = _
    simp [execCanWindowEnd, hopen, hbuf]
  · intro s port pulse u hport hrunning hu hlast
    subst hu
    show execCanDetectDwell port pulse s = _
    simp [execCanDetectDwell, hport, hrunning, hlast]

end Sys2Proof.Machine
end

section
/-!
The power die, the sluices and the bridge (REQ 14, 15): O47 to O50.
-/
namespace Sys2Proof.Machine

/-! ## The power die and its sluices -/

/-- Settles O47: the flag that an event sets is clear, or set for its end, and silence decides whether it is delivered. -/
theorem powerDieEventsTakeEffect : Obligations.PowerDieEventsTakeEffect := by
  unfold Obligations.PowerDieEventsTakeEffect
  refine ⟨?_, ?_, ?_, ?_, ?_, ?_, ?_, ?_, ?_, ?_, ?_, ?_, ?_, ?_, ?_⟩
  · intro s
    show execVinUndervolt s = _
    simp [execVinUndervolt]
  · intro s hov
    show execVinOvervolt s = _
    simp [execVinOvervolt, hov]
  · intro s hov
    show execVinOvRecover s = _
    simp [execVinOvRecover, hov]
  · intro s hthermal
    show execPwdThermal s = _
    simp [execPwdThermal, hthermal]
  · intro s
    show execPwdThermalClear s = _
    simp [execPwdThermalClear]
  · intro s hsilent hup
    show execDieLinkSilence s = _
    simp [execDieLinkSilence, hsilent, hup]
  · intro s hsilent
    show execDieLinkResumed s = _
    simp [execDieLinkResumed, hsilent]
  · intro s hpin
    show execPfwAssert 1 s = _
    simp [execPfwAssert, hpin]
  · intro s hpin
    show execPfwAssert 0 s = _
    simp [execPfwAssert, hpin]
  · intro s pin hpin
    show execPfwDeassert pin s = _
    simp [execPfwDeassert, hpin]
  · intro s hnew hheard
    show execTamperAlarm s = _
    simp [execTamperAlarm, hnew, hheard]
  · intro s vin temp t vout sense hsampleAt
    show execPwdTelemetrySample vin temp vout sense s = _
    simp [execPwdTelemetrySample, hsampleAt]
  · intro s htakes hsilent
    show execClearMin s = _
    simp [execClearMin, htakes, hsilent]
  · intro s hsilent hheld
    show execDieLinkSilence s = _
    simp [execDieLinkSilence, hsilent, hheld]
  · intro s hnew hheard
    show execTamperAlarm s = _
    simp [execTamperAlarm, hnew, hheard]

/-- ON or OFF of a sluice that the host may command sets its level. -/
theorem State.sluHost_level {s : State} {n : Nat} (v : Bool) (htakes : s.sluTakes n = true) (hboard : n ≠ 0)
    (hhost : s.on (sluPg n) SLU_CFG_SRC = true) (hfree : s.sluSafeSrc = false) (hstate : s.sluState n ≠ 5) :
    s.sluHost n v = s.sluLevel n v := by
  simp [State.sluHost, htakes, hboard, hhost, hfree, hstate]

/-- ON or OFF of a sluice that the host may not command is reported (R470). -/
theorem State.sluHost_refused {s : State} {n : Nat} (v : Bool) (htakes : s.sluTakes n = true)
    (h : n = 0 ∨ s.on (sluPg n) SLU_CFG_SRC = false ∨ s.sluSafeSrc = true ∨ s.sluState n = 5) :
    s.sluHost n v = s.irq (sluPg n) 6 := by
  refine (ite_bnot htakes _ _).trans (if_pos ?_)
  simpa using h

/-- Settles O48: the state of the sluice decides the branch; for ON and OFF see `State.sluHost_level` and `State.sluHost_refused`. -/
theorem sluicesTakeEffect : Obligations.SluicesTakeEffect := by
  unfold Obligations.SluicesTakeEffect
  refine ⟨?_, ?_, ?_, ?_, ?_, ?_, ?_, ?_, ?_, ?_, ?_, ?_, ?_, ?_, ?_, ?_, ?_, ?_, ?_, ?_⟩
  · intro s sluice hsluice hstate hunlimited
    show execSluLimitEntry sluice s = _
    simp [execSluLimitEntry, hsluice, hstate, hunlimited]
  · intro s sluice hlimit
    show execSluLimitExit sluice s = _
    simp [execSluLimitExit, hlimit]
  · intro s sluice hsluice _ _
    show execSluShortTrip sluice s = _
    simp [execSluShortTrip, hsluice]
  · intro s sluice hlimit
    show execSluTimerTrip sluice s = _
    simp [execSluTimerTrip, hlimit]
  · intro s sluice hstate
    show execSluRampDone sluice s = _
    simp [execSluRampDone, hstate]
  · intro s sluice hstate
    show execSluRampTimeout sluice s = _
    simp [execSluRampTimeout, hstate]
  · intro s sluice hstate hunlimited hnotGood
    show execSluPgQualify sluice s = _
    simp [execSluPgQualify, hstate, hunlimited, hnotGood]
  · intro s sluice hsluice
    show execVoutBelowPgFloor sluice s = _
    simp [execVoutBelowPgFloor, hsluice]
  · intro s sluice t hretry hstate hlevel hmay hready
    show execSluRetry sluice s = _
    simp [execSluRetry, hretry, hstate, hlevel, hmay, hready]
  · intro s sluice hgood
    show execSluRetryCountClear sluice s = _
    simp [execSluRetryCountClear, hgood]
  · intro s sluice htakes hboard hhost hfree hstate
    exact congrArg Host.Outcome.next (State.sluHost_level true htakes hboard hhost hfree hstate)
  · intro s sluice htakes hboard hhost hfree hstate
    exact congrArg Host.Outcome.next (State.sluHost_level false htakes hboard hhost hfree hstate)
  · intro s sluice htakes hstate
    show execSluClear sluice s = _
    simp [execSluClear, htakes, hstate]
  · intro s hstate hoffTill hready
    show execSlu0StartupRamp s = _
    simp [execSlu0StartupRamp, hstate, hoffTill, hready]
  · intro s offTime htakes hsilent
    show execPowerCycle offTime 0xC3 s = _
    simp [execPowerCycle, htakes, hsilent]
  · intro s t hoffTill
    show execPowerCycleRamp s = _
    simp [execPowerCycleRamp, hoffTill]
  · intro s sluice hsluice hstate
    show execSluFetShortDetect sluice s = _
    simp [execSluFetShortDetect, hsluice, hstate]
  · intro s sluice hstate
    show execSluFetShortClear sluice s = _
    simp [execSluFetShortClear, hstate]
  · intro s sluice on_ htakes hrefused
    cases on_ with
    | true => exact congrArg Host.Outcome.next (State.sluHost_refused true htakes hrefused)
    | false => exact congrArg Host.Outcome.next (State.sluHost_refused false htakes hrefused)
  · intro s sluice htakes hstate
    show execSluClear sluice s = _
    simp [execSluClear, htakes, hstate]

/-! ## The bridge -/

/-- A cell that waits in a queue can be taken from it. -/
theorem State.takeCell_of_any {s : State} {c t : Nat} (h : (s.consQ c).any (fun x => x.cell.typ == t) = true) :
    ∃ (r : RxCell) (u : State), s.takeCell c t = some (r, u) := by
  obtain ⟨r, hr⟩ := Option.isSome_iff_exists.mp ((List.find?_isSome (xs := s.consQ c)).mpr (List.any_eq_true.mp h))
  exact ⟨r, (s.setConsQ c ((s.consQ c).erase r)).release r.buf, by simp only [State.takeCell, hr]⟩

/-- The next access at the bridge can be taken. -/
theorem State.takeCell_of_nextAccess {s : State} {t : Nat} (h : s.nextAccess = some t) :
    ∃ (r : RxCell) (u : State), s.takeCell 2 t = some (r, u) := by
  unfold State.nextAccess at h
  split at h
  · cases h
  · obtain ⟨r, hfind, htype⟩ := Option.map_eq_some_iff.mp h
    exact State.takeCell_of_any (List.any_eq_true.mpr ⟨r, List.mem_of_find?_eq_some hfind, beq_iff_eq.mpr htype⟩)


/-- Settles O49: an access that is next at the bridge can be taken, and what a meaning does with it is the effect named. -/
theorem bridgeAsTargetTakesEffect : Obligations.BridgeAsTargetTakesEffect := by
  unfold Obligations.BridgeAsTargetTakesEffect
  refine ⟨?_, ?_, ?_, ?_⟩
  · intro s hnext
    obtain ⟨r, u, htake⟩ := State.takeCell_of_nextAccess hnext
    refine ⟨r, u, htake, ?_⟩
    show execBrgWriteRx s = _
    simp only [execBrgWriteRx, hnext, htake, ne_eq, not_true_eq_false, if_false, ite_next]
  · intro s hnext
    obtain ⟨r, u, htake⟩ := State.takeCell_of_nextAccess hnext
    refine ⟨r, u, htake, ?_⟩
    show execBrgReadRx s = _
    simp only [execBrgReadRx, hnext, htake, ne_eq, not_true_eq_false, if_false]
  · intro s hheld
    obtain ⟨⟨r, t⟩, hwrite⟩ := Option.isSome_iff_exists.mp hheld
    refine ⟨r, t, hwrite, ?_⟩
    show execBrgWaitExpired s = _
    simp only [execBrgWaitExpired, hwrite]
  · intro s hany
    obtain ⟨r, u, htake⟩ := State.takeCell_of_any hany
    refine ⟨r, u, htake, ?_⟩
    show execBrgPostedErrRx s = _
    simp only [execBrgPostedErrRx, htake, ite_next]

/-- A port that the hub serves may issue an access to another hub. -/
theorem State.issues {s : State} {ini : Initiator} {node : Nat} (hserves : s.iniServes ini = true)
    (hremote : s.isHere node = false) (hport : ini ≠ .bridge) :
    ¬ (s.isHere node = true ∨ ini = .bridge ∨ (!s.iniServes ini) = true) := by
  simp [hserves, hremote, hport]

/-- A step that depends on the prefetch entry that expires first. -/
theorem matchPfEnt {o : Option PfEnt} {e : PfEnt} (G : Res) (F : PfEnt → Res) :
    o = some e → (match o with | none => G | some x => F x) = F e := by
  rintro rfl
  rfl

/-- Settles O50: the port and the size pass the checks of the issue, or one of them fails; a response finds its context or slot. -/
theorem bridgeAsInitiatorTakesEffect : Obligations.BridgeAsInitiatorTakesEffect := by
  unfold Obligations.BridgeAsInitiatorTakesEffect
  refine ⟨?_, ?_, ?_, ?_, ?_, ?_, ?_, ?_, ?_, ?_, ?_, ?_, ?_, ?_, ?_, ?_⟩
  · intro s ini node addr words hserves hremote hport hauth
    refine (if_neg (State.issues hserves hremote hport)).trans ((if_neg (Bool.eq_false_iff.mp hauth)).trans ?_)
    rfl
  · intro s ini node addr len hserves hremote hport hsome hmax hwords hauth
    show execBrgReadIssue ini node addr len s = _
    simp [execBrgReadIssue, hserves, hremote, hport, hsome, hmax, hwords, hauth]
  · intro s c l t hwaiting hgrant
    show execReadContextGrant s = _
    simp [execReadContextGrant, hwaiting, hgrant]
  · intro s r u htake hfirst hused hgen
    show execBrgReadRespRx s = _
    simp [execBrgReadRespRx, htake, hfirst, hused, hgen]
  · intro s rid hquiet hrid hused
    show execBrgReadTimeout rid s = _
    simp [execBrgReadTimeout, hquiet, hrid, hused]
  · intro s e hfirst
    show execPrefetchExpiry s = _
    unfold execPrefetchExpiry
    exact matchPfEnt _ _ hfirst
  · intro s ini len a i t htakes hmin hmax ha hremote hslot
    subst ha
    refine (ite_bnot htakes _ _).trans ((if_neg (by omega)).trans ((if_neg (Bool.eq_false_iff.mp hremote)).trans ?_))
    simp only [hslot]
  · intro s slot htakes hready hearly
    refine (ite_bnot htakes _ _).trans ((if_pos hready).trans (congrArg Host.Outcome.next ?_))
    exact if_neg (not_le.mpr hearly)
  · intro s slot hready
    exact if_pos hready
  · intro s ini htakes
    show execMulticastSend ini s = _
    simp [execMulticastSend, htakes]
  · intro s r u htake hfirst hlast hstate hgen
    show execBrgReadRespRx s = _
    simp [execBrgReadRespRx, htake, hfirst, hlast, hstate, hgen]
  · intro s r u htake hcontext hclosed
    have hnoContext : ¬ (beAt r.cell.payload 0 1 % 32 < 8 ∧ (u.rctx (beAt r.cell.payload 0 1 % 32)).used = true
        ∧ (u.rctx (beAt r.cell.payload 0 1 % 32)).gen = beAt r.cell.payload 1 1) := by
      rintro ⟨-, hused, hgen⟩
      rcases hclosed with h | h
      · simp [h] at hused
      · exact h hgen
    show execBrgReadRespRx s = _
    simp only [execBrgReadRespRx, htake, if_neg hnoContext]
    exact if_neg fun h => absurd hcontext (not_lt.mpr h.1)
  · intro s rid hquiet hslot hrid hstate
    show execBrgReadTimeout rid s = _
    simp [execBrgReadTimeout, hquiet, hslot, hrid, hstate]
  · intro s ini len a htakes ha hrefused
    subst ha
    refine (ite_bnot htakes _ _).trans ?_
    by_cases hlen : len < 4 ∨ 256 < len
    · rw [if_pos hlen, if_pos hlen]
    · rw [if_neg hlen, if_neg hlen]
      rcases hrefused with h | h | hhere | hnone
      · exact absurd (Or.inl h) hlen
      · exact absurd (Or.inr h) hlen
      · rw [if_pos hhere, if_pos hhere]
      · simp only [hnone]
        split <;> rfl
  · intro s slot htakes hready hlate
    refine (ite_bnot htakes _ _).trans ((if_pos hready).trans (congrArg Host.Outcome.next ?_))
    exact if_pos hlate
  · intro s ini node addr words w hserves hremote hport hsome hfew hauth
    cases w with
    | true => exact (if_neg (State.issues hserves hremote hport)).trans (if_pos hauth)
    | false =>
      refine (if_neg ?_).trans (if_pos hauth)
      rintro (hhere | hbridge | hzero | hlong | hpart | hdown)
      · exact absurd hhere (Bool.eq_false_iff.mp hremote)
      · exact hport hbridge
      · omega
      · omega
      · omega
      · simp [hserves] at hdown

end Sys2Proof.Machine
end

section
/-!
PCI Express, QSPI and USB (REQ 16): O51 to O53.
-/
namespace Sys2Proof.Machine

/-! ## PCI Express -/

/-- The endpoint takes requests while the link is up, memory is enabled and the function is not in D3hot (R513). -/
theorem State.pcieOpen {s : State} (hlink : s.on pgPCIE PCIE_STAT_LINK_UP = true) (hmem : s.pcie.mem = true)
    (hd3 : s.on pgPCIE PCIE_STAT_D3 = false) :
    ¬ (!(s.on pgPCIE PCIE_STAT_LINK_UP && s.pcie.mem) || s.on pgPCIE PCIE_STAT_D3) = true := by
  rw [hlink, hmem, hd3]
  decide

/-- A request of whole aligned words passes the checks of a window. -/
theorem pcieWhole {whole : Bool} {base off n : Nat} (hwhole : whole = true) (haligned : off % 2 ^ 24 % 4 = 0)
    (hwords : n % 4 = 0) (hsome : n ≠ 0) :
    ¬ (!whole || (base * 2 ^ 24 + off % 2 ^ 24) % 4 != 0 || n % 4 != 0 || n == 0) = true := by
  have haddr : (base * 2 ^ 24 + off % 2 ^ 24) % 4 = 0 := by omega
  rw [hwhole, haddr, hwords, beq_false_of_ne hsome]
  decide

/-- A request at an address that is not a multiple of 4 does not. -/
theorem pcieUnaligned {whole : Bool} {base off n : Nat} (h : off % 2 ^ 24 % 4 ≠ 0) :
    (!whole || (base * 2 ^ 24 + off % 2 ^ 24) % 4 != 0 || n % 4 != 0 || n == 0) = true := by
  have haddr : ((base * 2 ^ 24 + off % 2 ^ 24) % 4 != 0) = true := bne_iff_ne.mpr (by omega)
  rw [haddr, Bool.or_true, Bool.true_or, Bool.true_or]

/-- Settles O51: an endpoint that takes requests splits on the BAR, and BAR2 on the window (`pcieWhole`, `pcieUnaligned`). -/
theorem pcieCommandsTakeEffect : Obligations.PcieCommandsTakeEffect := by
  unfold Obligations.PcieCommandsTakeEffect
  refine ⟨?_, ?_, ?_, ?_, ?_, ?_, ?_, ?_, ?_, ?_, ?_⟩
  · intro s write off len n data hlink hmem hd3 hn hwhole
    subst hn
    show execPcieRequest 0 write true off len data s = _
    simp [execPcieRequest, hlink, hmem, hd3, hwhole]
  · intro s write off len n data whole hlink hmem hd3 hn hwhole hwindow haligned hwords hsome hhere
    subst hn
    refine (if_neg (State.pcieOpen hlink hmem hd3)).trans ((if_neg (by decide)).trans ((if_neg Bool.false_ne_true).trans ?_))
    refine (ite_bnot hwindow _ _).trans ((if_neg ?_).trans (if_pos hhere))
    exact pcieWhole hwhole haligned hwords hsome
  · intro s mem bme msixEn fmask d3 hlink
    show execPcieConfigWrite mem bme msixEn fmask d3 s = _
    simp [execPcieConfigWrite, hlink]
  · intro s vector addr data masked hlink hmem hd3
    show execMsixUnmask vector addr data masked s = _
    simp [execMsixUnmask, hlink, hmem, hd3]
  · intro s speed width hlit hdown hlocked hport
    show execPcieLinkUp speed width s = _
    simp [execPcieLinkUp, hlit, hdown, hlocked, hport]
  · intro s
    show execPcieLinkDown s = _
    simp [execPcieLinkDown]
  · intro s hlink
    show execPcieHotReset s = _
    simp [execPcieHotReset, hlink]
  · intro s write whole off len n data hlink hmem hd3 hn hpart
    subst hn
    show execPcieRequest 0 write whole off len data s = _
    simp only [execPcieRequest, hlink, hmem, hd3, hpart]
    simp
  · intro s write whole off len data hlink hmem hd3
    show execPcieRequest 4 write whole off len data s = _
    simp [execPcieRequest, hlink, hmem, hd3, State.bar4]
  · intro s write whole off len data hlink hmem hd3 hrefused
    refine (if_neg (State.pcieOpen hlink hmem hd3)).trans ((if_neg (by decide)).trans ((if_neg Bool.false_ne_true).trans ?_))
    rcases Bool.eq_false_or_eq_true ((s.count pgPCIE (2 + b2n write)).on pgPCIE PCIE_WINk_EN (off / 2 ^ 24 % 64))
      with hwindow | hwindow
    · have hunaligned := hrefused.resolve_left (by rw [hwindow]; decide)
      refine (ite_bnot hwindow _ _).trans ((if_pos (pcieUnaligned hunaligned)).trans ?_)
      simp only [hwindow, if_true]
      rfl
    · refine (if_pos (congrArg Bool.not hwindow)).trans ?_
      simp only [hwindow, Bool.false_eq_true, if_false]
      rfl
  · intro s write whole off len n data hlink hmem hd3 hn hwhole hwindow haligned hwords hsome hremote
    subst hn
    refine (if_neg (State.pcieOpen hlink hmem hd3)).trans ((if_neg (by decide)).trans ((if_neg Bool.false_ne_true).trans ?_))
    refine (ite_bnot hwindow _ _).trans ((if_neg ?_).trans ((if_neg (Bool.eq_false_iff.mp hremote)).trans (ite_next _ _)))
    exact pcieWhole hwhole haligned hwords hsome

/-! ## The QSPI host port -/

/-- A frame that begins on a serving port is counted, checked and answered by its operation (R520, R524 to R526). -/
theorem State.qshBegin_run {s : State} {hdr : List Byte} {mine : Nat → Bool} {run : State → State}
    (hserves : s.portsServe pgQSH = true) (hframe : s.qsh.frame = false) (hwaiting : s.qsh.waiting = false)
    (hmine : mine (beAt hdr 0 1 / 16) = true) :
    s.qshBegin hdr mine run = .next (
      let op := beAt hdr 0 1 / 16
      let t := State.count (State.wr { s with qsh := { s.qsh with frame := true } } pgQSH QSH_STAT_BUSY 1) pgQSH 0
      if crc16 (hdr.take 7) ≠ beAt hdr 7 2 then (t.qshErr QSH_ERR_HCRC).count pgQSH 5
      else
        let t := (t.wr pgQSH QSH_STAT_LAST_QUAD (bitsOf (beAt hdr 0 1) 3 1)).wr pgQSH QSH_STAT_LAST_OP op
        let t := if 1 ≤ op ∧ op ≤ 4 then t.count pgQSH op else t
        if beAt hdr 0 1 % 8 ≠ 0 ∨ beAt hdr 6 1 / 64 ≠ 0 then t.qshAnswer stBAD_OP [] else run t) := by
  simp only [State.qshBegin, hserves, hframe, hwaiting, hmine]
  exact (if_neg Bool.false_ne_true).trans ((if_congr Iff.rfl rfl (ite_next _ _)).trans (ite_next _ _))

/-- A frame of an operation that is counted. -/
theorem State.qshBegin_op {s : State} {hdr : List Byte} {mine : Nat → Bool} {run : State → State} {op : Nat}
    (hserves : s.portsServe pgQSH = true) (hframe : s.qsh.frame = false) (hwaiting : s.qsh.waiting = false)
    (hop : beAt hdr 0 1 / 16 = op) (hcounted : 1 ≤ op ∧ op ≤ 4) (hmine : mine op = true) :
    s.qshBegin hdr mine run = .next (
      let t := State.count (State.wr { s with qsh := { s.qsh with frame := true } } pgQSH QSH_STAT_BUSY 1) pgQSH 0
      if crc16 (hdr.take 7) ≠ beAt hdr 7 2 then (t.qshErr QSH_ERR_HCRC).count pgQSH 5
      else
        let t := ((t.wr pgQSH QSH_STAT_LAST_QUAD (bitsOf (beAt hdr 0 1) 3 1)).wr pgQSH QSH_STAT_LAST_OP op).count pgQSH op
        if beAt hdr 0 1 % 8 ≠ 0 ∨ beAt hdr 6 1 / 64 ≠ 0 then t.qshAnswer stBAD_OP [] else run t) := by
  subst hop
  refine (State.qshBegin_run hserves hframe hwaiting hmine).trans ?_
  simp only [if_pos hcounted]

/-- Settles O52: a frame begins as `State.qshBegin_run` says, and its operation selects what runs. -/
theorem qspiFramesTakeEffect : Obligations.QspiFramesTakeEffect := by
  unfold Obligations.QspiFramesTakeEffect
  refine ⟨?_, ?_, ?_, ?_, ?_, ?_, ?_⟩
  · intro s hdr hserves hframe hwaiting hop
    show execQshRead hdr s = _
    refine (State.qshBegin_op hserves hframe hwaiting hop (by decide) rfl).trans ?_
    simp only [hop, ne_eq, not_true_eq_false, if_false]
  · intro s hdr data dcrc hserves hframe hwaiting hop
    show execQshWrite hdr data dcrc s = _
    unfold execQshWrite
    exact State.qshBegin_op hserves hframe hwaiting hop (by decide) rfl
  · intro s hdr hserves hframe hwaiting hop
    show execQshTicket hdr s = _
    refine (State.qshBegin_op hserves hframe hwaiting hop (by decide) rfl).trans (congrArg Host.Outcome.next ?_)
    refine if_congr Iff.rfl rfl (if_congr Iff.rfl rfl (if_congr Iff.rfl rfl ?_))
    generalize State.takeSlot _ _ _ _ _ = slot
    cases slot <;> rfl
  · intro s hdr hserves hframe hwaiting hop
    show execQshCollect hdr s = _
    unfold execQshCollect
    exact State.qshBegin_op hserves hframe hwaiting hop (by decide) rfl
  · intro s
    show execQshCsRise false s = _
    simp [execQshCsRise]
  · intro s hframe hserves
    have hcut : (true && !s.qsh.frame && s.portsServe pgQSH) = true := by rw [hframe, hserves]; rfl
    show execQshCsRise true s = _
    simp only [execQshCsRise, hcut, if_true]
  · intro s hdr hserves hframe hwaiting hop
    have hmine : (beAt hdr 0 1 / 16 == 1 || beAt hdr 0 1 / 16 == 0 || decide (5 ≤ beAt hdr 0 1 / 16)) = true := by
      rcases hop with h | h
      · simp [h]
      · simp [h]
    have hunknown : ¬ (1 ≤ beAt hdr 0 1 / 16 ∧ beAt hdr 0 1 / 16 ≤ 4) := by omega
    have hnotRead : beAt hdr 0 1 / 16 ≠ 1 := by omega
    show execQshRead hdr s = _
    refine (State.qshBegin_run hserves hframe hwaiting hmine).trans ?_
    simp only [if_neg hunknown, if_pos hnotRead]

/-! ## The USB service port -/

/-- A vendor request of a port that answers runs where its length is right, and else is stalled (R530). -/
theorem State.vendor_live {s : State} (hlive : s.usbLive = true) (ok : Bool) (run : State → State) :
    s.vendor ok run = .next (if ok then run s else s.usbStalls) :=
  (ite_bnot hlive _ _).trans (ite_next _ _)

/-- A request that an empty queue has room for becomes the only one. -/
theorem State.tunnelTake_only {s : State} {r : TunnelReq} (hstate : s.usbState = 3) (htest : s.usb.test = 0)
    (hrunning : s.usb.halted.contains 1 = false) (hreqs : s.usb.reqs = []) (hfits : 16 + r.data.length ≤ 4096) :
    s.tunnelTake r = State.tunnelNext 1 (let u := s.usbMoved 1 (16 + r.data.length)
      { u with usb := { u.usb with reqs := [r] } }) := by
  have hroom : ¬ (s.usbState ≠ 3 ∨ s.usb.test ≠ 0 ∨ s.usb.halted.contains 1 = true
      ∨ 4096 < (s.usb.reqs.map (fun (x : TunnelReq) => 16 + x.data.length)).sum + (16 + r.data.length)) := by
    simp only [hstate, htest, hrunning, hreqs, List.map_nil, List.sum_nil, ne_eq, not_true_eq_false,
      Bool.false_eq_true, false_or]
    omega
  unfold State.tunnelTake
  refine (if_neg hroom).trans ?_
  have hmoved : (s.usbMoved 1 (16 + r.data.length)).usb.reqs = [] := hreqs
  simp only [State.usbDrain, hmoved]
  rfl

/-- The only request runs where none executes and the tunnel is open. -/
theorem State.tunnelNext_run {w : State} {r : TunnelReq} (hreqs : w.usb.reqs = [r]) (hidle : w.usb.reading.isNone = true)
    (hopen : w.tunnelOpen = true) :
    State.tunnelNext 1 w = State.tunnelRun { w with usb := { w.usb with reqs := [] } } r := by
  simp only [State.tunnelNext, hreqs, hidle, hopen, Bool.or_true, Bool.and_self, if_true]

/-- While a request executes the next ones wait. -/
theorem State.tunnelNext_wait {w : State} (n : Nat) (hbusy : w.usb.reading.isSome = true) : State.tunnelNext n w = w := by
  have hidle : w.usb.reading.isNone = false := by rw [← Option.not_isSome, hbusy]; rfl
  cases n with
  | zero => rfl
  | succ n =>
    unfold State.tunnelNext
    split
    · rfl
    · simp only [hidle, Bool.false_and, Bool.false_eq_true, if_false]

/-- An open tunnel with no request waiting runs the request that arrives. -/
theorem State.tunnelTake_run {s : State} {r : TunnelReq} (hopen : s.tunnelOpen = true) (htest : s.usb.test = 0)
    (hreqs : s.usb.reqs = []) (hfits : 16 + r.data.length ≤ 4096) :
    s.tunnelTake r = State.tunnelRun (let u := s.usbMoved 1 (16 + r.data.length)
      { u with usb := { u.usb with reqs := [] } }) r := by
  have hparts := hopen
  simp only [State.tunnelOpen, Bool.and_eq_true, beq_iff_eq, Bool.not_eq_true'] at hparts
  obtain ⟨⟨⟨hstate, hrunning⟩, hidle⟩, -⟩ := hparts
  exact (State.tunnelTake_only hstate htest hrunning hreqs hfits).trans (State.tunnelNext_run rfl hidle hopen)

/-- Settles O53: vendor requests go through `State.vendor_live`, the tunnel through `State.tunnelTake_run`. -/
theorem usbRequestsTakeEffect : Obligations.UsbRequestsTakeEffect := by
  unfold Obligations.UsbRequestsTakeEffect
  refine ⟨?_, ?_, ?_, ?_, ?_, ?_, ?_, ?_, ?_, ?_, ?_, ?_, ?_, ?_, ?_, ?_, ?_, ?_, ?_, ?_,
    ?_, ?_, ?_, ?_, ?_, ?_, ?_, ?_, ?_, ?_, ?_⟩
  · intro s recipient value index length hlive hrecipient
    show execUsbStandardRequest recipient 5 value index length s = _
    simp [execUsbStandardRequest, hlive, hrecipient]
  · intro s recipient value index length hlive hrecipient
    show execUsbStandardRequest recipient 9 value index length s = _
    simp [execUsbStandardRequest, hlive, hrecipient]
  · intro s ep
    show execUsbEndpointHalt ep s = _
    simp [execUsbEndpointHalt]
  · intro s ep
    show execUsbHaltClear ep s = _
    simp [execUsbHaltClear]
  · intro s length hlive
    show execGetInfo length s = _
    unfold execGetInfo
    exact State.vendor_live hlive _ _
  · intro s length hlive
    show execAuthChallenge length s = _
    unfold execAuthChallenge
    exact State.vendor_live hlive _ _
  · intro s tag hlive
    show execAuthResponse tag s = _
    unfold execAuthResponse
    exact State.vendor_live hlive _ _
  · intro s addr length hlive
    show execUsbRegRead addr length s = _
    unfold execUsbRegRead
    exact State.vendor_live hlive _ _
  · intro s addr words hlive
    show execUsbRegWrite addr words s = _
    unfold execUsbRegWrite
    exact State.vendor_live hlive _ _
  · intro s length hlive
    show execGetLastStatus length s = _
    unfold execGetLastStatus
    exact State.vendor_live hlive _ _
  · intro s length hlive
    show execGetWakeReason length s = _
    unfold execGetWakeReason
    exact State.vendor_live hlive _ _
  · intro s length hlive
    show execDeauth length s = _
    unfold execDeauth
    exact State.vendor_live hlive _ _
  · intro s hdr ecc hopen htest hreqs hread
    refine (if_neg hread).trans (congrArg Host.Outcome.next ?_)
    refine (State.tunnelTake_run hopen htest hreqs (by simp)).trans ?_
    simp only [State.tunnelRun, State.tunnelRefuse, beq_false_of_ne hread, if_neg hread, Bool.not_false, Bool.true_and,
      Bool.false_eq_true, if_false]
    rfl
  · intro s hdr data ecc hopen htest hreqs hwrite hfits
    refine (if_pos hwrite).trans (congrArg Host.Outcome.next ?_)
    refine (State.tunnelTake_run hopen htest hreqs hfits).trans ?_
    simp only [State.tunnelRun, State.tunnelRefuse, hwrite, Bool.not_false, Bool.true_and, Bool.false_eq_true, if_false]
    rfl
  · intro s highSpeed control hstate
    show execUsbBusReset highSpeed control s = _
    simp [execUsbBusReset, hstate]
  · intro s hlive
    show execUsbSuspend s = _
    simp [execUsbSuspend, hlive]
  · intro s hstate
    show execUsbResume s = _
    simp [execUsbResume, hstate]
  · intro s seen hstate hwakes hreason hlate
    show execUsbRemoteWake seen s = _
    simp [execUsbRemoteWake, hstate, hwakes, hreason, hlate]
  · intro s
    show execUsbVbusRise s = _
    simp [execUsbVbusRise]
  · intro s
    show execUsbVbusFall s = _
    simp [execUsbVbusFall]
  · intro s t hlockEnd
    show execUsbLockoutEnd s = _
    simp [execUsbLockoutEnd, hlockEnd]
  · intro s recipient value index length hlive hrecipient
    show execUsbStandardRequest recipient 0 value index length s = _
    simp [execUsbStandardRequest, hlive, hrecipient]
  · intro s recipient value index length hlive hrecipient
    show execUsbStandardRequest recipient 1 value index length s = _
    simp [execUsbStandardRequest, hlive, hrecipient]
  · intro s recipient value index length hlive hrecipient
    show execUsbStandardRequest recipient 3 value index length s = _
    simp [execUsbStandardRequest, hlive, hrecipient]
  · intro s recipient value index length hlive hrecipient
    exact (ite_bnot hlive _ _).trans (if_neg (not_le.mpr hrecipient))
  · intro s recipient value index length hlive hrecipient
    show execUsbStandardRequest recipient 8 value index length s = _
    simp [execUsbStandardRequest, hlive, hrecipient]
  · intro s recipient value index length hlive hrecipient
    show execUsbStandardRequest recipient 10 value index length s = _
    simp [execUsbStandardRequest, hlive, hrecipient]
  · intro s recipient value index length hlive hrecipient
    show execUsbStandardRequest recipient 11 value index length s = _
    simp [execUsbStandardRequest, hlive, hrecipient]
  · intro s recipient request value index length hlive hrequest
    refine (ite_bnot hlive _ _).trans ?_
    split
    · rfl
    · split <;> simp_all
  · intro s recipient request value index length hlive hrecipient
    show execUsbStandardRequest recipient request value index length s = _
    simp [execUsbStandardRequest, hlive, hrecipient]
  · intro s hdr data ecc hstate htest hrunning hbusy hreqs hkind
    have hfits : 16 + data.length ≤ 4096 := by
      rcases hkind with rfl | ⟨-, h⟩
      · decide
      · exact h
    have hkept (r : TunnelReq) (hr : r.data = data) : s.tunnelTake r = (let t := s.usbMoved 1 (16 + data.length)
        { t with usb := { t.usb with reqs := [r] } }) := by
      subst hr
      exact (State.tunnelTake_only hstate htest hrunning hreqs hfits).trans (State.tunnelNext_wait 1 hbusy)
    by_cases hop : leAt hdr 0 1 = 2
    · rw [if_pos hop]
      exact (if_pos hop).trans (congrArg Host.Outcome.next (hkept _ rfl))
    · have hnone : data = [] := hkind.resolve_right fun h => hop h.1
      subst hnone
      rw [if_neg hop]
      exact (if_neg hop).trans (congrArg Host.Outcome.next (hkept _ rfl))

end Sys2Proof.Machine
end

section
/-!
Faults, CLACK and twin hubs (REQ 17, 18): O54 and O55.
-/
namespace Sys2Proof.Machine

/-! ## Fault messages and CLACK -/

/-- A message of a kind of its page, from a source that may send it, is handled by its kind. -/
theorem exec_faultMessage {s : State} {source kind addr word victim : Nat} {uc replay : Bool} {k : Kind} {r : KindRow}
    (hheld : s.held = []) (hpage : pageKind? (healthPage source) = some k)
    (hrow : (kindRows k).find? (fun x => x.kind == kind) = some r) (hown : (r.hk != (source == 0x3F0)) = false) :
    exec (.faultMessage source kind uc addr word replay victim) s =
      if eccKinds.contains kind then .next (s.memError source kind word uc replay victim)
      else if kind = 0x0F ∧ source ≠ pgLINK then .next s
      else if kind = 0x20 ∧ uc then .next (s.fifoUpset (source - pgLANE) word)
      else .next ((if kind = 0x02 ∧ inPages (addr % 2 ^ 29) then s.parityAt (addr % 2 ^ 29) else s).fault source kind
        r.forcedCls (addr % 2 ^ 40)) := by
  refine (State.awake_of_held hheld _).trans ?_
  simp only [hpage, hrow, hown, Bool.false_eq_true, if_false]

/-- Settles O54: a message is handled as `exec_faultMessage` says, the events of CLACK by the grace and the heartbeat. -/
theorem faultsAndClackTakeEffect : Obligations.FaultsAndClackTakeEffect := by
  unfold Obligations.FaultsAndClackTakeEffect
  refine ⟨?_, ?_, ?_, ?_, ?_, ?_, ?_, ?_, ?_, ?_, ?_, ?_, ?_⟩
  · intro s source kind addr word victim uc replay k r hheld hpage hrow hown hplain hlink hfifo
    rw [exec_faultMessage hheld hpage hrow hown]
    exact (if_neg (Bool.eq_false_iff.mp hplain)).trans ((if_neg hlink).trans (if_neg hfifo))
  · intro s t hdue
    show execFatalHubReset s = _
    simp [execFatalHubReset, hdue]
  · intro s seq r hopen
    show execFaultRecordClose seq s = _
    simp [execFaultRecordClose, hopen]
  · intro s page hhealth
    show execHealthCeExpiry page s = _
    simp [execHealthCeExpiry, hhealth]
  · intro s hup
    refine (ite_bnot hup _ _).trans ?_
    rfl
  · intro s t hbeat hgrace hrun
    show execHeartbeatLoss s = _
    simp [execHeartbeatLoss, hbeat, hgrace, hrun]
  · intro s hheld
    show execClackToggle s = _
    simp [execClackToggle, hheld]
  · intro s e hgrace
    show execClackGraceExpiry s = _
    simp [execClackGraceExpiry, hgrace]
  · intro s htakes
    show execFltLastfatalClr s = _
    simp [execFltLastfatalClr, htakes]
  · intro s hheld
    show execHkRestart 5 s = _
    simp [execHkRestart, hheld]
  · intro s kind hheld hkind
    refine (State.awake_of_held hheld _).trans ?_
    rcases hkind with rfl | rfl
    · exact (if_pos rfl).trans (congrArg Host.Outcome.next (if_pos rfl).symm)
    · refine (if_neg (by decide)).trans ((if_pos rfl).trans (congrArg Host.Outcome.next ?_))
      exact (if_neg (by decide)).symm
  · intro s source kind addr word victim uc replay k r hheld hpage hrow hown hmemory
    rw [exec_faultMessage hheld hpage hrow hown]
    exact if_pos hmemory
  · intro s source kind addr word victim replay k r hheld hpage hrow hown hkind
    subst hkind
    rw [exec_faultMessage hheld hpage hrow hown]
    rfl

/-! ## Twin hubs -/

/-- Settles O55: the role, the phase of the takeover or the key decides the branch. -/
theorem twinEventsTakeEffect : Obligations.TwinEventsTakeEffect := by
  unfold Obligations.TwinEventsTakeEffect
  refine ⟨?_, ?_, ?_, ?_, ?_, ?_, ?_, ?_, ?_, ?_, ?_, ?_, ?_⟩
  · intro s n hlate hbedstone hunsealed
    show execTwinLateRunner s = _
    simp [execTwinLateRunner, hlate, hbedstone, hunsealed]
  · intro s level
    show execTwinPeerRise level s = _
    simp only [execTwinPeerRise, ite_next]
  · intro s r u htake
    show execJournalRx s = _
    simp [execJournalRx, htake]
  · intro s hrunner howed
    show execFullCheckpointTx s = _
    simp [execFullCheckpointTx, hrunner, howed]
  · intro s line hcompares hexpected
    show execCompareMismatch line s = _
    simp [execCompareMismatch, hcompares, hexpected]
  · intro s t hbedstone hseal hlocked hepoch ht
    subst ht
    show execSealCheck s = _
    simp [execSealCheck, hbedstone, hseal, hlocked, hepoch]
  · intro s key htakes
    show execTwinSwitch key s = _
    simp [execTwinSwitch, htakes]
  · intro s key htakes
    show execTwinResync key s = _
    simp [execTwinResync, htakes]
  · intro s key htakes
    show execTwinRejoin key s = _
    simp [execTwinRejoin, htakes]
  · intro s hphase
    show execTwinTakeover s = _
    simp [execTwinTakeover, hphase]
  · intro s t hphase ht
    subst ht
    show execTwinFirstDrive s = _
    simp [execTwinFirstDrive, hphase]
  · intro s hphase
    exact if_neg (not_not.mpr hphase)
  · intro s hpeer hdriving hcause hnow
    show execTwinStandoff s = _
    simp [execTwinStandoff, hpeer, hdriving, hcause, hnow]

end Sys2Proof.Machine
end

section
/-!
Dressing, courses and update (REQ 19 to 21): O56 to O58.
-/
namespace Sys2Proof.Machine

/-! ## Dressing -/

/-- Whether a calibration runs (R587 to R592). -/
def State.calOpen (s : State) (quantity i : Nat) (training : Bool) : Bool :=
  (s.enabled pgDRS || training) && decide (quantity < 4 ∧ i < [4, 2, 8, 2].getD quantity 0)
    && (quantity != 1 || training) && !(decide (quantity = 3 ∧ i = 1) && s.hkPaused)

/-- A calibration other than of a link asymmetry runs where DRS is on or the link trains, and, for the monitor that the housekeeping core serves, that core runs. -/
theorem State.calOpen_of {s : State} {quantity i : Nat} {training : Bool} (henabled : s.enabled pgDRS = true ∨ training = true)
    (hi : quantity < 4 ∧ i < [4, 2, 8, 2].getD quantity 0) (hq : quantity ≠ 1)
    (hserved : ¬ (quantity = 3 ∧ i = 1) ∨ s.hkPaused = false) : s.calOpen quantity i training = true := by
  have hon : (s.enabled pgDRS || training) = true := by rwa [Bool.or_eq_true]
  have hfree : (decide (quantity = 3 ∧ i = 1) && s.hkPaused) = false := by
    rcases hserved with h | h
    · rw [decide_eq_false h, Bool.false_and]
    · rw [h, Bool.and_false]
  rw [State.calOpen, hon, decide_eq_true hi, bne_iff_ne.mpr hq, hfree]
  rfl

/-- Settles O56: a calibration that runs (`State.calOpen`) succeeds or is noted; the other events split on what is stored. -/
theorem dressingTakesEffect : Obligations.DressingTakesEffect := by
  unfold Obligations.DressingTakesEffect
  refine ⟨?_, ?_, ?_, ?_, ?_, ?_, ?_, ?_, ?_, ?_⟩
  · intro s m word found victim replay henabled hm hword hscrub
    show execScrubStep m word found replay victim s = _
    simp [execScrubStep, henabled, hm, hword, hscrub]
  · intro s i training ok value henabled hi
    have hruns := State.calOpen_of henabled (quantity := 0) ⟨by decide, hi⟩ (by decide) (Or.inl fun h => absurd h.1 (by decide))
    exact (ite_bnot hruns _ _).trans (ite_next _ _)
  · intro s htakes henabled
    show execCalRunNow s = _
    simp [execCalRunNow, htakes, henabled]
  · intro s hbusy
    show execCalDone s = _
    simp [execCalDone, hbusy]
  · intro s region sector op ok hheld
    refine (State.awake_of_held hheld _).trans ((if_congr Iff.rfl rfl ?_).trans (ite_next _ _))
    generalize s.flashOp region sector op ok = t
    cases t.upd.sess with
    | none => rfl
    | some x => exact (if_congr Iff.rfl rfl (ite_next _ _)).trans (ite_next _ _)
  · intro s r l hledger hup hfresh
    show execLedgerWrite s = _
    simp [execLedgerWrite, hledger, hup, hfresh]
  · intro s temp core phy08 phy18 vddio hheld
    refine (State.awake_of_held hheld _).trans ?_
    cases s.rst.telemAt <;> rfl
  · intro s i ok value hi
    show execCalibration 1 i true ok value s = _
    simp [execCalibration, hi]
  · intro s i training ok value henabled hi
    have hruns := State.calOpen_of henabled (quantity := 2) ⟨by decide, hi⟩ (by decide) (Or.inl fun h => absurd h.1 (by decide))
    exact (ite_bnot hruns _ _).trans (ite_next _ _)
  · intro s i training ok value henabled hi hserved
    have hfree : ¬ ((3 : Nat) = 3 ∧ i = 1) ∨ s.hkPaused = false :=
      (not_and_or.mp hserved).imp (fun h h3 => h h3.2) Bool.eq_false_iff.mpr
    have hruns := State.calOpen_of henabled (quantity := 3) ⟨by decide, hi⟩ (by decide) hfree
    exact (ite_bnot hruns _ _).trans (ite_next _ _)

/-! ## Courses -/

/-- Settles O57: a switch cell splits on its operation, a store session on who holds it. -/
theorem courseCommandsTakeEffect : Obligations.CourseCommandsTakeEffect := by
  unfold Obligations.CourseCommandsTakeEffect
  refine ⟨?_, ?_, ?_, ?_, ?_, ?_, ?_, ?_, ?_, ?_, ?_, ?_, ?_, ?_⟩
  · intro s ini course key htakes hpaused
    show execCrsSwitch ini course key s = _
    simp [execCrsSwitch, htakes, hpaused]
  · intro s p n x hsends
    show execCourseSwitchRepeat s = _
    simp [execCourseSwitchRepeat, hsends]
  · intro s r u hup htake hop
    show execCourseSwitchRx s = _
    simp [execCourseSwitchRx, hup, htake, hop]
  · intro s hfirst hup hunanswered honce hid hjoin hquiet
    refine (if_pos (by simp [hfirst, hup, hunanswered, honce, hid, hjoin, hquiet])).trans ?_
    cases s.crs.query <;> rfl
  · intro s ini image key htakes hpaused
    have hguard : (!s.storeTakes key || decide (8 < image)) = true ↔ s.storeTakes key = false ∨ 8 < image := by simp
    refine (ite_bnot htakes _ _).trans ((if_neg (Bool.eq_false_iff.mp hpaused)).trans ?_)
    refine (if_congr hguard rfl ?_).trans (ite_next _ _)
    cases s.crs.store with
    | none => rfl
    | some x =>
      have howned : x.ini = ini ∧ (!x.writing) = true ↔ x.ini = ini ∧ x.writing = false := by simp
      exact (if_congr howned rfl rfl).trans (ite_next _ _)
  · intro s ini data x htakes hpaused hstore
    show execCrsStoreData ini data s = _
    simp [execCrsStoreData, htakes, hpaused, hstore]
  · intro s ini key x htakes hpaused hstore hstoreTakes hini hwriting
    show execCrsStoreCommit ini key s = _
    simp [execCrsStoreCommit, htakes, hpaused, hstore, hstoreTakes, hini, hwriting]
  · intro s x hstore hwriting
    show execCrsStoreDone s = _
    simp [execCrsStoreDone, hstore, hwriting]
  · intro s ini key x htakes hpaused hstore
    show execCrsStoreAbort ini key s = _
    simp [execCrsStoreAbort, htakes, hpaused, hstore]
  · intro s x hstore hwriting
    show execCrsStoreTimeout s = _
    simp [execCrsStoreTimeout, hstore, hwriting]
  · intro s r u hup htake hop
    show execCourseSwitchRx s = _
    simp [execCourseSwitchRx, hup, htake, hop]
  · intro s r u hup htake hop
    show execCourseSwitchRx s = _
    simp [execCourseSwitchRx, hup, htake, hop]
  · intro s r u hup htake hunknown
    show execCourseSwitchRx s = _
    simp only [execCourseSwitchRx, hup, htake]
    refine (if_neg Bool.false_ne_true).trans ?_
    split
    · omega
    · omega
    · omega
    · rfl
  · intro s ini data htakes hpaused hstore
    show execCrsStoreData ini data s = _
    simp [execCrsStoreData, htakes, hpaused, hstore]

/-! ## Update -/

/-- Settles O58: a port is a source of the update or not, and the session or the header of the distributor decides the rest. -/
theorem updateTakesEffect : Obligations.UpdateTakesEffect := by
  unfold Obligations.UpdateTakesEffect
  refine ⟨?_, ?_, ?_, ?_, ?_, ?_, ?_, ?_, ?_, ?_, ?_, ?_, ?_, ?_, ?_, ?_, ?_⟩
  · intro s ini src htakes hpaused hsource
    show execUpdOpen ini s = _
    simp [execUpdOpen, htakes, hpaused, hsource]
  · intro s ini src htakes hpaused hsource
    show execUpdAbort ini s = _
    simp [execUpdAbort, htakes, hpaused, hsource]
  · intro s ini htakes hpaused
    show execUpdPrepare ini s = _
    simp [execUpdPrepare, htakes, hpaused]
  · intro s ini data src htakes hpaused hsource hnotUsb
    show execUpdDataWrite ini data s = _
    simp [execUpdDataWrite, htakes, hpaused, hsource]
  · intro s data bad hconfigured hrunning
    refine (if_neg ?_).trans ?_
    · rintro (h | h)
      · exact h hconfigured
      · exact absurd h (Bool.eq_false_iff.mp hrunning)
    · simp only [ite_next]
  · intro s r u hup htake
    show execUpdDataRx s = _
    simp only [execUpdDataRx, hup, htake]
    refine (if_neg Bool.false_ne_true).trans ((if_congr ?_ rfl ?_).trans (ite_next _ _))
    · simp only [Bool.not_eq_true']
    · generalize u.count pgUPD 6 = t
      cases t.upd.sess with
      | none => simp only [ite_next]
      | some x => simp only [ite_next]
  · intro s n herasing
    show execUpdEraseDone s = _
    simp [execUpdEraseDone, herasing]
  · intro s src hupdHdr
    show execUpdSessionTimeout src s = _
    simp [execUpdSessionTimeout, hupdHdr]
  · intro s ini slot htakes hpaused hslot
    show execUpdActivate ini slot 0x69 s = _
    simp [execUpdActivate, htakes, hpaused, hslot]
  · intro s ini htakes hpaused
    show execUpdConfirm ini s = _
    simp [execUpdConfirm, htakes, hpaused]
  · intro s ini htakes hpaused
    show execUpdDistribute ini s = _
    simp [execUpdDistribute, htakes, hpaused]
  · intro s d hsends hup
    show execUpdDistCellTx s = _
    simp [execUpdDistCellTx, hsends, hup]
  · intro s t htrialAt
    show execUpdAutoConfirm s = _
    simp [execUpdAutoConfirm, htrialAt]
  · intro s n second hheld hup hnode hstarting hstep
    show execUpdRunTimeout s = _
    simp [execUpdRunTimeout, hheld, hup, hnode, hstarting, hstep]
  · intro s ini data htakes hpaused hsource
    refine (ite_bnot htakes _ _).trans ((if_neg (Bool.eq_false_iff.mp hpaused)).trans ?_)
    rcases hsource with h | h
    · simp only [h]
    · simp only [h]
  · intro s src x hupdHdr hsess hsource
    show execUpdSessionTimeout src s = _
    simp [execUpdSessionTimeout, hupdHdr, hsess, hsource]
  · intro s n second hheld hup hnode hstarting hstep
    show execUpdRunTimeout s = _
    simp [execUpdRunTimeout, hheld, hup, hnode, hstarting, hstep]

end Sys2Proof.Machine
end

section
/-!
Keys, snapshots and the test port (REQ 22 to 24): O59 and O60.
-/
namespace Sys2Proof.Machine

/-! ## Keys -/

/-- Settles O59: on a page that takes commands the checks of the operation come in the order of the statement. -/
theorem keyCommandsTakeEffect : Obligations.KeyCommandsTakeEffect := by
  unfold Obligations.KeyCommandsTakeEffect
  refine ⟨?_, ?_, ?_, ?_, ?_, ?_, ?_, ?_, ?_, ?_, ?_, ?_, ?_⟩
  · intro s ini slot parent key htakes hpaused
    show execInstallClear ini slot parent key s = _
    simp [execInstallClear, htakes, hpaused]
  · intro s ini slot parent key htakes hpaused
    refine (ite_bnot htakes _ _).trans ((if_neg (Bool.eq_false_iff.mp hpaused)).trans ?_)
    refine (if_congr Iff.rfl rfl ((if_congr Iff.rfl rfl ?_).trans (ite_next _ _))).trans (ite_next _ _)
    generalize Option.bind _ _ = material
    cases material with
    | none => rfl
    | some p => exact (if_congr Iff.rfl rfl (ite_next _ _)).trans (ite_next _ _)
  · intro s ini slot parent key htakes hpaused
    show execGenerate ini slot parent key s = _
    simp [execGenerate, htakes, hpaused]
  · intro s ini slot key force htakes hpaused
    show execDestroy ini slot key force s = _
    simp [execDestroy, htakes, hpaused]
  · intro s ini key htakes hpaused
    show execLinkArm ini key s = _
    simp [execLinkArm, htakes, hpaused]
  · intro s ini key htakes hpaused
    show execLinkDisarm ini key s = _
    simp [execLinkDisarm, htakes, hpaused]
  · intro s op hop
    show execKeyOpDone s = _
    simp [execKeyOpDone, hop]
  · intro s hunloaded hstarted
    refine (if_neg ?_).trans (ite_next _ _)
    rcases hstarted with h | h
    · simp [hunloaded, h]
    · simp [hunloaded, h]
  · intro s hheld
    show execEntropyHealthFail s = _
    simp [execEntropyHealthFail, hheld]
  · intro s port hport hlinkUp hlow hready
    show execSaRekey port s = _
    simp [execSaRekey, hport, hlinkUp, hlow, hready]
  · intro s port p hpair
    show execPairRecordWrite port s = _
    simp [execPairRecordWrite, hpair]
  · intro s port an n f k hsearch hmaster
    show execKeySearch port s = _
    simp only [execKeySearch, hsearch, hmaster]
    generalize State.openWith _ _ _ _ = opened
    cases opened with
    | none => exact ite_next _ _
    | some x => rfl
  · intro s port t hfailing hprotected hlinkUp
    show execNoVerifyTimeout port s = _
    simp [execNoVerifyTimeout, hfailing, hprotected, hlinkUp]

/-! ## Snapshots and the test port -/

/-- Settles O60: the state of the snapshot, its tag and the instruction of the test port decide the branch. -/
theorem plumbAndTestPortTakeEffect : Obligations.PlumbAndTestPortTakeEffect := by
  unfold Obligations.PlumbAndTestPortTakeEffect
  refine ⟨?_, ?_, ?_, ?_, ?_, ?_, ?_, ?_, ?_, ?_, ?_, ?_, ?_⟩
  · intro s ini atCommit pin scope tag hpaused htakes
    refine (if_neg (Bool.eq_false_iff.mp hpaused)).trans ((ite_bnot htakes _ _).trans ?_)
    exact (if_congr Iff.rfl rfl (ite_next _ _)).trans (ite_next _ _)
  · intro s ini tag hpaused htakes
    show execPlumbRelease ini tag s = _
    simp [execPlumbRelease, hpaused, htakes]
  · intro s ini part tag hpaused htakes
    show execPlumbPartSelect ini part tag s = _
    simp [execPlumbPartSelect, hpaused, htakes]
  · intro s atCommit pin scope ini t hsnap
    show execPlumbSnapshot s = _
    simp [execPlumbSnapshot, hsnap]
  · intro s page hstate hwaits
    refine if_neg ?_
    rintro (h | h)
    · exact h hstate
    · rw [hwaits] at h
      exact absurd h (by decide)
  · intro s hstate hpaused
    show execPlumbReady s = _
    simp [execPlumbReady, hstate, hpaused]
  · intro s p hbuild hpaused
    show execPlumbPartReady s = _
    simp [execPlumbPartReady, hbuild, hpaused]
  · intro s t htill
    show execPlumbHoldExpiry s = _
    simp [execPlumbHoldExpiry, htill]
  · intro s data htakes
    show execObsMark data s = _
    simp [execObsMark, htakes]
  · intro s htakes
    show execTraceClear s = _
    simp [execTraceClear, htakes]
  · intro s pins bits hon
    show execExtest pins bits s = _
    simp [execExtest, hon]
  · intro s pins bits hon
    show execSamplePreload pins bits s = _
    simp [execSamplePreload, hon]
  · intro s code bits hon hcode
    refine if_neg ?_
    have hcode0 : code % 16 ≠ 0 := by omega
    have hcode1 : code % 16 ≠ 1 := by omega
    simp [hon, hcode0, hcode1]

end Sys2Proof.Machine
end
